-- ==== Sys2Proof/Word.lean ====
section
/-! DEFINITION. The word types of the model (R11, R13). -/

namespace Sys2Proof

/-- One byte. -/
abbrev Byte := BitVec 8

/-- One register word or one entry of an engine store (R13, R201). -/
abbrev Word := BitVec 32

/-- One program word of a loop engine (R212), or the Tide count (R46). -/
abbrev Word64 := BitVec 64

end Sys2Proof
end

