-- ==== Sys2Proof/Syntax.lean ====
section
/-! DEFINITION. The commands of the module: one constructor of `Instr` per row of the table of
operations and events, with the operands the row's event carries from outside (packets, pins,
analog readings, requester numbers, outcomes of the mutual-exclusion element). The first operand
`t` of every command is the Tide count of the clocked instant of the event (R61). -/

namespace Sys2Proof

/-- Names of faults and warnings (R332, R368, R392, R428, R455, R474). -/
inductive FName where
  | fabricTimeout | cmdReplyLost | cmdTimeout | fwRevert | orderLate
  | refLost | dlCalFail | marginLow | leDeadline | tideAsStep | asHoldover
  | manifestNone | manifestBankBad | manifestWriteFail | cfgReject | safetySetNone | calOtp
  | adcOverrun | adcOvr | adcSliceRetired | adcClusterFail | adcRefFail | pathCheckFail | vhvFail
  | hkFail | tpOpen | tpShort
  | fbSupply | fbWire | fbIllegal | fbEncFail | fbIdxDrift | fbHallFail | fbResAmp | fbResLock
  | fbSsiJump | fbSsiFrame | obsLost
  | leArith | lePort | leIllop | prgOvercurrent | obsReacqFail | linePllLost | tuneLimit | prgUser
  | prgUserWarn
  | pwmLockLost
  | gateDesat | gateUv | bootUv | gateSupply | gateLink | xcmd | offstateFail | gateAdaptLimit
  | ntcOpen | ntcShort
  | dcUv1 | dcUv2 | dcOv2 | dcOv3 | brkFail | brkLoad | brkEnergy | dscBlocked | dscEnergy
  | thWarn | thFault | thShutdown | thLatched
  | lkInternal | lkStoDisc | lkSiDisc | lkCurDisc | lkDcvDisc | lkFbDisc | lkFbLoss | lkTorque
  | ss1Viol | slsViol | slpViol | sdiViol | lkComm | lkCommDegraded | lkSoFail | lkCfgMismatch
  | lkTestDue | lkEccCorr
  | ethLinkDown | ethBufFull | ethGclErr | canErrPassive | canBusOff | canRxqOvf
  | moorPeerLost | moorIncomplete | moorIdDup | moorRingBroken | moorSyncErr | moorLinkErr
  | moorTideErr
  | pwrSrcLost | pwrLowLine | pwrShed | pwrLoss | pwrRail | pwrRestart | pwrWdog | pwrStartRefused
  | memEccCorr | memEccFatal | logbOverrun | logbLastwordsFail | bollardFreed | acUserWarn
  | acUserStop
  | tripIn | gtrip
  deriving DecidableEq, Repr

/-- A channel of commands (R83): one UDP source, a UDP source relayed by another module (R450),
the HSPI port, a CAN controller, or a command berth. -/
inductive Chan where
  | udp (ip port : Nat)
  | udpRelay (ip port : Nat)
  | hspi
  | can (c : Fin 4)
  | berth (n : Fin 4)
  deriving DecidableEq, Repr

/-- What a resolver port measures at a sample instant (R190-R192): turns and angle of the tracking loop,
its speed in rpm of the resolver (BF32), amplitude and winding phase. Unused in other modes. -/
structure ResIn where
  pos : Word
  spd : Word
  amp : Nat
  phase : Nat
  deriving DecidableEq, Repr

/-- What a DSN reading of an off-state test shows (R304). -/
inductive Dsn where
  | high | low | between
  deriving DecidableEq, Repr

/-- Raw codes of one slice in a set of the path check (R158): how many, their sum, and whether the slice took them
before its last fallow measurement. -/
structure PathPart where
  slice : Fin 9
  n : Nat
  sum : Int
  old : Bool
  deriving DecidableEq, Repr

/-- The readings of the tests of DIAG_RUN (R158, R304, R307). -/
structure DiagReadings where
  /-- Test 0: high-side DSN of L0-L11. -/
  t0 : List Dsn
  /-- Test 1: low-side DSN of L0-L11. -/
  t1 : List Dsn
  /-- Test 2: for the run of each leg L0-L11, the low-side DSN of L0-L11. -/
  t2 : List (List Dsn)
  /-- Test 3: gates of L0-L11, high side then low side, that reached 1.5 V in time. -/
  t3 : List (Bool × Bool)
  /-- Test 4: for inputs IN0-IN7 of C0-C3 and each of the three test codes, the 64 raw codes by the slice that took
  them. -/
  path : List (List (List PathPart))
  /-- Test 5: for BRK then DSC: DSN with the switch off, whether the repeated reading rose above
  4 V, and whether the gate reached 1.5 V in time. -/
  x : List (Dsn × Bool × Bool)
  deriving DecidableEq, Repr

/-- What one slow round reads (R162): the sums of 8 codes of channels 0-63, and the resistances of the power-module
NTCs of channels 12-35 as the gate domain digitises them, BF32. -/
structure HkReadings where
  sums : List Int
  ohms : List Word
  deriving DecidableEq, Repr, Inhabited

/-- Rails of a gate channel as measured, VP and the magnitude of VN, in 50 mV (R311). -/
structure RailIn where
  vp : Nat
  vn : Nat
  deriving DecidableEq, Repr

/-- A gate channel and its rails as measured. -/
structure ChanRails where
  g : Fin 26
  r : RailIn
  deriving DecidableEq, Repr

/-- A gate channel without valid command frames for 1 µs; `back`: they have resumed since (R290). -/
structure ChanFrames where
  g : Fin 26
  back : Bool
  deriving DecidableEq, Repr

/-- What a retry finds: the rails, and whether status frames have come without a gap for 100 µs (R301). -/
structure RetryIn where
  r : RailIn
  frames : Bool
  deriving DecidableEq, Repr

/-- The commands of a leg begin or, with `both` false, cease to ask for both channels (R297). -/
structure LegAsked where
  l : Fin 12
  both : Bool
  deriving DecidableEq, Repr

/-- At `t` DSN of G24, or of G25 with `dsc`, has read below 4 V, or with `low` false no longer, for 1 ms with the
channel off (R307). -/
structure LoadIn where
  t : Nat
  dsc : Bool
  low : Bool
  deriving DecidableEq, Repr

/-- The level `high` has stood at a trip input at every unblanked tick since `first` (R283). -/
structure PinIn where
  first : Nat
  high : Bool
  deriving DecidableEq, Repr

/-- A trip input and the level at its pin. -/
structure TripPin where
  k : Fin 8
  pin : PinIn
  deriving DecidableEq, Repr

/-- What the VHV converter delivers: its raw code, and whether the bitstream has changed level since the last result
(R160, R161). -/
structure VhvIn where
  code : Int
  change : Bool
  deriving DecidableEq, Repr

/-- A word written to `BW_FQCLR`, and the causes that the write finds gone (R107, R338). -/
structure ClearIn where
  w : Word
  gone : List (FName × Nat × Nat)
  deriving DecidableEq, Repr

/-- An axis, and what its resolver port measures (R314). -/
structure AxisRes where
  n : Fin 4
  r : ResIn
  deriving DecidableEq, Repr

/-- A fault or warning on its way to the fault manager (R336). `sev` counts only for the names
whose severity is set by a register or by the raising rule; `inst` is the input of TRIP_IN; `epoch` is that of
the stamp (R70). -/
structure FaultIn where
  name : FName
  src : Nat
  detail : Nat
  stamp : Nat
  sev : Nat
  inst : Nat
  axes : BitVec 4
  epoch : Nat
  deriving DecidableEq, Repr

/-- What Lookout reads from outside in one monitoring cycle (R341, R348, R350). -/
structure CycleIn where
  /-- Filtered levels of SIA0-SIA3 and SIB0-SIB3. -/
  sia : BitVec 4
  sib : BitVec 4
  /-- Readbacks of SO0 and SO1: energised. -/
  so0rb : Bool
  so1rb : Bool
  /-- Processing time of the cycle, in ticks (R55). -/
  busy : Nat
  deriving DecidableEq, Repr

/-- An Ethernet frame as a switch port sees it (R370-R377). -/
structure EthFrame where
  dst : Nat
  src : Nat
  /-- 802.1Q tag: VID and PCP where the frame is tagged. -/
  tag : Option (Nat × Nat)
  /-- EtherType, or the length field. -/
  etype : Nat
  /-- Bytes after the EtherType. -/
  payload : List Byte
  fcsOk : Bool
  /-- Tide stamp of the end of the start-of-frame delimiter (R379). -/
  sfd : Nat
  deriving DecidableEq, Repr

/-- A CAN frame (R384-R388). -/
structure CanFrame where
  /-- Tide count of the start-of-frame bit. -/
  sof : Nat
  ide : Bool
  id : Nat
  fdf : Bool
  brs : Bool
  rtr : Bool
  esi : Bool
  data : List Byte
  deriving DecidableEq, Repr

/-- What a start of the module finds (R118, R135, R166, R457, R460, R463-R466). -/
structure StartIn where
  /-- Straps ID[2:0]. -/
  straps : Fin 8
  /-- The firmware images of banks A and B pass their signature check, where neither key slot is programmed (log entry 38);
  DRAM training succeeds. -/
  fwA : Bool
  fwB : Bool
  dramOk : Bool
  /-- Uncorrectable OTP words: clusters, VHV, HK channels. -/
  calC : BitVec 4
  calVhv : Bool
  calHk : List Nat
  /-- Inputs valid, and AC high. -/
  ac : Bool
  ka : Bool
  high : Bool
  /-- Results of the self-tests: the first code of VHV, Lookout, taps per tick of the measurements made on each
  delay line, for each slice of C0-C3 the sums of its measurements at 0 V, +4 V and -4 V in their order, and the
  first HK round. -/
  vhv : Option Int
  lookoutOk : Bool
  taps : List (List Nat)
  slices : List (List (Int × Int × Int))
  hk : HkReadings
  /-- The gate rails of G24 and G25 are within their limits 5 ms after their enable (R288). -/
  xOk : Bool
  /-- The public keys that the boot ROM finds in the two OTP slots, their coordinates x and y. -/
  keys : Vector (Option (Nat × Nat)) 2
  deriving DecidableEq, Repr, Inhabited

/-- The descriptor of a group carrier (R445). -/
structure CarrierDesc where
  running : Bool
  mode : Nat
  period : Nat
  phase : Nat
  zero : Nat
  deriving DecidableEq, Repr

/-- What the lead learns of one member (R441). -/
structure MemberIn where
  mid : Fin 8
  hops : Nat
  port : Fin 2
  serial : Nat
  epoch : Nat
  mstate : Fin 8
  deriving DecidableEq, Repr

/-- A record that a member forwards to the lead (R452, R453). -/
structure ForwardIn where
  mid : Fin 8
  epoch : Nat
  mstate : Fin 8
  /-- What became of the entry in the member's queue: 0 entered, 1 changed, 2 left; 3 a change of state
  without an entry. -/
  what : Fin 4
  fault : FaultIn
  cause : Bool
  latched : Bool
  retry : Bool
  /-- The member's OVFL flag and lost count. -/
  ovfl : Bool
  lost : Nat
  deriving DecidableEq, Repr

/-- The commands of the module, in the order of the table. -/
inductive Instr where
  /-- UDP_DATAGRAM (R86). -/
  | udpDatagram (t : Nat) (ip port : Nat) (bytes : List Byte)
  /-- HSPI_WRITE (R87). -/
  | hspiWrite (t : Nat) (bytes : List Byte)
  /-- HSPI_READ (R87). -/
  | hspiRead (t : Nat) (n : Nat)
  /-- CAN_COMMAND_FRAGMENT (R88). -/
  | canCommandFragment (t : Nat) (c : Fin 4) (bytes : List Byte)
  /-- BERTH_COMMAND_DESCRIPTOR (R89). -/
  | berthCommandDescriptor (t : Nat) (n : Fin 4)
  /-- FRAGMENT_TIMEOUT (R88). -/
  | fragmentTimeout (t : Nat) (c : Fin 4)
  /-- REPLY_BERTH_RETRY (R89). -/
  | replyBerthRetry (t : Nat) (n : Fin 4)
  /-- SESSION_IDLE_TIMEOUT (R93). -/
  | sessionIdleTimeout (t : Nat) (ch : Chan)
  /-- CHANNEL_BAR_EXPIRY (R95). -/
  | channelBarExpiry (t : Nat) (ch : Chan)
  /-- FW_UPDATE_IDLE_TIMEOUT (R109). -/
  | fwUpdateIdleTimeout (t : Nat)
  /-- SETPOINT_EXPIRY (R101). -/
  | setpointExpiry (t : Nat) (n : Fin 4)
  /-- PING (R104). -/
  | ping (t : Nat)
  /-- GET_INFO (R104). -/
  | getInfo (t : Nat)
  /-- REG_READ (R104). -/
  | regRead (t : Nat)
  /-- REG_WRITE (R128). -/
  | regWrite (t : Nat)
  /-- REG_MODIFY (R104). -/
  | regModify (t : Nat)
  /-- MANIFEST_READ (R121). -/
  | manifestRead (t : Nat)
  /-- MANIFEST_WRITE (R121). -/
  | manifestWrite (t : Nat)
  /-- MANIFEST_COMMIT (R122). -/
  | manifestCommit (t : Nat)
  /-- MANIFEST_COMMIT_COMPLETE (R122). -/
  | manifestCommitComplete (t : Nat) (ok : Bool)
  /-- AXIS_STATE (R98). -/
  | axisStateCmd (t : Nat)
  /-- AXIS_STATE_COMPLETE (R461). -/
  | axisStateComplete (t : Nat) (n : Fin 4)
  /-- TORQUE_CMD (R106). -/
  | torqueCmd (t : Nat)
  /-- SPEED_CMD (R106). -/
  | speedCmd (t : Nat)
  /-- LINE_CMD (R106). -/
  | lineCmd (t : Nat)
  /-- PROGRAM_LOAD (R260). -/
  | programLoad (t : Nat)
  /-- PROGRAM_VALIDATION_COMPLETE (R260). -/
  | programValidationComplete (t : Nat) (n : Fin 4)
  /-- COEFF_WRITE (R107). -/
  | coeffWrite (t : Nat)
  /-- COEFF_READ (R104). -/
  | coeffRead (t : Nat)
  /-- FAULT_READ (R104). -/
  | faultRead (t : Nat)
  /-- FAULT_CLEAR (R107). -/
  | faultClear (t : Nat) (gone : List (FName × Nat × Nat))
  /-- LOGBOOK_ARM (R421). -/
  | logbookArm (t : Nat)
  /-- LOGBOOK_DISARM (R421). -/
  | logbookDisarm (t : Nat)
  /-- LOGBOOK_TRIGGER_NOW (R421). -/
  | logbookTriggerNow (t : Nat)
  /-- LOGBOOK_READ (R422). -/
  | logbookRead (t : Nat)
  /-- LOGBOOK_BULK_COMPLETE (R422). -/
  | logbookBulkComplete (t : Nat)
  /-- DIAG_RUN (R303). -/
  | diagRun (t : Nat)
  /-- DIAG_RUN_COMPLETE (R304). -/
  | diagRunComplete (t : Nat) (n : Option (Fin 4)) (r : DiagReadings)
  /-- TUNE_START (R257). -/
  | tuneStart (t : Nat)
  /-- TUNE_END (R259). -/
  | tuneEnd (t : Nat) (n : Fin 4)
  /-- TUNE_RESULT (R259). -/
  | tuneResult (t : Nat)
  /-- FW_UPDATE_START (R109). -/
  | fwUpdateStart (t : Nat)
  /-- FW_UPDATE_ERASE_COMPLETE (R109). -/
  | fwUpdateEraseComplete (t : Nat)
  /-- FW_UPDATE_DATA (R109). -/
  | fwUpdateData (t : Nat)
  /-- FW_UPDATE_FINISH (R109). -/
  | fwUpdateFinish (t : Nat)
  /-- FW_UPDATE_FINISH_COMPLETE (R109). -/
  | fwUpdateFinishComplete (t : Nat)
  /-- FW_UPDATE_ACTIVATE (R109). -/
  | fwUpdateActivate (t : Nat) (r : StartIn)
  /-- FW_UPDATE_ABORT (R109). -/
  | fwUpdateAbort (t : Nat)
  /-- FW_UPDATE_CONFIRM (R109). -/
  | fwUpdateConfirm (t : Nat)
  /-- SESSION_OPEN (R93). -/
  | sessionOpen (t : Nat)
  /-- SESSION_PROGRAM_SLOT (R96). -/
  | sessionProgramSlot (t : Nat)
  /-- SESSION_REVOKE_SLOT (R96). -/
  | sessionRevokeSlot (t : Nat)
  /-- SESSION_CLOSE (R93). -/
  | sessionClose (t : Nat)
  /-- SAFETY_PARAM_WRITE (R136). -/
  | safetyParamWrite (t : Nat)
  /-- SAFETY_PARAM_VERIFY (R137). -/
  | safetyParamVerify (t : Nat)
  /-- SAFETY_PARAM_VERIFY_COMPLETE (R137). -/
  | safetyParamVerifyComplete (t : Nat) (ok : Bool)
  /-- GROUP_FORM (R443). -/
  | groupForm (t : Nat)
  /-- GROUP_FORM_COMPLETE (R443). -/
  | groupFormComplete (t : Nat)
  /-- GO_PASS (R227). -/
  | goPass (t : Nat) (req : Nat) (n : Fin 4) (w : Word)
  /-- HALT (R219). -/
  | halt (t : Nat) (n : Fin 4)
  /-- MOV (R217). -/
  | mov (t : Nat) (n : Fin 4)
  /-- LD (R215). -/
  | ld (t : Nat) (n : Fin 4)
  /-- ST (R215). -/
  | st (t : Nat) (n : Fin 4)
  /-- ADD (R217). -/
  | add (t : Nat) (n : Fin 4)
  /-- SUB (R217). -/
  | sub (t : Nat) (n : Fin 4)
  /-- MUL (R217). -/
  | mul (t : Nat) (n : Fin 4)
  /-- MAC (R217). -/
  | mac (t : Nat) (n : Fin 4)
  /-- NEG (R217). -/
  | neg (t : Nat) (n : Fin 4)
  /-- ABS (R217). -/
  | abs (t : Nat) (n : Fin 4)
  /-- MIN (R217). -/
  | min (t : Nat) (n : Fin 4)
  /-- MAX (R217). -/
  | max (t : Nat) (n : Fin 4)
  /-- CLAMP (R217). -/
  | clamp (t : Nat) (n : Fin 4)
  /-- CMP (R217). -/
  | cmp (t : Nat) (n : Fin 4)
  /-- SEL (R217). -/
  | sel (t : Nat) (n : Fin 4)
  /-- SCALE (R217). -/
  | scale (t : Nat) (n : Fin 4)
  /-- NORM (R217). -/
  | norm (t : Nat) (n : Fin 4)
  /-- SINCOS (R217). -/
  | sincos (t : Nat) (n : Fin 4)
  /-- ATAN2 (R217). -/
  | atan2 (t : Nat) (n : Fin 4)
  /-- RECIP (R217). -/
  | recip (t : Nat) (n : Fin 4)
  /-- RSQRT (R217). -/
  | rsqrt (t : Nat) (n : Fin 4)
  /-- CLARKE (R217). -/
  | clarke (t : Nat) (n : Fin 4)
  /-- ICLARKE (R217). -/
  | iclarke (t : Nat) (n : Fin 4)
  /-- PARK (R217). -/
  | park (t : Nat) (n : Fin 4)
  /-- IPARK (R217). -/
  | ipark (t : Nat) (n : Fin 4)
  /-- SVM (R218). -/
  | svm (t : Nat) (n : Fin 4)
  /-- PI (R218). -/
  | pi (t : Nat) (n : Fin 4)
  /-- LPF (R218). -/
  | lpf (t : Nat) (n : Fin 4)
  /-- RAMP (R218). -/
  | ramp (t : Nat) (n : Fin 4)
  /-- SETTLE (R219). -/
  | settle (t : Nat) (n : Fin 4)
  /-- COMMIT (R219). -/
  | commit (t : Nat) (n : Fin 4)
  /-- UNDEFINED_ENCODING (R221). -/
  | undefinedEncoding (t : Nat) (n : Fin 4)
  /-- SETTLE_RELEASE (R233). -/
  | settleRelease (t : Nat) (n : Fin 4)
  /-- COMMIT_COMPLETE (R234). -/
  | commitComplete (t : Nat) (n : Fin 4)
  /-- CARRIER_ENABLE (R262). -/
  | carrierEnable (t : Nat) (req : Nat) (n : Fin 4) (w : Word)
  /-- CARRIER_DISABLE (R262). -/
  | carrierDisable (t : Nat) (req : Nat) (n : Fin 4) (w : Word)
  /-- CARRIER_START (R262). -/
  | carrierStart (t : Nat) (n : Fin 4)
  /-- ZERO_POINT (R268). -/
  | zeroPoint (t : Nat) (n : Fin 4)
  /-- RELOAD (R264). -/
  | reload (t : Nat) (n : Fin 4) (toReload : Bool)
  /-- SAMPLE_EVENT (R272). -/
  | sampleEvent (t : Nat) (n : Fin 4) (r : ResIn)
  /-- CARRIER_COMPARE_EVENT (R282). -/
  | carrierCompareEvent (t : Nat) (n : Fin 4) (x : Fin 2)
  /-- BOOTSTRAP_REFRESH (R275). -/
  | bootstrapRefresh (t : Nat) (l : Fin 12)
  /-- PWM_FORCE_WRITE (R279). -/
  | pwmForceWrite (t : Nat) (req : Nat) (n : Fin 4) (w : Word)
  /-- TRIP_ACCEPTED (R323). -/
  | tripAccepted (t : Nat) (k : Fin 8) (pin : PinIn)
  /-- TRIP_INACTIVE (R323). -/
  | tripInactive (t : Nat) (p : TripPin)
  /-- CONVERSION_COMPLETE (R145). -/
  | conversionComplete (t : Nat) (c : Fin 4) (codes : List Int) (ovr : Nat)
  /-- FALLOW_ROTATION_STEP (R153). -/
  | fallowRotationStep (t : Nat) (c : Fin 4)
  /-- FALLOW_MEASUREMENT_END (R156). -/
  | fallowMeasurementEnd (t : Nat) (c : Fin 4) (sum0 sumP sumN : Int)
  /-- VHV_RESULT (R316). -/
  | vhvResult (t : Nat) (v : VhvIn)
  /-- VHV_FAIL_TIMEOUT (R161). -/
  | vhvFailTimeout (t : Nat)
  /-- HK_ROUND_START (R162). -/
  | hkRoundStart (t : Nat)
  /-- HK_ROUND_END (R163). -/
  | hkRoundEnd (t : Nat) (r : HkReadings)
  /-- ENCODER_EDGE (R178). -/
  | encoderEdge (t : Nat) (n : Fin 4) (a b : Bool)
  /-- ENCODER_INDEX (R180). -/
  | encoderIndex (t : Nat) (n : Fin 4)
  /-- SPEED_STANDSTILL (R184). -/
  | speedStandstill (t : Nat) (n : Fin 4)
  /-- HALL_STATE_CHANGE (R186). -/
  | hallStateChange (t : Nat) (n : Fin 4) (h : Fin 8)
  /-- RESOLVER_LOCK (R192). -/
  | resolverLock (t : Nat) (n : Fin 4)
  /-- RESOLVER_LOCK_LOSS (R192). -/
  | resolverLockLoss (t : Nat) (n : Fin 4)
  /-- RESOLVER_AMP_FAULT (R191). -/
  | resolverAmpFault (t : Nat) (n : Fin 4) (amp : Nat)
  /-- SSI_FRAME_END (R195). -/
  | ssiFrameEnd (t : Nat) (n : Fin 4) (raw : Word) (tailOk : Bool)
  /-- FB_SUPPLY_TIMEOUT (R171). -/
  | fbSupplyTimeout (t : Nat) (n : Fin 4)
  /-- FB_WIRE_TIMEOUT (R172). -/
  | fbWireTimeout (t : Nat) (n : Fin 4)
  /-- FEEDBACK_VALID_DELAY_END (R199). -/
  | feedbackValidDelayEnd (t : Nat) (n : Fin 4)
  /-- OBSERVER_LOSS_TIMEOUT (R198). -/
  | observerLossTimeout (t : Nat) (n : Fin 4)
  /-- DESAT_DETECTED (R294). -/
  | desatDetected (t : Nat) (g : Fin 26)
  /-- DESAT_REPORT (R296). -/
  | desatReport (t : Nat) (g : Fin 26)
  /-- TWO_LEVEL_TURN_OFF_END (R295). -/
  | twoLevelTurnOffEnd (t : Nat) (g : Fin 26)
  /-- RAIL_UNDERVOLTAGE (R289). -/
  | railUndervoltage (t : Nat) (c : ChanRails) (vp : Bool)
  /-- BOOT_UNDERVOLTAGE (R299). -/
  | bootUndervoltage (t : Nat) (g : Fin 26)
  /-- GATE_SUPPLY_TIMEOUT (R288). -/
  | gateSupplyTimeout (t : Nat) (c : ChanRails)
  /-- RAIL_SETTING_STEP (R288). -/
  | railSettingStep (t : Nat) (c : ChanRails)
  /-- COMMAND_FRAME_LOSS (R290). -/
  | commandFrameLoss (t : Nat) (c : ChanFrames)
  /-- STATUS_FRAME_LOSS (R290). -/
  | statusFrameLoss (t : Nat) (g : Fin 26)
  /-- RETRY_WAIT_EXPIRY (R300). -/
  | retryWaitExpiry (t : Nat) (g : Fin 24) (c : Fin 4) (r : RetryIn)
  /-- PLATEAU_MEASURED (R292). -/
  | plateauMeasured (t : Nat) (g : Fin 24) (on : Bool) (tp : Option Nat)
  /-- CHANNEL_LOGIC_SHOOT_THROUGH (R297). -/
  | channelLogicShootThrough (t : Nat) (a : LegAsked)
  /-- BRK_CONFIRM_EXPIRY (R319). -/
  | brkConfirmExpiry (t : Nat)
  /-- BRK_LOAD_DETECTED (R319). -/
  | brkLoadDetected (i : LoadIn)
  /-- DSC_REQUEST (R321). -/
  | dscRequest (t : Nat) (req : Nat) (w : Word)
  /-- DSC_STOP_WRITE (R322). -/
  | dscStopWrite (t : Nat) (req : Nat) (w : Word)
  /-- DSC_START (R321). -/
  | dscStart (t : Nat)
  /-- DSC_WAIT_EXPIRY (R321). -/
  | dscWaitExpiry (t : Nat)
  /-- STO_INPUT_LOW (R324). -/
  | stoInputLow (t : Nat) (b : Bool)
  /-- STO_INPUT_HIGH (R324). -/
  | stoInputHigh (t : Nat) (b : Bool)
  /-- GTRIP_LINE_LOW (R325). -/
  | gtripLineLow (t : Nat)
  /-- GTRIP_LINE_HIGH (R325). -/
  | gtripLineHigh (t : Nat)
  /-- BW_LKDEMAND_WRITE (R324). -/
  | bwLkdemandWrite (t : Nat) (req : Nat) (w : Word)
  /-- THERMAL_DWELL (R327). -/
  | thermalDwell (t : Nat)
  /-- THERMAL_COMPARATOR_TRIP (R329). -/
  | thermalComparatorTrip (t : Nat) (die : Bool)
  /-- THERMAL_COOLDOWN (R329). -/
  | thermalCooldown (t : Nat)
  /-- FAULT_ARRIVAL (R336). -/
  | faultArrival (t : Nat) (f : FaultIn)
  /-- VIEW_RELEASE (R65). -/
  | viewRelease (t : Nat)
  /-- BW_FQCLR_WRITE (R338). -/
  | bwFqclrWrite (t : Nat) (req : Nat) (c : ClearIn)
  /-- PLL_LOCK_LOSS (R21). -/
  | pllLockLoss (t : Nat)
  /-- REFIN_LOSS (R47). -/
  | refinLoss (t : Nat)
  /-- DELAY_LINE_MEASUREMENT (R51). -/
  | delayLineMeasurement (t : Nat) (line : Fin 28) (launches : List (Nat × Nat))
  /-- RAIL_TRIM_INTERVAL (R57). -/
  | railTrimInterval (t : Nat)
  /-- RAIL_GUARD_BOOST (R58). -/
  | railGuardBoost (t : Nat) (b : Fin 5) (canary : Nat)
  /-- BOOST_RELEASE (R58). -/
  | boostRelease (t : Nat)
  /-- AS_SYNC_MESSAGE (R72). -/
  | asSyncMessage (t : Nat) (asNs : Int)
  /-- AS_HOLDOVER (R73). -/
  | asHoldover (t : Nat)
  /-- TIDE_NOW_L_READ (R48). -/
  | tideNowLRead (t : Nat) (req : Nat)
  /-- PWM_ZEROL_READ (R286). -/
  | pwmZerolRead (t : Nat) (req : Nat) (n : Fin 4)
  /-- LOOKOUT_CYCLE (R341). -/
  | lookoutCycle (t : Nat) (r : CycleIn)
  /-- DEADLINE_MONITOR_CHECK (R341). -/
  | deadlineMonitorCheck (t : Nat)
  /-- INTERNAL_FAULT_REACTION (R342). -/
  | internalFaultReaction (t : Nat) (cause : Nat)
  /-- SO_TEST_PULSE (R350). -/
  | soTestPulse (t : Nat) (o : Fin 2) (readOff : Bool)
  /-- SO_READBACK_FAIL (R350). -/
  | soReadbackFail (t : Nat) (o : Fin 2)
  /-- LOOKOUT_FRAME_ARRIVAL (R362). -/
  | lookoutFrameArrival (t : Nat) (path : Fin 8) (bytes : List Byte)
  /-- DUAL_WINDOW_EXPIRY (R364). -/
  | dualWindowExpiry (t : Nat) (j : Fin 8)
  /-- CONNECTION_LOSS (R363). -/
  | connectionLoss (t : Nat) (j : Fin 8)
  /-- TEST_DUE_EXPIRY (R367). -/
  | testDueExpiry (t : Nat) (k : Fin 5)
  /-- ETH_FRAME_RECEIVED (R374). -/
  | ethFrameReceived (t : Nat) (p : Fin 5) (f : EthFrame)
  /-- ETH_FRAME_TRANSMIT (R380). -/
  | ethFrameTransmit (t : Nat) (p : Fin 5) (q : Fin 8)
  /-- GATE_LIST_INTERVAL_END (R380). -/
  | gateListIntervalEnd (t : Nat) (p : Fin 4)
  /-- GATE_LIST_SWAP_REQUEST (R381). -/
  | gateListSwapRequest (t : Nat) (req : Nat) (p : Fin 4) (w : Word)
  /-- GATE_LIST_SWAP (R381). -/
  | gateListSwap (t : Nat) (p : Fin 4)
  /-- ETH_LINK_DOWN (R383). -/
  | ethLinkDown (t : Nat) (p : Fin 4)
  /-- MAC_TABLE_AGE_OUT (R373). -/
  | macTableAgeOut (t : Nat) (vid mac : Nat)
  /-- ARP_ENTRY_EXPIRY (R372). -/
  | arpEntryExpiry (t : Nat) (ip : Nat)
  /-- AS_SYNC_SEND (R382). -/
  | asSyncSend (t : Nat) (p : Fin 4)
  /-- PEER_DELAY_MEASUREMENT (R382). -/
  | peerDelayMeasurement (t : Nat) (p : Fin 4) (ns : Nat)
  /-- ETH_ASGMSEC_WRITE (R382). -/
  | ethAsgmsecWrite (t : Nat) (req : Nat) (w : Word)
  /-- TX_RING_TAIL_WRITE (R378). -/
  | txRingTailWrite (t : Nat) (req : Nat) (r : Fin 4) (w : Word)
  /-- CAN_FRAME_RECEIVED (R387). -/
  | canFrameReceived (t : Nat) (c : Fin 4) (f : CanFrame)
  /-- CAN_TX_START (R389). -/
  | canTxStart (t : Nat) (c : Fin 4)
  /-- CAN_TX_COMPLETE (R390). -/
  | canTxComplete (t : Nat) (c : Fin 4) (sent : Bool)
  /-- CAN_BUS_ERROR (R391). -/
  | canBusError (t : Nat) (c : Fin 4) (kind : Fin 7) (tecUp recUp : Nat)
  /-- CAN_BUS_OFF_RECOVERY (R391). -/
  | canBusOffRecovery (t : Nat) (c : Fin 4)
  /-- CAN_TX_ARM (R389). -/
  | canTxArm (t : Nat) (req : Nat) (c : Fin 4) (b : Fin 16) (w : Word)
  /-- CAN_TX_ABORT (R390). -/
  | canTxAbort (t : Nat) (req : Nat) (c : Fin 4) (b : Fin 16) (w : Word)
  /-- CAN_RX_POP (R388). -/
  | canRxPop (t : Nat) (req : Nat) (c : Fin 4) (q : Fin 2) (w : Word)
  /-- CAN_DISABLE (R391). -/
  | canDisable (t : Nat) (req : Nat) (c : Fin 4) (w : Word)
  /-- FABRIC_WATCHDOG_EXPIRY (R25). -/
  | fabricWatchdogExpiry (t : Nat) (req addr : Nat) (write : Bool)
  /-- MACHINE_TIMER_INTERRUPT (R396). -/
  | machineTimerInterrupt (t : Nat) (r : Fin 4)
  /-- CORE_START (R397). -/
  | coreStart (t : Nat) (req : Nat) (r : Fin 4) (w : Word)
  /-- CORE_RESET (R397). -/
  | coreReset (t : Nat) (req : Nat) (r : Fin 4) (w : Word)
  /-- BERTH_ACFLT_WRITE (R399). -/
  | berthAcfltWrite (t : Nat) (req : Nat) (w : Word)
  /-- PATROL_SCRUB_READ (R401). -/
  | patrolScrubRead (t : Nat) (addr : Nat) (kind : Fin 3)
  /-- FLASH_BERTH_DESCRIPTOR (R403). -/
  | flashBerthDescriptor (t : Nat)
  /-- FLASH_OPERATION_COMPLETE (R403). -/
  | flashOperationComplete (t : Nat)
  /-- BERTH_MESSAGE_WRITE (R405). -/
  | berthMessageWrite (t : Nat) (req : Nat) (b : Fin 32) (k : Fin 16) (w : Word)
  /-- BERTH_RECEIVE_READ (R406). -/
  | berthReceiveRead (t : Nat) (req : Nat) (b : Fin 32)
  /-- BERTH_CFG_WRITE (R407). -/
  | berthCfgWrite (t : Nat) (req : Nat) (b : Fin 32) (w : Word)
  /-- BOLLARD_CLAIM_READ (R408). -/
  | bollardClaimRead (t : Nat) (req : Nat) (k : Fin 16)
  /-- BOLLARD_WRITE (R409). -/
  | bollardWrite (t : Nat) (req : Nat) (k : Fin 16) (w : Word)
  /-- BOLLARD_FREE_WRITE (R412). -/
  | bollardFreeWrite (t : Nat) (req : Nat) (w : Word)
  /-- ARBITER_DRAW (R414). -/
  | arbiterDraw (t : Nat) (a : Fin 3) (requests : Nat)
  /-- BACKOFF_EXPIRY (R415). -/
  | backoffExpiry (t : Nat) (a : Fin 3) (slot : Fin 8)
  /-- ARB_SEED_WRITE (R414). -/
  | arbSeedWrite (t : Nat) (req : Nat) (w : Word)
  /-- LOGBOOK_BLOCK_WRITE (R420). -/
  | logbookBlockWrite (t : Nat)
  /-- LOGB_TRIG_WRITE (R421). -/
  | logbTrigWrite (t : Nat) (req : Nat) (w : Word)
  /-- LOGB_DISABLE (R421). -/
  | logbDisable (t : Nat) (req : Nat) (w : Word)
  /-- LOGBOOK_FREEZE (R421). -/
  | logbookFreeze (t : Nat)
  /-- BANDWIDTH_WINDOW_END (R427). -/
  | bandwidthWindowEnd (t : Nat) (units : List Nat)
  /-- PERF_SAMPLE_CLEAR (R432). -/
  | perfSampleClear (t : Nat) (req : Nat) (u : Fin 8) (w : Word)
  /-- READ_CLEAR_ACCESS (R13). -/
  | readClearAccess (t : Nat) (req addr : Nat)
  /-- REGISTER_WRITE (R128). -/
  | registerWrite (t : Nat) (req addr width : Nat) (w : Word)
  /-- ENGINE_MEMORY_WRITE (R131). -/
  | engineMemoryWrite (t : Nat) (req addr : Nat) (w : Word)
  /-- REMOTE_ACCESS (R448). -/
  | remoteAccess (t : Nat) (req addr : Nat) (write : Bool) (w : Word)
  /-- INPUT_VALIDITY_CHANGE (R457). -/
  | inputValidityChange (t : Nat) (ka valid : Bool)
  /-- INPUT_CONDITION_CHANGE (R458). -/
  | inputConditionChange (t : Nat) (high : Bool)
  /-- BUDGET_GRACE_EXPIRY (R462). -/
  | budgetGraceExpiry (t : Nat)
  /-- RAIL_ENABLE_SLOT (R461). -/
  | railEnableSlot (t : Nat)
  /-- POWER_LOSS_SIGNAL (R470). -/
  | powerLossSignal (t : Nat)
  /-- LAST_WORDS_WRITE (R423). -/
  | lastWordsWrite (t : Nat) (ok : Bool)
  /-- STORAGE_BUS_COLLAPSE (R470). -/
  | storageBusCollapse (t : Nat)
  /-- X_DOMAIN_DSC_END (R471). -/
  | xDomainDscEnd (t : Nat)
  /-- POWER_LOSS_CLEAR (R472). -/
  | powerLossClear (t : Nat)
  /-- RAIL_FAILURE (R473). -/
  | railFailure (t : Nat) (ch : Nat)
  /-- POWER_ON_RESET (R463). -/
  | powerOnReset (t : Nat) (r : StartIn)
  /-- PWR_RESET_WRITE (R467). -/
  | pwrResetWrite (t : Nat) (req : Nat) (w : Word) (r : StartIn)
  /-- SUPERVISOR_WATCHDOG_EXPIRY (R467). -/
  | supervisorWatchdogExpiry (t : Nat) (r : StartIn)
  /-- PORT_UP (R437). -/
  | portUp (t : Nat) (p : Fin 2) (peer : Fin 8) (peerPort : Fin 2) (serial : Nat) (polinv : Nat) (hop : Nat)
  /-- PORT_DOWN (R437). -/
  | portDown (t : Nat) (p : Fin 2) (lost : Nat)
  /-- HOP_DELAY_CALIBRATION (R438). -/
  | hopDelayCalibration (t : Nat) (p : Fin 2) (delay : Nat)
  /-- BEACON_SEND (R439). -/
  | beaconSend (t : Nat) (p : Fin 2)
  /-- BEACON_ARRIVAL (R439). -/
  | beaconArrival (t : Nat) (p : Fin 2) (beacon path : Nat) (fine : Fin 32)
  /-- CARRIER_DESCRIPTOR_ARRIVAL (R445). -/
  | carrierDescriptorArrival (t : Nat) (g : Fin 4) (d : CarrierDesc)
  /-- ZERO_POINT_MARKER_ARRIVAL (R445). -/
  | zeroPointMarkerArrival (t : Nat) (g : Fin 4) (stamp : Int)
  /-- GSYNC_EDGE (R446). -/
  | gsyncEdge (t : Nat) (expected : Int)
  /-- GSYNC_LOSS (R446). -/
  | gsyncLoss (t : Nat)
  /-- FLIT_RETRANSMISSION (R447). -/
  | flitRetransmission (t : Nat) (p : Fin 2)
  /-- MEMBERSHIP_UPDATE (R441). -/
  | membershipUpdate (t : Nat) (ms : List MemberIn) (ring forming : Bool)
  /-- FORMWAIT_EXPIRY (R442). -/
  | formwaitExpiry (t : Nat)
  /-- REMOTE_DOORBELL (R449). -/
  | remoteDoorbell (t : Nat) (m : Fin 8) (b : Fin 32)
  /-- RELAYED_COMMAND (R450). -/
  | relayedCommand (t : Nat) (k : Nat) (ip port : Nat) (bytes : List Byte)
  /-- GROUP_LOGBOOK_TRIGGER (R451). -/
  | groupLogbookTrigger (t : Nat) (trig : Nat)
  /-- FAULT_FORWARD (R452). -/
  | faultForward (t : Nat) (f : ForwardIn)
  /-- TIDE_PLL_RELOCK (R21). -/
  | tidePllRelock (t : Nat)
  /-- ETH_LINK_UP (R383). -/
  | ethLinkUp (t : Nat) (p : Fin 4)
  /-- PERIOD_POINT (R282). -/
  | periodPoint (t : Nat) (n : Fin 4)
  /-- BREAKWATER_SPEED_UPDATE (R314). -/
  | breakwaterSpeedUpdate (t : Nat) (a : AxisRes)
  /-- OBS_LOST_HOLD_EXPIRY (R254). -/
  | obsLostHoldExpiry (t : Nat) (n : Fin 4)
  /-- CARRIER_DESCRIPTOR_SEND (R445). -/
  | carrierDescriptorSend (t : Nat) (g : Fin 4)
  /-- ACCESS_ERROR_READ (R26). -/
  | accessErrorRead (t : Nat) (req addr width : Nat)
  /-- GTRIP_DRIVE_RELEASE (R325). -/
  | gtripDriveRelease (t : Nat)
  /-- RESUMED_START (R472). -/
  | resumedStart (t : Nat) (r : StartIn)
  deriving DecidableEq, Repr

end Sys2Proof
end

