-- ==== Sys2Proof/Decode.lean ====
section
/-! DEFINITION. Commands spelled by words. The table of operations and events gives no row any bits:
commands arrive as packets, register accesses and events on pins, whose formats the meanings of the
transport rows decode (R76-R89). -/

namespace Sys2Proof

/-- The command a word of `nbits` bits spells by the table's bits: none, as no row has bits. -/
def decodeTableWord (_nbits _w : Nat) : Option Instr := none

end Sys2Proof
end

