-- ==== Sys2Proof/Machine/Num.lean ====
section
/-! DEFINITION. Exact numbers and the scalar format BF32 (R12, R201, R202). An exact real value is
a fraction `Q`; an irrational value is represented by a fraction that every rounding of R202 and
R206 treats alike (log entry 20). -/

namespace Sys2Proof.Machine

/-- An exact value `num / den`; `den = 0` is read as 1. -/
structure Q where
  num : Int
  den : Nat
  deriving DecidableEq, Repr

def qInt (n : Int) : Q := ⟨n, 1⟩
def qZero : Q := ⟨0, 1⟩
def qOne : Q := ⟨1, 1⟩
def qDen (a : Q) : Nat := if a.den = 0 then 1 else a.den
def qAdd (a b : Q) : Q := ⟨a.num * qDen b + b.num * qDen a, qDen a * qDen b⟩
def qNeg (a : Q) : Q := ⟨-a.num, a.den⟩
def qSub (a b : Q) : Q := qAdd a (qNeg b)
def qMul (a b : Q) : Q := ⟨a.num * b.num, qDen a * qDen b⟩
def qLt (a b : Q) : Bool := decide (a.num * qDen b < b.num * qDen a)
def qLe (a b : Q) : Bool := decide (a.num * qDen b ≤ b.num * qDen a)
def qEq (a b : Q) : Bool := decide (a.num * qDen b = b.num * qDen a)
def qAbs (a : Q) : Q := ⟨a.num.natAbs, a.den⟩
def qMin (a b : Q) : Q := if qLe a b then a else b
def qMax (a b : Q) : Q := if qLe a b then b else a
/-- `1 / a`, for `a ≠ 0`. -/
def qInv (a : Q) : Q := ⟨if a.num < 0 then -(qDen a : Int) else qDen a, a.num.natAbs⟩
def qDiv (a b : Q) : Q := qMul a (qInv b)
/-- `2 ^ k`. -/
def qPow2 (k : Int) : Q := if 0 ≤ k then ⟨2 ^ k.toNat, 1⟩ else ⟨1, 2 ^ (-k).toNat⟩
def qIsZero (a : Q) : Bool := decide (a.num = 0)

/-- `floor` of a fraction. -/
def qFloor (a : Q) : Int := a.num / qDen a

/-- Round half to even. -/
def qRound (a : Q) : Int :=
  let f := qFloor a
  let twice := 2 * (a.num - f * qDen a)
  if twice < qDen a then f
  else if (qDen a : Int) < twice then f + 1
  else if f % 2 = 0 then f else f + 1

/-- Round half up: to the nearest integer, halves towards plus infinity. -/
def qRoundUp (a : Q) : Int := qFloor (qAdd a ⟨1, 2⟩)

/-- Round toward zero. -/
def qTrunc (a : Q) : Int := if a.num < 0 then -(qFloor (qNeg a)) else qFloor a

/-- `rnd` of R202: half to even, or toward zero under RTZ. -/
def qRnd (rtz : Bool) (a : Q) : Int := if rtz then qTrunc a else qRound a

/-- `floor (log2 |a|)`, for `a ≠ 0`. -/
def qLog2 (a : Q) : Int :=
  let l : Int := (Nat.log2 a.num.natAbs : Int) - (Nat.log2 (qDen a) : Int)
  if qLe (qPow2 l) (qAbs a) then l else l - 1

/-- The exact value m * 2^(e-23) of a BF32 word (R12, R201). -/
def bfVal (w : Word) : Q :=
  let m : Int := (w.setWidth 24).toInt
  let e : Int := ((w >>> 24).setWidth 8).toInt
  qMul ⟨m, 1⟩ (qPow2 (e - 23))

/-- The BF32 word of mantissa `m` and exponent `e`. -/
def bfPack (m e : Int) : Word := BitVec.ofInt 8 e ++ BitVec.ofInt 24 m

/-- bf32_round of R202: the word, EXOV, EXUF. -/
def bfRoundFull (rtz : Bool) (v : Q) : Word × Bool × Bool :=
  if qIsZero v then (0, false, false)
  else
    let e := qLog2 v + 1
    let m := qRnd rtz (qMul v (qPow2 (23 - e)))
    let (e, m) := if m.natAbs = 2 ^ 23 then (e + 1, qRnd rtz (qMul v (qPow2 (22 - e)))) else (e, m)
    if 127 < e then (bfPack (if v.num < 0 then -(2 ^ 23 - 1) else 2 ^ 23 - 1) 127, true, false)
    else if e < -128 then (0, false, true)
    else (bfPack m e, false, false)

/-- bf32_round of R202, half to even, the word alone. -/
def bfRound (v : Q) : Word := (bfRoundFull false v).1

/-- Word of a whole number. -/
def bfInt (n : Int) : Word := bfRound (qInt n)

/-- Least `r` with `r * r ≤ n < (r + 1) * (r + 1)`, by bisection over `bits` bits. -/
def isqrtGo (n : Nat) : Nat → Nat → Nat
  | 0, r => r
  | b + 1, r =>
    let c := r + 2 ^ b
    if c * c ≤ n then isqrtGo n b c else isqrtGo n b r

/-- Integer square root. -/
def isqrt (n : Nat) : Nat := isqrtGo n (Nat.log2 n / 2 + 1) 0

/-- Stand-in for `√a`, `a ≥ 0`: the root itself where it is a fraction of the working precision,
else a value strictly between the two neighbours at 2^-p relative (log entry 20). -/
def qSqrt (p : Nat) (a : Q) : Q :=
  let n := a.num.toNat * qDen a
  let s := isqrt (n * 4 ^ p)
  if s * s = n * 4 ^ p then ⟨s, qDen a * 2 ^ p⟩ else ⟨2 * s + 1, qDen a * 2 ^ (p + 1)⟩

/-- `√3`, to 2^-600. -/
def qSqrt3 : Q := qSqrt 600 ⟨3, 1⟩

end Sys2Proof.Machine
end

