-- ==== Sys2Proof/Config.lean ====
section
/-! DEFINITION. Values the manual leaves open. The `free…` constants have no body: nothing in Lean
can prove a value of them, so a claim holds whatever they are. Each is applied to the state's
plain counter `free`, or to the operands it depends on (log entry 2). The other definitions are
figures the manual fixes for every module. -/

namespace Sys2Proof.Config

/-- DESIGN CHOICE (log entry 2): a value the manual does not state, as a natural number. -/
opaque freeNat : Nat → Nat

/-- DESIGN CHOICE (log entry 2): a 32-bit value the manual does not state. -/
opaque freeWord : Nat → BitVec 32

/-- DESIGN CHOICE (log entry 2): the bytes of the nonce Nm and identity SID of a session (R93). -/
opaque freeByte : Nat → Nat → BitVec 8

/-- DESIGN CHOICE (log entry 2): a signed value the manual does not state. -/
opaque freeInt : Nat → Int

/-- DESIGN CHOICE (log entry 4): the factory calibration in OTP (R132, R149, R155). Gain of slice `s` of
cluster `c` in 2^-20, its offset in 1/32 code, and the sums of 1024 codes at 0 V and of the span from
-4 V to +4 V. -/
opaque sliceGain : Nat → Nat → Nat
opaque sliceOffset : Nat → Nat → Int
opaque sliceZero : Nat → Nat → Int
opaque sliceSpan : Nat → Nat → Int

/-- DESIGN CHOICE (log entry 4): factory gain and offset of VHV (R160), and of an HK channel, the fixed
scale of an HK channel (BF32) and the factory sum of channel 63 (R163). -/
opaque vhvGain : Nat
opaque vhvOffset : Int
opaque hkGain : Nat → Nat
opaque hkOffset : Nat → Int
opaque hkScale : Nat → BitVec 32
opaque hkRefSum : Int

/-- DESIGN CHOICE (log entry 4): the internal reference of a cluster as HK should read it, BF32 volts
(R164). -/
opaque clusterRef : Nat → BitVec 32

/-- DESIGN CHOICE (log entry 36): the DC-link voltage of an axis as precharged, BF32 volts (R303). -/
opaque precharge : Nat → BitVec 32

/-- DESIGN CHOICE (log entry 4): the module's seal key in OTP, which Lookout alone can read (R138). -/
opaque sealKey : List (BitVec 8)

/-- DESIGN CHOICE (log entry 4): the bytes of the boot ROM (R39). -/
opaque romByte : Nat → BitVec 8

/-- DESIGN CHOICE (log entry 2): what a module restart that a register access or a command causes finds (R467). -/
opaque freeStart : Nat → StartIn

/-- Ticks per 1 ms (R502). -/
def ms : Nat := 400000

/-- Ticks per 1 µs (R9). -/
def us : Nat := 400

/-- Ticks per 1 s. -/
def sec : Nat := 400000000

/-- Release delay of a module's own views (R65). -/
def releaseOwn : Nat := 3356

/-- Release delay of views that hold events of other modules (R65). -/
def releaseGroup : Nat := 4300

end Sys2Proof.Config
end

