-- ==== Sys2Proof/Machine/State.lean ====
section
/-! DEFINITION. The state of the module as plain data, the reasons a step can stop, and the state
after power-on reset. Registers live in one sparse store `regs`, memory bytes in `mem`; the
structures below hold the state that has no register of its own. INVENTORY.md names the rule of
every field. -/

namespace Sys2Proof.Machine

/-- Reasons a step can fault. No meaning of this model raises one: the manual gives every command
an effect (safe: an empty set of reasons hides nothing). -/
inductive Fault where
  /-- Raised by nothing (safe); it stands so that the type has a name to write. -/
  | none
  deriving DecidableEq, Repr

/-- Reasons a step can be refused. -/
inductive Refusal where
  /-- A command whose meaning is not written: raised by the dispatch alone (safe). -/
  | notModelled (mnemonic : String)
  deriving DecidableEq, Repr

/-- Axis states, encoded 0-7 in this order (R97). -/
inductive AxState where
  | off | diag | ready | run | hold | tune | fault | safe
  deriving DecidableEq, Repr

/-- The gate state a demand asks for (R31, R33). -/
inductive Gates where
  | off | asc
  deriving DecidableEq, Repr

/-- Modes of the output stage (R277). -/
inductive OutMode where
  | off | pwm | asc | force
  deriving DecidableEq, Repr

/-- How an active fault acts on the gates: the stop reaction (R313), the overvoltage reaction
(R320), plain pulse-off of the axis (R296), the STO safe state (R342), or not at all. -/
inductive Reac where
  | stop | overvolt | pulseOff | sto | none
  deriving DecidableEq, Repr

/-- An entry of the fault queue (R104, R337). -/
structure Entry where
  name : FName
  src : Nat
  inst : Nat
  sev : Nat
  cause : Bool
  latched : Bool
  retry : Bool
  mid : Nat
  epoch : Nat
  req : Nat
  stamp : Nat
  detail : Nat
  axes : BitVec 4
  /-- Module scope (R333). -/
  modScope : Bool
  /-- The Logbook has taken it (R418). -/
  logged : Bool := false
  deriving DecidableEq, Repr

/-- An active fault of severity 2-5 (R335), whether or not the queue holds an entry of it. -/
structure Active where
  name : FName
  src : Nat
  inst : Nat
  sev : Nat
  axes : BitVec 4
  modScope : Bool
  reac : Reac
  cause : Bool
  latched : Bool
  deriving DecidableEq, Repr

/-- The fault manager (R335, R337, R453, R502). -/
structure FaultMan where
  queue : List Entry := []
  active : List Active := []
  /-- Group view of the lead (R453). -/
  group : List Entry := []
  /-- Members' OVFL and lost counts (R453). -/
  groupLost : List (Nat × Nat) := []
  /-- Causes that the clear under way finds gone; none where each is found as it is (R107). -/
  found : Option (List (FName × Nat × Nat)) := none
  /-- Last 1 ms interval in which each once-per-interval warning was raised (R502). -/
  ivals : List ((FName × Nat) × Nat) := []
  deriving DecidableEq, Repr

/-- The relay auto-tune of an axis (R257-R259). -/
structure Tune where
  /-- Result that the end of the tune gave it, where the program did not: 2 aborted by AXIS_STATE, 3 out of
  time. -/
  ended : Option Nat := none
  loop : Nat := 0
  rule : Nat := 0
  maxMs : Nat := 0
  d : Word := 0
  hyst : Word := 0
  startAt : Nat := 0
  deriving DecidableEq, Repr

/-- One axis (R97-R101, R313, R314, R330). -/
structure Axis where
  st : AxState := .off
  /-- Gate mode of HOLD: ASC (R98). -/
  holdAsc : Bool := false
  /-- The choice of the stop reaction that stands (R313). -/
  stop : Option Gates := none
  /-- The gates that a reaction in place of the stop reaction asks for while the axis is in FAULT (R334). -/
  other : Option Gates := none
  /-- Lookout holds SAFE (R98). -/
  safeHeld : Bool := false
  /-- Breakwater's speed: BF32 of |speed| in rpm, none while unknown (R314). -/
  spd : Option Word := none
  /-- Instant at which the setpoint's validity ends (R101). -/
  expiry : Option Nat := none
  /-- Target of an AXIS_STATE that waits for gate rails (R98). -/
  pendTo : Option AxState := none
  /-- State before TH_SHUTDOWN (R330). -/
  preTherm : Option AxState := none
  /-- Gate mode of the HOLD it stands for (R330). -/
  preAsc : Bool := false
  /-- The setpoint's validity expired during the shutdown (R330). -/
  expired : Bool := false
  /-- A reload has come since the last entry to RUN or TUNE: the gate request in force acts (R239, R277). -/
  reqTaken : Bool := false
  /-- A DIAG_RUN is in progress: its test mask (R100, R303). -/
  diag : Option Nat := none
  tune : Tune := {}
  /-- A program is loaded (R98, R260). -/
  prog : Bool := false
  /-- An uncorrectable OTP word of the cluster (R135). -/
  calBad : Bool := false
  deriving DecidableEq, Repr

/-- One delay line (R49-R52). -/
structure DLine where
  taps : Nat := 0
  rejects : Nat := 0
  deriving DecidableEq, Repr

/-- The delay lines and their calibrator (R49-R53): the line in turn, and since when. -/
structure DLines where
  line : Vector DLine 28 := Vector.replicate 28 {}
  turn : Fin 28 := 0
  since : Nat := 0
  /-- Edges and samples that the lines have placed of late: line and tick. -/
  edges : List (Nat × Nat) := []
  deriving DecidableEq, Repr

/-- Core-rail trim (R54-R58). -/
structure Rail where
  /-- Per block LE0-LE3, Lookout: 1 ms interval (R502) and its largest ratio, newest first, of the last two
  intervals with a sample. -/
  worst : Vector (List (Nat × Q)) 5 := Vector.replicate 5 []
  /-- Last measured ratio and canary delay recorded with it. -/
  last : Vector Q 5 := Vector.replicate 5 ⟨0, 1⟩
  canary : Vector Nat 5 := Vector.replicate 5 0
  /-- Count of intervals below 45 %. -/
  low : Nat := 0
  /-- Instant of the last projected ratio above 80 %. -/
  boostAt : Nat := 0
  deriving DecidableEq, Repr

/-- IEEE 802.1AS discipline (R71-R73). -/
structure AsDisc where
  started : Bool := false
  /-- Tide count and AS time of the last sync, ns. -/
  lastSync : Nat := 0
  /-- Since when |error| <= 100 ns. -/
  okSince : Option Nat := none
  deriving DecidableEq, Repr

/-- One leg of the PWM generator (R266-R276). Its frame, carry and counters are registers. Instants
are Tide counts in fine steps. -/
structure Leg where
  /-- A frame of PWM mode is in force. -/
  framed : Bool := false
  /-- q used at the last zero point, and the dead time of the frame in force (R266, R270). -/
  q0 : Int := 0
  dt : Nat := 0
  /-- The high side was on through the zero point of the frame in force (R268). -/
  hiThru : Bool := false
  /-- Low side on since, or to turn on at; none while off. -/
  lowSince : Option Nat := none
  /-- Bootstrap leg: low-side on-time, counted from `holdFrom` or the zero point, that the high side still waits
  for (R276). -/
  hold : Nat := 0
  holdFrom : Nat := 0
  /-- Continuous on-time of the high side at the zero point (R275), and the start of the last refresh. -/
  hiCount : Nat := 0
  refreshAt : Option Nat := none
  /-- FORCE: state each channel holds (R279). -/
  forceHi : Bool := false
  forceLo : Bool := false
  /-- The channel logic blocks the leg: the states that its high and its low side held (R297). -/
  block : Option (Bool × Bool) := none
  /-- Off-state tests that failed on the leg and have not passed since, as in the DIAG_RUN reply (R306). -/
  offFail : BitVec 8 := 0
  deriving DecidableEq, Repr

/-- A committed set: duties of slots 0-23 and the gate request (R224, R239, R264). -/
structure DutySet where
  duties : Vector Word 24 := Vector.replicate 24 0
  gate : Word := 0
  /-- Committed with gate request 0 since the last entry to RUN or TUNE (R277). -/
  fresh : Bool := false
  deriving DecidableEq, Repr

/-- A Reload register whose last write is not in force yet (R125, R126, R264): the word in force, the word that
the next zero-point formation takes, and the writes that no reload has taken, newest first, with their
instants. -/
structure EffWord where
  force : Word
  next : Word
  writes : List (Nat × Word)
  deriving DecidableEq, Repr

/-- One carrier (R261-R265, R280, R281). -/
structure Carrier where
  /-- Last zero point, in fine steps. -/
  zero : Nat := 0
  /-- The frames of the period from `zero` are formed. -/
  formed : Bool := false
  /-- First zero point of a start under way, in fine steps. -/
  startAt : Option Nat := none
  /-- Committed set in the shadow, with the instants its COMMIT was requested and granted; the set that the
  shadow held before it; the set in force. -/
  shadow : DutySet := {}
  shadowReq : Nat := 0
  shadowAt : Nat := 0
  before : DutySet := {}
  inForce : DutySet := {}
  /-- Reload registers not in force as written. -/
  eff : List (Nat × EffWord) := []
  deriving DecidableEq, Repr

/-- Level-1 holds of a gate channel by cause (R289-R299). -/
structure Holds where
  desat : Bool := false
  partner : Bool := false
  uv : Bool := false
  boot : Bool := false
  supply : Bool := false
  link : Bool := false
  /-- The driver die holds the switch off after loss of command frames (R290). -/
  die : Bool := false
  deriving DecidableEq, Repr

/-- One gate channel (R287-R302). -/
structure Gate where
  /-- Converter enabled. -/
  en : Bool := false
  /-- RAILOK first set since the enable (R289). -/
  seenOk : Bool := false
  holds : Holds := {}
  /-- The driver die receives no command frames (R290). -/
  mute : Bool := false
  /-- Detection instant of the last desaturation, and its epoch (R296, R70). -/
  desatAt : Nat := 0
  desatEp : Nat := 0
  /-- Fault instants per retry class 0-3 (R300). -/
  hist : Vector (List Nat) 4 := Vector.replicate 4 []
  /-- Retry due of GATE_DESAT, GATE_UV, BOOT_UV, GATE_SUPPLY and GATE_LINK. -/
  due : Vector (Option Nat) 5 := Vector.replicate 5 none
  /-- Consecutive events at a limit step, and whether beyond the band above, turn-on and turn-off (R292). -/
  limOn : Nat := 0
  limOff : Nat := 0
  upOn : Bool := false
  upOff : Bool := false
  /-- Present rail step, VP and VN codes, and the settings the rails last rested at (R288). -/
  vp : Nat := 6
  vn : Nat := 6
  vpOld : Nat := 6
  vnOld : Nat := 6
  /-- Instant of the enable (R288), and of the last turn-on (R294). -/
  enAt : Nat := 0
  onAt : Nat := 0
  deriving DecidableEq, Repr

/-- A trip input (R283): starts of its last blanking windows, newest first. -/
structure Trip where
  wins : List Nat := []
  deriving DecidableEq, Repr

/-- Breakwater (R316-R330), and the conditioning of the trip inputs (R283). -/
structure Bw where
  trips : Vector Trip 8 := Vector.replicate 8 {}
  /-- Instant, in fine steps, up to which the edges of the output stage have been placed. -/
  edgesTo : Nat := 0
  /-- Last corrected VHV result, V (R160, R316). -/
  v : Q := ⟨0, 1⟩
  /-- The last result met OV2 (R316). -/
  ov2Once : Bool := false
  uv1Since : Option Nat := none
  uv2Since : Option Nat := none
  /-- DC_UV1 raised in the present fall below UV1 (R316). -/
  uv1Done : Bool := false
  /-- Last VHV result, and start of the gapless run of results (R161). -/
  vhvLast : Option Nat := none
  vhvRun : Option Nat := none
  /-- BRK state since; value at turn-on; BRK failed (R317, R319). -/
  brkSince : Nat := 0
  brkV : Nat := 0
  brkFailed : Bool := false
  /-- Confirm instant of the present turn-on (R319). -/
  brkConf : Option Nat := none
  /-- Energy models, mJ (R318, R322). -/
  brkE : Nat := 50000000
  dscE : Nat := 10000000
  /-- DSC: trigger present by cause (loss, severity 5, command), since when, energy stop. -/
  trgLoss : Bool := false
  trgSafe : Bool := false
  trgCmd : Bool := false
  trgAt : Option Nat := none
  dscInh : Bool := false
  dscDone : Bool := false
  /-- STO demand standing (R324). -/
  sto : Bool := false
  /-- GTRIP drive: causes (severity 5, DC_OV3, trips), since (R325). -/
  gt5 : Bool := false
  gtOv3 : Bool := false
  gtTrip : BitVec 8 := 0
  gtAt : Nat := 0
  /-- SO0 and SO1 opened by Breakwater (R320, R334). -/
  so0Open : Bool := false
  so1Open : Bool := false
  /-- Levels of the contactor outputs as read back. -/
  so0rb : Bool := false
  so1rb : Bool := false
  /-- Thermal restarts made, instants (R330). -/
  restarts : List Nat := []
  /-- PLL lost: stop reactions of R21 stand. -/
  pllStop : Bool := false
  /-- Per HK channel: WARN exceeded and not left since (R327); FAULT exceeded and not left (R328). -/
  warned : Vector Bool 44 := Vector.replicate 44 false
  hot : Vector Bool 44 := Vector.replicate 44 false
  /-- Per axis: last change of L; since when every governing sensor has been seen at or below WARN − HYST. -/
  thrAt : Vector Nat 4 := Vector.replicate 4 0
  thrCool : Vector (Option Nat) 4 := Vector.replicate 4 none
  deriving DecidableEq, Repr

/-- A packet in the front-end queue (R82). -/
structure Packet where
  chan : Chan
  bytes : List Byte
  at_ : Nat
  /-- Reply buffer of a berth descriptor: address and size (R89). -/
  buf : Option (Nat × Nat)
  deriving DecidableEq, Repr

/-- An entry of a reply cache (R85). -/
structure Cached where
  seq : Nat
  crc : Nat
  reply : List Byte
  pending : Bool
  deriving DecidableEq, Repr

/-- A channel held by Harbourmaster (R83-R85, R95). -/
structure ChanSt where
  chan : Chan
  last : Nat := 0
  cache : List Cached := []
  authErrs : Nat := 0
  barred : Option Nat := none
  usedAt : Nat := 0
  deriving DecidableEq, Repr

/-- A session (R93). -/
structure Session where
  chan : Chan
  slot : Fin 8
  sid : List Byte
  key : List Byte
  lastAt : Nat
  deriving DecidableEq, Repr

/-- State of a key slot (R91). -/
inductive SlotState where
  | blank | programmed | revoked
  deriving DecidableEq, Repr

structure KeySlot where
  key : List Byte := []
  role : BitVec 8 := 0
  st : SlotState := .blank
  deriving DecidableEq, Repr

/-- A pendable command in progress (R78): received at `at_`; its PENDING reply, until that is sent. -/
structure PendCmd where
  at_ : Nat
  hold : Option (List Byte)
  chan : Chan
  op : Nat
  target : Nat
  seq : Nat
  flags : Nat
  buf : Option (Nat × Nat)
  /-- Operands the completion needs. -/
  args : List Nat
  data : List Byte
  deriving DecidableEq, Repr

/-- A partial CAN packet (R88). -/
structure CanPartial where
  bytes : List Byte
  next : Nat
  lastAt : Nat
  deriving DecidableEq, Repr

/-- An open firmware update (R109). -/
structure Update where
  chan : Chan
  size : Nat
  next : Nat
  lastAt : Nat
  finished : Bool
  /-- A phase is in progress (PENDING). -/
  busy : Bool
  deriving DecidableEq, Repr

/-- Firmware banks (R109, R110): the running and the preferred one (0 A, 1 B), whether the preferred one is
trial, and the starts made with it; the OTP rollback counter; the version that runs. -/
structure Fw where
  running : Nat := 0
  preferred : Nat := 0
  trial : Bool := false
  trialStarts : Nat := 0
  rollback : Nat := 0
  version : Nat := 0
  /-- The public keys in the two OTP slots, each a point of the curve; `none` where a slot is not programmed. -/
  keys : Vector (Option (Nat × Nat)) 2 := Vector.replicate 2 none
  deriving DecidableEq, Repr

/-- A reply that waits for a transport (R88, R89). -/
structure WaitReply where
  chan : Chan
  bytes : List Byte
  since : Nat
  addr : Nat
  deriving DecidableEq, Repr

/-- Harbourmaster (R75-R110, R121). -/
structure Hm where
  feq : List Packet := []
  chans : List ChanSt := []
  sess : List Session := []
  slots : Vector KeySlot 8 := Vector.replicate 8 {}
  hspiQ : List (List Byte) := []
  canRx : Vector (Option CanPartial) 4 := Vector.replicate 4 none
  waits : List WaitReply := []
  /-- Fragments that wait for buffer 14 of each CAN controller (R88). -/
  canTx : Vector (List (List Byte)) 4 := Vector.replicate 4 []
  disc : Nat := 0
  /-- An access made for the host that the fabric watchdog has ended, its command not yet answered: requester,
  address, write (R25, R26). -/
  timedOut : Option (Nat × Nat × Bool) := none
  pend : List PendCmd := []
  upd : Option Update := none
  fw : Fw := {}
  serial : List Byte := List.replicate 8 0
  /-- Bytes of the staging image that differ from 0 (R121). -/
  stage : List Host.Cell := []
  deriving DecidableEq, Repr

/-- Something that leaves the module (model's own record, log entry 3). What a message of the Mooring link is: 0 beacon,
1 Logbook trigger, 2 carrier descriptor, 3 zero-point marker, 4 doorbell, 5 forwarded fault entry or state, 6 relayed
command, 7 write and 8 read of a remote access, 9 AXIS_STATE, 10 membership, 11 answer to a remote access, 12 reply to a
relayed command, 13 bulk datagram. Messages to one member name it first. -/
inductive Out where
  | reply (chan : Chan) (bytes : List Byte)
  | frame (port : Nat) (queue : Nat) (len : Nat)
  /-- A sync of 802.1AS: port, source address, AS time (R372, R382). -/
  | sync (port : Nat) (src : Nat) (halfNs : Int)
  /-- A peer-delay response: port, source address, sequence number and stamp of the request (R372, R382). -/
  | pdelayResp (port : Nat) (src : Nat) (seq : Nat) (at_ : Nat)
  | can (c : Nat) (buffer : Nat)
  /-- A frame that Lookout hands over to a path; on Ethernet it goes on through the switch (R379). -/
  | lookout (conn : Nat) (path : Nat) (bytes : List Byte)
  | moor (port : Nat) (what : Nat) (args : List Nat)
  | gsync (at_ : Nat)
  /-- A datagram that the lead sends for a member from the UDP port `src` (R450, R451). -/
  | udpFrom (src ip port : Nat) (bytes : List Byte)
  /-- HRDY changes its level (R87). -/
  | hrdy (high : Bool)
  /-- An edge leaves the PWM output stage: gate channel, tick, tap of its delay line (R49), on or off. -/
  | edge (ch tick tap : Nat) (on : Bool)
  deriving DecidableEq, Repr

/-- A vector register: eight 24-bit mantissas and the stage exponent (R203). Its default is the
zero register. -/
structure VReg where
  m : Vector (BitVec 24) 8 := Vector.replicate 8 0
  e : BitVec 8 := 0x80
  deriving DecidableEq, Repr

/-- One loop engine (R203-R239). Stores list words that differ from 0. The phase of the pass and
the program counter are `LE_STATUSn`. -/
structure Eng where
  v : Vector VReg 32 := Vector.replicate 32 {}
  pred : BitVec 8 := 0
  pc : Nat := 0
  prog : List (Nat × Word64) := []
  coef : List (Nat × Word) := []
  state : List (Nat × Word) := []
  /-- Port-window entries 72-255, live. -/
  port : List (Nat × Word) := []
  /-- Entries 0-71: the newest bank, and the bank the engine reads (R231). -/
  newest : List (Nat × Word) := []
  view : List (Nat × Word) := []
  /-- Sample and trace buffer. -/
  buf : List (Nat × Word) := []
  /-- Pilot pass: scratch state entries and provisional entries written, held space-3 stores
  oldest first (R220). -/
  scratch : List (Nat × Word) := []
  prov : List (Nat × Word) := []
  held3 : List (Nat × Word) := []
  /-- Held flags in the order first set: program word and flag bit; held first port error. -/
  heldFlags : List (Nat × Nat) := []
  heldPort : Option Nat := none
  /-- SETTLE words of the present run compared so far (R233). -/
  settles : Nat := 0
  /-- Stamp of the newest sample whose results have arrived and are not served, and the instant of
  their arrival; stamp of the sample the present pass serves. -/
  arrived : Option Nat := none
  arrivedAt : Nat := 0
  serving : Option Nat := none
  /-- The pass hands nothing over at COMMIT: its axis left RUN or TUNE (R230). -/
  orphan : Bool := false
  /-- COMMIT requested, its crossing not yet complete (R30). -/
  crossing : Bool := false
  /-- A GO was written while the engine was busy (R227). -/
  goPending : Bool := false
  started : Nat := 0
  /-- A COMMIT was made during the present stay in RUN (R229). -/
  committed : Bool := false
  /-- Samples whose commit deadline has not come: stamp, and the instant COMMIT was requested for it (R30,
  R60, R237). -/
  samples : List (Nat × Option Nat) := []
  /-- Entries 128-191 of the last committed set (R225, R242). -/
  handed : List (Nat × Word) := []
  /-- Sampling records of the pass in progress (R426). -/
  perfHeld : List (List Word) := []
  /-- P / Bp of the sample in service (R54). -/
  pRatio : Option Q := none
  /-- Completion instant of the last COMMIT (R54). -/
  lastCommit : Nat := 0
  /-- Instant at which the pilot pass reached SETTLE (R54). -/
  settledAt : Nat := 0
  deriving DecidableEq, Repr

/-- A sampling unit (R426): records of eight words with their epochs (R70), oldest first, and instructions
completed since the last one recorded. -/
structure PerfUnit where
  buf : List (Nat × List Word) := []
  skip : Nat := 0
  deriving DecidableEq, Repr

/-- One channel of a Logbook plan (R418). -/
structure LogChan where
  kind : Nat
  b1 : Nat
  b2 : Nat
  b3 : Nat
  k : Nat
  first : Nat
  deriving DecidableEq, Repr

/-- An item of a block (R419): its epoch, order key and stamp, which place it, and its bytes. -/
structure LogItem where
  epoch : Nat
  key : Nat
  stamp : Nat
  bytes : List Byte
  deriving DecidableEq, Repr

/-- An open or closed block of the Logbook (R419): channel, items in the order of R63, gap flag, last block of
the record, closed with the queue full (R420), instant of closing, sequence, epoch. -/
structure LogBlock where
  chan : Nat
  items : List LogItem := []
  gap : Bool := false
  last : Bool := false
  full : Bool := false
  closedAt : Nat := 0
  seq : Nat := 0
  epoch : Nat := 0
  deriving DecidableEq, Repr

/-- A record of channel `chan` that waits for the release of its slot (R65): an item, or with `close` the end of
the channel's block (R419). -/
structure LogWait where
  chan : Nat
  close : Bool
  item : LogItem
  deriving DecidableEq, Repr

/-- The Logbook (R417-R423). -/
structure Logb where
  sev : Nat := 0
  pre : Nat := 0
  post : Nat := 0
  chans : List LogChan := []
  /-- Plans loaded from the Manifest, by number (R116, R418). -/
  plans : List (Nat × List Byte) := []
  /-- Events seen per channel since its last recorded one. -/
  skips : List Nat := []
  blocks : List LogBlock := []
  gaps : List Bool := []
  /-- Records not released yet, in the order of R63. -/
  evs : List LogWait := []
  queue : List LogBlock := []
  /-- Blocks written to the ring, newest first: ring position and closing instant. -/
  ring : List (Nat × Nat) := []
  seq : Nat := 0
  trigAt : Option Nat := none
  /-- Start position and count of the frozen record. -/
  frozen : Option (Nat × Nat) := none
  deriving DecidableEq, Repr

/-- A sample taken and not yet converted (R141-R146): stamp, tick and tap at which the cluster's delay line placed
it, sequence number, per input the slice, TEST and FALLOW bits, and the input that the settled test DAC drove, with
the DAC's output in V. -/
structure Sample where
  stamp : Nat
  placed : Nat × Nat
  dac : Option (Nat × Q)
  seq : Nat
  map : Word
  test : BitVec 8
  fallow : BitVec 8
  /-- Port-window entries 64-68 (feedback record) and 69 (VHV) latched with it (R224). -/
  record : List Word
  deriving DecidableEq, Repr

/-- A rotation step between C, in fine steps, and its hand-over sample (R153). -/
structure HandOver where
  input : Nat
  out : Nat
  inc : Nat
  c : Nat
  /-- C + 4000 has passed: the outgoing slice is disconnected. -/
  adv : Bool := false
  deriving DecidableEq, Repr

/-- A cluster (R139-R158, R167). -/
structure Cluster where
  /-- Sequence number of the last converted event; the first one after SELFTEST carries 0. -/
  seq : Nat := 255
  /-- Instant of the last converted SAMPLE event, in fine steps. -/
  last : Option Nat := none
  pend : List Sample := []
  hand : Option HandOver := none
  /-- Inputs whose next sample is taken by another slice and carries FALLOW. -/
  repl : List (Nat × Nat) := []
  /-- The slice freed at the hand-over sample replaces the slice of this input (R167). -/
  chain : Option (Nat × Nat) := none
  /-- Slice under measurement. -/
  meas : Option Nat := none
  rej : Vector Nat 9 := Vector.replicate 9 0
  /-- Drift of each slice, od and gd, before its last accepted measurement. -/
  before : Vector (Int × Int) 9 := Vector.replicate 9 (0, 0)
  stuck : Vector Nat 8 := Vector.replicate 8 0
  /-- Instants at which the test DAC was last connected, and last disconnected from each input (R157). -/
  testOn : Nat := 0
  testOff : Vector (Option Nat) 8 := Vector.replicate 8 none
  deriving DecidableEq, Repr

/-- A feedback port (R170-R199). -/
structure Port where
  /-- The 50 ms after SUP was switched on are over (R199). -/
  settled : Bool := false
  /-- Accepted levels of A and B (R177). -/
  a : Bool := false
  b : Bool := false
  /-- Stamps of counted edges in the present direction, newest first; last period (R183). -/
  edges : List Nat := []
  period : Option Nat := none
  /-- Direction of the last counted edge: reverse (R182). -/
  dir : Option Bool := none
  /-- Between a reversal and the next full period (R185). -/
  revPend : Bool := false
  spdOk : Bool := false
  /-- Illegal transitions and invalid Hall events of late. -/
  ills : List Nat := []
  /-- First and last index latch since mode entry; no drift check until the next (R180, R181). -/
  latch1 : Option Word := none
  latch : Option Word := none
  tainted : Bool := false
  /-- EOFS was written since the port was enabled (R175). -/
  eofsW : Bool := false
  /-- Hall: the present state counts as valid; stamp of the last sector change since the mode entry; EANG there. -/
  hallOk : Bool := false
  hallAt : Option Nat := none
  hallAng : Nat := 0
  /-- Sector count. -/
  sector : Word := 0
  /-- Resolver: loop angle with turns, loop speed; amplitude fault. -/
  resPos : Word := 0
  resSpd : Word := 0
  resBad : Bool := false
  /-- SSI: start of the frame in progress; accepted frames, newest first; discards in a row. -/
  ssiStart : Option Nat := none
  frames : List (Nat × Word) := []
  ssiBad : Nat := 0
  ssiOk : Bool := false
  /-- Observer: residual above OBS_LOSS since; last valid observer speed (R198). -/
  obsAbove : Option Nat := none
  obsSpd : Word := 0
  /-- OBS_LOST raised, its reaction held until (R254). -/
  obsHold : Option Nat := none
  deriving DecidableEq, Repr

/-- Two channels of a demand pair as Lookout sees them (R347, R348). -/
structure LkPair where
  a : Bool := false
  b : Bool := false
  /-- Last rise of each channel; since when they differ. -/
  riseA : Nat := 0
  riseB : Nat := 0
  diff : Option Nat := none
  /-- Both low together since both were last high. -/
  bothLow : Bool := true
  /-- The cycle low together, then high together, is not complete. -/
  need : Bool := true
  /-- Both rose within the discrepancy time; not yet taken by a cycle. -/
  edge : Bool := false
  /-- LK_SI_DISC or LK_STO_DISC stands. -/
  disc : Bool := false
  deriving DecidableEq, Repr

/-- What Lookout holds of one axis (R349-R357). -/
structure LkAx where
  /-- STO applied and SAFE held; the STO state in force is ASC. -/
  sto : Bool := false
  asc : Bool := false
  /-- SS1: t0 and |n0|. -/
  ss1 : Option (Nat × Word) := none
  /-- SLS active since. -/
  sls : Option Nat := none
  /-- Unacknowledged violations and faults, with whether their condition stands. -/
  items : List (FName × Bool) := []
  /-- Acknowledged, with SAFE not lifted yet: their causes end with it. -/
  acked : List FName := []
  /-- The hardware STO awaits its cycle and an acknowledge. -/
  hw : Bool := false
  /-- Start of each comparison's present run of deviations: currents, speed, slip, torque against the
  report, torque against its limit. -/
  cur : Option Nat := none
  spd : Option Nat := none
  slip : Option Nat := none
  tq1 : Option Nat := none
  tq2 : Option Nat := none
  /-- Observer angle of the last cycle. -/
  obsAng : Option Nat := none
  /-- Counts since the position was first taken, last POS, FBK mode it was taken in. -/
  cum : Int := 0
  pos : Option Word := none
  mode : Nat := 0
  /-- SLP reference and SDI's furthest position, in those counts. -/
  ref : Option Int := none
  sdi : Option Int := none
  deriving DecidableEq, Repr

/-- A copy held for DUAL_WINDOW (R364). -/
structure LkHold where
  ext : Nat
  path : Nat
  bytes : List Byte
  at_ : Nat
  age : Int
  deriving DecidableEq, Repr

/-- A Lookout connection (R360-R365). -/
structure LkConn where
  /-- Last accepted extended sequence; candidate of a resynchronisation. -/
  ext : Option Nat := none
  cand : Option Nat := none
  /-- Last acceptance. -/
  lastAt : Option Nat := none
  lost : Bool := false
  /-- Consecutive single frames (R364). -/
  single : Nat := 0
  /-- Payload in effect, and payload accepted for the next cycle. -/
  bits : List Byte := []
  next : Option (List Byte) := none
  hold : List LkHold := []
  /-- Extended sequences of frames decided of late. -/
  decided : List Nat := []
  /-- Extended sequence of the next frame to send; none before the first. -/
  tx : Option Nat := none
  deriving DecidableEq, Repr

/-- A safety set with its version, verification code, CRC and seal (R114, R137, R138). -/
structure SafetySet where
  ver : Nat
  code : Nat
  crc : Nat
  mac : List Byte
  data : List Byte
  deriving DecidableEq, Repr

/-- Lookout (R339-R368). -/
structure Lk where
  /-- Set in force, and the staged set. -/
  inForce : Option SafetySet := none
  staged : List Byte := []
  /-- No complete cycle has run under the set (R366). -/
  fresh : Bool := false
  /-- A cycle has completed since the start. -/
  ran : Bool := false
  sto : LkPair := {}
  si : Vector LkPair 4 := Vector.replicate 4 {}
  ax : Vector LkAx 4 := Vector.replicate 4 {}
  conn : Vector LkConn 8 := Vector.replicate 8 {}
  /-- Start of the present run of DC-link deviations (R353). -/
  dcv : Option Nat := none
  /-- Last instant in the demand state, SI0-SI3 and STO (R367). -/
  tested : Vector Nat 5 := Vector.replicate 5 0
  /-- Since when SO0 and SO1 are energised; LK_SO_FAIL stands. -/
  soSince : Vector (Option Nat) 2 := Vector.replicate 2 none
  soFail : Vector Bool 2 := Vector.replicate 2 false
  /-- Since when the readbacks of SO0 and SO1 disagree with the command (R350). -/
  soDiff : Vector (Option Nat) 2 := Vector.replicate 2 none
  /-- When each axis first left OFF under the set in force (R363). -/
  left : Vector (Option Nat) 4 := Vector.replicate 4 none
  deriving DecidableEq, Repr

/-! ### Networks (R370-R391) -/

/-- A frame in an egress queue: its VLAN, ingress port, arrival stamp and length in bytes. -/
structure QFrame where
  f : EthFrame
  vid : Nat
  ing : Nat
  /-- Stamp of its start of frame at the ingress port (R379); the tick at which its reception was complete (R374). -/
  arr : Nat
  done : Nat
  len : Nat
  deriving DecidableEq, Repr

/-- An entry of the address table (R373). -/
structure MacEnt where
  vid : Nat
  mac : Nat
  port : Nat
  seen : Nat
  deriving DecidableEq, Repr

/-- An ARP entry of Harbourmaster (R372). -/
structure ArpEnt where
  ip : Nat
  mac : Nat
  seen : Nat
  deriving DecidableEq, Repr

/-- A gate list: gates and ticks of its 128 entries, LEN field, base (R380, R381). -/
structure GateList where
  entries : List (Nat × Nat) := List.replicate 128 (255, 0)
  len : Nat := 1
  base : Nat := 0
  deriving DecidableEq, Repr

/-- The switch (R370-R382). -/
structure Eth where
  q : Vector (Vector (List QFrame) 8) 5 := Vector.replicate 5 (Vector.replicate 8 [])
  macs : List MacEnt := []
  arp : List ArpEnt := []
  /-- Operational lists of E0-E3, and instants of pending exchanges. -/
  oper : Vector GateList 4 := Vector.replicate 4 {}
  swapAt : Vector (Option Nat) 4 := Vector.replicate 4 none
  /-- Bytes received and sent by each port in the present bandwidth window (R427). -/
  rx : Vector Nat 5 := Vector.replicate 5 0
  tx : Vector Nat 5 := Vector.replicate 5 0
  deriving DecidableEq, Repr

/-- A CAN controller (R384-R391). -/
structure CanCtl where
  /-- RXQ0 and RXQ1, oldest first, entries of 20 words. -/
  rx : Vector (List (List Word)) 2 := Vector.replicate 2 []
  /-- Buffer in transmission, its start of frame, abort asked for. -/
  cur : Option (Fin 16) := none
  sof : Nat := 0
  abort : Bool := false
  tec : Nat := 0
  rec_ : Nat := 0
  /-- Lookout frames that wait for buffer 15: identifier word and data. -/
  lkTx : List (Word × List Byte) := []
  deriving DecidableEq, Repr

/-! ### Cores, arbiters, flash (R395-R427) -/

/-- An application core as the module holds it (R396, R397). -/
structure Core where
  /-- Out of reset since; start address. -/
  since : Option Nat := none
  boot : Nat := 0
  /-- The machine timer interrupt is pending. -/
  mtip : Bool := false
  /-- Privilege mode: 0 U, 1 S, 3 M; Sv39 address translation and the 16 PMP entries, configuration and address (R395). -/
  priv : Nat := 3
  satp : Word64 := 0
  pmpcfg : Vector Byte 16 := Vector.replicate 16 0
  pmpaddr : Vector Word64 16 := Vector.replicate 16 0
  /-- `mhpmevent3`-`18` and `mhpmcounter3`-`18` (R424). -/
  hpmEvent : Vector Nat 16 := Vector.replicate 16 0
  hpm : Vector Nat 16 := Vector.replicate 16 0
  deriving DecidableEq, Repr

/-- A lottery arbiter (R413-R415). -/
structure Arb where
  lfsr : Nat := 0xACE1
  last : Nat := 7
  /-- Length of the last back-off in grant slots, 0 after a win; end of a back-off under way. -/
  len : Vector Nat 8 := Vector.replicate 8 0
  off : Vector (Option Nat) 8 := Vector.replicate 8 none
  /-- Slot that holds the grant of a Mooring arbiter in a group of one or two modules (R416). -/
  owner : Option Nat := none
  deriving DecidableEq, Repr

/-- A flash berth operation in progress (R403). -/
structure FlashJob where
  program : Bool
  off : Nat
  src : Nat
  len : Nat
  done : Nat
  deriving DecidableEq, Repr

/-! ### Mooring (R433-R454) -/

/-- The Mooring link (R433-R454). -/
structure Moor where
  /-- Serial numbers of the members known. -/
  serials : List (Nat × Nat) := []
  /-- Instant from which FORMWAIT counts. -/
  formFrom : Option Nat := none
  /-- The count was loaded since the path to the lead came up. -/
  joined : Bool := false
  /-- Consecutive beacons within 12 fine steps, and beyond 4 ns. -/
  good : Nat := 0
  bad : Nat := 0
  /-- Fine part of the count at its last load or move, in fine steps (R439). -/
  fine : Nat := 0
  /-- A beacon has arrived on M0 and M1 since the port came up: the port lies on a path to the lead (R440). -/
  heard : Vector Bool 2 := Vector.replicate 2 false
  /-- The membership found another module with this M-ID (R435). -/
  dup : Bool := false
  /-- Instant of the last alignment (R452). -/
  alignedAt : Nat := 0
  /-- Descriptors of GC0-GC3 held; markers in a row that differ by more than 4 ns. -/
  desc : Vector (Option CarrierDesc) 4 := Vector.replicate 4 none
  badMark : Vector Nat 4 := Vector.replicate 4 0
  /-- GSYNC edges stamped while aligned: their count and the sum of their offsets. -/
  gsN : Nat := 0
  gsSum : Int := 0
  /-- The path to the lead is lost and the member follows GSYNC; its rate trim, 0.001 ppm (R446). -/
  gsFollow : Bool := false
  gsRate : Int := 0
  /-- Retransmissions of M0 and M1 within the last 1 ms (R447). -/
  retx : Vector (List Nat) 2 := Vector.replicate 2 []
  deriving DecidableEq, Repr

/-! ### Power (R457-R476) -/

/-- Reservation of an axis (R459). -/
inductive Resv where
  | none | full | standby
  deriving DecidableEq, Repr

/-- Power entry and the budget manager (R457-R473). -/
structure Pwr where
  /-- Channels that wait for a slot, and the start of the last slot. -/
  queue : List (Fin 26) := []
  slotAt : Option Nat := none
  /-- Axes whose enable was granted, in order of acceptance, until their rails are up or off. -/
  accepted : List (Fin 4) := []
  res : Vector Resv 4 := Vector.replicate 4 .none
  /-- Step 6 of a start is under way. -/
  starting : Bool := false
  /-- Harbourmaster runs: step 4 of the start is done (R463). -/
  up : Bool := false
  /-- Last words: the stamp of the signal while the summary is due. -/
  lwDue : Option Nat := none
  /-- A resumed start is due (R472). -/
  resume : Bool := false
  /-- `PWR_RESET` was written with its key: a module restart is due (R467). -/
  restart : Bool := false
  /-- FW_UPDATE ACTIVATE with RESTART was accepted: its restart is due (R109). -/
  fwact : Bool := false
  /-- The X domain holds DSC by itself. -/
  xDsc : Bool := false
  /-- The collapse of the storage bus. -/
  offAt : Option Nat := none
  /-- The storage bus has collapsed: the supply is off. -/
  off : Bool := true
  deriving DecidableEq, Repr

/-- The state of the module. -/
structure State where
  /-- Commands that wait, first in first out (the block's queue). -/
  pending : List Instr := []
  /-- Counter the free values are drawn with (log entry 2). -/
  free : Nat := 0
  /-- What has left the module, newest first (log entry 3). -/
  out : List Out := []
  /-- The Tide count (R46). -/
  tide : Nat := 0
  /-- Backup oscillator in use (R21). -/
  backup : Bool := false
  /-- Captures of TIDE_NOW and PWM_ZEROLn by requester (and axis) (R48, R286). -/
  caps : List (Nat × Nat) := []
  zcaps : List (Nat × Nat) := []
  /-- Registers, by local address. -/
  regs : List (Nat × Word) := []
  /-- Bytes of shared SRAM, DRAM and flash, by physical address (R39). -/
  mem : List Host.Cell := []
  /-- Coded units of memory found with an uncorrectable error, by first address (R401). -/
  ecc : List Nat := []
  /-- M-ID straps (R4). -/
  mid : Fin 8 := 0
  dl : DLines := {}
  rail : Rail := {}
  asd : AsDisc := {}
  hm : Hm := {}
  fm : FaultMan := {}
  axes : Vector Axis 4 := Vector.replicate 4 {}
  pwm : Vector Carrier 4 := Vector.replicate 4 {}
  legs : Vector Leg 12 := Vector.replicate 12 {}
  gates : Vector Gate 26 := Vector.replicate 26 {}
  bw : Bw := {}
  /-- Last known zero point of group carriers GC0-GC3, and their descriptors (R445). -/
  gcZero : Vector (Option Nat) 4 := Vector.replicate 4 none
  eng : Vector Eng 4 := Vector.replicate 4 {}
  logb : Logb := {}
  adc : Vector Cluster 4 := Vector.replicate 4 {}
  fbk : Vector Port 4 := Vector.replicate 4 {}
  /-- Last valid °C reading of HK channels 0-43, BF32 (R165, R326). -/
  temps : Vector Word 44 := Vector.replicate 44 0
  /-- Zero and gain drift of HK (R163). -/
  hkOd : Int := 0
  hkGd : Int := 0
  /-- HK channels without a factory calibration (R135). -/
  hkUncal : List Nat := []
  perf : Vector PerfUnit 8 := Vector.replicate 8 {}
  lk : Lk := {}
  eth : Eth := {}
  can : Vector CanCtl 4 := Vector.replicate 4 {}
  cores : Vector Core 4 := Vector.replicate 4 {}
  /-- Arbiters of the DRAM port, M0 and M1. -/
  arb : Vector Arb 3 := Vector.replicate 3 {}
  flash : Option FlashJob := none
  moor : Moor := {}
  pwr : Pwr := {}
  deriving DecidableEq, Repr

/-- The module right after power-on reset: every register at its reset value, memory with nothing
listed, no command waiting. -/
def State.reset : State := {}

end Sys2Proof.Machine
end

