-- ==== Sys2Proof/Machine/RegMap.lean ====
section
/-! DEFINITION. The register maps of the module (R42, R74, R168, R169, R200, R226, R286, R311,
R338, R369, R393, R394, R429, R430, R431, R432, R456, R475): the local address of every register,
the place of every field, and the map's row of it (access, reset value, Applies). A local address
is block code x 0x10000 + offset (R13). -/

namespace Sys2Proof.Machine

/-- Access codes of R13. -/
inductive Acc where
  | ro | rw | w1c | rc | wo
  deriving DecidableEq, Repr

/-- The Applies attribute of R15, with the owner of a Stopped field (R127). -/
inductive Applies where
  | none | live | reload | boot
  | stoppedAxis | stoppedModule | stoppedOwner | stoppedPort | stoppedRing | stoppedLogbook
  | stoppedCtrl
  deriving DecidableEq, Repr

/-- A field of one register: its local address, lowest bit and width. -/
structure Fld where
  addr : Nat
  lo : Nat
  len : Nat
  deriving DecidableEq, Repr

/-- One row of a register map: a field with its access code, reset value and Applies. -/
structure FDesc where
  lo : Nat
  len : Nat
  acc : Acc
  reset : Nat
  applies : Applies
  deriving DecidableEq, Repr

/-- One register of a map: local address of its first instance, the (count, stride) of each index
from the widest stride to the narrowest, and its fields. -/
structure RDesc where
  base : Nat
  dims : List (Nat × Nat)
  fields : List FDesc
  deriving DecidableEq, Repr

namespace Reg

def SYS_ID : Nat := 0x00000
def SYS_ID_PART : Fld := ⟨SYS_ID, 16, 16⟩
def SYS_ID_STEP : Fld := ⟨SYS_ID, 8, 8⟩
def SYS_ID_MINOR : Fld := ⟨SYS_ID, 0, 8⟩
def SYS_MODID : Nat := 0x00004
def SYS_MODID_MID : Fld := ⟨SYS_MODID, 0, 3⟩
def SYS_MODID_LEAD : Fld := ⟨SYS_MODID, 3, 1⟩
def SYS_WHOAMI : Nat := 0x00008
def SYS_WHOAMI_REQ : Fld := ⟨SYS_WHOAMI, 0, 7⟩
def SYS_MODSTATE : Nat := 0x0000C
def SYS_MODSTATE_STATE : Fld := ⟨SYS_MODSTATE, 0, 3⟩
def SYS_AXCFG : Nat := 0x00010
def SYS_AXCFG_PAIR01 : Fld := ⟨SYS_AXCFG, 0, 2⟩
def SYS_AXCFG_PAIR23 : Fld := ⟨SYS_AXCFG, 2, 2⟩
def SYS_AXCFG_SIXDBL : Fld := ⟨SYS_AXCFG, 4, 1⟩
def SYS_AXCFG_TYPE0 : Fld := ⟨SYS_AXCFG, 8, 2⟩
def SYS_AXCFG_TYPE1 : Fld := ⟨SYS_AXCFG, 10, 2⟩
def SYS_AXCFG_TYPE2 : Fld := ⟨SYS_AXCFG, 12, 2⟩
def SYS_AXCFG_TYPE3 : Fld := ⟨SYS_AXCFG, 14, 2⟩
def SYS_ACCERR : Nat := 0x00014
def SYS_ACCERR_REQ : Fld := ⟨SYS_ACCERR, 0, 7⟩
def SYS_ACCERR_WRITE : Fld := ⟨SYS_ACCERR, 7, 1⟩
def SYS_ACCERR_KIND : Fld := ⟨SYS_ACCERR, 8, 3⟩
def SYS_ACCERR_VALID : Fld := ⟨SYS_ACCERR, 31, 1⟩
def SYS_ACCERR_ADDL : Nat := 0x00018
def SYS_ACCERR_ADDL_ADDR : Fld := ⟨SYS_ACCERR_ADDL, 0, 32⟩
def SYS_ACCERR_ADDH : Nat := 0x0001C
def SYS_ACCERR_ADDH_ADDR : Fld := ⟨SYS_ACCERR_ADDH, 0, 8⟩
def SYS_ACCERR_CNT : Nat := 0x00020
def SYS_ACCERR_CNT_COUNT : Fld := ⟨SYS_ACCERR_CNT, 0, 16⟩
def SYS_ACWPERM : Nat := 0x00024
def SYS_ACWPERM_EN : Fld := ⟨SYS_ACWPERM, 0, 18⟩

def TIDE_CTL : Nat := 0x10000
def TIDE_CTL_REFSEL : Fld := ⟨TIDE_CTL, 0, 1⟩
def TIDE_CTL_ASEN : Fld := ⟨TIDE_CTL, 1, 1⟩
def TIDE_CTL_ASPORT : Fld := ⟨TIDE_CTL, 2, 2⟩
def TIDE_CTL_TRIMEN : Fld := ⟨TIDE_CTL, 4, 1⟩
def TIDE_STATUS : Nat := 0x10004
def TIDE_STATUS_LOCK : Fld := ⟨TIDE_STATUS, 0, 1⟩
def TIDE_STATUS_REFACT : Fld := ⟨TIDE_STATUS, 1, 1⟩
def TIDE_STATUS_REFLOST : Fld := ⟨TIDE_STATUS, 2, 1⟩
def TIDE_STATUS_ASLOCK : Fld := ⟨TIDE_STATUS, 3, 1⟩
def TIDE_STATUS_ASHOLD : Fld := ⟨TIDE_STATUS, 4, 1⟩
def TIDE_STATUS_BOOST : Fld := ⟨TIDE_STATUS, 5, 1⟩
def TIDE_STATUS_ALIGNED : Fld := ⟨TIDE_STATUS, 6, 1⟩
def TIDE_STATUS_EPOCH : Fld := ⟨TIDE_STATUS, 8, 8⟩
def TIDE_NOW_L : Nat := 0x10008
def TIDE_NOW_L_COUNT : Fld := ⟨TIDE_NOW_L, 0, 32⟩
def TIDE_NOW_H : Nat := 0x1000C
def TIDE_NOW_H_COUNT : Fld := ⟨TIDE_NOW_H, 0, 32⟩
def TIDE_DLCAL : Nat := 0x10010
def TIDE_DLCAL_ROUNDS : Fld := ⟨TIDE_DLCAL, 0, 16⟩
def TIDE_DLCAL_LINE : Fld := ⟨TIDE_DLCAL, 16, 5⟩
def TIDE_DLCAL_REJ : Fld := ⟨TIDE_DLCAL, 24, 1⟩
def TIDE_DLCOARSE : Nat := 0x10014
def TIDE_DLCOARSE_COARSE : Fld := ⟨TIDE_DLCOARSE, 0, 28⟩
def TIDE_DLSEL : Nat := 0x10018
def TIDE_DLSEL_LINE : Fld := ⟨TIDE_DLSEL, 0, 5⟩
def TIDE_DLDATA : Nat := 0x1001C
def TIDE_DLDATA_TAPS : Fld := ⟨TIDE_DLDATA, 0, 6⟩
def TIDE_DLDATA_REJCNT : Fld := ⟨TIDE_DLDATA, 8, 4⟩
def TIDE_RAIL : Nat := 0x10020
def TIDE_RAIL_VCODE : Fld := ⟨TIDE_RAIL, 0, 5⟩
def TIDE_RAIL_VMIN : Fld := ⟨TIDE_RAIL, 8, 5⟩
def TIDE_RAIL_VMAX : Fld := ⟨TIDE_RAIL, 16, 5⟩
def TIDE_MARGIN (n : Nat) : Nat := 0x10030 + 0x4 * n
def TIDE_MARGIN_LAST (n : Nat) : Fld := ⟨TIDE_MARGIN n, 0, 10⟩
def TIDE_MARGIN_PEAK (n : Nat) : Fld := ⟨TIDE_MARGIN n, 16, 10⟩
def TIDE_MISS (n : Nat) : Nat := 0x10050 + 0x4 * n
def TIDE_MISS_TOTAL (n : Nat) : Fld := ⟨TIDE_MISS n, 0, 16⟩
def TIDE_MISS_CONSEC (n : Nat) : Fld := ⟨TIDE_MISS n, 16, 2⟩
def TIDE_CANARY (n : Nat) : Nat := 0x10060 + 0x4 * n
def TIDE_CANARY_DELAY (n : Nat) : Fld := ⟨TIDE_CANARY n, 0, 16⟩
def TIDE_ASERR : Nat := 0x10080
def TIDE_ASERR_ERR : Fld := ⟨TIDE_ASERR, 0, 32⟩
def TIDE_ASRATE : Nat := 0x10084
def TIDE_ASRATE_TRIM : Fld := ⟨TIDE_ASRATE, 0, 18⟩
def TIDE_ASBASE_NS : Nat := 0x10088
def TIDE_ASBASE_NS_NS : Fld := ⟨TIDE_ASBASE_NS, 0, 30⟩
def TIDE_ASBASE_SL : Nat := 0x1008C
def TIDE_ASBASE_SL_SEC : Fld := ⟨TIDE_ASBASE_SL, 0, 32⟩
def TIDE_ASBASE_SH : Nat := 0x10090
def TIDE_ASBASE_SH_SEC : Fld := ⟨TIDE_ASBASE_SH, 0, 16⟩
def TIDE_JOINOFS_L : Nat := 0x100A0
def TIDE_JOINOFS_L_OFS : Fld := ⟨TIDE_JOINOFS_L, 0, 32⟩
def TIDE_JOINOFS_H : Nat := 0x100A4
def TIDE_JOINOFS_H_OFS : Fld := ⟨TIDE_JOINOFS_H, 0, 32⟩

def ADC_TEST (n : Nat) : Nat := 0x40000 + 0x400 * n
def ADC_TEST_CODE (n : Nat) : Fld := ⟨ADC_TEST n, 0, 12⟩
def ADC_TEST_IN (n : Nat) : Fld := ⟨ADC_TEST n, 12, 3⟩
def ADC_TEST_CONNECT (n : Nat) : Fld := ⟨ADC_TEST n, 15, 1⟩
def ADC_STATUS (n : Nat) : Nat := 0x40004 + 0x400 * n
def ADC_STATUS_FALLOW (n : Nat) : Fld := ⟨ADC_STATUS n, 0, 4⟩
def ADC_STATUS_ROTSTOP (n : Nat) : Fld := ⟨ADC_STATUS n, 4, 1⟩
def ADC_STATUS_RETIRED (n : Nat) : Fld := ⟨ADC_STATUS n, 8, 9⟩
def ADC_STATUS_OVERRUN (n : Nat) : Fld := ⟨ADC_STATUS n, 17, 1⟩
def ADC_STATUS_STUCK (n : Nat) : Fld := ⟨ADC_STATUS n, 18, 1⟩
def ADC_STATUS_REJ (n : Nat) : Fld := ⟨ADC_STATUS n, 19, 1⟩
def ADC_STATUS_REFFAIL (n : Nat) : Fld := ⟨ADC_STATUS n, 20, 1⟩
def ADC_STATUS_SEQ (n : Nat) : Fld := ⟨ADC_STATUS n, 24, 8⟩
def ADC_MAP (n : Nat) : Nat := 0x40008 + 0x400 * n
def ADC_MAP_SL0 (n : Nat) : Fld := ⟨ADC_MAP n, 0, 4⟩
def ADC_MAP_SL1 (n : Nat) : Fld := ⟨ADC_MAP n, 4, 4⟩
def ADC_MAP_SL2 (n : Nat) : Fld := ⟨ADC_MAP n, 8, 4⟩
def ADC_MAP_SL3 (n : Nat) : Fld := ⟨ADC_MAP n, 12, 4⟩
def ADC_MAP_SL4 (n : Nat) : Fld := ⟨ADC_MAP n, 16, 4⟩
def ADC_MAP_SL5 (n : Nat) : Fld := ⟨ADC_MAP n, 20, 4⟩
def ADC_MAP_SL6 (n : Nat) : Fld := ⟨ADC_MAP n, 24, 4⟩
def ADC_MAP_SL7 (n : Nat) : Fld := ⟨ADC_MAP n, 28, 4⟩
def ADC_FLAGS (n : Nat) : Nat := 0x4000C + 0x400 * n
def ADC_FLAGS_OVR (n : Nat) : Fld := ⟨ADC_FLAGS n, 0, 8⟩
def ADC_FLAGS_CLIP (n : Nat) : Fld := ⟨ADC_FLAGS n, 8, 8⟩
def ADC_FLAGS_HANDOVER (n : Nat) : Fld := ⟨ADC_FLAGS n, 16, 8⟩
def ADC_OVRUN (n : Nat) : Nat := 0x40010 + 0x400 * n
def ADC_OVRUN_COUNT (n : Nat) : Fld := ⟨ADC_OVRUN n, 0, 16⟩
def ADC_RES (n k : Nat) : Nat := 0x40020 + 0x400 * n + 0x4 * k
def ADC_RES_WORD (n k : Nat) : Fld := ⟨ADC_RES n k, 0, 32⟩
def ADC_VAL (n k : Nat) : Nat := 0x40040 + 0x400 * n + 0x4 * k
def ADC_VAL_VALUE (n k : Nat) : Fld := ⟨ADC_VAL n k, 0, 32⟩
def ADC_SCALE (n k : Nat) : Nat := 0x40060 + 0x400 * n + 0x4 * k
def ADC_SCALE_SCALE (n k : Nat) : Fld := ⟨ADC_SCALE n k, 0, 32⟩
def ADC_GTRIM (n k : Nat) : Nat := 0x40080 + 0x400 * n + 0x4 * k
def ADC_GTRIM_GU (n k : Nat) : Fld := ⟨ADC_GTRIM n k, 0, 18⟩
def ADC_OTRIM (n k : Nat) : Nat := 0x400A0 + 0x400 * n + 0x4 * k
def ADC_OTRIM_OU (n k : Nat) : Fld := ⟨ADC_OTRIM n k, 0, 18⟩
def ADC_DRIFT (n s : Nat) : Nat := 0x400C0 + 0x400 * n + 0x4 * s
def ADC_DRIFT_GD (n s : Nat) : Fld := ⟨ADC_DRIFT n s, 0, 16⟩
def ADC_DRIFT_OD (n s : Nat) : Fld := ⟨ADC_DRIFT n s, 16, 16⟩
def ADC_DACGT (n : Nat) : Nat := 0x400F0 + 0x400 * n
def ADC_DACGT_GU (n : Nat) : Fld := ⟨ADC_DACGT n, 0, 18⟩
def ADC_DACOT (n : Nat) : Nat := 0x400F4 + 0x400 * n
def ADC_DACOT_OU (n : Nat) : Fld := ⟨ADC_DACOT n, 0, 18⟩
def ADC_VHVCTL : Nat := 0x41000
def ADC_VHVCTL_FS : Fld := ⟨ADC_VHVCTL, 0, 11⟩
def ADC_VHVRES : Nat := 0x41004
def ADC_VHVRES_CODE : Fld := ⟨ADC_VHVRES, 0, 16⟩
def ADC_VHVRES_SAT : Fld := ⟨ADC_VHVRES, 16, 1⟩
def ADC_VHVRES_SEQ : Fld := ⟨ADC_VHVRES, 24, 8⟩
def ADC_VHVVAL : Nat := 0x41008
def ADC_VHVVAL_VALUE : Fld := ⟨ADC_VHVVAL, 0, 32⟩
def ADC_VHVGT : Nat := 0x4100C
def ADC_VHVGT_GU : Fld := ⟨ADC_VHVGT, 0, 18⟩
def ADC_VHVOT : Nat := 0x41010
def ADC_VHVOT_OU : Fld := ⟨ADC_VHVOT, 0, 18⟩
def ADC_VHVSTAT : Nat := 0x41014
def ADC_VHVSTAT_VALID : Fld := ⟨ADC_VHVSTAT, 0, 1⟩
def ADC_VHVSTAT_FAIL : Fld := ⟨ADC_VHVSTAT, 1, 1⟩

def HK_CTL : Nat := 0xE0000
def HK_CTL_PERIOD : Fld := ⟨HK_CTL, 0, 7⟩
def HK_STATUS : Nat := 0xE0004
def HK_STATUS_ROUNDS : Fld := ⟨HK_STATUS, 0, 16⟩
def HK_STATUS_REFFAIL : Fld := ⟨HK_STATUS, 16, 1⟩
def HK_STATUS_BUSY : Fld := ⟨HK_STATUS, 17, 1⟩
def HK_TPCFG (t : Nat) : Nat := 0xE0010 + 0x4 * t
def HK_TPCFG_TYPE (t : Nat) : Fld := ⟨HK_TPCFG t, 0, 2⟩
def HK_TPCFG_OPEN (t : Nat) : Fld := ⟨HK_TPCFG t, 2, 1⟩
def HK_TPCFG_SHORT (t : Nat) : Fld := ⟨HK_TPCFG t, 3, 1⟩
def HK_TPRNOM (t : Nat) : Nat := 0xE0030 + 0x4 * t
def HK_TPRNOM_RNOM (t : Nat) : Fld := ⟨HK_TPRNOM t, 0, 32⟩
def HK_TPP1 (t : Nat) : Nat := 0xE0050 + 0x4 * t
def HK_TPP1_P1 (t : Nat) : Fld := ⟨HK_TPP1 t, 0, 32⟩
def HK_TPP2 (t : Nat) : Nat := 0xE0070 + 0x4 * t
def HK_TPP2_P2 (t : Nat) : Fld := ⟨HK_TPP2 t, 0, 32⟩
def HK_TPOHM (t : Nat) : Nat := 0xE0090 + 0x4 * t
def HK_TPOHM_OHM (t : Nat) : Fld := ⟨HK_TPOHM t, 0, 32⟩
def HK_RES (c : Nat) : Nat := 0xE0100 + 0x4 * c
def HK_RES_SUM (c : Nat) : Fld := ⟨HK_RES c, 0, 15⟩
def HK_RES_ROUND (c : Nat) : Fld := ⟨HK_RES c, 24, 8⟩
def HK_VAL (c : Nat) : Nat := 0xE0200 + 0x4 * c
def HK_VAL_VALUE (c : Nat) : Fld := ⟨HK_VAL c, 0, 32⟩
def HK_GT (c : Nat) : Nat := 0xE0300 + 0x4 * c
def HK_GT_GU (c : Nat) : Fld := ⟨HK_GT c, 0, 18⟩
def HK_OT (c : Nat) : Nat := 0xE0400 + 0x4 * c
def HK_OT_OU (c : Nat) : Fld := ⟨HK_OT c, 0, 18⟩

def FBK_MODE (n : Nat) : Nat := 0x50000 + 0x100 * n
def FBK_MODE_MODE (n : Nat) : Fld := ⟨FBK_MODE n, 0, 3⟩
def FBK_MODE_INV (n : Nat) : Fld := ⟨FBK_MODE n, 3, 1⟩
def FBK_MODE_SUPEN (n : Nat) : Fld := ⟨FBK_MODE n, 4, 1⟩
def FBK_MODE_ZREF (n : Nat) : Fld := ⟨FBK_MODE n, 5, 1⟩
def FBK_MODE_SPDR (n : Nat) : Fld := ⟨FBK_MODE n, 8, 4⟩
def FBK_MODE_PP (n : Nat) : Fld := ⟨FBK_MODE n, 16, 6⟩
def FBK_CPR (n : Nat) : Nat := 0x50004 + 0x100 * n
def FBK_CPR_CPR (n : Nat) : Fld := ⟨FBK_CPR n, 0, 32⟩
def FBK_FILT (n : Nat) : Nat := 0x50008 + 0x100 * n
def FBK_FILT_FILT (n : Nat) : Fld := ⟨FBK_FILT n, 0, 10⟩
def FBK_SPDCFG (n : Nat) : Nat := 0x5000C + 0x100 * n
def FBK_SPDCFG_WIN (n : Nat) : Fld := ⟨FBK_SPDCFG n, 0, 10⟩
def FBK_SPDCFG_TIMEOUT (n : Nat) : Fld := ⟨FBK_SPDCFG n, 16, 10⟩
def FBK_STATUS (n : Nat) : Nat := 0x50010 + 0x100 * n
def FBK_STATUS_VALID (n : Nat) : Fld := ⟨FBK_STATUS n, 0, 1⟩
def FBK_STATUS_EANG_VALID (n : Nat) : Fld := ⟨FBK_STATUS n, 1, 1⟩
def FBK_STATUS_SPD_VALID (n : Nat) : Fld := ⟨FBK_STATUS n, 2, 1⟩
def FBK_STATUS_DIR (n : Nat) : Fld := ⟨FBK_STATUS n, 3, 1⟩
def FBK_STATUS_SIGN (n : Nat) : Fld := ⟨FBK_STATUS n, 4, 1⟩
def FBK_STATUS_IDXSEEN (n : Nat) : Fld := ⟨FBK_STATUS n, 5, 1⟩
def FBK_STATUS_LOCK (n : Nat) : Fld := ⟨FBK_STATUS n, 6, 1⟩
def FBK_STATUS_WIRE (n : Nat) : Fld := ⟨FBK_STATUS n, 7, 1⟩
def FBK_STATUS_SUPFAIL (n : Nat) : Fld := ⟨FBK_STATUS n, 8, 1⟩
def FBK_STATUS_ILLEGAL (n : Nat) : Fld := ⟨FBK_STATUS n, 9, 1⟩
def FBK_STATUS_SSIERR (n : Nat) : Fld := ⟨FBK_STATUS n, 10, 1⟩
def FBK_COUNT (n : Nat) : Nat := 0x50014 + 0x100 * n
def FBK_COUNT_COUNT (n : Nat) : Fld := ⟨FBK_COUNT n, 0, 32⟩
def FBK_IDXLAT (n : Nat) : Nat := 0x50018 + 0x100 * n
def FBK_IDXLAT_LATCH (n : Nat) : Fld := ⟨FBK_IDXLAT n, 0, 32⟩
def FBK_IDXDELTA (n : Nat) : Nat := 0x5001C + 0x100 * n
def FBK_IDXDELTA_DELTA (n : Nat) : Fld := ⟨FBK_IDXDELTA n, 0, 32⟩
def FBK_IDXCFG (n : Nat) : Nat := 0x50020 + 0x100 * n
def FBK_IDXCFG_TOL (n : Nat) : Fld := ⟨FBK_IDXCFG n, 0, 16⟩
def FBK_IDXCFG_ZGATE (n : Nat) : Fld := ⟨FBK_IDXCFG n, 16, 2⟩
def FBK_ERRCNT (n : Nat) : Nat := 0x50024 + 0x100 * n
def FBK_ERRCNT_ILL (n : Nat) : Fld := ⟨FBK_ERRCNT n, 0, 8⟩
def FBK_ERRCNT_IDXERR (n : Nat) : Fld := ⟨FBK_ERRCNT n, 8, 8⟩
def FBK_ERRCNT_SSIERR (n : Nat) : Fld := ⟨FBK_ERRCNT n, 16, 8⟩
def FBK_ERRCNT_SKIP (n : Nat) : Fld := ⟨FBK_ERRCNT n, 24, 8⟩
def FBK_POS (n : Nat) : Nat := 0x50028 + 0x100 * n
def FBK_POS_POS (n : Nat) : Fld := ⟨FBK_POS n, 0, 32⟩
def FBK_EANG (n : Nat) : Nat := 0x5002C + 0x100 * n
def FBK_EANG_EANG (n : Nat) : Fld := ⟨FBK_EANG n, 0, 16⟩
def FBK_EANG_AGE (n : Nat) : Fld := ⟨FBK_EANG n, 16, 16⟩
def FBK_EOFS (n : Nat) : Nat := 0x50030 + 0x100 * n
def FBK_EOFS_EOFS (n : Nat) : Fld := ⟨FBK_EOFS n, 0, 32⟩
def FBK_SPEED (n : Nat) : Nat := 0x50034 + 0x100 * n
def FBK_SPEED_SPEED (n : Nat) : Fld := ⟨FBK_SPEED n, 0, 32⟩
def FBK_IRQ (n : Nat) : Nat := 0x50038 + 0x100 * n
def FBK_IRQ_DIR (n : Nat) : Fld := ⟨FBK_IRQ n, 0, 1⟩
def FBK_IRQ_IDX (n : Nat) : Fld := ⟨FBK_IRQ n, 1, 1⟩
def FBK_IRQ_ILLEGAL (n : Nat) : Fld := ⟨FBK_IRQ n, 2, 1⟩
def FBK_IRQ_WIRE (n : Nat) : Fld := ⟨FBK_IRQ n, 3, 1⟩
def FBK_IRQ_SENSOR (n : Nat) : Fld := ⟨FBK_IRQ n, 4, 1⟩
def FBK_IRQ_OBS (n : Nat) : Fld := ⟨FBK_IRQ n, 5, 1⟩
def FBK_IRQ_EN (n : Nat) : Fld := ⟨FBK_IRQ n, 16, 6⟩
def FBK_RESCFG (n : Nat) : Nat := 0x50040 + 0x100 * n
def FBK_RESCFG_EXCPER (n : Nat) : Fld := ⟨FBK_RESCFG n, 0, 17⟩
def FBK_RESCFG_AMP (n : Nat) : Fld := ⟨FBK_RESCFG n, 17, 6⟩
def FBK_RESCFG_RANGE (n : Nat) : Fld := ⟨FBK_RESCFG n, 23, 1⟩
def FBK_RESCFG_BW (n : Nat) : Fld := ⟨FBK_RESCFG n, 24, 2⟩
def FBK_RESCFG_EXCEN (n : Nat) : Fld := ⟨FBK_RESCFG n, 26, 1⟩
def FBK_RESANOM (n : Nat) : Nat := 0x50044 + 0x100 * n
def FBK_RESANOM_ANOM (n : Nat) : Fld := ⟨FBK_RESANOM n, 0, 16⟩
def FBK_RESAMP (n : Nat) : Nat := 0x50048 + 0x100 * n
def FBK_RESAMP_AMP (n : Nat) : Fld := ⟨FBK_RESAMP n, 0, 16⟩
def FBK_RESAMP_PHASE (n : Nat) : Fld := ⟨FBK_RESAMP n, 16, 16⟩
def FBK_SSICFG (n : Nat) : Nat := 0x50050 + 0x100 * n
def FBK_SSICFG_BITS (n : Nat) : Fld := ⟨FBK_SSICFG n, 0, 6⟩
def FBK_SSICFG_GRAY (n : Nat) : Fld := ⟨FBK_SSICFG n, 6, 1⟩
def FBK_SSICFG_ERREN (n : Nat) : Fld := ⟨FBK_SSICFG n, 7, 1⟩
def FBK_SSICFG_CLKPER (n : Nat) : Fld := ⟨FBK_SSICFG n, 8, 12⟩
def FBK_SSICFG_TM (n : Nat) : Fld := ⟨FBK_SSICFG n, 20, 6⟩
def FBK_SSIDLY (n : Nat) : Nat := 0x50054 + 0x100 * n
def FBK_SSIDLY_DELAY (n : Nat) : Fld := ⟨FBK_SSIDLY n, 0, 12⟩
def FBK_SSIRAW (n : Nat) : Nat := 0x50058 + 0x100 * n
def FBK_SSIRAW_RAW (n : Nat) : Fld := ⟨FBK_SSIRAW n, 0, 32⟩
def FBK_SSISTEP (n : Nat) : Nat := 0x5005C + 0x100 * n
def FBK_SSISTEP_MAXSTEP (n : Nat) : Fld := ⟨FBK_SSISTEP n, 0, 32⟩
def FBK_HALL (n : Nat) : Nat := 0x50060 + 0x100 * n
def FBK_HALL_STATE (n : Nat) : Fld := ⟨FBK_HALL n, 0, 3⟩
def FBK_HALL_OFS (n : Nat) : Fld := ⟨FBK_HALL n, 16, 16⟩
def FBK_OBSANG (n : Nat) : Nat := 0x50070 + 0x100 * n
def FBK_OBSANG_EANG (n : Nat) : Fld := ⟨FBK_OBSANG n, 0, 16⟩
def FBK_OBSSPD (n : Nat) : Nat := 0x50074 + 0x100 * n
def FBK_OBSSPD_SPEED (n : Nat) : Fld := ⟨FBK_OBSSPD n, 0, 32⟩
def FBK_OBSRES (n : Nat) : Nat := 0x50078 + 0x100 * n
def FBK_OBSRES_RES (n : Nat) : Fld := ⟨FBK_OBSRES n, 0, 32⟩
def FBK_OBSLOSS (n : Nat) : Nat := 0x5007C + 0x100 * n
def FBK_OBSLOSS_OBS_LOSS (n : Nat) : Fld := ⟨FBK_OBSLOSS n, 0, 32⟩
def FBK_OBSCFG (n : Nat) : Nat := 0x50080 + 0x100 * n
def FBK_OBSCFG_TIME (n : Nat) : Fld := ⟨FBK_OBSCFG n, 0, 16⟩
def FBK_OBSCFG_ACTIVE (n : Nat) : Fld := ⟨FBK_OBSCFG n, 16, 1⟩
def FBK_OBSCFG_LOST (n : Nat) : Fld := ⟨FBK_OBSCFG n, 17, 1⟩

def LE_CTL (n : Nat) : Nat := 0x60000 + 0x100 * n
def LE_CTL_PILOTEN (n : Nat) : Fld := ⟨LE_CTL n, 0, 1⟩
def LE_CTL_GO (n : Nat) : Fld := ⟨LE_CTL n, 1, 1⟩
def LE_ENTRY (n : Nat) : Nat := 0x60004 + 0x100 * n
def LE_ENTRY_PILOT (n : Nat) : Fld := ⟨LE_ENTRY n, 0, 13⟩
def LE_ENTRY_FULL (n : Nat) : Fld := ⟨LE_ENTRY n, 16, 13⟩
def LE_STATUS (n : Nat) : Nat := 0x60008 + 0x100 * n
def LE_STATUS_PHASE (n : Nat) : Fld := ⟨LE_STATUS n, 0, 3⟩
def LE_STATUS_PC (n : Nat) : Fld := ⟨LE_STATUS n, 8, 13⟩
def LE_STATUS_PRED (n : Nat) : Fld := ⟨LE_STATUS n, 24, 8⟩
def LE_FLAGS (n : Nat) : Nat := 0x6000C + 0x100 * n
def LE_FLAGS_SAT (n : Nat) : Fld := ⟨LE_FLAGS n, 0, 1⟩
def LE_FLAGS_EXOV (n : Nat) : Fld := ⟨LE_FLAGS n, 1, 1⟩
def LE_FLAGS_EXUF (n : Nat) : Fld := ⟨LE_FLAGS n, 2, 1⟩
def LE_FLAGS_DIVZ (n : Nat) : Fld := ⟨LE_FLAGS n, 3, 1⟩
def LE_FLAGS_DOM (n : Nat) : Fld := ⟨LE_FLAGS n, 4, 1⟩
def LE_FLAGS_OVM (n : Nat) : Fld := ⟨LE_FLAGS n, 5, 1⟩
def LE_FLAGS_PORTERR (n : Nat) : Fld := ⟨LE_FLAGS n, 6, 1⟩
def LE_FLAGS_ILLOP (n : Nat) : Fld := ⟨LE_FLAGS n, 7, 1⟩
def LE_FLAGADDR (n : Nat) : Nat := 0x60010 + 0x100 * n
def LE_FLAGADDR_WORD (n : Nat) : Fld := ⟨LE_FLAGADDR n, 0, 13⟩
def LE_FLAGADDR_FLAG (n : Nat) : Fld := ⟨LE_FLAGADDR n, 16, 3⟩
def LE_FLAGADDR_VALID (n : Nat) : Fld := ⟨LE_FLAGADDR n, 31, 1⟩
def LE_PORTERR (n : Nat) : Nat := 0x60014 + 0x100 * n
def LE_PORTERR_ENTRY (n : Nat) : Fld := ⟨LE_PORTERR n, 0, 18⟩
def LE_PORTERR_SPACE (n : Nat) : Fld := ⟨LE_PORTERR n, 18, 2⟩
def LE_PORTERR_WRITE (n : Nat) : Fld := ⟨LE_PORTERR n, 20, 1⟩
def LE_PORTERR_VALID (n : Nat) : Fld := ⟨LE_PORTERR n, 31, 1⟩
def LE_HIT (n : Nat) : Nat := 0x60018 + 0x100 * n
def LE_HIT_COUNT (n : Nat) : Fld := ⟨LE_HIT n, 0, 32⟩
def LE_MISS (n : Nat) : Nat := 0x6001C + 0x100 * n
def LE_MISS_COUNT (n : Nat) : Fld := ⟨LE_MISS n, 0, 32⟩
def LE_SQUASH (n : Nat) : Nat := 0x60020 + 0x100 * n
def LE_SQUASH_COUNT (n : Nat) : Fld := ⟨LE_SQUASH n, 0, 32⟩
def LE_PASS (n : Nat) : Nat := 0x60024 + 0x100 * n
def LE_PASS_PILOT (n : Nat) : Fld := ⟨LE_PASS n, 0, 16⟩
def LE_PASS_FULL (n : Nat) : Fld := ⟨LE_PASS n, 16, 16⟩

def PWM_CTL (n : Nat) : Nat := 0x20000 + 0x100 * n
def PWM_CTL_EN (n : Nat) : Fld := ⟨PWM_CTL n, 0, 1⟩
def PWM_CTL_MODE (n : Nat) : Fld := ⟨PWM_CTL n, 1, 1⟩
def PWM_CTL_RELOAD (n : Nat) : Fld := ⟨PWM_CTL n, 2, 2⟩
def PWM_CTL_SRC (n : Nat) : Fld := ⟨PWM_CTL n, 4, 4⟩
def PWM_PERIOD (n : Nat) : Nat := 0x20004 + 0x100 * n
def PWM_PERIOD_PERIOD (n : Nat) : Fld := ⟨PWM_PERIOD n, 0, 24⟩
def PWM_PHASE (n : Nat) : Nat := 0x20008 + 0x100 * n
def PWM_PHASE_FINE (n : Nat) : Fld := ⟨PWM_PHASE n, 0, 5⟩
def PWM_PHASE_TICK (n : Nat) : Fld := ⟨PWM_PHASE n, 5, 24⟩
def PWM_SOFS0 (n : Nat) : Nat := 0x2000C + 0x100 * n
def PWM_SOFS0_FINE (n : Nat) : Fld := ⟨PWM_SOFS0 n, 0, 5⟩
def PWM_SOFS0_TICK (n : Nat) : Fld := ⟨PWM_SOFS0 n, 5, 24⟩
def PWM_SOFS0_EN (n : Nat) : Fld := ⟨PWM_SOFS0 n, 31, 1⟩
def PWM_SOFS1 (n : Nat) : Nat := 0x20010 + 0x100 * n
def PWM_SOFS1_FINE (n : Nat) : Fld := ⟨PWM_SOFS1 n, 0, 5⟩
def PWM_SOFS1_TICK (n : Nat) : Fld := ⟨PWM_SOFS1 n, 5, 24⟩
def PWM_SOFS1_EN (n : Nat) : Fld := ⟨PWM_SOFS1 n, 31, 1⟩
def PWM_SWIN (n : Nat) : Nat := 0x20014 + 0x100 * n
def PWM_SWIN_WIN (n : Nat) : Fld := ⟨PWM_SWIN n, 0, 12⟩
def PWM_ICMP0 (n : Nat) : Nat := 0x20018 + 0x100 * n
def PWM_ICMP0_POS (n : Nat) : Fld := ⟨PWM_ICMP0 n, 0, 24⟩
def PWM_ICMP0_EN (n : Nat) : Fld := ⟨PWM_ICMP0 n, 31, 1⟩
def PWM_ICMP1 (n : Nat) : Nat := 0x2001C + 0x100 * n
def PWM_ICMP1_POS (n : Nat) : Fld := ⟨PWM_ICMP1 n, 0, 24⟩
def PWM_ICMP1_EN (n : Nat) : Fld := ⟨PWM_ICMP1 n, 31, 1⟩
def PWM_PRES (n : Nat) : Nat := 0x20020 + 0x100 * n
def PWM_PRES_ZERO (n : Nat) : Fld := ⟨PWM_PRES n, 0, 8⟩
def PWM_PRES_PERIOD (n : Nat) : Fld := ⟨PWM_PRES n, 8, 8⟩
def PWM_PRES_CMP0 (n : Nat) : Fld := ⟨PWM_PRES n, 16, 8⟩
def PWM_PRES_CMP1 (n : Nat) : Fld := ⟨PWM_PRES n, 24, 8⟩
def PWM_IRQ (n : Nat) : Nat := 0x20024 + 0x100 * n
def PWM_IRQ_ZERO (n : Nat) : Fld := ⟨PWM_IRQ n, 0, 1⟩
def PWM_IRQ_PERIOD (n : Nat) : Fld := ⟨PWM_IRQ n, 1, 1⟩
def PWM_IRQ_CMP0 (n : Nat) : Fld := ⟨PWM_IRQ n, 2, 1⟩
def PWM_IRQ_CMP1 (n : Nat) : Fld := ⟨PWM_IRQ n, 3, 1⟩
def PWM_IRQ_LOCKLOST (n : Nat) : Fld := ⟨PWM_IRQ n, 4, 1⟩
def PWM_IRQ_EN (n : Nat) : Fld := ⟨PWM_IRQ n, 16, 5⟩
def PWM_STATUS (n : Nat) : Nat := 0x20028 + 0x100 * n
def PWM_STATUS_RUNNING (n : Nat) : Fld := ⟨PWM_STATUS n, 0, 1⟩
def PWM_STATUS_DOWN (n : Nat) : Fld := ⟨PWM_STATUS n, 1, 1⟩
def PWM_STATUS_LOCKED (n : Nat) : Fld := ⟨PWM_STATUS n, 2, 1⟩
def PWM_STATUS_WAIT (n : Nat) : Fld := ⟨PWM_STATUS n, 3, 1⟩
def PWM_STATUS_OUT (n : Nat) : Fld := ⟨PWM_STATUS n, 4, 2⟩
def PWM_COUNT (n : Nat) : Nat := 0x2002C + 0x100 * n
def PWM_COUNT_COUNT (n : Nat) : Fld := ⟨PWM_COUNT n, 0, 24⟩
def PWM_ZEROL (n : Nat) : Nat := 0x20030 + 0x100 * n
def PWM_ZEROL_TIDE (n : Nat) : Fld := ⟨PWM_ZEROL n, 0, 32⟩
def PWM_ZEROH (n : Nat) : Nat := 0x20034 + 0x100 * n
def PWM_ZEROH_TIDE (n : Nat) : Fld := ⟨PWM_ZEROH n, 0, 32⟩
def PWM_LATE (n : Nat) : Nat := 0x20038 + 0x100 * n
def PWM_LATE_COUNT (n : Nat) : Fld := ⟨PWM_LATE n, 0, 16⟩
def PWM_FORCE (n : Nat) : Nat := 0x2003C + 0x100 * n
def PWM_FORCE_CH (n : Nat) : Fld := ⟨PWM_FORCE n, 0, 24⟩
def PWM_FORCE_FEN (n : Nat) : Fld := ⟨PWM_FORCE n, 31, 1⟩
def PWM_DT (l : Nat) : Nat := 0x20800 + 0x40 * l
def PWM_DT_FINE (l : Nat) : Fld := ⟨PWM_DT l, 0, 5⟩
def PWM_DT_TICK (l : Nat) : Fld := ⟨PWM_DT l, 5, 13⟩
def PWM_MINP (l : Nat) : Nat := 0x20804 + 0x40 * l
def PWM_MINP_FINE (l : Nat) : Fld := ⟨PWM_MINP l, 0, 5⟩
def PWM_MINP_TICK (l : Nat) : Fld := ⟨PWM_MINP l, 5, 10⟩
def PWM_MINP_POLICY (l : Nat) : Fld := ⟨PWM_MINP l, 16, 1⟩
def PWM_BOOT (l : Nat) : Nat := 0x20808 + 0x40 * l
def PWM_BOOT_MAXON (l : Nat) : Fld := ⟨PWM_BOOT l, 0, 16⟩
def PWM_BOOT_REFRESH (l : Nat) : Fld := ⟨PWM_BOOT l, 16, 12⟩
def PWM_RISE (l : Nat) : Nat := 0x2080C + 0x40 * l
def PWM_RISE_FINE (l : Nat) : Fld := ⟨PWM_RISE l, 0, 5⟩
def PWM_RISE_TICK (l : Nat) : Fld := ⟨PWM_RISE l, 5, 24⟩
def PWM_FALL (l : Nat) : Nat := 0x20810 + 0x40 * l
def PWM_FALL_FINE (l : Nat) : Fld := ⟨PWM_FALL l, 0, 5⟩
def PWM_FALL_TICK (l : Nat) : Fld := ⟨PWM_FALL l, 5, 24⟩
def PWM_CARRY (l : Nat) : Nat := 0x20814 + 0x40 * l
def PWM_CARRY_CARRY (l : Nat) : Fld := ⟨PWM_CARRY l, 0, 32⟩
def PWM_SHORT (l : Nat) : Nat := 0x20818 + 0x40 * l
def PWM_SHORT_SHORT (l : Nat) : Fld := ⟨PWM_SHORT l, 0, 16⟩
def PWM_SHORT_SHIFT (l : Nat) : Fld := ⟨PWM_SHORT l, 16, 16⟩
def PWM_FAIL (l : Nat) : Nat := 0x2081C + 0x40 * l
def PWM_FAIL_SHIFTFAIL (l : Nat) : Fld := ⟨PWM_FAIL l, 0, 16⟩
def PWM_FAIL_BOOTREF (l : Nat) : Fld := ⟨PWM_FAIL l, 16, 16⟩
def PWM_SHIFT (l : Nat) : Nat := 0x20820 + 0x40 * l
def PWM_SHIFT_S (l : Nat) : Fld := ⟨PWM_SHIFT l, 0, 32⟩
def PWM_TRIP (k : Nat) : Nat := 0x20C00 + 0x4 * k
def PWM_TRIP_EN (k : Nat) : Fld := ⟨PWM_TRIP k, 0, 1⟩
def PWM_TRIP_POL (k : Nat) : Fld := ⟨PWM_TRIP k, 1, 1⟩
def PWM_TRIP_FILT (k : Nat) : Fld := ⟨PWM_TRIP k, 2, 8⟩
def PWM_TRIP_BLANK (k : Nat) : Fld := ⟨PWM_TRIP k, 10, 10⟩
def PWM_TRIP_AXES (k : Nat) : Fld := ⟨PWM_TRIP k, 20, 4⟩
def PWM_TRIP_LEVEL (k : Nat) : Fld := ⟨PWM_TRIP k, 24, 1⟩
def PWM_TRIP_SEEN (k : Nat) : Fld := ⟨PWM_TRIP k, 25, 1⟩
def PWM_XCMD : Nat := 0x20C40
def PWM_XCMD_LEG : Fld := ⟨PWM_XCMD, 0, 12⟩

def GATE_CFG (g : Nat) : Nat := 0x30000 + 0x40 * g
def GATE_CFG_VP (g : Nat) : Fld := ⟨GATE_CFG g, 0, 4⟩
def GATE_CFG_VN (g : Nat) : Fld := ⟨GATE_CFG g, 4, 4⟩
def GATE_CFG_MODE (g : Nat) : Fld := ⟨GATE_CFG g, 8, 1⟩
def GATE_CFG_BOOT (g : Nat) : Fld := ⟨GATE_CFG g, 9, 1⟩
def GATE_CFG_BOOTREACT (g : Nat) : Fld := ⟨GATE_CFG g, 10, 1⟩
def GATE_CFG_CLAMPEN (g : Nat) : Fld := ⟨GATE_CFG g, 11, 1⟩
def GATE_DRV (g : Nat) : Nat := 0x30004 + 0x40 * g
def GATE_DRV_SRC (g : Nat) : Fld := ⟨GATE_DRV g, 0, 5⟩
def GATE_DRV_SNK (g : Nat) : Fld := ⟨GATE_DRV g, 8, 5⟩
def GATE_DRV_SOFTSNK (g : Nat) : Fld := ⟨GATE_DRV g, 16, 3⟩
def GATE_DRV_SOFTT (g : Nat) : Fld := ⟨GATE_DRV g, 20, 4⟩
def GATE_ADAPT (g : Nat) : Nat := 0x30008 + 0x40 * g
def GATE_ADAPT_SRCMIN (g : Nat) : Fld := ⟨GATE_ADAPT g, 0, 5⟩
def GATE_ADAPT_SRCMAX (g : Nat) : Fld := ⟨GATE_ADAPT g, 8, 5⟩
def GATE_ADAPT_SNKMIN (g : Nat) : Fld := ⟨GATE_ADAPT g, 16, 5⟩
def GATE_ADAPT_SNKMAX (g : Nat) : Fld := ⟨GATE_ADAPT g, 24, 5⟩
def GATE_TGT (g : Nat) : Nat := 0x3000C + 0x40 * g
def GATE_TGT_TON (g : Nat) : Fld := ⟨GATE_TGT g, 0, 9⟩
def GATE_TGT_TOFF (g : Nat) : Fld := ⟨GATE_TGT g, 16, 9⟩
def GATE_DESAT (g : Nat) : Nat := 0x30010 + 0x40 * g
def GATE_DESAT_THR (g : Nat) : Fld := ⟨GATE_DESAT g, 0, 5⟩
def GATE_DESAT_BLANK (g : Nat) : Fld := ⟨GATE_DESAT g, 8, 8⟩
def GATE_QG (g : Nat) : Nat := 0x30014 + 0x40 * g
def GATE_QG_QG (g : Nat) : Fld := ⟨GATE_QG g, 0, 16⟩
def GATE_STAT (g : Nat) : Nat := 0x30018 + 0x40 * g
def GATE_STAT_RAILOK (g : Nat) : Fld := ⟨GATE_STAT g, 0, 1⟩
def GATE_STAT_VPUV (g : Nat) : Fld := ⟨GATE_STAT g, 1, 1⟩
def GATE_STAT_VNUV (g : Nat) : Fld := ⟨GATE_STAT g, 2, 1⟩
def GATE_STAT_DESAT (g : Nat) : Fld := ⟨GATE_STAT g, 3, 1⟩
def GATE_STAT_SOFT (g : Nat) : Fld := ⟨GATE_STAT g, 4, 1⟩
def GATE_STAT_HOLD (g : Nat) : Fld := ⟨GATE_STAT g, 5, 1⟩
def GATE_STAT_PFORCE (g : Nat) : Fld := ⟨GATE_STAT g, 6, 1⟩
def GATE_STAT_BOOTUV (g : Nat) : Fld := ⟨GATE_STAT g, 7, 1⟩
def GATE_STAT_LATCHED (g : Nat) : Fld := ⟨GATE_STAT g, 8, 1⟩
def GATE_STAT_RETRY (g : Nat) : Fld := ⟨GATE_STAT g, 9, 1⟩
def GATE_STAT_ON (g : Nat) : Fld := ⟨GATE_STAT g, 10, 1⟩
def GATE_STAT_CLAMP (g : Nat) : Fld := ⟨GATE_STAT g, 11, 1⟩
def GATE_STAT_LINKFAIL (g : Nat) : Fld := ⟨GATE_STAT g, 12, 1⟩
def GATE_STAT_OFFLOW (g : Nat) : Fld := ⟨GATE_STAT g, 13, 1⟩
def GATE_STAT_NTCOPEN (g : Nat) : Fld := ⟨GATE_STAT g, 14, 1⟩
def GATE_STAT_NTCSHORT (g : Nat) : Fld := ⟨GATE_STAT g, 15, 1⟩
def GATE_STEP (g : Nat) : Nat := 0x3001C + 0x40 * g
def GATE_STEP_SRC (g : Nat) : Fld := ⟨GATE_STEP g, 0, 5⟩
def GATE_STEP_SNK (g : Nat) : Fld := ⟨GATE_STEP g, 8, 5⟩
def GATE_TP (g : Nat) : Nat := 0x30020 + 0x40 * g
def GATE_TP_TPON (g : Nat) : Fld := ⟨GATE_TP g, 0, 10⟩
def GATE_TP_TPOFF (g : Nat) : Fld := ⟨GATE_TP g, 16, 10⟩
def GATE_RAIL (g : Nat) : Nat := 0x30024 + 0x40 * g
def GATE_RAIL_VP (g : Nat) : Fld := ⟨GATE_RAIL g, 0, 10⟩
def GATE_RAIL_VN (g : Nat) : Fld := ⟨GATE_RAIL g, 16, 10⟩
def GATE_CNT (g : Nat) : Nat := 0x30028 + 0x40 * g
def GATE_CNT_DESAT (g : Nat) : Fld := ⟨GATE_CNT g, 0, 8⟩
def GATE_CNT_UV (g : Nat) : Fld := ⟨GATE_CNT g, 8, 8⟩
def GATE_CNT_LIMIT (g : Nat) : Fld := ⟨GATE_CNT g, 16, 8⟩
def GATE_CNT_NOPL (g : Nat) : Fld := ⟨GATE_CNT g, 24, 8⟩
def GATE_NTCRNOM (g : Nat) : Nat := 0x3002C + 0x40 * g
def GATE_NTCRNOM_RNOM (g : Nat) : Fld := ⟨GATE_NTCRNOM g, 0, 32⟩
def GATE_NTCB (g : Nat) : Nat := 0x30030 + 0x40 * g
def GATE_NTCB_B (g : Nat) : Fld := ⟨GATE_NTCB g, 0, 32⟩
def GATE_NTCOHM (g : Nat) : Nat := 0x30034 + 0x40 * g
def GATE_NTCOHM_OHM (g : Nat) : Fld := ⟨GATE_NTCOHM g, 0, 32⟩
def GATE_RETRY (c : Nat) : Nat := 0x30800 + 0x4 * c
def GATE_RETRY_WAIT (c : Nat) : Fld := ⟨GATE_RETRY c, 0, 16⟩
def GATE_RETRY_MAX (c : Nat) : Fld := ⟨GATE_RETRY c, 16, 3⟩
def GATE_RETRY_WINDOW (c : Nat) : Fld := ⟨GATE_RETRY c, 20, 12⟩
def GATE_XCMD : Nat := 0x30810
def GATE_XCMD_LEG : Fld := ⟨GATE_XCMD, 0, 12⟩
def GATE_HOLD : Nat := 0x30814
def GATE_HOLD_CH : Fld := ⟨GATE_HOLD, 0, 26⟩
def GATE_LATCH : Nat := 0x30818
def GATE_LATCH_CH : Fld := ⟨GATE_LATCH, 0, 26⟩
def GATE_DIAGRES (j : Nat) : Nat := 0x30820 + 0x4 * j
def GATE_DIAGRES_LEG0 (j : Nat) : Fld := ⟨GATE_DIAGRES j, 0, 8⟩
def GATE_DIAGRES_LEG1 (j : Nat) : Fld := ⟨GATE_DIAGRES j, 8, 8⟩
def GATE_DIAGRES_LEG2 (j : Nat) : Fld := ⟨GATE_DIAGRES j, 16, 8⟩
def GATE_DIAGRES_LEG3 (j : Nat) : Fld := ⟨GATE_DIAGRES j, 24, 8⟩
def GATE_DIAGX : Nat := 0x3082C
def GATE_DIAGX_BRKSHORT : Fld := ⟨GATE_DIAGX, 0, 1⟩
def GATE_DIAGX_BRKOPEN : Fld := ⟨GATE_DIAGX, 1, 1⟩
def GATE_DIAGX_BRKGATE : Fld := ⟨GATE_DIAGX, 2, 1⟩
def GATE_DIAGX_DSCSHORT : Fld := ⟨GATE_DIAGX, 4, 1⟩
def GATE_DIAGX_DSCOPEN : Fld := ⟨GATE_DIAGX, 5, 1⟩
def GATE_DIAGX_DSCGATE : Fld := ⟨GATE_DIAGX, 6, 1⟩
def GATE_DIAGX_DONE : Fld := ⟨GATE_DIAGX, 8, 1⟩

def BW_STATUS : Nat := 0x70000
def BW_STATUS_BRKON : Fld := ⟨BW_STATUS, 0, 1⟩
def BW_STATUS_OV2 : Fld := ⟨BW_STATUS, 1, 1⟩
def BW_STATUS_OV3 : Fld := ⟨BW_STATUS, 2, 1⟩
def BW_STATUS_UV1 : Fld := ⟨BW_STATUS, 3, 1⟩
def BW_STATUS_UV2 : Fld := ⟨BW_STATUS, 4, 1⟩
def BW_STATUS_ARMED : Fld := ⟨BW_STATUS, 5, 1⟩
def BW_STATUS_BRKFAIL : Fld := ⟨BW_STATUS, 6, 1⟩
def BW_STATUS_BRKINH : Fld := ⟨BW_STATUS, 7, 1⟩
def BW_STATUS_DSCON : Fld := ⟨BW_STATUS, 8, 1⟩
def BW_STATUS_PWRLOSS : Fld := ⟨BW_STATUS, 9, 1⟩
def BW_STATUS_STOA : Fld := ⟨BW_STATUS, 10, 1⟩
def BW_STATUS_STOB : Fld := ⟨BW_STATUS, 11, 1⟩
def BW_VHV : Nat := 0x70004
def BW_VHV_VOLTS : Fld := ⟨BW_VHV, 0, 11⟩
def BW_OV1 : Nat := 0x70010
def BW_OV1_ON : Fld := ⟨BW_OV1, 0, 11⟩
def BW_OV1_OFF : Fld := ⟨BW_OV1, 16, 11⟩
def BW_OV23 : Nat := 0x70014
def BW_OV23_OV2 : Fld := ⟨BW_OV23, 0, 11⟩
def BW_OV23_OV3 : Fld := ⟨BW_OV23, 16, 11⟩
def BW_UV : Nat := 0x70018
def BW_UV_UV1 : Fld := ⟨BW_UV, 0, 11⟩
def BW_UV_UV2 : Fld := ⟨BW_UV, 16, 11⟩
def BW_UVTIME : Nat := 0x7001C
def BW_UVTIME_TIME : Fld := ⟨BW_UVTIME, 0, 8⟩
def BW_BRKCFG : Nat := 0x70020
def BW_BRKCFG_EN : Fld := ⟨BW_BRKCFG, 0, 1⟩
def BW_BRKCFG_MIN : Fld := ⟨BW_BRKCFG, 8, 8⟩
def BW_BRKCFG_DV : Fld := ⟨BW_BRKCFG, 16, 11⟩
def BW_BRKCONF : Nat := 0x70024
def BW_BRKCONF_CONFIRM : Fld := ⟨BW_BRKCONF, 0, 16⟩
def BW_BRKRES : Nat := 0x70028
def BW_BRKRES_R : Fld := ⟨BW_BRKRES, 0, 16⟩
def BW_BRKEMAX : Nat := 0x7002C
def BW_BRKEMAX_EMAX : Fld := ⟨BW_BRKEMAX, 0, 32⟩
def BW_BRKTAU : Nat := 0x70030
def BW_BRKTAU_TAU : Fld := ⟨BW_BRKTAU, 0, 16⟩
def BW_BRKE : Nat := 0x70034
def BW_BRKE_E : Fld := ⟨BW_BRKE, 0, 32⟩
def BW_DSCCFG : Nat := 0x70040
def BW_DSCCFG_ONLOSS : Fld := ⟨BW_DSCCFG, 0, 1⟩
def BW_DSCCFG_ONSAFE : Fld := ⟨BW_DSCCFG, 1, 1⟩
def BW_DSCCFG_WAIT : Fld := ⟨BW_DSCCFG, 8, 8⟩
def BW_DSCCFG_DONE : Fld := ⟨BW_DSCCFG, 16, 11⟩
def BW_DSCRES : Nat := 0x70044
def BW_DSCRES_R : Fld := ⟨BW_DSCRES, 0, 16⟩
def BW_DSCEMAX : Nat := 0x70048
def BW_DSCEMAX_EMAX : Fld := ⟨BW_DSCEMAX, 0, 32⟩
def BW_DSCTAU : Nat := 0x7004C
def BW_DSCTAU_TAU : Fld := ⟨BW_DSCTAU, 0, 16⟩
def BW_DSCE : Nat := 0x70050
def BW_DSCE_E : Fld := ⟨BW_DSCE, 0, 32⟩
def BW_DSCCTL : Nat := 0x70054
def BW_DSCCTL_REQ : Fld := ⟨BW_DSCCTL, 0, 1⟩
def BW_DSCCTL_STOP : Fld := ⟨BW_DSCCTL, 1, 1⟩
def BW_AXCFG (n : Nat) : Nat := 0x70080 + 0x4 * n
def BW_AXCFG_ASCSPD (n : Nat) : Fld := ⟨BW_AXCFG n, 0, 16⟩
def BW_AXCFG_MACH (n : Nat) : Fld := ⟨BW_AXCFG n, 16, 1⟩
def BW_AXCFG_STOSAFE (n : Nat) : Fld := ⟨BW_AXCFG n, 17, 1⟩
def BW_AXCFG_HOLDASC (n : Nat) : Fld := ⟨BW_AXCFG n, 18, 1⟩
def BW_AXSTAT (n : Nat) : Nat := 0x70090 + 0x4 * n
def BW_AXSTAT_DEMAND (n : Nat) : Fld := ⟨BW_AXSTAT n, 0, 2⟩
def BW_AXSTAT_SEV (n : Nat) : Fld := ⟨BW_AXSTAT n, 2, 3⟩
def BW_AXSTAT_SPDKNOWN (n : Nat) : Fld := ⟨BW_AXSTAT n, 5, 1⟩
def BW_AXSTAT_ABOVE (n : Nat) : Fld := ⟨BW_AXSTAT n, 6, 1⟩
def BW_AXSTAT_THRLVL (n : Nat) : Fld := ⟨BW_AXSTAT n, 8, 5⟩
def BW_TRIPR (k : Nat) : Nat := 0x700A0 + 0x4 * k
def BW_TRIPR_AXES (k : Nat) : Fld := ⟨BW_TRIPR k, 0, 4⟩
def BW_TRIPR_SEV (k : Nat) : Fld := ⟨BW_TRIPR k, 4, 3⟩
def BW_TRIPR_GTOUT (k : Nat) : Fld := ⟨BW_TRIPR k, 7, 1⟩
def BW_GTRIP : Nat := 0x700C0
def BW_GTRIP_EN : Fld := ⟨BW_GTRIP, 0, 1⟩
def BW_GTRIP_ON5 : Fld := ⟨BW_GTRIP, 1, 1⟩
def BW_GTRIP_ONOV3 : Fld := ⟨BW_GTRIP, 2, 1⟩
def BW_GTRIP_INSEV : Fld := ⟨BW_GTRIP, 4, 3⟩
def BW_GTRIP_LEVEL : Fld := ⟨BW_GTRIP, 8, 1⟩
def BW_GTRIP_DRIVE : Fld := ⟨BW_GTRIP, 9, 1⟩
def BW_GTRIP_SEEN : Fld := ⟨BW_GTRIP, 10, 1⟩
def BW_LKDEMAND : Nat := 0x700D0
def BW_LKDEMAND_AX0 : Fld := ⟨BW_LKDEMAND, 0, 2⟩
def BW_LKDEMAND_AX1 : Fld := ⟨BW_LKDEMAND, 2, 2⟩
def BW_LKDEMAND_AX2 : Fld := ⟨BW_LKDEMAND, 4, 2⟩
def BW_LKDEMAND_AX3 : Fld := ⟨BW_LKDEMAND, 6, 2⟩
def BW_LKDEMAND_SO0OPEN : Fld := ⟨BW_LKDEMAND, 8, 1⟩
def BW_LKDEMAND_SO1OPEN : Fld := ⟨BW_LKDEMAND, 9, 1⟩
def BW_THCFG : Nat := 0x70100
def BW_THCFG_DWELL : Fld := ⟨BW_THCFG, 0, 10⟩
def BW_THCFG_AUTORST : Fld := ⟨BW_THCFG, 16, 1⟩
def BW_THSTAT : Nat := 0x70104
def BW_THSTAT_SHUT : Fld := ⟨BW_THSTAT, 0, 1⟩
def BW_THSTAT_DIE : Fld := ⟨BW_THSTAT, 1, 1⟩
def BW_THSTAT_MOD : Fld := ⟨BW_THSTAT, 2, 1⟩
def BW_THSTAT_LATCHED : Fld := ⟨BW_THSTAT, 3, 1⟩
def BW_THSTAT_RSTCNT : Fld := ⟨BW_THSTAT, 4, 2⟩
def BW_THSTAT_COOL : Fld := ⟨BW_THSTAT, 6, 1⟩
def BW_THDIE : Nat := 0x70110
def BW_THDIE_WARN : Fld := ⟨BW_THDIE, 0, 8⟩
def BW_THDIE_FAULT : Fld := ⟨BW_THDIE, 8, 8⟩
def BW_THDIE_HYST : Fld := ⟨BW_THDIE, 16, 8⟩
def BW_THMOD : Nat := 0x70114
def BW_THMOD_WARN : Fld := ⟨BW_THMOD, 0, 8⟩
def BW_THMOD_FAULT : Fld := ⟨BW_THMOD, 8, 8⟩
def BW_THMOD_HYST : Fld := ⟨BW_THMOD, 16, 8⟩
def BW_THNTC : Nat := 0x70118
def BW_THNTC_WARN : Fld := ⟨BW_THNTC, 0, 8⟩
def BW_THNTC_FAULT : Fld := ⟨BW_THNTC, 8, 8⟩
def BW_THNTC_HYST : Fld := ⟨BW_THNTC, 16, 8⟩
def BW_THTP (t : Nat) : Nat := 0x70120 + 0x4 * t
def BW_THTP_WARN (t : Nat) : Fld := ⟨BW_THTP t, 0, 8⟩
def BW_THTP_FAULT (t : Nat) : Fld := ⟨BW_THTP t, 8, 8⟩
def BW_THTP_HYST (t : Nat) : Fld := ⟨BW_THTP t, 16, 8⟩
def BW_THTP_AXES (t : Nat) : Fld := ⟨BW_THTP t, 24, 4⟩
def BW_FQSTAT : Nat := 0x70200
def BW_FQSTAT_COUNT : Fld := ⟨BW_FQSTAT, 0, 7⟩
def BW_FQSTAT_OVFL : Fld := ⟨BW_FQSTAT, 7, 1⟩
def BW_FQSTAT_LOST : Fld := ⟨BW_FQSTAT, 8, 16⟩
def BW_FQSEL : Nat := 0x70204
def BW_FQSEL_INDEX : Fld := ⟨BW_FQSEL, 0, 6⟩
def BW_FQE0 : Nat := 0x70208
def BW_FQE0_CODE : Fld := ⟨BW_FQE0, 0, 16⟩
def BW_FQE0_SEV : Fld := ⟨BW_FQE0, 16, 3⟩
def BW_FQE0_CAUSE : Fld := ⟨BW_FQE0, 24, 1⟩
def BW_FQE0_LATCHED : Fld := ⟨BW_FQE0, 25, 1⟩
def BW_FQE0_RETRY : Fld := ⟨BW_FQE0, 26, 1⟩
def BW_FQE1 : Nat := 0x7020C
def BW_FQE1_MID : Fld := ⟨BW_FQE1, 0, 3⟩
def BW_FQE1_EPOCH : Fld := ⟨BW_FQE1, 8, 8⟩
def BW_FQE1_REQ : Fld := ⟨BW_FQE1, 16, 7⟩
def BW_FQE2 : Nat := 0x70210
def BW_FQE2_STAMP : Fld := ⟨BW_FQE2, 0, 32⟩
def BW_FQE3 : Nat := 0x70214
def BW_FQE3_STAMP : Fld := ⟨BW_FQE3, 0, 32⟩
def BW_FQE4 : Nat := 0x70218
def BW_FQE4_DETAIL : Fld := ⟨BW_FQE4, 0, 32⟩
def BW_FQCLR : Nat := 0x7021C
def BW_FQCLR_CODE : Fld := ⟨BW_FQCLR, 0, 16⟩

def LOOKOUT_STATUS : Nat := 0x80000
def LOOKOUT_STATUS_STATE : Fld := ⟨LOOKOUT_STATUS, 0, 2⟩
def LOOKOUT_STATUS_SETOK : Fld := ⟨LOOKOUT_STATUS, 2, 1⟩
def LOOKOUT_STATUS_HWSTO : Fld := ⟨LOOKOUT_STATUS, 3, 1⟩
def LOOKOUT_STATUS_CYCLE : Fld := ⟨LOOKOUT_STATUS, 16, 16⟩
def LOOKOUT_SETCRC : Nat := 0x80004
def LOOKOUT_SETCRC_CRC : Fld := ⟨LOOKOUT_SETCRC, 0, 32⟩
def LOOKOUT_SETVER : Nat := 0x80008
def LOOKOUT_SETVER_VER : Fld := ⟨LOOKOUT_SETVER, 0, 32⟩
def LOOKOUT_STAGECRC : Nat := 0x8000C
def LOOKOUT_STAGECRC_CRC : Fld := ⟨LOOKOUT_STAGECRC, 0, 32⟩
def LOOKOUT_DLTOKEN : Nat := 0x80010
def LOOKOUT_DLTOKEN_TOKEN : Fld := ⟨LOOKOUT_DLTOKEN, 0, 16⟩
def LOOKOUT_SIN : Nat := 0x80014
def LOOKOUT_SIN_SIA : Fld := ⟨LOOKOUT_SIN, 0, 4⟩
def LOOKOUT_SIN_SIB : Fld := ⟨LOOKOUT_SIN, 4, 4⟩
def LOOKOUT_SIN_DEMAND : Fld := ⟨LOOKOUT_SIN, 8, 4⟩
def LOOKOUT_SIN_DISC : Fld := ⟨LOOKOUT_SIN, 12, 4⟩
def LOOKOUT_SIN_STODISC : Fld := ⟨LOOKOUT_SIN, 16, 1⟩
def LOOKOUT_SOUT : Nat := 0x80018
def LOOKOUT_SOUT_SO0CMD : Fld := ⟨LOOKOUT_SOUT, 0, 1⟩
def LOOKOUT_SOUT_SO0RB : Fld := ⟨LOOKOUT_SOUT, 1, 1⟩
def LOOKOUT_SOUT_SO1CMD : Fld := ⟨LOOKOUT_SOUT, 2, 1⟩
def LOOKOUT_SOUT_SO1RB : Fld := ⟨LOOKOUT_SOUT, 3, 1⟩
def LOOKOUT_SELFTEST : Nat := 0x8001C
def LOOKOUT_SELFTEST_PASSES : Fld := ⟨LOOKOUT_SELFTEST, 0, 16⟩
def LOOKOUT_SELFTEST_ECCCORR : Fld := ⟨LOOKOUT_SELFTEST, 24, 8⟩
def LOOKOUT_AXSTAT (n : Nat) : Nat := 0x80040 + 0x20 * n
def LOOKOUT_AXSTAT_SAFE (n : Nat) : Fld := ⟨LOOKOUT_AXSTAT n, 0, 1⟩
def LOOKOUT_AXSTAT_STO (n : Nat) : Fld := ⟨LOOKOUT_AXSTAT n, 1, 1⟩
def LOOKOUT_AXSTAT_SS1 (n : Nat) : Fld := ⟨LOOKOUT_AXSTAT n, 2, 1⟩
def LOOKOUT_AXSTAT_SLS (n : Nat) : Fld := ⟨LOOKOUT_AXSTAT n, 3, 1⟩
def LOOKOUT_AXSTAT_SDI (n : Nat) : Fld := ⟨LOOKOUT_AXSTAT n, 4, 1⟩
def LOOKOUT_AXSTAT_SLPREF (n : Nat) : Fld := ⟨LOOKOUT_AXSTAT n, 5, 1⟩
def LOOKOUT_AXSTAT_VIOL (n : Nat) : Fld := ⟨LOOKOUT_AXSTAT n, 6, 1⟩
def LOOKOUT_AXSTAT_SPDKNOWN (n : Nat) : Fld := ⟨LOOKOUT_AXSTAT n, 7, 1⟩
def LOOKOUT_AXSTAT_STOASC (n : Nat) : Fld := ⟨LOOKOUT_AXSTAT n, 8, 1⟩
def LOOKOUT_SPEED (n : Nat) : Nat := 0x80044 + 0x20 * n
def LOOKOUT_SPEED_SPEED (n : Nat) : Fld := ⟨LOOKOUT_SPEED n, 0, 32⟩
def LOOKOUT_POS (n : Nat) : Nat := 0x80048 + 0x20 * n
def LOOKOUT_POS_POS (n : Nat) : Fld := ⟨LOOKOUT_POS n, 0, 32⟩
def LOOKOUT_TORQUE (n : Nat) : Nat := 0x8004C + 0x20 * n
def LOOKOUT_TORQUE_TORQUE (n : Nat) : Fld := ⟨LOOKOUT_TORQUE n, 0, 32⟩
def LOOKOUT_LIMIT (n : Nat) : Nat := 0x80050 + 0x20 * n
def LOOKOUT_LIMIT_LIMIT (n : Nat) : Fld := ⟨LOOKOUT_LIMIT n, 0, 32⟩
def LOOKOUT_CONN (j : Nat) : Nat := 0x80100 + 0x10 * j
def LOOKOUT_CONN_OK (j : Nat) : Fld := ⟨LOOKOUT_CONN j, 0, 1⟩
def LOOKOUT_CONN_DEGRADED (j : Nat) : Fld := ⟨LOOKOUT_CONN j, 1, 1⟩
def LOOKOUT_CONN_LOST (j : Nat) : Fld := ⟨LOOKOUT_CONN j, 2, 1⟩
def LOOKOUT_CONN_SINGLE (j : Nat) : Fld := ⟨LOOKOUT_CONN j, 8, 8⟩
def LOOKOUT_CONN_SEQ (j : Nat) : Fld := ⟨LOOKOUT_CONN j, 16, 16⟩
def LOOKOUT_CRX (j : Nat) : Nat := 0x80104 + 0x10 * j
def LOOKOUT_CRX_ACCEPTED (j : Nat) : Fld := ⟨LOOKOUT_CRX j, 0, 16⟩
def LOOKOUT_CRX_REJECTED (j : Nat) : Fld := ⟨LOOKOUT_CRX j, 16, 16⟩
def LOOKOUT_CAGE (j : Nat) : Nat := 0x80108 + 0x10 * j
def LOOKOUT_CAGE_LAST (j : Nat) : Fld := ⟨LOOKOUT_CAGE j, 0, 16⟩
def LOOKOUT_CAGE_PEAK (j : Nat) : Fld := ⟨LOOKOUT_CAGE j, 16, 16⟩

def ETH_MACL : Nat := 0xA0000
def ETH_MACL_MAC : Fld := ⟨ETH_MACL, 0, 32⟩
def ETH_MACH : Nat := 0xA0004
def ETH_MACH_MAC : Fld := ⟨ETH_MACH, 0, 16⟩
def ETH_IPADDR : Nat := 0xA0008
def ETH_IPADDR_ADDR : Fld := ⟨ETH_IPADDR, 0, 32⟩
def ETH_IPMASK : Nat := 0xA000C
def ETH_IPMASK_MASK : Fld := ⟨ETH_IPMASK, 0, 32⟩
def ETH_IPGW : Nat := 0xA0010
def ETH_IPGW_GW : Fld := ⟨ETH_IPGW, 0, 32⟩
def ETH_UDPPORT : Nat := 0xA0014
def ETH_UDPPORT_PORT : Fld := ⟨ETH_UDPPORT, 0, 16⟩
def ETH_AGE : Nat := 0xA0018
def ETH_AGE_AGE : Fld := ⟨ETH_AGE, 0, 10⟩
def ETH_PCPMAP : Nat := 0xA001C
def ETH_PCPMAP_Q0 : Fld := ⟨ETH_PCPMAP, 0, 3⟩
def ETH_PCPMAP_Q1 : Fld := ⟨ETH_PCPMAP, 3, 3⟩
def ETH_PCPMAP_Q2 : Fld := ⟨ETH_PCPMAP, 6, 3⟩
def ETH_PCPMAP_Q3 : Fld := ⟨ETH_PCPMAP, 9, 3⟩
def ETH_PCPMAP_Q4 : Fld := ⟨ETH_PCPMAP, 12, 3⟩
def ETH_PCPMAP_Q5 : Fld := ⟨ETH_PCPMAP, 15, 3⟩
def ETH_PCPMAP_Q6 : Fld := ⟨ETH_PCPMAP, 18, 3⟩
def ETH_PCPMAP_Q7 : Fld := ⟨ETH_PCPMAP, 21, 3⟩
def ETH_ASCFG : Nat := 0xA0020
def ETH_ASCFG_GM : Fld := ⟨ETH_ASCFG, 0, 1⟩
def ETH_ASCFG_PORTEN : Fld := ⟨ETH_ASCFG, 1, 4⟩
def ETH_ASCFG_SYNC : Fld := ⟨ETH_ASCFG, 8, 3⟩
def ETH_ASCFG_PDTHR : Fld := ⟨ETH_ASCFG, 16, 16⟩
def ETH_ASGMSEC : Nat := 0xA0024
def ETH_ASGMSEC_SEC : Fld := ⟨ETH_ASGMSEC, 0, 32⟩
def ETH_LKDEST : Nat := 0xA0028
def ETH_LKDEST_ADDR : Fld := ⟨ETH_LKDEST, 0, 32⟩
def ETH_IRQ : Nat := 0xA002C
def ETH_IRQ_RX : Fld := ⟨ETH_IRQ, 0, 4⟩
def ETH_IRQ_TX : Fld := ⟨ETH_IRQ, 4, 4⟩
def ETH_IRQ_LINK : Fld := ⟨ETH_IRQ, 8, 4⟩
def ETH_IRQ_EN : Fld := ⟨ETH_IRQ, 16, 12⟩
def ETH_QLIM (q : Nat) : Nat := 0xA0040 + 0x4 * q
def ETH_QLIM_KIB (q : Nat) : Fld := ⟨ETH_QLIM q, 0, 11⟩
def ETH_PCFG (p : Nat) : Nat := 0xA0080 + 0x40 * p
def ETH_PCFG_EN (p : Nat) : Fld := ⟨ETH_PCFG p, 0, 1⟩
def ETH_PCFG_GEN (p : Nat) : Fld := ⟨ETH_PCFG p, 1, 1⟩
def ETH_PCFG_DPCP (p : Nat) : Fld := ⟨ETH_PCFG p, 2, 3⟩
def ETH_PCFG_T1MASTER (p : Nat) : Fld := ⟨ETH_PCFG p, 5, 1⟩
def ETH_PCFG_PVID (p : Nat) : Fld := ⟨ETH_PCFG p, 16, 12⟩
def ETH_PSTAT (p : Nat) : Nat := 0xA0084 + 0x40 * p
def ETH_PSTAT_LINK (p : Nat) : Fld := ⟨ETH_PSTAT p, 0, 1⟩
def ETH_PSTAT_SFPPRES (p : Nat) : Fld := ⟨ETH_PSTAT p, 1, 1⟩
def ETH_PSTAT_SWAPPEND (p : Nat) : Fld := ⟨ETH_PSTAT p, 2, 1⟩
def ETH_PSTAT_ASROLE (p : Nat) : Fld := ⟨ETH_PSTAT p, 3, 2⟩
def ETH_PSTAT_ASCAP (p : Nat) : Fld := ⟨ETH_PSTAT p, 5, 1⟩
def ETH_RXFRM (p : Nat) : Nat := 0xA0088 + 0x40 * p
def ETH_RXFRM_COUNT (p : Nat) : Fld := ⟨ETH_RXFRM p, 0, 32⟩
def ETH_TXFRM (p : Nat) : Nat := 0xA008C + 0x40 * p
def ETH_TXFRM_COUNT (p : Nat) : Fld := ⟨ETH_TXFRM p, 0, 32⟩
def ETH_DROP (p : Nat) : Nat := 0xA0090 + 0x40 * p
def ETH_DROP_BUF (p : Nat) : Fld := ⟨ETH_DROP p, 0, 16⟩
def ETH_DROP_VLAN (p : Nat) : Fld := ⟨ETH_DROP p, 16, 16⟩
def ETH_ERR (p : Nat) : Nat := 0xA0094 + 0x40 * p
def ETH_ERR_FCS (p : Nat) : Fld := ⟨ETH_ERR p, 0, 16⟩
def ETH_ERR_OVERSIZE (p : Nat) : Fld := ⟨ETH_ERR p, 16, 16⟩
def ETH_GATEDROP (p : Nat) : Nat := 0xA0098 + 0x40 * p
def ETH_GATEDROP_COUNT (p : Nat) : Fld := ⟨ETH_GATEDROP p, 0, 16⟩
def ETH_PDELAY (p : Nat) : Nat := 0xA009C + 0x40 * p
def ETH_PDELAY_NS (p : Nat) : Fld := ⟨ETH_PDELAY p, 0, 16⟩
def ETH_GCTL (p : Nat) : Nat := 0xA00A0 + 0x40 * p
def ETH_GCTL_LEN (p : Nat) : Fld := ⟨ETH_GCTL p, 0, 8⟩
def ETH_GCTL_SWAP (p : Nat) : Fld := ⟨ETH_GCTL p, 31, 1⟩
def ETH_GBASEL (p : Nat) : Nat := 0xA00A4 + 0x40 * p
def ETH_GBASEL_BASE (p : Nat) : Fld := ⟨ETH_GBASEL p, 0, 32⟩
def ETH_GBASEH (p : Nat) : Nat := 0xA00A8 + 0x40 * p
def ETH_GBASEH_BASE (p : Nat) : Fld := ⟨ETH_GBASEH p, 0, 32⟩
def ETH_VLAN (v : Nat) : Nat := 0xA0800 + 0x4 * v
def ETH_VLAN_VID (v : Nat) : Fld := ⟨ETH_VLAN v, 0, 12⟩
def ETH_VLAN_MEMBER (v : Nat) : Fld := ⟨ETH_VLAN v, 12, 5⟩
def ETH_VLAN_UNTAG (v : Nat) : Fld := ⟨ETH_VLAN v, 17, 5⟩
def ETH_VLAN_VALID (v : Nat) : Fld := ⟨ETH_VLAN v, 31, 1⟩
def ETH_CLASS (k : Nat) : Nat := 0xA0900 + 0x4 * k
def ETH_CLASS_VALUE (k : Nat) : Fld := ⟨ETH_CLASS k, 0, 16⟩
def ETH_CLASS_KIND (k : Nat) : Fld := ⟨ETH_CLASS k, 16, 2⟩
def ETH_CLASS_CORE (k : Nat) : Fld := ⟨ETH_CLASS k, 18, 2⟩
def ETH_RINGBASE (r : Nat) : Nat := 0xA0A00 + 0x8 * r
def ETH_RINGBASE_BASE (r : Nat) : Fld := ⟨ETH_RINGBASE r, 0, 28⟩
def ETH_RINGBASE_SIZE (r : Nat) : Fld := ⟨ETH_RINGBASE r, 28, 3⟩
def ETH_RINGBASE_EN (r : Nat) : Fld := ⟨ETH_RINGBASE r, 31, 1⟩
def ETH_RINGPTR (r : Nat) : Nat := 0xA0A04 + 0x8 * r
def ETH_RINGPTR_HEAD (r : Nat) : Fld := ⟨ETH_RINGPTR r, 0, 10⟩
def ETH_RINGPTR_TAIL (r : Nat) : Fld := ⟨ETH_RINGPTR r, 16, 10⟩
def ETH_GCL (p e : Nat) : Nat := 0xA1000 + 0x200 * p + 0x4 * e
def ETH_GCL_GATES (p e : Nat) : Fld := ⟨ETH_GCL p e, 0, 8⟩
def ETH_GCL_TICKS (p e : Nat) : Fld := ⟨ETH_GCL p e, 8, 24⟩

def CAN_CTL (c : Nat) : Nat := 0xB0000 + 0x1000 * c
def CAN_CTL_EN (c : Nat) : Fld := ⟨CAN_CTL c, 0, 1⟩
def CAN_CTL_MODE (c : Nat) : Fld := ⟨CAN_CTL c, 1, 2⟩
def CAN_CTL_FDEN (c : Nat) : Fld := ⟨CAN_CTL c, 3, 1⟩
def CAN_CTL_TERM (c : Nat) : Fld := ⟨CAN_CTL c, 4, 1⟩
def CAN_CTL_TRIPLE (c : Nat) : Fld := ⟨CAN_CTL c, 5, 1⟩
def CAN_NBT (c : Nat) : Nat := 0xB0004 + 0x1000 * c
def CAN_NBT_BRP (c : Nat) : Fld := ⟨CAN_NBT c, 0, 8⟩
def CAN_NBT_TSEG1 (c : Nat) : Fld := ⟨CAN_NBT c, 8, 8⟩
def CAN_NBT_TSEG2 (c : Nat) : Fld := ⟨CAN_NBT c, 16, 7⟩
def CAN_NBT_SJW (c : Nat) : Fld := ⟨CAN_NBT c, 24, 7⟩
def CAN_DBT (c : Nat) : Nat := 0xB0008 + 0x1000 * c
def CAN_DBT_BRP (c : Nat) : Fld := ⟨CAN_DBT c, 0, 5⟩
def CAN_DBT_TSEG1 (c : Nat) : Fld := ⟨CAN_DBT c, 8, 5⟩
def CAN_DBT_TSEG2 (c : Nat) : Fld := ⟨CAN_DBT c, 16, 4⟩
def CAN_DBT_SJW (c : Nat) : Fld := ⟨CAN_DBT c, 24, 4⟩
def CAN_TDC (c : Nat) : Nat := 0xB000C + 0x1000 * c
def CAN_TDC_TDCO (c : Nat) : Fld := ⟨CAN_TDC c, 0, 7⟩
def CAN_TDC_TDCV (c : Nat) : Fld := ⟨CAN_TDC c, 16, 7⟩
def CAN_TDC_EN (c : Nat) : Fld := ⟨CAN_TDC c, 31, 1⟩
def CAN_STATUS (c : Nat) : Nat := 0xB0010 + 0x1000 * c
def CAN_STATUS_STATE (c : Nat) : Fld := ⟨CAN_STATUS c, 0, 2⟩
def CAN_STATUS_TEC (c : Nat) : Fld := ⟨CAN_STATUS c, 8, 8⟩
def CAN_STATUS_REC (c : Nat) : Fld := ⟨CAN_STATUS c, 16, 7⟩
def CAN_STATUS_TRIPACT (c : Nat) : Fld := ⟨CAN_STATUS c, 24, 1⟩
def CAN_STATUS_LASTERR (c : Nat) : Fld := ⟨CAN_STATUS c, 25, 3⟩
def CAN_BUSOFF (c : Nat) : Nat := 0xB0014 + 0x1000 * c
def CAN_BUSOFF_COUNT (c : Nat) : Fld := ⟨CAN_BUSOFF c, 0, 16⟩
def CAN_IRQ (c : Nat) : Nat := 0xB0018 + 0x1000 * c
def CAN_IRQ_RX0 (c : Nat) : Fld := ⟨CAN_IRQ c, 0, 1⟩
def CAN_IRQ_RX1 (c : Nat) : Fld := ⟨CAN_IRQ c, 1, 1⟩
def CAN_IRQ_TXDONE (c : Nat) : Fld := ⟨CAN_IRQ c, 2, 1⟩
def CAN_IRQ_PASSIVE (c : Nat) : Fld := ⟨CAN_IRQ c, 3, 1⟩
def CAN_IRQ_BUSOFF (c : Nat) : Fld := ⟨CAN_IRQ c, 4, 1⟩
def CAN_IRQ_OVF (c : Nat) : Fld := ⟨CAN_IRQ c, 5, 1⟩
def CAN_IRQ_EN (c : Nat) : Fld := ⟨CAN_IRQ c, 16, 6⟩
def CAN_CMDID (c : Nat) : Nat := 0xB001C + 0x1000 * c
def CAN_CMDID_ID (c : Nat) : Fld := ⟨CAN_CMDID c, 0, 29⟩
def CAN_CMDID_IDE (c : Nat) : Fld := ⟨CAN_CMDID c, 29, 1⟩
def CAN_CMDID_EN (c : Nat) : Fld := ⟨CAN_CMDID c, 31, 1⟩
def CAN_RPLID (c : Nat) : Nat := 0xB0020 + 0x1000 * c
def CAN_RPLID_ID (c : Nat) : Fld := ⟨CAN_RPLID c, 0, 29⟩
def CAN_RPLID_IDE (c : Nat) : Fld := ⟨CAN_RPLID c, 29, 1⟩
def CAN_DEFACT (c : Nat) : Nat := 0xB0024 + 0x1000 * c
def CAN_DEFACT_ACT (c : Nat) : Fld := ⟨CAN_DEFACT c, 0, 2⟩
def CAN_FMATCH (c f : Nat) : Nat := 0xB0080 + 0x1000 * c + 0x8 * f
def CAN_FMATCH_ID (c f : Nat) : Fld := ⟨CAN_FMATCH c f, 0, 29⟩
def CAN_FMATCH_IDE (c f : Nat) : Fld := ⟨CAN_FMATCH c f, 29, 1⟩
def CAN_FMATCH_EN (c f : Nat) : Fld := ⟨CAN_FMATCH c f, 31, 1⟩
def CAN_FMASK (c f : Nat) : Nat := 0xB0084 + 0x1000 * c + 0x8 * f
def CAN_FMASK_MASK (c f : Nat) : Fld := ⟨CAN_FMASK c f, 0, 29⟩
def CAN_FMASK_ACT (c f : Nat) : Fld := ⟨CAN_FMASK c f, 29, 2⟩
def CAN_RXSTAT (c q : Nat) : Nat := 0xB0180 + 0x1000 * c + 0x4 * q
def CAN_RXSTAT_COUNT (c q : Nat) : Fld := ⟨CAN_RXSTAT c q, 0, 7⟩
def CAN_RXSTAT_OVF (c q : Nat) : Fld := ⟨CAN_RXSTAT c q, 7, 1⟩
def CAN_RXSTAT_LOST (c q : Nat) : Fld := ⟨CAN_RXSTAT c q, 8, 16⟩
def CAN_RXPOP (c q : Nat) : Nat := 0xB0188 + 0x1000 * c + 0x4 * q
def CAN_RXPOP_POP (c q : Nat) : Fld := ⟨CAN_RXPOP c q, 0, 1⟩
def CAN_RXHEAD (c q w : Nat) : Nat := 0xB0200 + 0x1000 * c + 0x80 * q + 0x4 * w
def CAN_RXHEAD_WORD (c q w : Nat) : Fld := ⟨CAN_RXHEAD c q w, 0, 32⟩
def CAN_TXID (c b : Nat) : Nat := 0xB0400 + 0x1000 * c + 0x50 * b
def CAN_TXID_ID (c b : Nat) : Fld := ⟨CAN_TXID c b, 0, 29⟩
def CAN_TXID_IDE (c b : Nat) : Fld := ⟨CAN_TXID c b, 29, 1⟩
def CAN_TXID_FDF (c b : Nat) : Fld := ⟨CAN_TXID c b, 30, 1⟩
def CAN_TXID_BRS (c b : Nat) : Fld := ⟨CAN_TXID c b, 31, 1⟩
def CAN_TXCTL (c b : Nat) : Nat := 0xB0404 + 0x1000 * c + 0x50 * b
def CAN_TXCTL_LEN (c b : Nat) : Fld := ⟨CAN_TXCTL c b, 0, 7⟩
def CAN_TXCTL_RTR (c b : Nat) : Fld := ⟨CAN_TXCTL c b, 7, 1⟩
def CAN_TXCTL_ARM (c b : Nat) : Fld := ⟨CAN_TXCTL c b, 8, 1⟩
def CAN_TXCTL_ABORT (c b : Nat) : Fld := ⟨CAN_TXCTL c b, 9, 1⟩
def CAN_TXCTL_STATE (c b : Nat) : Fld := ⟨CAN_TXCTL c b, 10, 2⟩
def CAN_TXSTL (c b : Nat) : Nat := 0xB0408 + 0x1000 * c + 0x50 * b
def CAN_TXSTL_STAMP (c b : Nat) : Fld := ⟨CAN_TXSTL c b, 0, 32⟩
def CAN_TXSTH (c b : Nat) : Nat := 0xB040C + 0x1000 * c + 0x50 * b
def CAN_TXSTH_STAMP (c b : Nat) : Fld := ⟨CAN_TXSTH c b, 0, 32⟩
def CAN_TXDATA (c b w : Nat) : Nat := 0xB0410 + 0x1000 * c + 0x50 * b + 0x4 * w
def CAN_TXDATA_DATA (c b w : Nat) : Fld := ⟨CAN_TXDATA c b w, 0, 32⟩

def BERTH_MSG (b w : Nat) : Nat := 0x90000 + 0x40 * b + 0x4 * w
def BERTH_MSG_WORD (b w : Nat) : Fld := ⟨BERTH_MSG b w, 0, 32⟩
def BERTH_CFG (b : Nat) : Nat := 0x90800 + 0x4 * b
def BERTH_CFG_SENDER (b : Nat) : Fld := ⟨BERTH_CFG b, 0, 7⟩
def BERTH_CFG_RECEIVER (b : Nat) : Fld := ⟨BERTH_CFG b, 8, 7⟩
def BERTH_CFG_EN (b : Nat) : Fld := ⟨BERTH_CFG b, 16, 1⟩
def BERTH_STAT (b : Nat) : Nat := 0x90880 + 0x4 * b
def BERTH_STAT_FULL (b : Nat) : Fld := ⟨BERTH_STAT b, 0, 1⟩
def BERTH_STAT_DROP (b : Nat) : Fld := ⟨BERTH_STAT b, 1, 1⟩
def BERTH_STAT_DROPS (b : Nat) : Fld := ⟨BERTH_STAT b, 16, 16⟩
def BERTH_K (k : Nat) : Nat := 0x90900 + 0x4 * k
def BERTH_K_OWNER (k : Nat) : Fld := ⟨BERTH_K k, 0, 7⟩
def BERTH_KOWN (k : Nat) : Nat := 0x90940 + 0x4 * k
def BERTH_KOWN_OWNER (k : Nat) : Fld := ⟨BERTH_KOWN k, 0, 7⟩
def BERTH_KOWN_BADWR (k : Nat) : Fld := ⟨BERTH_KOWN k, 16, 16⟩
def BERTH_KFREE : Nat := 0x90980
def BERTH_KFREE_FREE : Fld := ⟨BERTH_KFREE, 0, 16⟩
def BERTH_ACFLT : Nat := 0x90984
def BERTH_ACFLT_DETAIL : Fld := ⟨BERTH_ACFLT, 0, 31⟩
def BERTH_ACFLT_STOP : Fld := ⟨BERTH_ACFLT, 31, 1⟩
def BERTH_IPENDL (r : Nat) : Nat := 0x90A00 + 0x20 * r
def BERTH_IPENDL_LINE (r : Nat) : Fld := ⟨BERTH_IPENDL r, 0, 32⟩
def BERTH_IPENDH (r : Nat) : Nat := 0x90A04 + 0x20 * r
def BERTH_IPENDH_LINE (r : Nat) : Fld := ⟨BERTH_IPENDH r, 0, 32⟩
def BERTH_IENL (r : Nat) : Nat := 0x90A08 + 0x20 * r
def BERTH_IENL_EN (r : Nat) : Fld := ⟨BERTH_IENL r, 0, 32⟩
def BERTH_IENH (r : Nat) : Nat := 0x90A0C + 0x20 * r
def BERTH_IENH_EN (r : Nat) : Fld := ⟨BERTH_IENH r, 0, 32⟩
def BERTH_TCMPL (r : Nat) : Nat := 0x90A10 + 0x20 * r
def BERTH_TCMPL_CMP (r : Nat) : Fld := ⟨BERTH_TCMPL r, 0, 32⟩
def BERTH_TCMPH (r : Nat) : Nat := 0x90A14 + 0x20 * r
def BERTH_TCMPH_CMP (r : Nat) : Fld := ⟨BERTH_TCMPH r, 0, 32⟩
def BERTH_ACCTL (r : Nat) : Nat := 0x90A18 + 0x20 * r
def BERTH_ACCTL_RUN (r : Nat) : Fld := ⟨BERTH_ACCTL r, 0, 1⟩
def BERTH_ACBOOT (r : Nat) : Nat := 0x90A1C + 0x20 * r
def BERTH_ACBOOT_ADDR (r : Nat) : Fld := ⟨BERTH_ACBOOT r, 0, 32⟩

def LOGB_CTL : Nat := 0xD0000
def LOGB_CTL_EN : Fld := ⟨LOGB_CTL, 0, 1⟩
def LOGB_CTL_TRIG : Fld := ⟨LOGB_CTL, 1, 1⟩
def LOGB_BASE : Nat := 0xD0004
def LOGB_BASE_BASE : Fld := ⟨LOGB_BASE, 0, 20⟩
def LOGB_SIZE : Nat := 0xD0008
def LOGB_SIZE_MIB : Fld := ⟨LOGB_SIZE, 0, 13⟩
def LOGB_STAT : Nat := 0xD000C
def LOGB_STAT_STATE : Fld := ⟨LOGB_STAT, 0, 2⟩
def LOGB_STAT_PLAN : Fld := ⟨LOGB_STAT, 2, 4⟩
def LOGB_STAT_OVERRUN : Fld := ⟨LOGB_STAT, 6, 1⟩
def LOGB_TRIGL : Nat := 0xD0010
def LOGB_TRIGL_STAMP : Fld := ⟨LOGB_TRIGL, 0, 32⟩
def LOGB_TRIGH : Nat := 0xD0014
def LOGB_TRIGH_STAMP : Fld := ⟨LOGB_TRIGH, 0, 32⟩
def LOGB_FRZBLK : Nat := 0xD0018
def LOGB_FRZBLK_BLOCKS : Fld := ⟨LOGB_FRZBLK, 0, 21⟩
def LOGB_PRE : Nat := 0xD001C
def LOGB_PRE_US : Fld := ⟨LOGB_PRE, 0, 32⟩
def LOGB_LOST : Nat := 0xD0020
def LOGB_LOST_COUNT : Fld := ⟨LOGB_LOST, 0, 32⟩
def LOGB_WPTR : Nat := 0xD0024
def LOGB_WPTR_BLOCK : Fld := ⟨LOGB_WPTR, 0, 21⟩
def LOGB_IRQ : Nat := 0xD0028
def LOGB_IRQ_FROZEN : Fld := ⟨LOGB_IRQ, 0, 1⟩
def LOGB_IRQ_EN : Fld := ⟨LOGB_IRQ, 16, 1⟩
def LOGB_LWSLOT : Nat := 0xD002C
def LOGB_LWSLOT_SLOT : Fld := ⟨LOGB_LWSLOT, 0, 4⟩
def LOGB_LWSLOT_VALID : Fld := ⟨LOGB_LWSLOT, 4, 1⟩
def LOGB_LWSLOT_SEQ : Fld := ⟨LOGB_LWSLOT, 16, 16⟩

def ARB_DTKTL : Nat := 0x110000
def ARB_DTKTL_SLOT0 : Fld := ⟨ARB_DTKTL, 0, 8⟩
def ARB_DTKTL_SLOT1 : Fld := ⟨ARB_DTKTL, 8, 8⟩
def ARB_DTKTL_SLOT2 : Fld := ⟨ARB_DTKTL, 16, 8⟩
def ARB_DTKTL_SLOT3 : Fld := ⟨ARB_DTKTL, 24, 8⟩
def ARB_DTKTH : Nat := 0x110004
def ARB_DTKTH_SLOT0 : Fld := ⟨ARB_DTKTH, 0, 8⟩
def ARB_DTKTH_SLOT1 : Fld := ⟨ARB_DTKTH, 8, 8⟩
def ARB_DTKTH_SLOT2 : Fld := ⟨ARB_DTKTH, 16, 8⟩
def ARB_DTKTH_SLOT3 : Fld := ⟨ARB_DTKTH, 24, 8⟩
def ARB_MTKTL (p : Nat) : Nat := 0x110010 + 0x8 * p
def ARB_MTKTL_SLOT0 (p : Nat) : Fld := ⟨ARB_MTKTL p, 0, 8⟩
def ARB_MTKTL_SLOT1 (p : Nat) : Fld := ⟨ARB_MTKTL p, 8, 8⟩
def ARB_MTKTL_SLOT2 (p : Nat) : Fld := ⟨ARB_MTKTL p, 16, 8⟩
def ARB_MTKTL_SLOT3 (p : Nat) : Fld := ⟨ARB_MTKTL p, 24, 8⟩
def ARB_MTKTH (p : Nat) : Nat := 0x110014 + 0x8 * p
def ARB_MTKTH_SLOT0 (p : Nat) : Fld := ⟨ARB_MTKTH p, 0, 8⟩
def ARB_MTKTH_SLOT1 (p : Nat) : Fld := ⟨ARB_MTKTH p, 8, 8⟩
def ARB_MTKTH_SLOT2 (p : Nat) : Fld := ⟨ARB_MTKTH p, 16, 8⟩
def ARB_MTKTH_SLOT3 (p : Nat) : Fld := ⟨ARB_MTKTH p, 24, 8⟩
def ARB_SEED : Nat := 0x110020
def ARB_SEED_SEED : Fld := ⟨ARB_SEED, 0, 16⟩
def ARB_MODE : Nat := 0x110024
def ARB_MODE_HOLD : Fld := ⟨ARB_MODE, 0, 1⟩
def ARB_DWIN (i : Nat) : Nat := 0x110040 + 0x4 * i
def ARB_DWIN_WINS (i : Nat) : Fld := ⟨ARB_DWIN i, 0, 16⟩
def ARB_DWIN_LOSSES (i : Nat) : Fld := ⟨ARB_DWIN i, 16, 16⟩
def ARB_MWIN (p i : Nat) : Nat := 0x110080 + 0x20 * p + 0x4 * i
def ARB_MWIN_WINS (p i : Nat) : Fld := ⟨ARB_MWIN p i, 0, 16⟩
def ARB_MWIN_LOSSES (p i : Nat) : Fld := ⟨ARB_MWIN p i, 16, 16⟩

def PERF_CTL : Nat := 0x100000
def PERF_CTL_USER_EN : Fld := ⟨PERF_CTL, 0, 1⟩
def PERF_CTL_FREEZE : Fld := ⟨PERF_CTL, 1, 1⟩
def PERF_BWWIN : Nat := 0x100004
def PERF_BWWIN_US : Fld := ⟨PERF_BWWIN, 0, 20⟩
def PERF_BWSTAT : Nat := 0x100008
def PERF_BWSTAT_WINDOWS : Fld := ⟨PERF_BWSTAT, 0, 16⟩
def PERF_ECC : Nat := 0x10000C
def PERF_ECC_CORR : Fld := ⟨PERF_ECC, 0, 16⟩
def PERF_ECC_FATAL : Fld := ⟨PERF_ECC, 16, 16⟩
def PERF_IRQ : Nat := 0x100010
def PERF_IRQ_FULL : Fld := ⟨PERF_IRQ, 0, 8⟩
def PERF_IRQ_EN : Fld := ⟨PERF_IRQ, 16, 8⟩
def PERF_BW (i : Nat) : Nat := 0x100040 + 0x4 * i
def PERF_BW_UNITS (i : Nat) : Fld := ⟨PERF_BW i, 0, 32⟩
def PERF_LESEL (n i : Nat) : Nat := 0x100100 + 0x40 * n + 0x4 * i
def PERF_LESEL_EVENT (n i : Nat) : Fld := ⟨PERF_LESEL n i, 0, 4⟩
def PERF_LECNT (n i : Nat) : Nat := 0x100120 + 0x40 * n + 0x4 * i
def PERF_LECNT_COUNT (n i : Nat) : Fld := ⟨PERF_LECNT n i, 0, 32⟩
def PERF_SCTL (u : Nat) : Nat := 0x100200 + 0x10 * u
def PERF_SCTL_INTERVAL (u : Nat) : Fld := ⟨PERF_SCTL u, 0, 16⟩
def PERF_SCTL_EN (u : Nat) : Fld := ⟨PERF_SCTL u, 16, 1⟩
def PERF_SCTL_WRAP (u : Nat) : Fld := ⟨PERF_SCTL u, 17, 1⟩
def PERF_SCTL_CLR (u : Nat) : Fld := ⟨PERF_SCTL u, 18, 1⟩
def PERF_SCTL_COUNT (u : Nat) : Fld := ⟨PERF_SCTL u, 24, 7⟩
def PERF_SBUF (u w : Nat) : Nat := 0x101000 + 0x800 * u + 0x4 * w
def PERF_SBUF_DATA (u w : Nat) : Fld := ⟨PERF_SBUF u w, 0, 32⟩

def MOOR_CTL : Nat := 0xC0000
def MOOR_CTL_EN : Fld := ⟨MOOR_CTL, 0, 1⟩
def MOOR_CTL_AUTOJOIN : Fld := ⟨MOOR_CTL, 1, 1⟩
def MOOR_CTL_GTRIG : Fld := ⟨MOOR_CTL, 2, 1⟩
def MOOR_CTL_LOGVIA : Fld := ⟨MOOR_CTL, 3, 1⟩
def MOOR_CTL_RELAY : Fld := ⟨MOOR_CTL, 4, 1⟩
def MOOR_CTL_LOSSSEV : Fld := ⟨MOOR_CTL, 8, 3⟩
def MOOR_GCFG : Nat := 0xC0004
def MOOR_GCFG_EXPECT : Fld := ⟨MOOR_GCFG, 0, 4⟩
def MOOR_GCFG_TOPO : Fld := ⟨MOOR_GCFG, 4, 1⟩
def MOOR_GCFG_FORMWAIT : Fld := ⟨MOOR_GCFG, 8, 8⟩
def MOOR_GSTAT : Nat := 0xC0008
def MOOR_GSTAT_FORMED : Fld := ⟨MOOR_GSTAT, 0, 1⟩
def MOOR_GSTAT_COMPLETE : Fld := ⟨MOOR_GSTAT, 1, 1⟩
def MOOR_GSTAT_TOPO : Fld := ⟨MOOR_GSTAT, 2, 1⟩
def MOOR_GSTAT_FORMING : Fld := ⟨MOOR_GSTAT, 3, 1⟩
def MOOR_GSTAT_JOINPEND : Fld := ⟨MOOR_GSTAT, 4, 1⟩
def MOOR_GSTAT_MASK : Fld := ⟨MOOR_GSTAT, 8, 8⟩
def MOOR_GSTAT_COUNT : Fld := ⟨MOOR_GSTAT, 16, 4⟩
def MOOR_PSTAT (p : Nat) : Nat := 0xC0010 + 0x4 * p
def MOOR_PSTAT_UP (p : Nat) : Fld := ⟨MOOR_PSTAT p, 0, 1⟩
def MOOR_PSTAT_TRAIN (p : Nat) : Fld := ⟨MOOR_PSTAT p, 1, 1⟩
def MOOR_PSTAT_PEER (p : Nat) : Fld := ⟨MOOR_PSTAT p, 2, 3⟩
def MOOR_PSTAT_PEERPORT (p : Nat) : Fld := ⟨MOOR_PSTAT p, 5, 1⟩
def MOOR_PSTAT_PEERVALID (p : Nat) : Fld := ⟨MOOR_PSTAT p, 6, 1⟩
def MOOR_PSTAT_POLINV (p : Nat) : Fld := ⟨MOOR_PSTAT p, 8, 4⟩
def MOOR_HOPDLY (p : Nat) : Nat := 0xC0018 + 0x4 * p
def MOOR_HOPDLY_DELAY (p : Nat) : Fld := ⟨MOOR_HOPDLY p, 0, 16⟩
def MOOR_HOPDLY_CALS (p : Nat) : Fld := ⟨MOOR_HOPDLY p, 16, 16⟩
def MOOR_WEN : Nat := 0xC0020
def MOOR_WEN_EN : Fld := ⟨MOOR_WEN, 0, 8⟩
def MOOR_GSYNC : Nat := 0xC0024
def MOOR_GSYNC_SRC : Fld := ⟨MOOR_GSYNC, 0, 2⟩
def MOOR_GSYNC_DRIVE : Fld := ⟨MOOR_GSYNC, 2, 1⟩
def MOOR_GSYNC_USE : Fld := ⟨MOOR_GSYNC, 3, 1⟩
def MOOR_GSYNC_PRES : Fld := ⟨MOOR_GSYNC, 8, 8⟩
def MOOR_GSYNC_GSLOCK : Fld := ⟨MOOR_GSYNC, 16, 1⟩
def MOOR_GSOFS : Nat := 0xC0028
def MOOR_GSOFS_OFS : Fld := ⟨MOOR_GSOFS, 0, 32⟩
def MOOR_TIDEERR : Nat := 0xC002C
def MOOR_TIDEERR_LAST : Fld := ⟨MOOR_TIDEERR, 0, 16⟩
def MOOR_TIDEERR_PEAK : Fld := ⟨MOOR_TIDEERR, 16, 16⟩
def MOOR_IRQ : Nat := 0xC0030
def MOOR_IRQ_PEER : Fld := ⟨MOOR_IRQ, 0, 1⟩
def MOOR_IRQ_FORMED : Fld := ⟨MOOR_IRQ, 1, 1⟩
def MOOR_IRQ_RING : Fld := ⟨MOOR_IRQ, 2, 1⟩
def MOOR_IRQ_DOORBELL : Fld := ⟨MOOR_IRQ, 3, 1⟩
def MOOR_IRQ_SYNC : Fld := ⟨MOOR_IRQ, 4, 1⟩
def MOOR_IRQ_EN : Fld := ⟨MOOR_IRQ, 16, 5⟩
def MOOR_ERR (p : Nat) : Nat := 0xC0038 + 0x4 * p
def MOOR_ERR_RETX (p : Nat) : Fld := ⟨MOOR_ERR p, 0, 16⟩
def MOOR_ERR_DOWN (p : Nat) : Fld := ⟨MOOR_ERR p, 16, 16⟩
def MOOR_RDB (m : Nat) : Nat := 0xC0040 + 0x4 * m
def MOOR_RDB_BERTH (m : Nat) : Fld := ⟨MOOR_RDB m, 0, 32⟩
def MOOR_MEMBER (m : Nat) : Nat := 0xC0060 + 0x4 * m
def MOOR_MEMBER_PRESENT (m : Nat) : Fld := ⟨MOOR_MEMBER m, 0, 1⟩
def MOOR_MEMBER_HOPS (m : Nat) : Fld := ⟨MOOR_MEMBER m, 1, 3⟩
def MOOR_MEMBER_PORT (m : Nat) : Fld := ⟨MOOR_MEMBER m, 4, 1⟩
def MOOR_MEMBER_ALIGNED (m : Nat) : Fld := ⟨MOOR_MEMBER m, 5, 1⟩
def MOOR_MEMBER_EPOCH (m : Nat) : Fld := ⟨MOOR_MEMBER m, 8, 8⟩
def MOOR_MEMBER_MSTATE (m : Nat) : Fld := ⟨MOOR_MEMBER m, 16, 3⟩

def PWR_STATUS : Nat := 0xF0000
def PWR_STATUS_ACVALID : Fld := ⟨PWR_STATUS, 0, 1⟩
def PWR_STATUS_ACHIGH : Fld := ⟨PWR_STATUS, 1, 1⟩
def PWR_STATUS_KAVALID : Fld := ⟨PWR_STATUS, 2, 1⟩
def PWR_STATUS_COND : Fld := ⟨PWR_STATUS, 3, 2⟩
def PWR_STATUS_LOSS : Fld := ⟨PWR_STATUS, 5, 1⟩
def PWR_STATUS_QBUSY : Fld := ⟨PWR_STATUS, 6, 1⟩
def PWR_BUDGET : Nat := 0xF0004
def PWR_BUDGET_BUDGET : Fld := ⟨PWR_BUDGET, 0, 12⟩
def PWR_BUDGET_DEMAND : Fld := ⟨PWR_BUDGET, 16, 12⟩
def PWR_AXRES (n : Nat) : Nat := 0xF0008 + 0x4 * n
def PWR_AXRES_RES (n : Nat) : Fld := ⟨PWR_AXRES n, 0, 12⟩
def PWR_AXRES_QUEUED (n : Nat) : Fld := ⟨PWR_AXRES n, 12, 1⟩
def PWR_AXRES_SHED (n : Nat) : Fld := ⟨PWR_AXRES n, 13, 1⟩
def PWR_SHEDCFG : Nat := 0xF0018
def PWR_SHEDCFG_PRIO0 : Fld := ⟨PWR_SHEDCFG, 0, 2⟩
def PWR_SHEDCFG_PRIO1 : Fld := ⟨PWR_SHEDCFG, 2, 2⟩
def PWR_SHEDCFG_PRIO2 : Fld := ⟨PWR_SHEDCFG, 4, 2⟩
def PWR_SHEDCFG_PRIO3 : Fld := ⟨PWR_SHEDCFG, 6, 2⟩
def PWR_SLOT : Nat := 0xF001C
def PWR_SLOT_SLOT : Fld := ⟨PWR_SLOT, 0, 3⟩
def PWR_SLOT_QLEN : Fld := ⟨PWR_SLOT, 8, 5⟩
def PWR_RSTCAUSE : Nat := 0xF0020
def PWR_RSTCAUSE_POR : Fld := ⟨PWR_RSTCAUSE, 0, 1⟩
def PWR_RSTCAUSE_CMD : Fld := ⟨PWR_RSTCAUSE, 1, 1⟩
def PWR_RSTCAUSE_FWACT : Fld := ⟨PWR_RSTCAUSE, 2, 1⟩
def PWR_RSTCAUSE_WDOG : Fld := ⟨PWR_RSTCAUSE, 3, 1⟩
def PWR_RSTCAUSE_LOSSRET : Fld := ⟨PWR_RSTCAUSE, 4, 1⟩
def PWR_RSTCAUSE_LKLATCH : Fld := ⟨PWR_RSTCAUSE, 5, 1⟩
def PWR_RESET : Nat := 0xF0024
def PWR_RESET_KEY : Fld := ⟨PWR_RESET, 0, 16⟩
def PWR_IRQ : Nat := 0xF0028
def PWR_IRQ_LOSS : Fld := ⟨PWR_IRQ, 0, 1⟩
def PWR_IRQ_COND : Fld := ⟨PWR_IRQ, 1, 1⟩
def PWR_IRQ_SHED : Fld := ⟨PWR_IRQ, 2, 1⟩
def PWR_IRQ_EN : Fld := ⟨PWR_IRQ, 16, 3⟩

/-- Fields that one register repeats by an index. -/
def SYS_AXCFG_TYPE (n : Nat) : Fld := ⟨SYS_AXCFG, 8 + 2 * n, 2⟩
def ADC_MAP_SL (n k : Nat) : Fld := ⟨ADC_MAP n, 4 * k, 4⟩
def ETH_PCPMAP_Q (i : Nat) : Fld := ⟨ETH_PCPMAP, 3 * i, 3⟩
def BW_LKDEMAND_AX (n : Nat) : Fld := ⟨BW_LKDEMAND, 2 * n, 2⟩
def GATE_DIAGRES_LEG (l : Nat) : Fld := ⟨GATE_DIAGRES (l / 4), 8 * (l % 4), 8⟩
def PWR_SHEDCFG_PRIO (n : Nat) : Fld := ⟨PWR_SHEDCFG, 2 * n, 2⟩
def TIDE_DLCOARSE_BIT (k : Nat) : Fld := ⟨TIDE_DLCOARSE, k, 1⟩
def LE_FLAGS_BIT (n i : Nat) : Fld := ⟨LE_FLAGS n, i, 1⟩
def PWM_XCMD_BIT (l : Nat) : Fld := ⟨PWM_XCMD, l, 1⟩
def GATE_XCMD_BIT (l : Nat) : Fld := ⟨GATE_XCMD, l, 1⟩
def PWM_SOFS (x n : Nat) : Nat := PWM_SOFS0 n + 4 * x
def PWM_ICMP (x n : Nat) : Nat := PWM_ICMP0 n + 4 * x
def FBK_IRQ_BIT (n i : Nat) : Fld := ⟨FBK_IRQ n, i, 1⟩

end Reg

def regMapSys0 : List RDesc := [
  ⟨0x00000, [], [⟨16, 16, .ro, 9312, .none⟩, ⟨8, 8, .ro, 1, .none⟩, ⟨0, 8, .ro, 0, .none⟩]⟩,
  ⟨0x00004, [], [⟨0, 3, .ro, 0, .none⟩, ⟨3, 1, .ro, 0, .none⟩]⟩,
  ⟨0x00008, [], [⟨0, 7, .ro, 0, .none⟩]⟩,
  ⟨0x0000C, [], [⟨0, 3, .ro, 0, .none⟩]⟩,
  ⟨0x00010, [], [⟨0, 2, .rw, 0, .boot⟩, ⟨2, 2, .rw, 0, .boot⟩, ⟨4, 1, .rw, 0, .boot⟩, ⟨8, 2, .rw, 0, .boot⟩, ⟨10, 2, .rw, 0, .boot⟩, ⟨12, 2, .rw, 0, .boot⟩, ⟨14, 2, .rw, 0, .boot⟩]⟩,
  ⟨0x00014, [], [⟨0, 7, .ro, 0, .none⟩, ⟨7, 1, .ro, 0, .none⟩, ⟨8, 3, .ro, 0, .none⟩, ⟨31, 1, .w1c, 0, .live⟩]⟩,
  ⟨0x00018, [], [⟨0, 32, .ro, 0, .none⟩]⟩,
  ⟨0x0001C, [], [⟨0, 8, .ro, 0, .none⟩]⟩,
  ⟨0x00020, [], [⟨0, 16, .rc, 0, .none⟩]⟩,
  ⟨0x00024, [], [⟨0, 18, .rw, 11776, .boot⟩]⟩]

/-- The SYS register map (R42). -/
def regMapSys : List RDesc :=
  regMapSys0

def regMapTide0 : List RDesc := [
  ⟨0x10000, [], [⟨0, 1, .rw, 0, .boot⟩, ⟨1, 1, .rw, 0, .live⟩, ⟨2, 2, .rw, 0, .live⟩, ⟨4, 1, .rw, 1, .live⟩]⟩,
  ⟨0x10004, [], [⟨0, 1, .ro, 0, .none⟩, ⟨1, 1, .ro, 0, .none⟩, ⟨2, 1, .w1c, 0, .live⟩, ⟨3, 1, .ro, 0, .none⟩, ⟨4, 1, .ro, 0, .none⟩, ⟨5, 1, .ro, 0, .none⟩, ⟨6, 1, .ro, 0, .none⟩, ⟨8, 8, .ro, 0, .none⟩]⟩,
  ⟨0x10008, [], [⟨0, 32, .ro, 0, .none⟩]⟩,
  ⟨0x1000C, [], [⟨0, 32, .ro, 0, .none⟩]⟩,
  ⟨0x10010, [], [⟨0, 16, .ro, 0, .none⟩, ⟨16, 5, .ro, 0, .none⟩, ⟨24, 1, .w1c, 0, .live⟩]⟩,
  ⟨0x10014, [], [⟨0, 28, .ro, 0, .none⟩]⟩,
  ⟨0x10018, [], [⟨0, 5, .rw, 0, .live⟩]⟩,
  ⟨0x1001C, [], [⟨0, 6, .ro, 0, .none⟩, ⟨8, 4, .ro, 0, .none⟩]⟩,
  ⟨0x10020, [], [⟨0, 5, .ro, 25, .none⟩, ⟨8, 5, .rw, 0, .boot⟩, ⟨16, 5, .rw, 25, .boot⟩]⟩,
  ⟨0x10030, [(5, 0x4)], [⟨0, 10, .ro, 0, .none⟩, ⟨16, 10, .rc, 0, .none⟩]⟩,
  ⟨0x10050, [(4, 0x4)], [⟨0, 16, .rc, 0, .none⟩, ⟨16, 2, .ro, 0, .none⟩]⟩,
  ⟨0x10060, [(5, 0x4)], [⟨0, 16, .ro, 0, .none⟩]⟩]

def regMapTide1 : List RDesc := [
  ⟨0x10080, [], [⟨0, 32, .ro, 0, .none⟩]⟩,
  ⟨0x10084, [], [⟨0, 18, .ro, 0, .none⟩]⟩,
  ⟨0x10088, [], [⟨0, 30, .ro, 0, .none⟩]⟩,
  ⟨0x1008C, [], [⟨0, 32, .ro, 0, .none⟩]⟩,
  ⟨0x10090, [], [⟨0, 16, .ro, 0, .none⟩]⟩,
  ⟨0x100A0, [], [⟨0, 32, .ro, 0, .none⟩]⟩,
  ⟨0x100A4, [], [⟨0, 32, .ro, 0, .none⟩]⟩]

/-- The TIDE register map (R74). -/
def regMapTide : List RDesc :=
  regMapTide0 ++ regMapTide1

def regMapAdc0 : List RDesc := [
  ⟨0x40000, [(4, 0x400)], [⟨0, 12, .rw, 0, .stoppedAxis⟩, ⟨12, 3, .rw, 0, .stoppedAxis⟩, ⟨15, 1, .rw, 0, .stoppedAxis⟩]⟩,
  ⟨0x40004, [(4, 0x400)], [⟨0, 4, .ro, 8, .none⟩, ⟨4, 1, .ro, 0, .none⟩, ⟨8, 9, .ro, 0, .none⟩, ⟨17, 1, .w1c, 0, .live⟩, ⟨18, 1, .w1c, 0, .live⟩, ⟨19, 1, .w1c, 0, .live⟩, ⟨20, 1, .ro, 0, .none⟩, ⟨24, 8, .ro, 0, .none⟩]⟩,
  ⟨0x40008, [(4, 0x400)], [⟨0, 4, .ro, 0, .none⟩, ⟨4, 4, .ro, 1, .none⟩, ⟨8, 4, .ro, 2, .none⟩, ⟨12, 4, .ro, 3, .none⟩, ⟨16, 4, .ro, 4, .none⟩, ⟨20, 4, .ro, 5, .none⟩, ⟨24, 4, .ro, 6, .none⟩, ⟨28, 4, .ro, 7, .none⟩]⟩,
  ⟨0x4000C, [(4, 0x400)], [⟨0, 8, .w1c, 0, .live⟩, ⟨8, 8, .w1c, 0, .live⟩, ⟨16, 8, .w1c, 0, .live⟩]⟩,
  ⟨0x40010, [(4, 0x400)], [⟨0, 16, .rc, 0, .none⟩]⟩,
  ⟨0x40020, [(4, 0x400), (8, 0x4)], [⟨0, 32, .ro, 0, .none⟩]⟩,
  ⟨0x40040, [(4, 0x400), (8, 0x4)], [⟨0, 32, .ro, 0, .none⟩]⟩,
  ⟨0x40060, [(4, 0x400), (8, 0x4)], [⟨0, 32, .rw, 20971520, .stoppedAxis⟩]⟩,
  ⟨0x40080, [(4, 0x400), (8, 0x4)], [⟨0, 18, .rw, 0, .stoppedAxis⟩]⟩,
  ⟨0x400A0, [(4, 0x400), (8, 0x4)], [⟨0, 18, .rw, 0, .stoppedAxis⟩]⟩,
  ⟨0x400C0, [(4, 0x400), (9, 0x4)], [⟨0, 16, .ro, 0, .none⟩, ⟨16, 16, .ro, 0, .none⟩]⟩,
  ⟨0x400F0, [(4, 0x400)], [⟨0, 18, .rw, 0, .stoppedAxis⟩]⟩]

def regMapAdc1 : List RDesc := [
  ⟨0x400F4, [(4, 0x400)], [⟨0, 18, .rw, 0, .stoppedAxis⟩]⟩,
  ⟨0x41000, [], [⟨0, 11, .rw, 2000, .stoppedModule⟩]⟩,
  ⟨0x41004, [], [⟨0, 16, .ro, 0, .none⟩, ⟨16, 1, .ro, 0, .none⟩, ⟨24, 8, .ro, 0, .none⟩]⟩,
  ⟨0x41008, [], [⟨0, 32, .ro, 0, .none⟩]⟩,
  ⟨0x4100C, [], [⟨0, 18, .rw, 0, .stoppedModule⟩]⟩,
  ⟨0x41010, [], [⟨0, 18, .rw, 0, .stoppedModule⟩]⟩,
  ⟨0x41014, [], [⟨0, 1, .ro, 0, .none⟩, ⟨1, 1, .ro, 0, .none⟩]⟩]

/-- The ADC register map (R168). -/
def regMapAdc : List RDesc :=
  regMapAdc0 ++ regMapAdc1

def regMapHk0 : List RDesc := [
  ⟨0xE0000, [], [⟨0, 7, .rw, 10, .live⟩]⟩,
  ⟨0xE0004, [], [⟨0, 16, .ro, 0, .none⟩, ⟨16, 1, .ro, 0, .none⟩, ⟨17, 1, .ro, 0, .none⟩]⟩,
  ⟨0xE0010, [(8, 0x4)], [⟨0, 2, .rw, 0, .stoppedModule⟩, ⟨2, 1, .ro, 0, .none⟩, ⟨3, 1, .ro, 0, .none⟩]⟩,
  ⟨0xE0030, [(8, 0x4)], [⟨0, 32, .rw, 175964160, .stoppedModule⟩]⟩,
  ⟨0xE0050, [(8, 0x4)], [⟨0, 32, .rw, 0, .stoppedModule⟩]⟩,
  ⟨0xE0070, [(8, 0x4)], [⟨0, 32, .rw, 0, .stoppedModule⟩]⟩,
  ⟨0xE0090, [(8, 0x4)], [⟨0, 32, .ro, 0, .none⟩]⟩,
  ⟨0xE0100, [(64, 0x4)], [⟨0, 15, .ro, 0, .none⟩, ⟨24, 8, .ro, 0, .none⟩]⟩,
  ⟨0xE0200, [(64, 0x4)], [⟨0, 32, .ro, 0, .none⟩]⟩,
  ⟨0xE0300, [(64, 0x4)], [⟨0, 18, .rw, 0, .stoppedModule⟩]⟩,
  ⟨0xE0400, [(64, 0x4)], [⟨0, 18, .rw, 0, .stoppedModule⟩]⟩]

/-- The HK register map (R169). -/
def regMapHk : List RDesc :=
  regMapHk0

def regMapFbk0 : List RDesc := [
  ⟨0x50000, [(4, 0x100)], [⟨0, 3, .rw, 0, .stoppedAxis⟩, ⟨3, 1, .rw, 0, .stoppedAxis⟩, ⟨4, 1, .rw, 0, .stoppedAxis⟩, ⟨5, 1, .rw, 0, .stoppedAxis⟩, ⟨8, 4, .rw, 1, .stoppedAxis⟩, ⟨16, 6, .rw, 1, .stoppedAxis⟩]⟩,
  ⟨0x50004, [(4, 0x100)], [⟨0, 32, .rw, 4096, .stoppedAxis⟩]⟩,
  ⟨0x50008, [(4, 0x100)], [⟨0, 10, .rw, 8, .stoppedAxis⟩]⟩,
  ⟨0x5000C, [(4, 0x100)], [⟨0, 10, .rw, 100, .stoppedAxis⟩, ⟨16, 10, .rw, 50, .stoppedAxis⟩]⟩,
  ⟨0x50010, [(4, 0x100)], [⟨0, 1, .ro, 0, .none⟩, ⟨1, 1, .ro, 0, .none⟩, ⟨2, 1, .ro, 0, .none⟩, ⟨3, 1, .ro, 0, .none⟩, ⟨4, 1, .ro, 0, .none⟩, ⟨5, 1, .ro, 0, .none⟩, ⟨6, 1, .ro, 0, .none⟩, ⟨7, 1, .ro, 0, .none⟩, ⟨8, 1, .ro, 0, .none⟩, ⟨9, 1, .w1c, 0, .live⟩, ⟨10, 1, .w1c, 0, .live⟩]⟩,
  ⟨0x50014, [(4, 0x100)], [⟨0, 32, .ro, 0, .none⟩]⟩,
  ⟨0x50018, [(4, 0x100)], [⟨0, 32, .ro, 0, .none⟩]⟩,
  ⟨0x5001C, [(4, 0x100)], [⟨0, 32, .ro, 0, .none⟩]⟩,
  ⟨0x50020, [(4, 0x100)], [⟨0, 16, .rw, 4, .stoppedAxis⟩, ⟨16, 2, .rw, 0, .stoppedAxis⟩]⟩,
  ⟨0x50024, [(4, 0x100)], [⟨0, 8, .rc, 0, .none⟩, ⟨8, 8, .rc, 0, .none⟩, ⟨16, 8, .rc, 0, .none⟩, ⟨24, 8, .rc, 0, .none⟩]⟩,
  ⟨0x50028, [(4, 0x100)], [⟨0, 32, .ro, 0, .none⟩]⟩,
  ⟨0x5002C, [(4, 0x100)], [⟨0, 16, .ro, 0, .none⟩, ⟨16, 16, .ro, 0, .none⟩]⟩]

def regMapFbk1 : List RDesc := [
  ⟨0x50030, [(4, 0x100)], [⟨0, 32, .rw, 0, .stoppedAxis⟩]⟩,
  ⟨0x50034, [(4, 0x100)], [⟨0, 32, .ro, 0, .none⟩]⟩,
  ⟨0x50038, [(4, 0x100)], [⟨0, 1, .w1c, 0, .live⟩, ⟨1, 1, .w1c, 0, .live⟩, ⟨2, 1, .w1c, 0, .live⟩, ⟨3, 1, .w1c, 0, .live⟩, ⟨4, 1, .w1c, 0, .live⟩, ⟨5, 1, .w1c, 0, .live⟩, ⟨16, 6, .rw, 0, .live⟩]⟩,
  ⟨0x50040, [(4, 0x100)], [⟨0, 17, .rw, 40000, .stoppedAxis⟩, ⟨17, 6, .rw, 20, .stoppedAxis⟩, ⟨23, 1, .rw, 0, .stoppedAxis⟩, ⟨24, 2, .rw, 1, .stoppedAxis⟩, ⟨26, 1, .rw, 0, .stoppedAxis⟩]⟩,
  ⟨0x50044, [(4, 0x100)], [⟨0, 16, .rw, 0, .stoppedAxis⟩]⟩,
  ⟨0x50048, [(4, 0x100)], [⟨0, 16, .ro, 0, .none⟩, ⟨16, 16, .ro, 0, .none⟩]⟩,
  ⟨0x50050, [(4, 0x100)], [⟨0, 6, .rw, 25, .stoppedAxis⟩, ⟨6, 1, .rw, 0, .stoppedAxis⟩, ⟨7, 1, .rw, 0, .stoppedAxis⟩, ⟨8, 12, .rw, 100, .stoppedAxis⟩, ⟨20, 6, .rw, 20, .stoppedAxis⟩]⟩,
  ⟨0x50054, [(4, 0x100)], [⟨0, 12, .rw, 0, .stoppedAxis⟩]⟩,
  ⟨0x50058, [(4, 0x100)], [⟨0, 32, .ro, 0, .none⟩]⟩,
  ⟨0x5005C, [(4, 0x100)], [⟨0, 32, .rw, 0, .stoppedAxis⟩]⟩,
  ⟨0x50060, [(4, 0x100)], [⟨0, 3, .ro, 0, .none⟩, ⟨16, 16, .rw, 0, .stoppedAxis⟩]⟩,
  ⟨0x50070, [(4, 0x100)], [⟨0, 16, .ro, 0, .none⟩]⟩]

def regMapFbk2 : List RDesc := [
  ⟨0x50074, [(4, 0x100)], [⟨0, 32, .ro, 0, .none⟩]⟩,
  ⟨0x50078, [(4, 0x100)], [⟨0, 32, .ro, 0, .none⟩]⟩,
  ⟨0x5007C, [(4, 0x100)], [⟨0, 32, .rw, 4194304, .stoppedAxis⟩]⟩,
  ⟨0x50080, [(4, 0x100)], [⟨0, 16, .rw, 20, .stoppedAxis⟩, ⟨16, 1, .ro, 0, .none⟩, ⟨17, 1, .ro, 0, .none⟩]⟩]

/-- The FBK register map (R200). -/
def regMapFbk : List RDesc :=
  regMapFbk0 ++ regMapFbk1 ++ regMapFbk2

def regMapLe0 : List RDesc := [
  ⟨0x60000, [(4, 0x100)], [⟨0, 1, .rw, 1, .stoppedAxis⟩, ⟨1, 1, .wo, 0, .live⟩]⟩,
  ⟨0x60004, [(4, 0x100)], [⟨0, 13, .rw, 0, .stoppedAxis⟩, ⟨16, 13, .rw, 0, .stoppedAxis⟩]⟩,
  ⟨0x60008, [(4, 0x100)], [⟨0, 3, .ro, 0, .none⟩, ⟨8, 13, .ro, 0, .none⟩, ⟨24, 8, .ro, 0, .none⟩]⟩,
  ⟨0x6000C, [(4, 0x100)], [⟨0, 1, .w1c, 0, .live⟩, ⟨1, 1, .w1c, 0, .live⟩, ⟨2, 1, .w1c, 0, .live⟩, ⟨3, 1, .w1c, 0, .live⟩, ⟨4, 1, .w1c, 0, .live⟩, ⟨5, 1, .w1c, 0, .live⟩, ⟨6, 1, .w1c, 0, .live⟩, ⟨7, 1, .w1c, 0, .live⟩]⟩,
  ⟨0x60010, [(4, 0x100)], [⟨0, 13, .ro, 0, .none⟩, ⟨16, 3, .ro, 0, .none⟩, ⟨31, 1, .w1c, 0, .live⟩]⟩,
  ⟨0x60014, [(4, 0x100)], [⟨0, 18, .ro, 0, .none⟩, ⟨18, 2, .ro, 0, .none⟩, ⟨20, 1, .ro, 0, .none⟩, ⟨31, 1, .w1c, 0, .live⟩]⟩,
  ⟨0x60018, [(4, 0x100)], [⟨0, 32, .rc, 0, .none⟩]⟩,
  ⟨0x6001C, [(4, 0x100)], [⟨0, 32, .rc, 0, .none⟩]⟩,
  ⟨0x60020, [(4, 0x100)], [⟨0, 32, .rc, 0, .none⟩]⟩,
  ⟨0x60024, [(4, 0x100)], [⟨0, 16, .ro, 0, .none⟩, ⟨16, 16, .ro, 0, .none⟩]⟩]

/-- The LE register map (R226). -/
def regMapLe : List RDesc :=
  regMapLe0

def regMapPwm0 : List RDesc := [
  ⟨0x20000, [(4, 0x100)], [⟨0, 1, .rw, 0, .stoppedAxis⟩, ⟨1, 1, .rw, 0, .stoppedAxis⟩, ⟨2, 2, .rw, 1, .stoppedAxis⟩, ⟨4, 4, .rw, 0, .stoppedAxis⟩]⟩,
  ⟨0x20004, [(4, 0x100)], [⟨0, 24, .rw, 20000, .stoppedAxis⟩]⟩,
  ⟨0x20008, [(4, 0x100)], [⟨0, 5, .rw, 0, .stoppedAxis⟩, ⟨5, 24, .rw, 0, .stoppedAxis⟩]⟩,
  ⟨0x2000C, [(4, 0x100)], [⟨0, 5, .rw, 0, .reload⟩, ⟨5, 24, .rw, 0, .reload⟩, ⟨31, 1, .rw, 1, .reload⟩]⟩,
  ⟨0x20010, [(4, 0x100)], [⟨0, 5, .rw, 0, .reload⟩, ⟨5, 24, .rw, 0, .reload⟩, ⟨31, 1, .rw, 0, .reload⟩]⟩,
  ⟨0x20014, [(4, 0x100)], [⟨0, 12, .rw, 0, .reload⟩]⟩,
  ⟨0x20018, [(4, 0x100)], [⟨0, 24, .rw, 0, .live⟩, ⟨31, 1, .rw, 0, .live⟩]⟩,
  ⟨0x2001C, [(4, 0x100)], [⟨0, 24, .rw, 0, .live⟩, ⟨31, 1, .rw, 0, .live⟩]⟩,
  ⟨0x20020, [(4, 0x100)], [⟨0, 8, .rw, 0, .live⟩, ⟨8, 8, .rw, 0, .live⟩, ⟨16, 8, .rw, 0, .live⟩, ⟨24, 8, .rw, 0, .live⟩]⟩,
  ⟨0x20024, [(4, 0x100)], [⟨0, 1, .w1c, 0, .live⟩, ⟨1, 1, .w1c, 0, .live⟩, ⟨2, 1, .w1c, 0, .live⟩, ⟨3, 1, .w1c, 0, .live⟩, ⟨4, 1, .w1c, 0, .live⟩, ⟨16, 5, .rw, 0, .live⟩]⟩,
  ⟨0x20028, [(4, 0x100)], [⟨0, 1, .ro, 0, .none⟩, ⟨1, 1, .ro, 0, .none⟩, ⟨2, 1, .ro, 0, .none⟩, ⟨3, 1, .ro, 0, .none⟩, ⟨4, 2, .ro, 0, .none⟩]⟩,
  ⟨0x2002C, [(4, 0x100)], [⟨0, 24, .ro, 0, .none⟩]⟩]

def regMapPwm1 : List RDesc := [
  ⟨0x20030, [(4, 0x100)], [⟨0, 32, .ro, 0, .none⟩]⟩,
  ⟨0x20034, [(4, 0x100)], [⟨0, 32, .ro, 0, .none⟩]⟩,
  ⟨0x20038, [(4, 0x100)], [⟨0, 16, .rc, 0, .none⟩]⟩,
  ⟨0x2003C, [(4, 0x100)], [⟨0, 24, .rw, 0, .live⟩, ⟨31, 1, .rw, 0, .live⟩]⟩,
  ⟨0x20800, [(12, 0x40)], [⟨0, 5, .rw, 0, .reload⟩, ⟨5, 13, .rw, 800, .reload⟩]⟩,
  ⟨0x20804, [(12, 0x40)], [⟨0, 5, .rw, 0, .reload⟩, ⟨5, 10, .rw, 40, .reload⟩, ⟨16, 1, .rw, 0, .reload⟩]⟩,
  ⟨0x20808, [(12, 0x40)], [⟨0, 16, .rw, 1000, .stoppedAxis⟩, ⟨16, 12, .rw, 400, .stoppedAxis⟩]⟩,
  ⟨0x2080C, [(12, 0x40)], [⟨0, 5, .ro, 0, .none⟩, ⟨5, 24, .ro, 0, .none⟩]⟩,
  ⟨0x20810, [(12, 0x40)], [⟨0, 5, .ro, 0, .none⟩, ⟨5, 24, .ro, 0, .none⟩]⟩,
  ⟨0x20814, [(12, 0x40)], [⟨0, 32, .ro, 0, .none⟩]⟩,
  ⟨0x20818, [(12, 0x40)], [⟨0, 16, .rc, 0, .none⟩, ⟨16, 16, .rc, 0, .none⟩]⟩,
  ⟨0x2081C, [(12, 0x40)], [⟨0, 16, .rc, 0, .none⟩, ⟨16, 16, .rc, 0, .none⟩]⟩]

def regMapPwm2 : List RDesc := [
  ⟨0x20820, [(12, 0x40)], [⟨0, 32, .ro, 0, .none⟩]⟩,
  ⟨0x20C00, [(8, 0x4)], [⟨0, 1, .rw, 0, .stoppedModule⟩, ⟨1, 1, .rw, 0, .stoppedModule⟩, ⟨2, 8, .rw, 4, .stoppedModule⟩, ⟨10, 10, .rw, 0, .stoppedModule⟩, ⟨20, 4, .rw, 0, .stoppedModule⟩, ⟨24, 1, .ro, 0, .none⟩, ⟨25, 1, .w1c, 0, .live⟩]⟩,
  ⟨0x20C40, [], [⟨0, 12, .w1c, 0, .live⟩]⟩]

/-- The PWM register map (R286). -/
def regMapPwm : List RDesc :=
  regMapPwm0 ++ regMapPwm1 ++ regMapPwm2

def regMapGate0 : List RDesc := [
  ⟨0x30000, [(26, 0x40)], [⟨0, 4, .rw, 6, .stoppedOwner⟩, ⟨4, 4, .rw, 6, .stoppedOwner⟩, ⟨8, 1, .rw, 0, .stoppedOwner⟩, ⟨9, 1, .rw, 0, .stoppedOwner⟩, ⟨10, 1, .rw, 0, .stoppedOwner⟩, ⟨11, 1, .rw, 1, .stoppedOwner⟩]⟩,
  ⟨0x30004, [(26, 0x40)], [⟨0, 5, .rw, 7, .live⟩, ⟨8, 5, .rw, 11, .live⟩, ⟨16, 3, .rw, 1, .stoppedOwner⟩, ⟨20, 4, .rw, 2, .stoppedOwner⟩]⟩,
  ⟨0x30008, [(26, 0x40)], [⟨0, 5, .rw, 0, .stoppedOwner⟩, ⟨8, 5, .rw, 23, .stoppedOwner⟩, ⟨16, 5, .rw, 0, .stoppedOwner⟩, ⟨24, 5, .rw, 31, .stoppedOwner⟩]⟩,
  ⟨0x3000C, [(26, 0x40)], [⟨0, 9, .rw, 100, .stoppedOwner⟩, ⟨16, 9, .rw, 100, .stoppedOwner⟩]⟩,
  ⟨0x30010, [(26, 0x40)], [⟨0, 5, .rw, 12, .stoppedOwner⟩, ⟨8, 8, .rw, 40, .stoppedOwner⟩]⟩,
  ⟨0x30014, [(26, 0x40)], [⟨0, 16, .rw, 2000, .stoppedOwner⟩]⟩,
  ⟨0x30018, [(26, 0x40)], [⟨0, 1, .ro, 0, .none⟩, ⟨1, 1, .ro, 0, .none⟩, ⟨2, 1, .ro, 0, .none⟩, ⟨3, 1, .ro, 0, .none⟩, ⟨4, 1, .ro, 0, .none⟩, ⟨5, 1, .ro, 0, .none⟩, ⟨6, 1, .ro, 0, .none⟩, ⟨7, 1, .ro, 0, .none⟩, ⟨8, 1, .ro, 0, .none⟩, ⟨9, 1, .ro, 0, .none⟩, ⟨10, 1, .ro, 0, .none⟩, ⟨11, 1, .ro, 0, .none⟩, ⟨12, 1, .ro, 0, .none⟩, ⟨13, 1, .ro, 0, .none⟩, ⟨14, 1, .ro, 0, .none⟩, ⟨15, 1, .ro, 0, .none⟩]⟩,
  ⟨0x3001C, [(26, 0x40)], [⟨0, 5, .ro, 7, .none⟩, ⟨8, 5, .ro, 11, .none⟩]⟩,
  ⟨0x30020, [(26, 0x40)], [⟨0, 10, .ro, 0, .none⟩, ⟨16, 10, .ro, 0, .none⟩]⟩,
  ⟨0x30024, [(26, 0x40)], [⟨0, 10, .ro, 0, .none⟩, ⟨16, 10, .ro, 0, .none⟩]⟩,
  ⟨0x30028, [(26, 0x40)], [⟨0, 8, .rc, 0, .none⟩, ⟨8, 8, .rc, 0, .none⟩, ⟨16, 8, .rc, 0, .none⟩, ⟨24, 8, .rc, 0, .none⟩]⟩,
  ⟨0x3002C, [(26, 0x40)], [⟨0, 32, .rw, 240001024, .stoppedModule⟩]⟩]

def regMapGate1 : List RDesc := [
  ⟨0x30030, [(26, 0x40)], [⟨0, 32, .rw, 0, .stoppedModule⟩]⟩,
  ⟨0x30034, [(26, 0x40)], [⟨0, 32, .ro, 0, .none⟩]⟩,
  ⟨0x30800, [(4, 0x4)], [⟨0, 16, .rw, 0, .stoppedModule⟩, ⟨16, 3, .rw, 0, .stoppedModule⟩, ⟨20, 12, .rw, 0, .stoppedModule⟩]⟩,
  ⟨0x30810, [], [⟨0, 12, .w1c, 0, .live⟩]⟩,
  ⟨0x30814, [], [⟨0, 26, .ro, 0, .none⟩]⟩,
  ⟨0x30818, [], [⟨0, 26, .ro, 0, .none⟩]⟩,
  ⟨0x30820, [(3, 0x4)], [⟨0, 8, .ro, 255, .none⟩, ⟨8, 8, .ro, 255, .none⟩, ⟨16, 8, .ro, 255, .none⟩, ⟨24, 8, .ro, 255, .none⟩]⟩,
  ⟨0x3082C, [], [⟨0, 1, .ro, 0, .none⟩, ⟨1, 1, .ro, 0, .none⟩, ⟨2, 1, .ro, 0, .none⟩, ⟨4, 1, .ro, 0, .none⟩, ⟨5, 1, .ro, 0, .none⟩, ⟨6, 1, .ro, 0, .none⟩, ⟨8, 1, .ro, 0, .none⟩]⟩]

/-- The GATE register map (R311). -/
def regMapGate : List RDesc :=
  regMapGate0 ++ regMapGate1

def regMapBw0 : List RDesc := [
  ⟨0x70000, [], [⟨0, 1, .ro, 0, .none⟩, ⟨1, 1, .ro, 0, .none⟩, ⟨2, 1, .ro, 0, .none⟩, ⟨3, 1, .ro, 0, .none⟩, ⟨4, 1, .ro, 0, .none⟩, ⟨5, 1, .ro, 0, .none⟩, ⟨6, 1, .ro, 0, .none⟩, ⟨7, 1, .ro, 0, .none⟩, ⟨8, 1, .ro, 0, .none⟩, ⟨9, 1, .ro, 0, .none⟩, ⟨10, 1, .ro, 0, .none⟩, ⟨11, 1, .ro, 0, .none⟩]⟩,
  ⟨0x70004, [], [⟨0, 11, .ro, 0, .none⟩]⟩,
  ⟨0x70010, [], [⟨0, 11, .rw, 1750, .stoppedModule⟩, ⟨16, 11, .rw, 1700, .stoppedModule⟩]⟩,
  ⟨0x70014, [], [⟨0, 11, .rw, 1850, .stoppedModule⟩, ⟨16, 11, .rw, 1950, .stoppedModule⟩]⟩,
  ⟨0x70018, [], [⟨0, 11, .rw, 0, .stoppedModule⟩, ⟨16, 11, .rw, 0, .stoppedModule⟩]⟩,
  ⟨0x7001C, [], [⟨0, 8, .rw, 20, .stoppedModule⟩]⟩,
  ⟨0x70020, [], [⟨0, 1, .rw, 0, .stoppedModule⟩, ⟨8, 8, .rw, 20, .stoppedModule⟩, ⟨16, 11, .rw, 20, .stoppedModule⟩]⟩,
  ⟨0x70024, [], [⟨0, 16, .rw, 200, .stoppedModule⟩]⟩,
  ⟨0x70028, [], [⟨0, 16, .rw, 1000, .stoppedModule⟩]⟩,
  ⟨0x7002C, [], [⟨0, 32, .rw, 100000, .stoppedModule⟩]⟩,
  ⟨0x70030, [], [⟨0, 16, .rw, 300, .stoppedModule⟩]⟩,
  ⟨0x70034, [], [⟨0, 32, .ro, 50000, .none⟩]⟩]

def regMapBw1 : List RDesc := [
  ⟨0x70040, [], [⟨0, 1, .rw, 1, .stoppedModule⟩, ⟨1, 1, .rw, 0, .stoppedModule⟩, ⟨8, 8, .rw, 100, .stoppedModule⟩, ⟨16, 11, .rw, 60, .stoppedModule⟩]⟩,
  ⟨0x70044, [], [⟨0, 16, .rw, 10000, .stoppedModule⟩]⟩,
  ⟨0x70048, [], [⟨0, 32, .rw, 20000, .stoppedModule⟩]⟩,
  ⟨0x7004C, [], [⟨0, 16, .rw, 600, .stoppedModule⟩]⟩,
  ⟨0x70050, [], [⟨0, 32, .ro, 10000, .none⟩]⟩,
  ⟨0x70054, [], [⟨0, 1, .wo, 0, .live⟩, ⟨1, 1, .wo, 0, .live⟩]⟩,
  ⟨0x70080, [(4, 0x4)], [⟨0, 16, .rw, 0, .stoppedAxis⟩, ⟨16, 1, .rw, 0, .stoppedAxis⟩, ⟨17, 1, .rw, 0, .live⟩, ⟨18, 1, .rw, 0, .stoppedAxis⟩]⟩,
  ⟨0x70090, [(4, 0x4)], [⟨0, 2, .ro, 0, .none⟩, ⟨2, 3, .ro, 0, .none⟩, ⟨5, 1, .ro, 0, .none⟩, ⟨6, 1, .ro, 0, .none⟩, ⟨8, 5, .ro, 16, .none⟩]⟩,
  ⟨0x700A0, [(8, 0x4)], [⟨0, 4, .rw, 0, .stoppedModule⟩, ⟨4, 3, .rw, 4, .stoppedModule⟩, ⟨7, 1, .rw, 0, .stoppedModule⟩]⟩,
  ⟨0x700C0, [], [⟨0, 1, .rw, 0, .stoppedModule⟩, ⟨1, 1, .rw, 1, .stoppedModule⟩, ⟨2, 1, .rw, 1, .stoppedModule⟩, ⟨4, 3, .rw, 4, .stoppedModule⟩, ⟨8, 1, .ro, 1, .none⟩, ⟨9, 1, .ro, 0, .none⟩, ⟨10, 1, .w1c, 0, .live⟩]⟩,
  ⟨0x700D0, [], [⟨0, 2, .rw, 0, .live⟩, ⟨2, 2, .rw, 0, .live⟩, ⟨4, 2, .rw, 0, .live⟩, ⟨6, 2, .rw, 0, .live⟩, ⟨8, 1, .rw, 0, .live⟩, ⟨9, 1, .rw, 0, .live⟩]⟩,
  ⟨0x70100, [], [⟨0, 10, .rw, 100, .live⟩, ⟨16, 1, .rw, 0, .stoppedModule⟩]⟩]

def regMapBw2 : List RDesc := [
  ⟨0x70104, [], [⟨0, 1, .ro, 0, .none⟩, ⟨1, 1, .ro, 0, .none⟩, ⟨2, 1, .ro, 0, .none⟩, ⟨3, 1, .ro, 0, .none⟩, ⟨4, 2, .ro, 0, .none⟩, ⟨6, 1, .ro, 0, .none⟩]⟩,
  ⟨0x70110, [], [⟨0, 8, .rw, 125, .live⟩, ⟨8, 8, .rw, 140, .live⟩, ⟨16, 8, .rw, 10, .live⟩]⟩,
  ⟨0x70114, [], [⟨0, 8, .rw, 100, .live⟩, ⟨8, 8, .rw, 115, .live⟩, ⟨16, 8, .rw, 10, .live⟩]⟩,
  ⟨0x70118, [], [⟨0, 8, .rw, 110, .live⟩, ⟨8, 8, .rw, 130, .live⟩, ⟨16, 8, .rw, 10, .live⟩]⟩,
  ⟨0x70120, [(8, 0x4)], [⟨0, 8, .rw, 140, .live⟩, ⟨8, 8, .rw, 160, .live⟩, ⟨16, 8, .rw, 10, .live⟩, ⟨24, 4, .rw, 0, .stoppedModule⟩]⟩,
  ⟨0x70200, [], [⟨0, 7, .ro, 0, .none⟩, ⟨7, 1, .w1c, 0, .live⟩, ⟨8, 16, .ro, 0, .none⟩]⟩,
  ⟨0x70204, [], [⟨0, 6, .rw, 0, .live⟩]⟩,
  ⟨0x70208, [], [⟨0, 16, .ro, 0, .none⟩, ⟨16, 3, .ro, 0, .none⟩, ⟨24, 1, .ro, 0, .none⟩, ⟨25, 1, .ro, 0, .none⟩, ⟨26, 1, .ro, 0, .none⟩]⟩,
  ⟨0x7020C, [], [⟨0, 3, .ro, 0, .none⟩, ⟨8, 8, .ro, 0, .none⟩, ⟨16, 7, .ro, 0, .none⟩]⟩,
  ⟨0x70210, [], [⟨0, 32, .ro, 0, .none⟩]⟩,
  ⟨0x70214, [], [⟨0, 32, .ro, 0, .none⟩]⟩,
  ⟨0x70218, [], [⟨0, 32, .ro, 0, .none⟩]⟩]

def regMapBw3 : List RDesc := [
  ⟨0x7021C, [], [⟨0, 16, .wo, 0, .live⟩]⟩]

/-- The BW register map (R338). -/
def regMapBw : List RDesc :=
  regMapBw0 ++ regMapBw1 ++ regMapBw2 ++ regMapBw3

def regMapLookout0 : List RDesc := [
  ⟨0x80000, [], [⟨0, 2, .ro, 0, .none⟩, ⟨2, 1, .ro, 0, .none⟩, ⟨3, 1, .ro, 0, .none⟩, ⟨16, 16, .ro, 0, .none⟩]⟩,
  ⟨0x80004, [], [⟨0, 32, .ro, 0, .none⟩]⟩,
  ⟨0x80008, [], [⟨0, 32, .ro, 0, .none⟩]⟩,
  ⟨0x8000C, [], [⟨0, 32, .ro, 0, .none⟩]⟩,
  ⟨0x80010, [], [⟨0, 16, .ro, 0, .none⟩]⟩,
  ⟨0x80014, [], [⟨0, 4, .ro, 0, .none⟩, ⟨4, 4, .ro, 0, .none⟩, ⟨8, 4, .ro, 15, .none⟩, ⟨12, 4, .ro, 0, .none⟩, ⟨16, 1, .ro, 0, .none⟩]⟩,
  ⟨0x80018, [], [⟨0, 1, .ro, 0, .none⟩, ⟨1, 1, .ro, 0, .none⟩, ⟨2, 1, .ro, 0, .none⟩, ⟨3, 1, .ro, 0, .none⟩]⟩,
  ⟨0x8001C, [], [⟨0, 16, .ro, 0, .none⟩, ⟨24, 8, .rc, 0, .none⟩]⟩,
  ⟨0x80040, [(4, 0x20)], [⟨0, 1, .ro, 0, .none⟩, ⟨1, 1, .ro, 0, .none⟩, ⟨2, 1, .ro, 0, .none⟩, ⟨3, 1, .ro, 0, .none⟩, ⟨4, 1, .ro, 0, .none⟩, ⟨5, 1, .ro, 0, .none⟩, ⟨6, 1, .ro, 0, .none⟩, ⟨7, 1, .ro, 0, .none⟩, ⟨8, 1, .ro, 0, .none⟩]⟩,
  ⟨0x80044, [(4, 0x20)], [⟨0, 32, .ro, 0, .none⟩]⟩,
  ⟨0x80048, [(4, 0x20)], [⟨0, 32, .ro, 0, .none⟩]⟩,
  ⟨0x8004C, [(4, 0x20)], [⟨0, 32, .ro, 0, .none⟩]⟩]

def regMapLookout1 : List RDesc := [
  ⟨0x80050, [(4, 0x20)], [⟨0, 32, .ro, 0, .none⟩]⟩,
  ⟨0x80100, [(8, 0x10)], [⟨0, 1, .ro, 0, .none⟩, ⟨1, 1, .ro, 0, .none⟩, ⟨2, 1, .ro, 0, .none⟩, ⟨8, 8, .ro, 0, .none⟩, ⟨16, 16, .ro, 0, .none⟩]⟩,
  ⟨0x80104, [(8, 0x10)], [⟨0, 16, .rc, 0, .none⟩, ⟨16, 16, .rc, 0, .none⟩]⟩,
  ⟨0x80108, [(8, 0x10)], [⟨0, 16, .ro, 0, .none⟩, ⟨16, 16, .rc, 0, .none⟩]⟩]

/-- The LOOKOUT register map (R369). -/
def regMapLookout : List RDesc :=
  regMapLookout0 ++ regMapLookout1

def regMapEth0 : List RDesc := [
  ⟨0xA0000, [], [⟨0, 32, .ro, 0, .none⟩]⟩,
  ⟨0xA0004, [], [⟨0, 16, .ro, 0, .none⟩]⟩,
  ⟨0xA0008, [], [⟨0, 32, .rw, 3232235620, .stoppedModule⟩]⟩,
  ⟨0xA000C, [], [⟨0, 32, .rw, 4294967040, .stoppedModule⟩]⟩,
  ⟨0xA0010, [], [⟨0, 32, .rw, 0, .stoppedModule⟩]⟩,
  ⟨0xA0014, [], [⟨0, 16, .rw, 47168, .stoppedModule⟩]⟩,
  ⟨0xA0018, [], [⟨0, 10, .rw, 300, .live⟩]⟩,
  ⟨0xA001C, [], [⟨0, 3, .rw, 0, .live⟩, ⟨3, 3, .rw, 1, .live⟩, ⟨6, 3, .rw, 2, .live⟩, ⟨9, 3, .rw, 3, .live⟩, ⟨12, 3, .rw, 4, .live⟩, ⟨15, 3, .rw, 5, .live⟩, ⟨18, 3, .rw, 6, .live⟩, ⟨21, 3, .rw, 7, .live⟩]⟩,
  ⟨0xA0020, [], [⟨0, 1, .rw, 0, .stoppedModule⟩, ⟨1, 4, .rw, 0, .stoppedModule⟩, ⟨8, 3, .rw, 2, .stoppedModule⟩, ⟨16, 16, .rw, 800, .stoppedModule⟩]⟩,
  ⟨0xA0024, [], [⟨0, 32, .rw, 0, .live⟩]⟩,
  ⟨0xA0028, [], [⟨0, 32, .rw, 0, .stoppedModule⟩]⟩,
  ⟨0xA002C, [], [⟨0, 4, .w1c, 0, .live⟩, ⟨4, 4, .w1c, 0, .live⟩, ⟨8, 4, .w1c, 0, .live⟩, ⟨16, 12, .rw, 0, .live⟩]⟩]

def regMapEth1 : List RDesc := [
  ⟨0xA0040, [(8, 0x4)], [⟨0, 11, .rw, 256, .live⟩]⟩,
  ⟨0xA0080, [(5, 0x40)], [⟨0, 1, .rw, 1, .live⟩, ⟨1, 1, .rw, 0, .stoppedPort⟩, ⟨2, 3, .rw, 0, .stoppedPort⟩, ⟨5, 1, .rw, 0, .stoppedPort⟩, ⟨16, 12, .rw, 1, .stoppedPort⟩]⟩,
  ⟨0xA0084, [(5, 0x40)], [⟨0, 1, .ro, 0, .none⟩, ⟨1, 1, .ro, 0, .none⟩, ⟨2, 1, .ro, 0, .none⟩, ⟨3, 2, .ro, 0, .none⟩, ⟨5, 1, .ro, 0, .none⟩]⟩,
  ⟨0xA0088, [(5, 0x40)], [⟨0, 32, .rc, 0, .none⟩]⟩,
  ⟨0xA008C, [(5, 0x40)], [⟨0, 32, .rc, 0, .none⟩]⟩,
  ⟨0xA0090, [(5, 0x40)], [⟨0, 16, .rc, 0, .none⟩, ⟨16, 16, .rc, 0, .none⟩]⟩,
  ⟨0xA0094, [(5, 0x40)], [⟨0, 16, .rc, 0, .none⟩, ⟨16, 16, .rc, 0, .none⟩]⟩,
  ⟨0xA0098, [(5, 0x40)], [⟨0, 16, .rc, 0, .none⟩]⟩,
  ⟨0xA009C, [(5, 0x40)], [⟨0, 16, .ro, 0, .none⟩]⟩,
  ⟨0xA00A0, [(5, 0x40)], [⟨0, 8, .rw, 1, .live⟩, ⟨31, 1, .wo, 0, .live⟩]⟩,
  ⟨0xA00A4, [(5, 0x40)], [⟨0, 32, .rw, 0, .live⟩]⟩,
  ⟨0xA00A8, [(5, 0x40)], [⟨0, 32, .rw, 0, .live⟩]⟩]

def regMapEth2 : List RDesc := [
  ⟨0xA0800, [(64, 0x4)], [⟨0, 12, .rw, 0, .live⟩, ⟨12, 5, .rw, 0, .live⟩, ⟨17, 5, .rw, 0, .live⟩, ⟨31, 1, .rw, 0, .live⟩]⟩,
  ⟨0xA0900, [(16, 0x4)], [⟨0, 16, .rw, 0, .live⟩, ⟨16, 2, .rw, 0, .live⟩, ⟨18, 2, .rw, 0, .live⟩]⟩,
  ⟨0xA0A00, [(8, 0x8)], [⟨0, 28, .rw, 0, .stoppedRing⟩, ⟨28, 3, .rw, 0, .stoppedRing⟩, ⟨31, 1, .rw, 0, .live⟩]⟩,
  ⟨0xA0A04, [(8, 0x8)], [⟨0, 10, .ro, 0, .none⟩, ⟨16, 10, .rw, 0, .live⟩]⟩,
  ⟨0xA1000, [(4, 0x200), (128, 0x4)], [⟨0, 8, .rw, 255, .live⟩, ⟨8, 24, .rw, 0, .live⟩]⟩]

/-- The ETH register map (R393). -/
def regMapEth : List RDesc :=
  regMapEth0 ++ regMapEth1 ++ regMapEth2

def regMapCan0 : List RDesc := [
  ⟨0xB0000, [(4, 0x1000)], [⟨0, 1, .rw, 0, .live⟩, ⟨1, 2, .rw, 0, .stoppedCtrl⟩, ⟨3, 1, .rw, 1, .stoppedCtrl⟩, ⟨4, 1, .rw, 0, .stoppedCtrl⟩, ⟨5, 1, .rw, 0, .stoppedCtrl⟩]⟩,
  ⟨0xB0004, [(4, 0x1000)], [⟨0, 8, .rw, 3, .stoppedCtrl⟩, ⟨8, 8, .rw, 14, .stoppedCtrl⟩, ⟨16, 7, .rw, 3, .stoppedCtrl⟩, ⟨24, 7, .rw, 3, .stoppedCtrl⟩]⟩,
  ⟨0xB0008, [(4, 0x1000)], [⟨0, 5, .rw, 0, .stoppedCtrl⟩, ⟨8, 5, .rw, 14, .stoppedCtrl⟩, ⟨16, 4, .rw, 3, .stoppedCtrl⟩, ⟨24, 4, .rw, 3, .stoppedCtrl⟩]⟩,
  ⟨0xB000C, [(4, 0x1000)], [⟨0, 7, .rw, 16, .stoppedCtrl⟩, ⟨16, 7, .ro, 0, .none⟩, ⟨31, 1, .rw, 1, .stoppedCtrl⟩]⟩,
  ⟨0xB0010, [(4, 0x1000)], [⟨0, 2, .ro, 0, .none⟩, ⟨8, 8, .ro, 0, .none⟩, ⟨16, 7, .ro, 0, .none⟩, ⟨24, 1, .ro, 0, .none⟩, ⟨25, 3, .ro, 0, .none⟩]⟩,
  ⟨0xB0014, [(4, 0x1000)], [⟨0, 16, .rc, 0, .none⟩]⟩,
  ⟨0xB0018, [(4, 0x1000)], [⟨0, 1, .w1c, 0, .live⟩, ⟨1, 1, .w1c, 0, .live⟩, ⟨2, 1, .w1c, 0, .live⟩, ⟨3, 1, .w1c, 0, .live⟩, ⟨4, 1, .w1c, 0, .live⟩, ⟨5, 1, .w1c, 0, .live⟩, ⟨16, 6, .rw, 0, .live⟩]⟩,
  ⟨0xB001C, [(4, 0x1000)], [⟨0, 29, .rw, 2016, .stoppedCtrl⟩, ⟨29, 1, .rw, 0, .stoppedCtrl⟩, ⟨31, 1, .rw, 0, .stoppedCtrl⟩]⟩,
  ⟨0xB0020, [(4, 0x1000)], [⟨0, 29, .rw, 2024, .stoppedCtrl⟩, ⟨29, 1, .rw, 0, .stoppedCtrl⟩]⟩,
  ⟨0xB0024, [(4, 0x1000)], [⟨0, 2, .rw, 0, .live⟩]⟩,
  ⟨0xB0080, [(4, 0x1000), (32, 0x8)], [⟨0, 29, .rw, 0, .live⟩, ⟨29, 1, .rw, 0, .live⟩, ⟨31, 1, .rw, 0, .live⟩]⟩,
  ⟨0xB0084, [(4, 0x1000), (32, 0x8)], [⟨0, 29, .rw, 0, .live⟩, ⟨29, 2, .rw, 0, .live⟩]⟩]

def regMapCan1 : List RDesc := [
  ⟨0xB0180, [(4, 0x1000), (2, 0x4)], [⟨0, 7, .ro, 0, .none⟩, ⟨7, 1, .w1c, 0, .live⟩, ⟨8, 16, .ro, 0, .none⟩]⟩,
  ⟨0xB0188, [(4, 0x1000), (2, 0x4)], [⟨0, 1, .wo, 0, .live⟩]⟩,
  ⟨0xB0200, [(4, 0x1000), (2, 0x80), (20, 0x4)], [⟨0, 32, .ro, 0, .none⟩]⟩,
  ⟨0xB0400, [(4, 0x1000), (16, 0x50)], [⟨0, 29, .rw, 0, .live⟩, ⟨29, 1, .rw, 0, .live⟩, ⟨30, 1, .rw, 0, .live⟩, ⟨31, 1, .rw, 0, .live⟩]⟩,
  ⟨0xB0404, [(4, 0x1000), (16, 0x50)], [⟨0, 7, .rw, 0, .live⟩, ⟨7, 1, .rw, 0, .live⟩, ⟨8, 1, .wo, 0, .live⟩, ⟨9, 1, .wo, 0, .live⟩, ⟨10, 2, .ro, 0, .none⟩]⟩,
  ⟨0xB0408, [(4, 0x1000), (16, 0x50)], [⟨0, 32, .ro, 0, .none⟩]⟩,
  ⟨0xB040C, [(4, 0x1000), (16, 0x50)], [⟨0, 32, .ro, 0, .none⟩]⟩,
  ⟨0xB0410, [(4, 0x1000), (16, 0x50), (16, 0x4)], [⟨0, 32, .rw, 0, .live⟩]⟩]

/-- The CAN register map (R394). -/
def regMapCan : List RDesc :=
  regMapCan0 ++ regMapCan1

def regMapBerth0 : List RDesc := [
  ⟨0x90000, [(32, 0x40), (16, 0x4)], [⟨0, 32, .rw, 0, .live⟩]⟩,
  ⟨0x90800, [(32, 0x4)], [⟨0, 7, .rw, 0, .live⟩, ⟨8, 7, .rw, 0, .live⟩, ⟨16, 1, .rw, 0, .live⟩]⟩,
  ⟨0x90880, [(32, 0x4)], [⟨0, 1, .ro, 0, .none⟩, ⟨1, 1, .w1c, 0, .live⟩, ⟨16, 16, .rc, 0, .none⟩]⟩,
  ⟨0x90900, [(16, 0x4)], [⟨0, 7, .rw, 0, .live⟩]⟩,
  ⟨0x90940, [(16, 0x4)], [⟨0, 7, .ro, 0, .none⟩, ⟨16, 16, .rc, 0, .none⟩]⟩,
  ⟨0x90980, [], [⟨0, 16, .wo, 0, .live⟩]⟩,
  ⟨0x90984, [], [⟨0, 31, .wo, 0, .live⟩, ⟨31, 1, .wo, 0, .live⟩]⟩,
  ⟨0x90A00, [(5, 0x20)], [⟨0, 32, .ro, 0, .none⟩]⟩,
  ⟨0x90A04, [(5, 0x20)], [⟨0, 32, .ro, 0, .none⟩]⟩,
  ⟨0x90A08, [(5, 0x20)], [⟨0, 32, .rw, 0, .live⟩]⟩,
  ⟨0x90A0C, [(5, 0x20)], [⟨0, 32, .rw, 0, .live⟩]⟩,
  ⟨0x90A10, [(5, 0x20)], [⟨0, 32, .rw, 4294967295, .live⟩]⟩]

def regMapBerth1 : List RDesc := [
  ⟨0x90A14, [(5, 0x20)], [⟨0, 32, .rw, 4294967295, .live⟩]⟩,
  ⟨0x90A18, [(4, 0x20)], [⟨0, 1, .rw, 0, .live⟩]⟩,
  ⟨0x90A1C, [(4, 0x20)], [⟨0, 32, .rw, 6389760, .live⟩]⟩]

/-- The BERTH register map (R429). -/
def regMapBerth : List RDesc :=
  regMapBerth0 ++ regMapBerth1

def regMapLogb0 : List RDesc := [
  ⟨0xD0000, [], [⟨0, 1, .rw, 0, .live⟩, ⟨1, 1, .wo, 0, .live⟩]⟩,
  ⟨0xD0004, [], [⟨0, 20, .rw, 2048, .stoppedLogbook⟩]⟩,
  ⟨0xD0008, [], [⟨0, 13, .rw, 1024, .stoppedLogbook⟩]⟩,
  ⟨0xD000C, [], [⟨0, 2, .ro, 0, .none⟩, ⟨2, 4, .ro, 0, .none⟩, ⟨6, 1, .w1c, 0, .live⟩]⟩,
  ⟨0xD0010, [], [⟨0, 32, .ro, 0, .none⟩]⟩,
  ⟨0xD0014, [], [⟨0, 32, .ro, 0, .none⟩]⟩,
  ⟨0xD0018, [], [⟨0, 21, .ro, 0, .none⟩]⟩,
  ⟨0xD001C, [], [⟨0, 32, .ro, 0, .none⟩]⟩,
  ⟨0xD0020, [], [⟨0, 32, .rc, 0, .none⟩]⟩,
  ⟨0xD0024, [], [⟨0, 21, .ro, 0, .none⟩]⟩,
  ⟨0xD0028, [], [⟨0, 1, .w1c, 0, .live⟩, ⟨16, 1, .rw, 0, .live⟩]⟩,
  ⟨0xD002C, [], [⟨0, 4, .ro, 0, .none⟩, ⟨4, 1, .ro, 0, .none⟩, ⟨16, 16, .ro, 0, .none⟩]⟩]

/-- The LOGB register map (R430). -/
def regMapLogb : List RDesc :=
  regMapLogb0

def regMapArb0 : List RDesc := [
  ⟨0x110000, [], [⟨0, 8, .rw, 32, .live⟩, ⟨8, 8, .rw, 32, .live⟩, ⟨16, 8, .rw, 32, .live⟩, ⟨24, 8, .rw, 32, .live⟩]⟩,
  ⟨0x110004, [], [⟨0, 8, .rw, 32, .live⟩, ⟨8, 8, .rw, 128, .live⟩, ⟨16, 8, .rw, 64, .live⟩, ⟨24, 8, .rw, 64, .live⟩]⟩,
  ⟨0x110010, [(2, 0x8)], [⟨0, 8, .rw, 32, .live⟩, ⟨8, 8, .rw, 32, .live⟩, ⟨16, 8, .rw, 32, .live⟩, ⟨24, 8, .rw, 32, .live⟩]⟩,
  ⟨0x110014, [(2, 0x8)], [⟨0, 8, .rw, 32, .live⟩, ⟨8, 8, .rw, 64, .live⟩, ⟨16, 8, .rw, 32, .live⟩, ⟨24, 8, .rw, 128, .live⟩]⟩,
  ⟨0x110020, [], [⟨0, 16, .rw, 44257, .live⟩]⟩,
  ⟨0x110024, [], [⟨0, 1, .ro, 1, .none⟩]⟩,
  ⟨0x110040, [(8, 0x4)], [⟨0, 16, .rc, 0, .none⟩, ⟨16, 16, .rc, 0, .none⟩]⟩,
  ⟨0x110080, [(2, 0x20), (8, 0x4)], [⟨0, 16, .rc, 0, .none⟩, ⟨16, 16, .rc, 0, .none⟩]⟩]

/-- The ARB register map (R431). -/
def regMapArb : List RDesc :=
  regMapArb0

def regMapPerf0 : List RDesc := [
  ⟨0x100000, [], [⟨0, 1, .rw, 0, .live⟩, ⟨1, 1, .rw, 0, .live⟩]⟩,
  ⟨0x100004, [], [⟨0, 20, .rw, 1000, .live⟩]⟩,
  ⟨0x100008, [], [⟨0, 16, .ro, 0, .none⟩]⟩,
  ⟨0x10000C, [], [⟨0, 16, .rc, 0, .none⟩, ⟨16, 16, .rc, 0, .none⟩]⟩,
  ⟨0x100010, [], [⟨0, 8, .w1c, 0, .live⟩, ⟨16, 8, .rw, 0, .live⟩]⟩,
  ⟨0x100040, [(22, 0x4)], [⟨0, 32, .ro, 0, .none⟩]⟩,
  ⟨0x100100, [(4, 0x40), (8, 0x4)], [⟨0, 4, .rw, 0, .live⟩]⟩,
  ⟨0x100120, [(4, 0x40), (8, 0x4)], [⟨0, 32, .rw, 0, .live⟩]⟩,
  ⟨0x100200, [(8, 0x10)], [⟨0, 16, .rw, 0, .live⟩, ⟨16, 1, .rw, 0, .live⟩, ⟨17, 1, .rw, 0, .live⟩, ⟨18, 1, .wo, 0, .live⟩, ⟨24, 7, .ro, 0, .none⟩]⟩,
  ⟨0x101000, [(8, 0x800), (512, 0x4)], [⟨0, 32, .ro, 0, .none⟩]⟩]

/-- The PERF register map (R432). -/
def regMapPerf : List RDesc :=
  regMapPerf0

def regMapMoor0 : List RDesc := [
  ⟨0xC0000, [], [⟨0, 1, .rw, 0, .stoppedModule⟩, ⟨1, 1, .rw, 1, .stoppedModule⟩, ⟨2, 1, .rw, 0, .live⟩, ⟨3, 1, .rw, 0, .stoppedModule⟩, ⟨4, 1, .rw, 0, .stoppedModule⟩, ⟨8, 3, .rw, 3, .stoppedModule⟩]⟩,
  ⟨0xC0004, [], [⟨0, 4, .rw, 1, .live⟩, ⟨4, 1, .rw, 0, .live⟩, ⟨8, 8, .rw, 10, .live⟩]⟩,
  ⟨0xC0008, [], [⟨0, 1, .ro, 0, .none⟩, ⟨1, 1, .ro, 0, .none⟩, ⟨2, 1, .ro, 0, .none⟩, ⟨3, 1, .ro, 0, .none⟩, ⟨4, 1, .ro, 0, .none⟩, ⟨8, 8, .ro, 0, .none⟩, ⟨16, 4, .ro, 1, .none⟩]⟩,
  ⟨0xC0010, [(2, 0x4)], [⟨0, 1, .ro, 0, .none⟩, ⟨1, 1, .ro, 0, .none⟩, ⟨2, 3, .ro, 0, .none⟩, ⟨5, 1, .ro, 0, .none⟩, ⟨6, 1, .ro, 0, .none⟩, ⟨8, 4, .ro, 0, .none⟩]⟩,
  ⟨0xC0018, [(2, 0x4)], [⟨0, 16, .ro, 0, .none⟩, ⟨16, 16, .ro, 0, .none⟩]⟩,
  ⟨0xC0020, [], [⟨0, 8, .rw, 1, .stoppedModule⟩]⟩,
  ⟨0xC0024, [], [⟨0, 2, .rw, 0, .stoppedModule⟩, ⟨2, 1, .rw, 0, .stoppedModule⟩, ⟨3, 1, .rw, 1, .stoppedModule⟩, ⟨8, 8, .rw, 7, .stoppedModule⟩, ⟨16, 1, .ro, 0, .none⟩]⟩,
  ⟨0xC0028, [], [⟨0, 32, .ro, 0, .none⟩]⟩,
  ⟨0xC002C, [], [⟨0, 16, .ro, 0, .none⟩, ⟨16, 16, .rc, 0, .none⟩]⟩,
  ⟨0xC0030, [], [⟨0, 1, .w1c, 0, .live⟩, ⟨1, 1, .w1c, 0, .live⟩, ⟨2, 1, .w1c, 0, .live⟩, ⟨3, 1, .ro, 0, .none⟩, ⟨4, 1, .w1c, 0, .live⟩, ⟨16, 5, .rw, 0, .live⟩]⟩,
  ⟨0xC0038, [(2, 0x4)], [⟨0, 16, .rc, 0, .none⟩, ⟨16, 16, .rc, 0, .none⟩]⟩,
  ⟨0xC0040, [(8, 0x4)], [⟨0, 32, .w1c, 0, .live⟩]⟩]

def regMapMoor1 : List RDesc := [
  ⟨0xC0060, [(8, 0x4)], [⟨0, 1, .ro, 0, .none⟩, ⟨1, 3, .ro, 0, .none⟩, ⟨4, 1, .ro, 0, .none⟩, ⟨5, 1, .ro, 0, .none⟩, ⟨8, 8, .ro, 0, .none⟩, ⟨16, 3, .ro, 0, .none⟩]⟩]

/-- The MOOR register map (R456). -/
def regMapMoor : List RDesc :=
  regMapMoor0 ++ regMapMoor1

def regMapPwr0 : List RDesc := [
  ⟨0xF0000, [], [⟨0, 1, .ro, 0, .none⟩, ⟨1, 1, .ro, 0, .none⟩, ⟨2, 1, .ro, 0, .none⟩, ⟨3, 2, .ro, 0, .none⟩, ⟨5, 1, .ro, 0, .none⟩, ⟨6, 1, .ro, 0, .none⟩]⟩,
  ⟨0xF0004, [], [⟨0, 12, .ro, 0, .none⟩, ⟨16, 12, .ro, 480, .none⟩]⟩,
  ⟨0xF0008, [(4, 0x4)], [⟨0, 12, .ro, 0, .none⟩, ⟨12, 1, .ro, 0, .none⟩, ⟨13, 1, .ro, 0, .none⟩]⟩,
  ⟨0xF0018, [], [⟨0, 2, .rw, 0, .live⟩, ⟨2, 2, .rw, 0, .live⟩, ⟨4, 2, .rw, 0, .live⟩, ⟨6, 2, .rw, 0, .live⟩]⟩,
  ⟨0xF001C, [], [⟨0, 3, .ro, 7, .none⟩, ⟨8, 5, .ro, 0, .none⟩]⟩,
  ⟨0xF0020, [], [⟨0, 1, .ro, 1, .none⟩, ⟨1, 1, .ro, 0, .none⟩, ⟨2, 1, .ro, 0, .none⟩, ⟨3, 1, .ro, 0, .none⟩, ⟨4, 1, .ro, 0, .none⟩, ⟨5, 1, .ro, 0, .none⟩]⟩,
  ⟨0xF0024, [], [⟨0, 16, .wo, 0, .live⟩]⟩,
  ⟨0xF0028, [], [⟨0, 1, .w1c, 0, .live⟩, ⟨1, 1, .w1c, 0, .live⟩, ⟨2, 1, .w1c, 0, .live⟩, ⟨16, 3, .rw, 0, .live⟩]⟩]

/-- The PWR register map (R475). -/
def regMapPwr : List RDesc :=
  regMapPwr0

/-- The register map of a block code (R41); no map for an unimplemented code. -/
def regMapOf : Nat → List RDesc
  | 0 => regMapSys
  | 1 => regMapTide
  | 2 => regMapPwm
  | 3 => regMapGate
  | 4 => regMapAdc
  | 5 => regMapFbk
  | 6 => regMapLe
  | 7 => regMapBw
  | 8 => regMapLookout
  | 9 => regMapBerth
  | 10 => regMapEth
  | 11 => regMapCan
  | 12 => regMapMoor
  | 13 => regMapLogb
  | 14 => regMapHk
  | 15 => regMapPwr
  | 16 => regMapPerf
  | 17 => regMapArb
  | _ => []

end Sys2Proof.Machine
end

