-- ==== Sys2Proof/Machine/Store.lean ====
section
/-! DEFINITION. Sparse stores in canonical form, and the word operations of register fields (R11,
R13). A store lists (key, value) pairs with keys strictly rising and lists no value equal to what an
unlisted key reads as, so that equal stores are equal data. -/

namespace Sys2Proof.Machine

/-- What the store holds at key `a`; `d` where nothing is listed. -/
def stoGet {α : Type} (m : List (Nat × α)) (a : Nat) (d : α) : α :=
  match m with
  | [] => d
  | (k, v) :: r => if k = a then v else stoGet r a d

/-- Insert in key order. -/
def stoInsert {α : Type} (m : List (Nat × α)) (a : Nat) (v : α) : List (Nat × α) :=
  match m with
  | [] => [(a, v)]
  | (k, w) :: r => if a < k then (a, v) :: (k, w) :: r else (k, w) :: stoInsert r a v

/-- Remove a key. -/
def stoErase {α : Type} (m : List (Nat × α)) (a : Nat) : List (Nat × α) :=
  match m with
  | [] => []
  | (k, w) :: r => if k = a then stoErase r a else (k, w) :: stoErase r a

/-- Write `v` at `a`, where an unlisted `a` reads as `d`. -/
def stoPut {α : Type} [DecidableEq α] (m : List (Nat × α)) (a : Nat) (v d : α) : List (Nat × α) :=
  if v = d then stoErase m a else stoInsert (stoErase m a) a v

/-- Keys strictly rising from above `lo`, and no listed value equal to its default. -/
def stoWfFrom {α : Type} [DecidableEq α] (d : Nat → α) (lo : Option Nat) : List (Nat × α) → Bool
  | [] => true
  | (k, v) :: r => lo.all (fun b => decide (b < k)) && decide (v ≠ d k) && stoWfFrom d (some k) r

/-- The canonical form of a store whose unlisted keys read as `d`. -/
def stoWf {α : Type} [DecidableEq α] (d : Nat → α) (m : List (Nat × α)) : Bool := stoWfFrom d none m

/-- The mask of a field of `len` bits at bit 0. -/
def fieldMask (len : Nat) : Word := BitVec.ofNat 32 (2 ^ len - 1)

/-- The value of the field of `len` bits at `lo`. -/
def wordGet (w : Word) (lo len : Nat) : Nat := ((w >>> lo) &&& fieldMask len).toNat

/-- The word with that field set to `v` (its low `len` bits). -/
def wordSet (w : Word) (lo len v : Nat) : Word :=
  (w &&& ~~~(fieldMask len <<< lo)) ||| ((BitVec.ofNat 32 v &&& fieldMask len) <<< lo)

/-- Two's complement value of the low `n` bits of `v`. -/
def toSigned (n v : Nat) : Int :=
  if v % 2 ^ n < 2 ^ (n - 1) then (v % 2 ^ n : Nat) else ((v % 2 ^ n : Nat) : Int) - 2 ^ n

/-- The low `n` bits of a signed value. -/
def ofSigned (n : Nat) (v : Int) : Nat := (v % (2 ^ n : Nat)).toNat

/-- Indices of an address within the dimensions of a register, widest stride first. -/
def matchDims : List (Nat × Nat) → Nat → Option (List Nat)
  | [], 0 => some []
  | [], _ + 1 => none
  | (c, st) :: r, off =>
    if off / st < c then (matchDims r (off % st)).map (off / st :: ·) else none

/-- The register at a local address, with its indices (R41). -/
def findReg (a : Nat) : Option (RDesc × List Nat) :=
  (regMapOf (a / 0x10000)).findSome? fun d =>
    if d.base ≤ a then (matchDims d.dims (a - d.base)).map (fun ix => (d, ix)) else none

/-- The word that a list of map rows gives at reset. -/
def fieldsReset (fs : List FDesc) : Word :=
  fs.foldl (fun w f => w ||| BitVec.ofNat 32 (f.reset * 2 ^ f.lo)) 0

/-- Reset values that differ between instances of one register: `ETH_VLAN0` (R393), the retry
classes (R300), the command berths (R429), and the group mask of a single module (R456, log entry
4: straps 0). -/
def resetSpecial (a : Nat) : Option Word :=
  if a = Reg.ETH_VLAN 0 then some 0x803FF001
  else if a = Reg.GATE_TGT 24 ∨ a = Reg.GATE_TGT 25 then some 0x00640000
  else if a = Reg.GATE_RETRY 0 then some (BitVec.ofNat 32 (1000 + 0 * 2 ^ 16 + 60 * 2 ^ 20))
  else if a = Reg.GATE_RETRY 1 then some (BitVec.ofNat 32 (100 + 3 * 2 ^ 16 + 60 * 2 ^ 20))
  else if a = Reg.GATE_RETRY 2 then some (BitVec.ofNat 32 (10 + 3 * 2 ^ 16 + 10 * 2 ^ 20))
  else if a = Reg.GATE_RETRY 3 then some (BitVec.ofNat 32 (1000 + 1 * 2 ^ 16 + 600 * 2 ^ 20))
  else if Reg.BERTH_CFG 0 ≤ a ∧ a ≤ Reg.BERTH_CFG 7 ∧ a % 4 = 0 then
    let b := (a - Reg.BERTH_CFG 0) / 4
    if b < 4 then some (BitVec.ofNat 32 ((b + 1) + 5 * 2 ^ 8 + 2 ^ 16))
    else some (BitVec.ofNat 32 (5 + (b - 3) * 2 ^ 8 + 2 ^ 16))
  else if a = Reg.BERTH_CFG 8 then some (BitVec.ofNat 32 (5 * 2 ^ 8))
  else if a = Reg.MOOR_GSTAT then some (BitVec.ofNat 32 (2 ^ 8 + 2 ^ 16))
  else none

/-- The value of the register at local address `a` after power-on reset (R16). -/
def resetWord (a : Nat) : Word :=
  match resetSpecial a with
  | some w => w
  | none =>
    match findReg a with
    | some (d, _) => fieldsReset d.fields
    | none => 0

end Sys2Proof.Machine
end

