-- ==== Sys2Proof/Machine/Ops.lean ====
section
/-! DEFINITION. Named operations over registers, memory, time, free values and the indexed parts of
the state. -/

namespace Sys2Proof.Machine

/-! ### Registers (R13) -/

/-- The word a register holds. -/
def State.reg (s : State) (a : Nat) : Word := stoGet s.regs a (resetWord a)

/-- Write a whole word into the register store. -/
def State.setReg (s : State) (a : Nat) (w : Word) : State :=
  { s with regs := stoPut s.regs a w (resetWord a) }

/-- The value of a field. -/
def State.get (s : State) (f : Fld) : Nat := wordGet (s.reg f.addr) f.lo f.len

/-- A one-bit field, or a field that is not 0. -/
def State.bit (s : State) (f : Fld) : Bool := decide (s.get f ≠ 0)

/-- Set a field. -/
def State.set (s : State) (f : Fld) (v : Nat) : State :=
  s.setReg f.addr (wordSet (s.reg f.addr) f.lo f.len v)

/-- Set several fields, first to last. -/
def State.sets (s : State) (l : List (Fld × Nat)) : State := l.foldl (fun s p => s.set p.1 p.2) s

/-- Set a one-bit field from a truth value. -/
def State.setB (s : State) (f : Fld) (b : Bool) : State := s.set f (if b then 1 else 0)

/-- A field read as two's complement. -/
def State.getI (s : State) (f : Fld) : Int := toSigned f.len (s.get f)

/-- Set a field from a signed value. -/
def State.setI (s : State) (f : Fld) (v : Int) : State := s.set f (ofSigned f.len v)

/-- Advance a counter that holds at its maximum. -/
def State.incHold (s : State) (f : Fld) : State :=
  s.set f (min (s.get f + 1) (2 ^ f.len - 1))

/-- Advance a counter that wraps. -/
def State.incWrap (s : State) (f : Fld) : State := s.set f (s.get f + 1)

/-- A BF32 register word. -/
def State.setW (s : State) (a : Nat) (w : Word) : State := s.setReg a w

/-! ### Time (R46, R61) -/

/-- The Tide count reaches `t`; it never runs back. -/
def State.upto (s : State) (t : Nat) : State := { s with tide := max s.tide t }

/-- Index of the 1 ms interval that holds a Tide count (R502). -/
def interval (t : Nat) : Nat := t / Config.ms

/-! ### Free values (log entry 2) -/

/-- The next free natural number. -/
def State.freeNat (s : State) : Nat × State :=
  (Config.freeNat s.free, { s with free := s.free + 1 })

/-- The next free 32-bit word. -/
def State.freeWord (s : State) : Word × State :=
  (Config.freeWord s.free, { s with free := s.free + 1 })

/-- The next free signed value. -/
def State.freeInt (s : State) : Int × State :=
  (Config.freeInt s.free, { s with free := s.free + 1 })

/-- The next `n` free bytes. -/
def State.freeBytes (s : State) (n : Nat) : List Byte × State :=
  ((List.range n).map (Config.freeByte s.free), { s with free := s.free + 1 })

/-! ### Indexed parts -/

def State.axis (s : State) (n : Fin 4) : Axis := s.axes[n]
def State.setAxis (s : State) (n : Fin 4) (a : Axis) : State := { s with axes := s.axes.set n a }
def State.updAxis (s : State) (n : Fin 4) (f : Axis → Axis) : State := s.setAxis n (f (s.axis n))

def State.carrier (s : State) (n : Fin 4) : Carrier := s.pwm[n]
def State.updCarrier (s : State) (n : Fin 4) (f : Carrier → Carrier) : State :=
  { s with pwm := s.pwm.set n (f (s.carrier n)) }

def State.leg (s : State) (l : Fin 12) : Leg := s.legs[l]
def State.updLeg (s : State) (l : Fin 12) (f : Leg → Leg) : State :=
  { s with legs := s.legs.set l (f (s.leg l)) }

def State.gate (s : State) (g : Fin 26) : Gate := s.gates[g]
def State.updGate (s : State) (g : Fin 26) (f : Gate → Gate) : State :=
  { s with gates := s.gates.set g (f (s.gate g)) }

def State.engine (s : State) (n : Fin 4) : Eng := s.eng[n]
def State.updEng (s : State) (n : Fin 4) (f : Eng → Eng) : State :=
  { s with eng := s.eng.set n (f (s.engine n)) }

def State.updBw (s : State) (f : Bw → Bw) : State := { s with bw := f s.bw }
def State.updHm (s : State) (f : Hm → Hm) : State := { s with hm := f s.hm }
def State.updFm (s : State) (f : FaultMan → FaultMan) : State := { s with fm := f s.fm }
def State.updLogb (s : State) (f : Logb → Logb) : State := { s with logb := f s.logb }
def State.emit (s : State) (o : Out) : State := { s with out := o :: s.out }

/-- Run `f` for every axis, A0 first. -/
def State.eachAxis (s : State) (f : State → Fin 4 → State) : State :=
  [0, 1, 2, 3].foldl f s

/-! ### Memory (R39, R400, R402) -/

/-- What a byte that nothing has written reads as: flash reads erased, every other byte 0 (log
entry 5). -/
def memDefault (a : Nat) : Byte := if 0x60000000 ≤ a ∧ a < 0x64000000 then 0xFF else 0

def State.byte (s : State) (a : Nat) : Byte := stoGet s.mem a (memDefault a)

def State.setByte (s : State) (a : Nat) (b : Byte) : State :=
  { s with mem := stoPut s.mem a b (memDefault a) }

/-- Bytes from `a` on. -/
def State.bytes (s : State) (a n : Nat) : List Byte := (List.range n).map fun i => s.byte (a + i)

/-- Write bytes from `a` on. -/
def State.setBytes (s : State) (a : Nat) : List Byte → State
  | [] => s
  | b :: r => (s.setByte a b).setBytes (a + 1) r

/-- Erase `n` bytes of flash from `a` on: they read as nothing listed (R402). -/
def State.eraseMem (s : State) (a n : Nat) : State :=
  { s with mem := s.mem.filter fun c => decide (c.1 < a ∨ a + n ≤ c.1) }

/-- The memory is in canonical form. -/
def Memory.wf (m : List Host.Cell) : Bool := stoWf memDefault m

/-- The register store is in canonical form. -/
def Regs.wf (r : List (Nat × Word)) : Bool := stoWf resetWord r

/-! ### Byte order (R11) -/

/-- Big-endian value. -/
def beNat (l : List Byte) : Nat := l.foldl (fun v b => v * 256 + b.toNat) 0

/-- Little-endian value. -/
def leNat (l : List Byte) : Nat := beNat l.reverse

/-- `n` little-endian bytes. -/
def leBytes : Nat → Nat → List Byte
  | 0, _ => []
  | n + 1, v => BitVec.ofNat 8 v :: leBytes n (v / 256)

/-- `n` big-endian bytes. -/
def beBytes (n v : Nat) : List Byte := (leBytes n v).reverse

/-- Field of a packet or payload: `n` bytes from `o`, big-endian. -/
def beAt (l : List Byte) (o n : Nat) : Nat := beNat ((l.drop o).take n)

/-! ### Axes and legs (R1-R8) -/

/-- Legs of an axis (R6); none where the axis is idle. -/
def State.legsOf (s : State) (n : Fin 4) : List (Fin 12) :=
  if s.bit Reg.SYS_AXCFG_SIXDBL then
    if n = 0 then [0, 1, 2, 3, 4, 5, 6, 7, 8, 9, 10, 11] else []
  else
    let wide := if n < 2 then s.bit Reg.SYS_AXCFG_PAIR01 else s.bit Reg.SYS_AXCFG_PAIR23
    if wide then (if n = 0 then [0, 1, 2, 3, 4, 5] else if n = 2 then [6, 7, 8, 9, 10, 11] else [])
    else if n = 0 then [0, 1, 2]
    else if n = 1 then [3, 4, 5]
    else if n = 2 then [6, 7, 8]
    else [9, 10, 11]

/-- The axis is idle (R7). -/
def State.idle (s : State) (n : Fin 4) : Bool := (s.legsOf n).isEmpty

/-- The axis whose range holds a leg (R6). -/
def State.axisOfLeg (s : State) (l : Fin 12) : Fin 4 :=
  if s.bit Reg.SYS_AXCFG_SIXDBL then 0
  else if l < 6 then (if s.bit Reg.SYS_AXCFG_PAIR01 then 0 else if l < 3 then 0 else 1)
  else if s.bit Reg.SYS_AXCFG_PAIR23 then 2 else if l < 9 then 2 else 3

/-- The axis that owns a cluster (R7). -/
def State.axisOfCluster (s : State) (c : Fin 4) : Fin 4 :=
  if s.bit Reg.SYS_AXCFG_SIXDBL then 0
  else if c = 1 ∧ s.bit Reg.SYS_AXCFG_PAIR01 then 0
  else if c = 3 ∧ s.bit Reg.SYS_AXCFG_PAIR23 then 2
  else c

/-- Clusters of an axis (R7). -/
def State.clustersOf (s : State) (n : Fin 4) : List (Fin 4) :=
  if s.idle n then [] else [0, 1, 2, 3].filter fun c => s.axisOfCluster c = n

/-- Configuration of an axis: 0 three-phase, 1 six-phase, 2 doubled, 3 six-phase doubled. -/
def State.layout (s : State) (n : Fin 4) : Nat :=
  if s.bit Reg.SYS_AXCFG_SIXDBL then 3
  else if n < 2 then s.get Reg.SYS_AXCFG_PAIR01 else s.get Reg.SYS_AXCFG_PAIR23

/-- Slots of an axis: one for each leg of its range (R224). -/
def State.slots (s : State) (n : Fin 4) : Nat := (s.legsOf n).length

/-- The duty slot that drives a leg: slot p is the p-th leg of the axis's range (R224, R266). -/
def State.slotOf (s : State) (l : Fin 12) : Nat :=
  l.val - ((s.legsOf (s.axisOfLeg l)).head?.map Fin.val).getD 0

/-- Axis type: 0 traction, 1 positioning, 2 line (R8). -/
def State.axType (s : State) (n : Fin 4) : Nat := s.get (Reg.SYS_AXCFG_TYPE n)

def State.isLine (s : State) (n : Fin 4) : Bool := decide (s.axType n = 2)

/-- MACH = 0: a PMSM (R313). -/
def State.isPmsm (s : State) (n : Fin 4) : Bool := !s.bit (Reg.BW_AXCFG_MACH n)

/-- Gate channels of a leg (R1). -/
def hiCh (l : Fin 12) : Fin 26 := ⟨2 * l.val, by omega⟩
def loCh (l : Fin 12) : Fin 26 := ⟨2 * l.val + 1, by omega⟩

/-- The leg of a gate channel G0-G23. -/
def legOfGate (g : Fin 26) : Option (Fin 12) :=
  if h : g.val < 24 then some ⟨g.val / 2, by omega⟩ else none

/-- Channels of an axis in ascending number. -/
def State.channelsOf (s : State) (n : Fin 4) : List (Fin 26) :=
  (s.legsOf n).flatMap fun l => [hiCh l, loCh l]

/-- Code of an axis state (R97). -/
def AxState.code : AxState → Nat
  | .off => 0 | .diag => 1 | .ready => 2 | .run => 3
  | .hold => 4 | .tune => 5 | .fault => 6 | .safe => 7

/-- The axis is in RUN or TUNE. -/
def AxState.closed (a : AxState) : Bool := a == .run || a == .tune

/-- The axis is stopped for its Stopped fields: OFF, READY or HOLD (R127). -/
def AxState.stopped (a : AxState) : Bool := a == .off || a == .ready || a == .hold

/-- Module states (R42). -/
def State.modState (s : State) : Nat := s.get Reg.SYS_MODSTATE_STATE

/-- The module's owner is stopped for its Stopped fields (R127). -/
def State.modStopped (s : State) : Bool :=
  (s.modState == 2 || s.modState == 4) &&
    s.axes.toList.all fun a => !(a.st == .diag || a.st == .run || a.st == .tune)

/-- Axes named by a mask, A0 first. -/
def maskAxes (m : BitVec 4) : List (Fin 4) := [0, 1, 2, 3].filter fun n => m.getLsbD n.val

def axisMask (n : Fin 4) : BitVec 4 := BitVec.ofNat 4 (2 ^ n.val)

/-- The present epoch (R70). -/
def State.epoch (s : State) : Nat := s.get Reg.TIDE_STATUS_EPOCH

/-! ### Records on their way to the Logbook (R65, R418) -/

/-- The Logbook records: armed or triggered (R421). -/
def State.recording (s : State) : Bool :=
  s.bit Reg.LOGB_CTL_EN && (s.get Reg.LOGB_STAT_STATE == 1 || s.get Reg.LOGB_STAT_STATE == 2)

/-- Epoch `b` is later than epoch `a` (R70). -/
def epochLater (a b : Nat) : Bool := let d := (b + 256 - a % 256) % 256; decide (1 ≤ d ∧ d ≤ 127)

/-- Slot of a stamp (R63). -/
def slotOfStamp (st : Nat) : Nat := st / 3

/-- `a` comes before `b` in the order of R63 and R70. -/
def LogItem.before (a b : LogItem) : Bool :=
  if a.epoch ≠ b.epoch then epochLater a.epoch b.epoch
  else if slotOfStamp a.stamp ≠ slotOfStamp b.stamp then decide (slotOfStamp a.stamp < slotOfStamp b.stamp)
  else if a.key ≠ b.key then decide (a.key < b.key)
  else decide (a.stamp < b.stamp)

def insertWait (e : LogWait) : List LogWait → List LogWait
  | [] => [e]
  | x :: r => if e.item.before x.item then e :: x :: r else x :: insertWait e r

/-- A record of channel `i` of the plan waits for the release of its slot. -/
def State.logWait (s : State) (i : Nat) (close : Bool) (e : LogItem) : State :=
  s.updLogb fun b => { b with evs := insertWait { chan := i, close := close, item := e } b.evs }

/-- An event of source `src` in an epoch, for every channel that `sel` gives an item: every k-th one is recorded
(R418). -/
def State.logEvent (s : State) (epoch src stamp : Nat) (sel : LogChan → Option (List Byte)) : State :=
  if s.recording then
    s.logb.chans.zipIdx.foldl (fun s p =>
      match sel p.1 with
      | none => s
      | some item =>
        let n := (s.logb.skips[p.2]?).getD 0 + 1
        if p.1.k ≤ n then
          (s.updLogb fun b => { b with skips := b.skips.set p.2 0 }).logWait p.2 false
            { epoch := epoch, key := 64 * s.mid.val + src, stamp := stamp, bytes := item }
        else s.updLogb fun b => { b with skips := b.skips.set p.2 n }) s
  else s

/-- The open blocks of the channels that `sel` picks end at an event of source `src`, behind the items before it
(R419). -/
def State.logClose (s : State) (src stamp : Nat) (sel : LogChan → Bool) : State :=
  if s.recording then
    s.logb.chans.zipIdx.foldl (fun s p =>
      if sel p.1 then
        s.logWait p.2 true { epoch := s.epoch, key := 64 * s.mid.val + src, stamp := stamp, bytes := [] }
      else s) s
  else s

/-- The axis of a gate channel as kind 5 numbers it: 4 for G24 and G25 (R418). -/
def State.evAxis (s : State) (ch : Nat) : Nat :=
  if ch < 24 then (s.axisOfLeg (Fin.ofNat 12 (ch / 2))).val else 4

/-- A gate event of channel `g`: 0 turn-on, 1 turn-off, 2 two-level turn-off, 3 held, 4 hold lifted (R418 kind 5).
A plateau or step that the event does not have is a free value (log entry 7). -/
def State.gateEv (s : State) (stamp g ev : Nat) (plateau step : Option Nat := none) : State :=
  if s.recording && s.logb.chans.any (fun c => c.kind == 5) then
    let item := leBytes 8 stamp ++ [BitVec.ofNat 8 g, BitVec.ofNat 8 ev] ++
      leBytes 2 (plateau.getD (Config.freeNat s.free)) ++
      [BitVec.ofNat 8 (step.getD (Config.freeNat (s.free + 1))), 0, 0, 0]
    { s with free := s.free + 2 }.logEvent s.epoch (16 + g) stamp fun c =>
      if c.kind = 5 ∧ c.b1 = s.evAxis g then some item else none
  else s

end Sys2Proof.Machine
end

