-- ==== Sys2Proof/Machine/Group.lean ====
section
/-! DEFINITION. The Mooring group as the other blocks of the module see it (R436, R441-R454): the role of the
module, the membership registers, and the messages that leave for other modules. -/

namespace Sys2Proof.Machine

def State.updMoor (s : State) (f : Moor → Moor) : State := { s with moor := f s.moor }

/-- M-IDs of a group. -/
def mids8 : List (Fin 8) := [0, 1, 2, 3, 4, 5, 6, 7]

/-- Ports M0 and M1. -/
def moorPorts : List (Fin 2) := [0, 1]

/-- The module is in a group's role at all, and its lead (R436). -/
def State.moorOn (s : State) : Bool := s.bit Reg.MOOR_CTL_EN
def State.isLead (s : State) : Bool := s.moorOn && s.mid == 0

/-- The module is a member of a group other than its lead: it follows the lead's Tide (R71, R436). -/
def State.isMember (s : State) : Bool :=
  s.bit Reg.MOOR_CTL_EN && s.mid != 0

/-- A member is aligned to its lead (R436). -/
def State.alignedMember (s : State) : Bool := s.isMember && s.bit Reg.TIDE_STATUS_ALIGNED

/-- The PLL of a member follows the recovered clock of the link, from its load on (R439). -/
def State.following (s : State) : Bool := s.isMember && s.moor.joined

/-- The module's own bit in a mask of M-IDs. -/
def State.ownBit (s : State) : Nat := 2 ^ s.mid.val

/-- Members of the group, this module among them, in M-ID order. -/
def State.members (s : State) : List (Fin 8) :=
  mids8.filter fun (m : Fin 8) => m == s.mid || s.bit (Reg.MOOR_MEMBER_PRESENT m)

/-- The other members. -/
def State.others (s : State) : List (Fin 8) := s.members.filter (· != s.mid)

/-- A path to the lead is UP: a port on which the lead's beacons arrive (R440). -/
def State.leadPath (s : State) : Bool :=
  moorPorts.any fun (p : Fin 2) => s.bit (Reg.MOOR_PSTAT_UP p) && s.moor.heard[p]

/-- Another module carries this module's M-ID: a neighbour, or one that the membership has found (R435). -/
def State.ownDup (s : State) : Bool :=
  s.moor.dup || moorPorts.any fun (p : Fin 2) =>
    s.bit (Reg.MOOR_PSTAT_UP p) && s.bit (Reg.MOOR_PSTAT_PEERVALID p) && s.get (Reg.MOOR_PSTAT_PEER p) == s.mid.val

/-- M-ID of the requester number of another module, and the group form of a local number (R37). -/
def reqModule (o : Nat) : Option Nat := if 16 ≤ o then some ((o - 16) / 12) else none
def State.groupReq (s : State) (o : Nat) : Nat := if o < 16 then 16 + 12 * s.mid.val + o else o

/-- The module's serial number. -/
def State.serialNat (s : State) : Nat := beNat s.hm.serial

/-! ### Messages (R447, R454) -/

/-- A message for member `m` leaves by the port of the path to it; none leaves for a module outside the membership,
or where that port is down (R448, R454). -/
def State.sendTo (s : State) (m : Fin 8) (what : Nat) (args : List Nat) : State :=
  let p := s.get (Reg.MOOR_MEMBER_PORT m)
  if s.moorOn && m != s.mid && s.bit (Reg.MOOR_MEMBER_PRESENT m) && s.bit (Reg.MOOR_PSTAT_UP p) then
    s.emit (.moor p what (m.val :: args))
  else s

/-- A message for every other member. -/
def State.sendAll (s : State) (what : Nat) (args : List Nat) : State :=
  s.others.foldl (fun (s : State) (m : Fin 8) => s.sendTo m what args) s

/-- A message that the lead sends out of each UP port (R439, R445). -/
def State.sendPorts (s : State) (what : Nat) (args : List Nat) : State :=
  moorPorts.foldl (fun (s : State) (p : Fin 2) =>
    if s.bit (Reg.MOOR_PSTAT_UP p) then s.emit (.moor p what args) else s) s

/-- An aligned member tells the lead its state: the module's, its epoch, OVFL and lost count of its queue, and the
states of its axes (R452, R453). -/
def State.tellLead (s : State) : State :=
  if s.alignedMember then
    s.sendTo 0 5 ([3, s.modState, s.epoch, s.get Reg.BW_FQSTAT_OVFL, s.get Reg.BW_FQSTAT_LOST] ++
      (([0, 1, 2, 3] : List (Fin 4)).map fun n => (s.axis n).st.code))
  else s

/-- The module changes its state (R102); a member tells the lead (R452). -/
def State.setModState (s : State) (v : Nat) : State :=
  let old := s.modState
  let s := s.set Reg.SYS_MODSTATE_STATE v
  if old = v then s else s.tellLead

/-! ### Membership registers (R441, R442, R444) -/

/-- COUNT and HOLD follow MASK (R441, R444). -/
def State.recount (s : State) : State :=
  let n := (mids8.filter fun (m : Fin 8) => (s.get Reg.MOOR_GSTAT_MASK).testBit m).length
  s.sets [(Reg.MOOR_GSTAT_COUNT, n), (Reg.ARB_MODE_HOLD, if n ≤ 2 then 1 else 0)]

/-- MASK holds the module's own bit, and those of the members while the module is one (R456). -/
def State.remask (s : State) : State :=
  let others := if s.isMember && !s.bit Reg.TIDE_STATUS_ALIGNED then [] else s.others
  (s.set Reg.MOOR_GSTAT_MASK (others.foldl (fun w (m : Fin 8) => w ||| 2 ^ m.val) s.ownBit)).recount

/-- The membership is the one `MOOR_GCFG` expects (R442). -/
def State.matchesCfg (s : State) : Bool :=
  s.get Reg.MOOR_GSTAT_COUNT == s.get Reg.MOOR_GCFG_EXPECT &&
    s.get Reg.MOOR_GSTAT_TOPO == s.get Reg.MOOR_GCFG_TOPO

/-- FORMED and COMPLETE on the lead (R442). -/
def State.reForm (s : State) : State :=
  if !s.isLead then s
  else if s.bit Reg.MOOR_GSTAT_FORMED then s.setB Reg.MOOR_GSTAT_COMPLETE s.matchesCfg
  else if s.matchesCfg ∧ s.moor.formFrom.isSome then
    s.sets [(Reg.MOOR_GSTAT_FORMED, 1), (Reg.MOOR_GSTAT_COMPLETE, 1), (Reg.MOOR_IRQ_FORMED, 1)]
  else s

/-- The lead has reached READY: it begins to wait for its group, unless it waits already (R442). -/
def State.startForm (s : State) : State :=
  if s.isLead && (s.modState == 2 || s.modState == 3) && s.moor.formFrom.isNone then
    (s.updMoor fun m => { m with formFrom := some s.tide }).reForm
  else s

/-- The lead sends the membership to all members, with whether a GROUP_FORM is pending (R440, R441). -/
def State.announce (s : State) : State :=
  if s.isLead then
    s.sendAll 10 [s.get Reg.MOOR_GSTAT_MASK, s.get Reg.MOOR_GSTAT_TOPO, s.get Reg.MOOR_GSTAT_FORMING]
  else s

end Sys2Proof.Machine
end

