-- ==== Sys2Proof/Machine/Queue.lean ====
section
/-! DEFINITION. Entries of the fault queue as records: their codes (R331, R332), their bytes (R104), and what a
member forwards of its queue to the lead (R452, R453). -/

namespace Sys2Proof.Machine

/-- Class and code of a name (R332, R368, R392, R428, R455, R474). -/
def fnCodes : FName → Nat × Nat
  | .fabricTimeout => (0, 0x01) | .cmdReplyLost => (0, 0x02) | .cmdTimeout => (0, 0x03)
  | .fwRevert => (0, 0x04) | .orderLate => (0, 0x05)
  | .refLost => (1, 0x01) | .dlCalFail => (1, 0x02) | .marginLow => (1, 0x03)
  | .leDeadline => (1, 0x04) | .tideAsStep => (1, 0x05) | .asHoldover => (1, 0x06)
  | .manifestNone => (2, 0x01) | .manifestBankBad => (2, 0x02) | .manifestWriteFail => (2, 0x03)
  | .cfgReject => (2, 0x04) | .safetySetNone => (2, 0x05) | .calOtp => (2, 0x06)
  | .adcOverrun => (3, 0x01) | .adcOvr => (3, 0x02) | .adcSliceRetired => (3, 0x03)
  | .adcClusterFail => (3, 0x04) | .adcRefFail => (3, 0x05) | .pathCheckFail => (3, 0x06)
  | .vhvFail => (3, 0x07) | .hkFail => (3, 0x08) | .tpOpen => (3, 0x09) | .tpShort => (3, 0x0A)
  | .fbSupply => (4, 0x01) | .fbWire => (4, 0x02) | .fbIllegal => (4, 0x03)
  | .fbEncFail => (4, 0x04) | .fbIdxDrift => (4, 0x05) | .fbHallFail => (4, 0x06)
  | .fbResAmp => (4, 0x07) | .fbResLock => (4, 0x08) | .fbSsiJump => (4, 0x09)
  | .fbSsiFrame => (4, 0x0A) | .obsLost => (4, 0x0B)
  | .leArith => (5, 0x01) | .lePort => (5, 0x02) | .leIllop => (5, 0x03)
  | .prgOvercurrent => (5, 0x04) | .obsReacqFail => (5, 0x05) | .linePllLost => (5, 0x06)
  | .tuneLimit => (5, 0x07) | .prgUser => (5, 0x08) | .prgUserWarn => (5, 0x09)
  | .pwmLockLost => (6, 0x01)
  | .gateDesat => (7, 0x01) | .gateUv => (7, 0x02) | .bootUv => (7, 0x03)
  | .gateSupply => (7, 0x04) | .gateLink => (7, 0x05) | .xcmd => (7, 0x06)
  | .offstateFail => (7, 0x07) | .gateAdaptLimit => (7, 0x08) | .ntcOpen => (7, 0x09)
  | .ntcShort => (7, 0x0A)
  | .dcUv1 => (8, 0x01) | .dcUv2 => (8, 0x02) | .dcOv2 => (8, 0x03) | .dcOv3 => (8, 0x04)
  | .brkFail => (8, 0x05) | .brkLoad => (8, 0x06) | .brkEnergy => (8, 0x07)
  | .dscBlocked => (8, 0x08) | .dscEnergy => (8, 0x09)
  | .thWarn => (9, 0x01) | .thFault => (9, 0x02) | .thShutdown => (9, 0x03)
  | .thLatched => (9, 0x04)
  | .lkInternal => (10, 0x01) | .lkStoDisc => (10, 0x02) | .lkSiDisc => (10, 0x03)
  | .lkCurDisc => (10, 0x04) | .lkDcvDisc => (10, 0x05) | .lkFbDisc => (10, 0x06)
  | .lkFbLoss => (10, 0x07) | .lkTorque => (10, 0x08) | .ss1Viol => (10, 0x09)
  | .slsViol => (10, 0x0A) | .slpViol => (10, 0x0B) | .sdiViol => (10, 0x0C)
  | .lkComm => (10, 0x0D) | .lkCommDegraded => (10, 0x0E) | .lkSoFail => (10, 0x0F)
  | .lkCfgMismatch => (10, 0x10) | .lkTestDue => (10, 0x11) | .lkEccCorr => (10, 0x12)
  | .ethLinkDown => (11, 0x01) | .ethBufFull => (11, 0x02) | .ethGclErr => (11, 0x03)
  | .canErrPassive => (11, 0x11) | .canBusOff => (11, 0x12) | .canRxqOvf => (11, 0x13)
  | .moorPeerLost => (12, 0x01) | .moorIncomplete => (12, 0x02) | .moorIdDup => (12, 0x03)
  | .moorRingBroken => (12, 0x04) | .moorSyncErr => (12, 0x05) | .moorLinkErr => (12, 0x06)
  | .moorTideErr => (12, 0x07)
  | .pwrSrcLost => (13, 0x01) | .pwrLowLine => (13, 0x02) | .pwrShed => (13, 0x03)
  | .pwrLoss => (13, 0x04) | .pwrRail => (13, 0x05) | .pwrRestart => (13, 0x06)
  | .pwrWdog => (13, 0x07) | .pwrStartRefused => (13, 0x08)
  | .memEccCorr => (14, 0x01) | .memEccFatal => (14, 0x02) | .logbOverrun => (14, 0x03)
  | .logbLastwordsFail => (14, 0x04) | .bollardFreed => (14, 0x05) | .acUserWarn => (14, 0x06)
  | .acUserStop => (14, 0x07)
  | .tripIn => (15, 0x01) | .gtrip => (15, 0x02)

/-- The 16-bit fault code (R331). -/
def faultCode (n : FName) (src : Nat) : Nat := (fnCodes n).1 * 4096 + src % 64 * 64 + (fnCodes n).2

/-- A fault entry as FAULT_READ lays it out (R104). -/
def Entry.bytes (e : Entry) : List Byte :=
  beBytes 2 (faultCode e.name e.src) ++
    [BitVec.ofNat 8 e.sev,
     BitVec.ofNat 8 ((if e.cause then 1 else 0) + (if e.latched then 2 else 0) + (if e.retry then 4 else 0)),
     BitVec.ofNat 8 e.mid, BitVec.ofNat 8 e.epoch, 0, 0] ++
    beBytes 8 e.stamp ++ beBytes 4 e.detail

/-- What tells the entries of a queue apart. -/
def Entry.key (e : Entry) : FName × Nat × Nat × Nat × Nat := (e.name, e.src, e.inst, e.stamp, e.epoch)

/-- An aligned member forwards the entry: it was stamped since the alignment, or in an earlier epoch (R452, R453). -/
def State.forwards (s : State) (e : Entry) : Bool :=
  s.alignedMember && (e.epoch != s.epoch || decide (s.moor.alignedAt ≤ e.stamp))

/-- What became of an entry goes to the lead: 0 entered, 1 changed, 2 left (R453). -/
def State.tellEntry (s : State) (what : Nat) (e : Entry) : State :=
  if s.forwards e then
    s.sendTo 0 5 ([what, e.inst] ++ e.bytes.map BitVec.toNat ++ [s.get Reg.BW_FQSTAT_OVFL, s.get Reg.BW_FQSTAT_LOST])
  else s

/-- The fault queue changes: a member forwards the entries that leave, come and change (R453). -/
def State.putQueue (s : State) (q : List Entry) : State :=
  let old := s.fm.queue
  let s := s.updFm fun m => { m with queue := q }
  let gone := old.filter fun e => !(q.any fun x => x.key == e.key)
  let new := q.filter fun e => !(old.any fun x => x.key == e.key)
  let changed := q.filter fun e => old.any fun x => x.key == e.key && x.bytes != e.bytes
  changed.foldl (fun (s : State) e => s.tellEntry 1 e)
    (new.foldl (fun (s : State) e => s.tellEntry 0 e) (gone.foldl (fun (s : State) e => s.tellEntry 2 e) s))

end Sys2Proof.Machine
end

