-- ==== Sys2Proof/Machine/Axes.lean ====
section
/-! DEFINITION. Authority over the gates (R31-R34, R277, R313, R320) and what leaving RUN or TUNE
does to the engine (R230). `settle` is the one operation that brings the output stage in line with
every demand. -/

namespace Sys2Proof.Machine

/-- A BF32 speed lies above a whole number of rpm. -/
def speedAbove (w : Word) (rpm : Nat) : Bool := qLt (qInt rpm) (bfVal w)

/-- The speed of an axis is unknown or above `BW_AXCFGn.ASCSPD` (R313). -/
def State.overAscSpd (s : State) (n : Fin 4) : Bool :=
  match (s.axis n).spd with
  | none => true
  | some w => speedAbove w (s.get (Reg.BW_AXCFG_ASCSPD n))

/-- The choice of the stop reaction made afresh (R313). -/
def State.stopChoice (s : State) (n : Fin 4) : Gates :=
  if s.isLine n || !s.isPmsm n then .off else if s.overAscSpd n then .asc else .off

/-- The overvoltage reaction (R320). -/
def State.ovChoice (s : State) (n : Fin 4) : Gates :=
  if s.axType n == 0 && s.isPmsm n then .asc else .off

/-- The STO safe state of an axis (R324). -/
def State.stoChoice (s : State) (n : Fin 4) : Gates :=
  if s.bit (Reg.BW_AXCFG_STOSAFE n) then .asc else .off

/-- Active faults of which an axis is in the scope (R333). -/
def State.faultsOn (s : State) (n : Fin 4) : List Active :=
  s.fm.active.filter fun a => a.axes.getLsbD n.val

/-- The reaction in force: the highest severity among the active faults of its scope (R334). -/
def State.reactionOf (s : State) (n : Fin 4) : Nat :=
  (s.faultsOn n).foldl (fun m a => max m a.sev) 0

/-- The reaction of OBS_LOST is held back while its loss sequence runs (R254). -/
def State.obsHeld (s : State) (a : Active) : Bool :=
  a.name == .obsLost && (s.fbk[Fin.ofNat 4 (a.src - 47)]).obsHold.isSome

/-- Active faults whose reaction an axis takes: those of its scope, and every fault of severity 5 (R334). -/
def State.reactsTo (s : State) (n : Fin 4) : List Active :=
  s.fm.active.filter fun a => (a.axes.getLsbD n.val || a.sev == 5) && !s.obsHeld a

/-- A fault or loss of the PLL (R21) calls for the stop reaction of the axis (R313). -/
def State.stopCalled (s : State) (n : Fin 4) : Bool :=
  s.bw.pllStop || (s.reactsTo n).any fun a => decide (3 ≤ a.sev) && a.reac == .stop

/-- What the reactions that replace the stop reaction ask of the axis (R296, R320, R342). -/
def State.otherReactions (s : State) (n : Fin 4) : List Gates :=
  (s.reactsTo n).filterMap fun f =>
    match f.reac with
    | .overvolt => some (s.ovChoice n)
    | .pulseOff => some .off
    | .sto => some (s.stoChoice n)
    | .stop | .none => none

/-- Breakwater carries out the stop reaction of a fault itself, as a level-2 demand: from severity 4 on, and of
severity 3 for the trip inputs and GTRIP (R323, R325, R334). -/
def Active.stopsAtTwo (f : Active) : Bool :=
  f.reac == .stop && (decide (4 ≤ f.sev) || (decide (f.sev = 3) && (f.name == .tripIn || f.name == .gtrip)))

/-- Gate rails of the axis are on: every low-side converter of its legs is enabled (R288). -/
def State.railsOn (s : State) (n : Fin 4) : Bool :=
  !s.idle n && (s.legsOf n).all fun l => (s.gate (loCh l)).en

/-- A channel is held off at level 1 (R31). -/
def Gate.held (g : Gate) : Bool :=
  g.holds.desat || g.holds.partner || g.holds.uv || g.holds.boot || g.holds.supply ||
    g.holds.link || g.holds.die

/-- A low-side channel of the axis is held off at level 1 (R33). -/
def State.lowHeld (s : State) (n : Fin 4) : Bool :=
  (s.legsOf n).any fun l => (s.gate (loCh l)).held

/-- Demand of `BW_LKDEMAND` on an axis (R324, R338). -/
def State.lkDemand (s : State) (n : Fin 4) : Option Gates :=
  match s.get (Reg.BW_LKDEMAND_AX n) with
  | 1 => some .off
  | 2 => some .asc
  | _ => none

/-- Demands that Breakwater makes on an axis (level 2 of R31), the internal fault reaction of Lookout
among them (R342). -/
def State.bwDemands (s : State) (n : Fin 4) : List Gates :=
  s.otherReactions n ++
  (if s.bw.pllStop || (s.reactsTo n).any Active.stopsAtTwo then (s.axis n).stop.toList else []) ++
  (if s.bw.sto then [s.stoChoice n] else []) ++
  (s.lkDemand n).toList

/-- The demand of the axis state (level 4 of R31). FAULT keeps the gates of its reaction (R97). -/
def State.stateDemand (s : State) (n : Fin 4) : Option Gates :=
  let a := s.axis n
  match a.st with
  | .off | .diag | .ready => some .off
  | .hold => some (if a.holdAsc then .asc else .off)
  | .fault => some ((a.stop.or a.other).getD .off)
  | .safe => some (s.stoChoice n)
  | .run | .tune => none

/-- All demands at levels 2-4 on an axis. -/
def State.demands (s : State) (n : Fin 4) : List Gates :=
  s.bwDemands n ++ (s.stateDemand n).toList

/-- Two or more demands resolved by R33. -/
def resolve (line lowHeld : Bool) (l : List Gates) : Option Gates :=
  if lowHeld then some .off
  else if l.contains .asc then some (if line then .off else .asc)
  else if l.isEmpty then none else some .off

/-- What levels 1-4 ask of the axis as a whole; none where the engine has the gates. -/
def State.gateDemand (s : State) (n : Fin 4) : Option Gates :=
  if s.railsOn n then resolve (s.isLine n) (s.lowHeld n) (s.demands n) else some .off

/-- The gate request in force as R239 reads it. -/
def State.gateRequest (s : State) (n : Fin 4) : Gates × Bool :=
  let w := (s.carrier n).inForce.gate
  if w = 0 then (.off, true)
  else if w = 2 ∧ !s.isLine n then (.asc, false)
  else (.off, false)

/-- Mode of the output stage as its register shows it (R286). -/
def OutMode.code : OutMode → Nat
  | .off => 0 | .pwm => 1 | .asc => 2 | .force => 3

def State.outMode (s : State) (n : Fin 4) : OutMode :=
  match s.get (Reg.PWM_STATUS_OUT n) with
  | 1 => .pwm
  | 2 => .asc
  | 3 => .force
  | _ => .off

/-- The mode that the present demands allow (R277). In RUN and TUNE a gate request acts from the reload that
takes it; PWM is entered at a zero-point formation only, so a stage without PWM stays as it is until then. -/
def State.modeFor (s : State) (n : Fin 4) : OutMode :=
  let force := (s.axis n).st == .diag && s.bit (Reg.PWM_FORCE_FEN n) && s.bwDemands n == [] &&
    s.railsOn n && !s.lowHeld n
  if force then .force
  else
    match s.gateDemand n with
    | some .off => .off
    | some .asc => .asc
    | none =>
      let stay := match s.outMode n with
        | .force => .off
        | m => m
      if (s.axis n).reqTaken then
        match s.gateRequest n with
        | (_, true) => stay
        | (.asc, false) => .asc
        | (.off, false) => .off
      else stay

/-! ### Values in force (R125, R126, R264) -/

/-- The word of a Reload register in force for axis `n`. -/
def State.eff (s : State) (n : Fin 4) (a : Nat) : Word :=
  ((((s.carrier n).eff.find? fun e => e.1 == a)).map fun e => e.2.force).getD (s.reg a)

/-- A field in force. -/
def State.effGet (s : State) (n : Fin 4) (f : Fld) : Nat := wordGet (s.eff n f.addr) f.lo f.len

/-- Dead time of a leg in force, in fine steps (R266). -/
def State.dtOf (s : State) (n : Fin 4) (l : Fin 12) : Nat :=
  s.effGet n (Reg.PWM_DT_FINE l) + 32 * s.effGet n (Reg.PWM_DT_TICK l)

def State.period (s : State) (n : Fin 4) : Nat := s.get (Reg.PWM_PERIOD_PERIOD n)

/-! ### Commanded state of the channels of a leg

Instants are Tide counts in fine steps. -/

def State.riseReg (s : State) (l : Fin 12) : Nat := wordGet (s.reg (Reg.PWM_RISE l)) 0 29
def State.fallReg (s : State) (l : Fin 12) : Nat := wordGet (s.reg (Reg.PWM_FALL l)) 0 29

/-- What the channels of a leg follow in PWM mode: the zero point of its frame, the frame, and BOOT_REFRESH. -/
structure FrameNow where
  z : Nat
  rise : Nat
  fall : Nat
  refresh : Nat
  deriving DecidableEq, Repr

def State.frameNow (s : State) (l : Fin 12) : FrameNow :=
  { z := (s.carrier (s.axisOfLeg l)).zero, rise := s.riseReg l, fall := s.fallReg l
    refresh := 32 * s.get (Reg.PWM_BOOT_REFRESH l) }

/-- The frame has a pulse (R266). -/
def FrameNow.pulse (f : FrameNow) : Bool := decide (f.rise < f.fall)

/-- The instant at which the high side turns on by the frame: at the zero point where it was on through it, else
DT after the rise (R266). -/
def Leg.hiStart (g : Leg) (f : FrameNow) : Nat :=
  if f.rise = 0 ∧ g.hiThru then f.z else f.z + f.rise + g.dt

/-- On-time of the low side before the pulse of the frame that counts towards BOOT_REFRESH (R276). -/
def Leg.lowServed (g : Leg) (f : FrameNow) : Nat :=
  match g.lowSince with
  | some v => f.z + f.rise - max (max v f.z) g.holdFrom
  | none => 0

/-- A bootstrap refresh holds the high side off at `x`; it drives the low side at `x` (R275). -/
def Leg.refreshing (g : Leg) (f : FrameNow) (x : Nat) : Bool :=
  g.refreshAt.any fun r => decide (r ≤ x ∧ x < r + 2 * g.dt + f.refresh)

def Leg.refreshLow (g : Leg) (f : FrameNow) (x : Nat) : Bool :=
  g.refreshAt.any fun r => decide (r + g.dt ≤ x ∧ x < r + g.dt + f.refresh)

/-- The high side in PWM mode (R266, R275, R276). -/
def Leg.pwmHi (g : Leg) (f : FrameNow) (x : Nat) : Bool :=
  f.pulse && decide (g.hiStart f ≤ x ∧ x < f.z + f.fall) && decide (g.hold ≤ g.lowServed f) &&
    !g.refreshing f x

/-- The low side in PWM mode: on before the rise where it came on, on DT after the fall, and on all period where
the frame has no pulse (R266, R275). -/
def Leg.pwmLo (g : Leg) (f : FrameNow) (x : Nat) : Bool :=
  g.refreshLow f x ||
    (if !f.pulse || decide (x < f.z + f.rise) then g.lowSince.any fun v => decide (v ≤ x)
     else decide (f.z + f.fall + g.dt ≤ x))

/-- A channel is commanded on at the instant `x` (R266, R277, R279). -/
def State.chanAt (s : State) (x : Nat) (l : Fin 12) (hi : Bool) : Bool :=
  let g := s.leg l
  match s.outMode (s.axisOfLeg l) with
  | .off => false
  | .asc => !hi && g.lowSince.any fun v => decide (v ≤ x)
  | .force => if hi then g.forceHi else g.forceLo
  | .pwm => g.framed && (if hi then g.pwmHi (s.frameNow l) x else g.pwmLo (s.frameNow l) x)

/-! ### Placement (R49, R52) -/

/-- The placement line of a gate channel. -/
def lineOf (l : Fin 12) (hi : Bool) : Fin 28 := ⟨if hi then 2 * l.val else 2 * l.val + 1, by split <;> omega⟩

/-- Line `k` places at the nearest tick (R52). -/
def State.coarse (s : State) (k : Fin 28) : Bool := s.bit (Reg.TIDE_DLCOARSE_BIT k)

/-- Where line `k` places the instant `x`: tick, and tap round(f x N / 32) of the fine part; at the nearest tick
while the line is coarse, with 16-31 rounding up (R49, R52). A half tap rounds up (log entry 48). -/
def State.placed (s : State) (k : Fin 28) (x : Nat) : Nat × Nat :=
  if s.coarse k then ((x + 16) / 32, 0) else (x / 32, (2 * (x % 32) * (s.dl.line[k]).taps + 32) / 64)

/-- The channel is on at a Tide count as its line places the edges; a leg never has both on (R32). -/
def State.lineOn (s : State) (t : Nat) (l : Fin 12) (hi : Bool) : Bool :=
  s.chanAt (32 * t + if s.coarse (lineOf l hi) then 15 else 0) l hi

/-- A leg channel is commanded on at a Tide count (R32, R266, R277, R279). -/
def State.legOn (s : State) (t : Nat) (l : Fin 12) (hi : Bool) : Bool :=
  s.lineOn t l hi && (hi || !s.lineOn t l true)

/-! ### Edges at the output stage (R266, R283, R418) -/

/-- An edge: its instant in fine steps, tick, tap, leg, high side, on. -/
structure Edge where
  x : Nat
  tick : Nat
  tap : Nat
  leg : Fin 12
  hi : Bool
  on : Bool
  deriving DecidableEq, Repr

/-- Instants at which a channel of a leg can change within the frame or mode in force. -/
def State.edgeInstants (s : State) (l : Fin 12) : List Nat :=
  let g := s.leg l
  let f := s.frameNow l
  let low := g.lowSince.toList
  match s.outMode (s.axisOfLeg l) with
  | .asc => low
  | .pwm =>
    if g.framed then
      let r := g.refreshAt.toList.flatMap fun r =>
        [r, r + g.dt, r + g.dt + f.refresh, r + 2 * g.dt + f.refresh]
      (([f.z, f.z + f.rise, f.z + f.rise + g.dt, f.z + f.fall, f.z + f.fall + g.dt] ++ low ++ r).filter fun x =>
        decide (f.z ≤ x ∧ x < f.z + 32 * s.period (s.axisOfLeg l))).eraseDups
    else []
  | .off | .force => []

/-- The channel was on just before the instant `x`. -/
def State.chanBefore (s : State) (x : Nat) (l : Fin 12) (hi : Bool) : Bool :=
  let f := s.frameNow l
  if s.outMode (s.axisOfLeg l) = .pwm ∧ x = f.z then
    (if hi then (s.leg l).hiThru else (s.leg l).lowSince.any fun v => decide (v < x))
  else decide (0 < x) && s.chanAt (x - 1) l hi

/-- Edges of a channel at the instants from `a` on and before `b`, as its line places them. -/
def State.chanEdges (s : State) (a b : Nat) (l : Fin 12) (hi : Bool) : List Edge :=
  (s.edgeInstants l).filterMap fun x =>
    let on := s.chanAt x l hi
    let p := s.placed (lineOf l hi) x
    if s.chanBefore x l hi != on && decide (a ≤ x ∧ x < b) then
      some { x := x, tick := p.1, tap := p.2, leg := l, hi := hi, on := on }
    else none

/-- `e` is placed before `f`: on an earlier tick, at an earlier instant, or as the off edge of one instant (R266). -/
def Edge.before (e f : Edge) : Bool :=
  decide (e.tick < f.tick ∨ (e.tick = f.tick ∧ e.x < f.x)) || (e.tick == f.tick && e.x == f.x && !e.on && f.on)

/-- Insert an edge in its order. -/
def insertEdge (e : Edge) : List Edge → List Edge
  | [] => [e]
  | x :: r => if e.before x then e :: x :: r else x :: insertEdge e r

/-- All edges of the output stage at the instants from `a` on and before `b`, in order. -/
def State.edgesIn (s : State) (a b : Nat) : List Edge :=
  ((List.finRange 12).flatMap fun l => s.chanEdges a b l true ++ s.chanEdges a b l false).foldl
    (fun r e => insertEdge e r) []

/-- An edge of a channel of axis `n` opens a blanking window of input `k`, unless one is open or closed less than
FILT + 1 ticks ago (R283). -/
def State.blankFrom (s : State) (tick : Nat) (n : Fin 4) (k : Fin 8) : State :=
  let blank := s.get (Reg.PWM_TRIP_BLANK k)
  let wins := (s.bw.trips[k]).wins
  if (s.get (Reg.PWM_TRIP_AXES k)).testBit n && decide (blank ≠ 0) &&
      wins.head?.all (fun o => decide (o + blank + s.get (Reg.PWM_TRIP_FILT k) + 1 ≤ tick)) then
    s.updBw fun b => { b with trips := b.trips.set k { wins := tick :: wins.take 3 } }
  else s

/-- The channel of a leg. -/
def chOf (l : Fin 12) (hi : Bool) : Fin 26 := if hi then hiCh l else loCh l

/-- The calibrator sees an edge or a sample that line `k` has placed (R51). -/
def State.noteLine (s : State) (k : Fin 28) (tick : Nat) : State :=
  { s with dl := { s.dl with edges := (k.val, tick) :: s.dl.edges } }

/-- An edge leaves the output stage: it opens blanking windows, and where the channel is not held off at level 1 (R31) and its leg not blocked
(R297) it is a switching event: a gate event of the Logbook unless the channel reports its events with their plateau
(R292). -/
def State.putEdge (s : State) (e : Edge) : State :=
  let c := chOf e.leg e.hi
  let live := !(s.gate c).held && (s.leg e.leg).block.isNone
  let s := (s.emit (.edge c.val e.tick e.tap e.on)).noteLine (lineOf e.leg e.hi) e.tick
  let s := if e.on && live then s.updGate c fun g => { g with onAt := max g.onAt e.tick } else s
  let s := (List.finRange 8).foldl (fun (s : State) k => s.blankFrom e.tick (s.axisOfLeg e.leg) k) s
  if s.bit (Reg.GATE_CFG_MODE c) || !live then s
  else s.gateEv e.tick c.val (if e.on then 0 else 1) none
    (some (if e.on then s.get (Reg.GATE_DRV_SRC c) else s.get (Reg.GATE_DRV_SNK c)))

/-- Place the edges of every leg before the instant `x`, in fine steps. -/
def State.drive (s : State) (x : Nat) : State :=
  let s' := s.updBw fun b => { b with edgesTo := max b.edgesTo x }
  (s.edgesIn s.bw.edgesTo x).foldl State.putEdge s'

/-- Place the edges up to the present: what follows acts on the output stage or reads what it has placed. -/
def State.driveNow (s : State) : State := s.drive (32 * s.tide)

/-- A hold of a channel changes: the edges up to now meet it as it was. -/
def State.updHolds (s : State) (g : Fin 26) (f : Holds → Holds) : State :=
  s.driveNow.updGate g fun x => { x with holds := f x.holds }

/-- Since when a low side that is on at the instant `x` has been on. -/
def State.lowFrom (s : State) (x : Nat) (l : Fin 12) : Nat :=
  let g := s.leg l
  let f := s.frameNow l
  let since := g.lowSince.getD x
  if s.outMode (s.axisOfLeg l) ≠ .pwm then since
  else if g.refreshLow f x then (g.refreshAt.map (· + g.dt)).getD since
  else if !f.pulse || decide (x < f.z + f.rise) then since
  else f.z + f.fall + g.dt

/-- Put a leg into a mode of the output stage at Tide count `t` (R277): on a change to OFF or ASC any pulse is
cut at once; in ASC a low side that was on stays on, and one that was off turns on DT later; in FORCE the channels
take their states of `PWM_FORCEn`. -/
def State.legMode (s : State) (t : Nat) (m : OutMode) (l : Fin 12) : State :=
  match m with
  | .off => s.updLeg l fun g => { g with framed := false, lowSince := none, refreshAt := none }
  | .asc =>
    let on := if s.legOn t l false then s.lowFrom (32 * t) l else 32 * t + s.dtOf (s.axisOfLeg l) l
    s.updLeg l fun g => { g with framed := false, lowSince := some on, refreshAt := none }
  | .force => s.updLeg l fun g =>
      { g with framed := false, refreshAt := none, lowSince := if g.forceLo then some (32 * t) else none }
  | .pwm => s

/-- The edges at `t` of a leg whose channels go off as it leaves `old`, and in FORCE come on. -/
def State.modeEdges (old : State) (t : Nat) (s : State) (l : Fin 12) : State :=
  let edge (on : Bool) (s : State) (hi : Bool) : State :=
    if old.legOn t l hi == !on && s.legOn t l hi == on then
      s.putEdge { x := 32 * t, tick := t, tap := 0, leg := l, hi := hi, on := on }
    else s
  let s := edge false (edge false s true) false
  if s.outMode (s.axisOfLeg l) = .force then edge true (edge true s true) false else s

/-- Move the output stage of an axis to a mode. -/
def State.setMode (s : State) (t : Nat) (n : Fin 4) (m : OutMode) : State :=
  if s.outMode n = m then s
  else
    let s := s.drive (32 * t)
    let new := ((s.legsOf n).foldl (fun s l => s.legMode t m l) s).set (Reg.PWM_STATUS_OUT n) m.code
    (s.legsOf n).foldl (State.modeEdges s t) new

/-- Breakwater's demand as `BW_AXSTATn.DEMAND` shows it. -/
def demandCode : Option Gates → Nat
  | none => 0
  | some .off => 1
  | some .asc => 2

/-- The choice of a stop reaction that stands (R313): made when it begins to stand, from pulse-off to ASC when the
speed asks for it, and never back. On the backup oscillator a choice once made stays (R21). -/
def State.nextStop (s : State) (n : Fin 4) : Gates :=
  match (s.axis n).stop with
  | some .asc => .asc
  | some .off => if s.backup then .off else s.stopChoice n
  | none => s.stopChoice n

/-- Re-evaluate the reaction of an axis: the stop reaction (R313) where it is called for, in FAULT a reaction in its
place (R334), and in FAULT with neither left the reaction that stood (R34, R97). -/
def State.restop (s : State) (n : Fin 4) : State :=
  let faulted := (s.axis n).st == .fault
  let others := s.otherReactions n
  if s.stopCalled n then s.updAxis n fun a => { a with stop := some (s.nextStop n), other := none }
  else if faulted && !others.isEmpty then
    s.updAxis n fun a => { a with stop := none, other := resolve (s.isLine n) false others }
  else if faulted then
    if (s.axis n).other.isSome then s
    else s.updAxis n fun a => { a with stop := some (s.nextStop n) }
  else s.updAxis n fun a => { a with stop := none, other := none }

/-- Bring one axis in line with every demand on it. A demand for ASC ends a DIAG_RUN (R303). -/
def State.settleAxis (t : Nat) (s : State) (n : Fin 4) : State :=
  if s.idle n then s
  else
    let s := s.restop n
    let bwd := resolve (s.isLine n) false (s.bwDemands n)
    let s := s.sets [(Reg.BW_AXSTAT_DEMAND n, demandCode bwd), (Reg.BW_AXSTAT_SEV n, s.reactionOf n),
      (Reg.BW_AXSTAT_SPDKNOWN n, if (s.axis n).spd.isSome then 1 else 0),
      (Reg.BW_AXSTAT_ABOVE n, if (s.axis n).spd.any (speedAbove · (s.get (Reg.BW_AXCFG_ASCSPD n)))
        then 1 else 0)]
    let s := if (s.axis n).diag.isSome ∧ (s.demands n).contains .asc then
        s.updAxis n fun a => { a with diag := none }
      else s
    s.setMode t n (s.modeFor n)

/-- Bring every axis in line with every demand: the one place where demands reach the gates. -/
def State.settle (s : State) (t : Nat) : State := s.eachAxis (State.settleAxis t)

/-- Phases of `LE_STATUSn.PHASE` (R226). -/
def State.phase (s : State) (n : Fin 4) : Nat := s.get (Reg.LE_STATUS_PHASE n)

/-- Discard what a pilot pass holds (R235). -/
def Eng.dropPilot (e : Eng) : Eng :=
  { e with scratch := [], prov := [], held3 := [], heldFlags := [], heldPort := none, settles := 0,
           perfHeld := [] }

/-- PASS_ABANDON: what the engine does when its axis leaves RUN or TUNE (R230). -/
def State.passAbandon (s : State) (n : Fin 4) : State :=
  let ph := s.phase n
  if ph = 1 ∨ ph = 2 ∨ ph = 3 then
    (s.updEng n fun e => { e.dropPilot with committed := false, serving := none, crossing := false
                                            }).set (Reg.LE_STATUS_PHASE n) 0
  else s.updEng n fun e => { e with committed := false, orphan := decide (ph = 4) || e.orphan }

/-- The module is OPERATIONAL while any axis is in RUN or TUNE, and READY otherwise (R102). -/
def State.reModule (s : State) : State :=
  if s.modState = 2 ∨ s.modState = 3 then
    s.setModState (if s.axes.toList.any (·.st.closed) then 3 else 2)
  else s

/-- The entry is that of a fault of this name and source, for TRIP_IN of this input (R337). -/
def Entry.named (e : Entry) (name : FName) (src inst : Nat) : Bool :=
  e.name == name && e.src == src && (e.inst == inst || name != .tripIn)

/-- The active instance belongs to the entry of this name and source, for TRIP_IN of this input (R337). -/
def Active.named (a : Active) (name : FName) (src inst : Nat) : Bool :=
  a.name == name && a.src == src && (a.inst == inst || name != .tripIn)

/-- The cause of an active fault is gone (R335): the cause flag of its entry reads 0 once no instance of the fault
has its cause left. -/
def State.causeGone (s : State) (name : FName) (src inst : Nat) : State :=
  let act := s.fm.active.map fun a =>
    if a.name == name && a.src == src && a.inst == inst then { a with cause := false } else a
  let left := act.any fun a => a.named name src inst && a.cause
  (s.updFm fun m => { m with active := act }).putQueue (s.fm.queue.map fun e =>
    if e.named name src inst && e.mid == s.mid.val && !left then { e with cause := false } else e)

/-- The observer loss notice ends with the stay in RUN (R198, R242): LOST clears, entry 206 returns to
0, and the cause of OBS_LOST is gone. -/
def State.obsLeave (s : State) (n : Fin 4) : State :=
  if s.bit (Reg.FBK_OBSCFG_LOST n) then
    let s := s.updEng n fun e => { e with port := stoPut e.port 206 0 0 }
    let s := { s with fbk := s.fbk.set n { s.fbk[n] with obsAbove := none, obsHold := none } }
    (s.set (Reg.FBK_OBSCFG_LOST n) 0).causeGone .obsLost (47 + n) 0
  else s

/-- What leaving RUN or TUNE does (R60, R198, R230, R259): the pass is abandoned, CONSEC returns to
0, a tune in progress is aborted, the observer's LOST clears, the setpoint's validity ends. -/
def State.leaveClosed (s : State) (n : Fin 4) : State :=
  if (s.axis n).st.closed then
    let s := ((s.passAbandon n).set (Reg.TIDE_MISS_CONSEC n) 0).obsLeave n
    s.updAxis n fun a =>
      { a with expiry := none, reqTaken := false,
               tune := if a.st == .tune then { a.tune with ended := some 2 } else a.tune }
  else s

/-- An axis that is not OFF at `t` counts as having left OFF then. -/
def Axis.outside (a : Axis) (t : Nat) : Option Nat := if a.st = .off then none else some t

/-- An axis leaves OFF: Lookout times the first frames of its connections from then on (R363). -/
def State.leaveOff (s : State) (n : Fin 4) : State :=
  if (s.axis n).st = .off then
    { s with lk := { s.lk with left := s.lk.left.set n (some (s.lk.left[n].getD s.tide)) } }
  else s

/-- Move an axis to a state; the gates follow in `settle`. -/
def State.moveAxis (s : State) (n : Fin 4) (st : AxState) (holdAsc : Bool := false) : State :=
  let s := if st = .off then s else s.leaveOff n
  let s := if st.closed then s else s.leaveClosed n
  (s.updAxis n fun a => { a with st := st, holdAsc := holdAsc, diag := none }).reModule.tellLead

/-- An axis enters RUN or TUNE: no sample of an earlier stay is served or counted (R60, R229), and
Harbourmaster advances the run count in entry 200 (R242). -/
def State.enterClosed (s : State) (n : Fin 4) (st : AxState) : State :=
  let s := s.updEng n fun e =>
    { e with
      arrived := none, samples := [], committed := false
      port := stoPut e.port 200 (stoGet e.port 200 0 + 1) 0 }
  let stale (d : DutySet) : DutySet := { d with fresh := false }
  let s := s.updCarrier n fun c =>
    { c with shadow := stale c.shadow, before := stale c.before, inForce := stale c.inForce }
  (s.moveAxis n st).updAxis n fun a =>
    { a with reqTaken := false, pendTo := none, preTherm := none, expired := false }

/-- The axis speed is unknown or above ASC_SPD, coefficient entry 0x033 (R99, R241). -/
def State.fast (s : State) (n : Fin 4) : Bool :=
  match (s.axis n).spd with
  | none => true
  | some w => qLt (bfVal (stoGet (s.engine n).coef 0x33 0)) (bfVal w)

/-- Gate mode of the HOLD that the end of a setpoint's validity sets (R101): ASC by HOLDASC or on a
traction PMSM axis above ASC_SPD, and never on a line axis. -/
def State.expiryAsc (s : State) (n : Fin 4) : Bool :=
  !s.isLine n && (s.bit (Reg.BW_AXCFG_HOLDASC n) ||
    (s.axType n == 0 && s.isPmsm n && s.fast n))

/-- The axis goes to HOLD at the end of its setpoint's validity (R101). -/
def State.expireToHold (s : State) (n : Fin 4) : State :=
  (s.moveAxis n .hold (s.expiryAsc n)).updAxis n fun a => { a with expiry := none }

end Sys2Proof.Machine
end

