-- ==== Sys2Proof/Machine/Faults.lean ====
section
/-! DEFINITION. The fault manager (R331-R337): codes, severities and scopes, the order of views
(R63-R66), raising a fault with its reactions, ends of causes, automatic clears and FAULT_CLEAR. -/

namespace Sys2Proof.Machine

/-- Severity of a name; none where a register or the raising rule sets it (R332). -/
def fnSeverity : FName → Option Nat
  | .orderLate | .lkEccCorr | .memEccCorr => some 0
  | .leDeadline | .adcClusterFail | .adcRefFail | .pathCheckFail | .fbSupply | .fbWire | .fbEncFail
  | .fbHallFail | .fbResAmp | .fbResLock | .fbSsiFrame | .obsLost | .leIllop | .prgOvercurrent
  | .obsReacqFail | .linePllLost | .prgUser | .gateUv | .gateSupply | .offstateFail | .dcUv2
  | .thFault | .moorTideErr | .pwrShed | .pwrRestart | .acUserStop => some 3
  | .adcSliceRetired | .fbIdxDrift | .brkFail | .lkStoDisc | .lkSiDisc | .lkCurDisc | .lkDcvDisc
  | .lkFbDisc | .lkFbLoss | .lkTorque | .ss1Viol | .slsViol | .slpViol | .sdiViol | .lkComm
  | .lkCfgMismatch => some 2
  | .gateDesat | .gateLink | .xcmd | .thShutdown | .thLatched => some 4
  | .vhvFail | .dcOv2 | .dcOv3 | .brkLoad | .lkInternal | .lkSoFail | .pwrLoss | .pwrRail => some 5
  | .calOtp | .bootUv | .moorPeerLost | .memEccFatal | .tripIn | .gtrip => none
  | .fabricTimeout | .cmdReplyLost | .cmdTimeout | .fwRevert | .refLost | .dlCalFail | .marginLow
  | .tideAsStep | .asHoldover | .manifestNone | .manifestBankBad | .manifestWriteFail | .cfgReject
  | .safetySetNone | .adcOverrun | .adcOvr | .hkFail | .tpOpen | .tpShort | .fbIllegal | .fbSsiJump
  | .leArith | .lePort | .tuneLimit | .prgUserWarn | .pwmLockLost | .gateAdaptLimit | .ntcOpen
  | .ntcShort | .dcUv1 | .brkEnergy | .dscBlocked | .dscEnergy | .thWarn | .lkCommDegraded
  | .lkTestDue | .ethLinkDown | .ethBufFull | .ethGclErr | .canErrPassive | .canBusOff | .canRxqOvf
  | .moorIncomplete | .moorIdDup | .moorRingBroken | .moorSyncErr | .moorLinkErr | .pwrSrcLost
  | .pwrLowLine | .pwrWdog | .pwrStartRefused | .logbOverrun | .logbLastwordsFail | .bollardFreed
  | .acUserWarn => some 1

/-- Scope of a fault (R333): the axes it acts on, and whether its scope is the module. TRIP_IN and the
thermal faults act on the axes of their rules, TH_SHUTDOWN and TH_LATCHED on every axis (R329, R330), TRIP_IN without
axes on the module. -/
def State.scopeOf (s : State) (f : FaultIn) : BitVec 4 × Bool :=
  if 8 ≤ f.src ∧ f.src ≤ 15 then (axisMask (Fin.ofNat 4 f.src), false)
  else if 47 ≤ f.src ∧ f.src ≤ 50 then (axisMask (Fin.ofNat 4 (f.src - 47)), false)
  else if 16 ≤ f.src ∧ f.src ≤ 39 then
    (axisMask (s.axisOfLeg (Fin.ofNat 12 ((f.src - 16) / 2))), false)
  else if 42 ≤ f.src ∧ f.src ≤ 45 then
    (axisMask (s.axisOfCluster (Fin.ofNat 4 (f.src - 42))), false)
  else if f.name = .thWarn ∨ f.name = .thFault then (f.axes, false)
  else if f.name = .thShutdown ∨ f.name = .thLatched then (15, false)
  else if f.name = .tripIn ∧ f.axes ≠ 0 then (f.axes, false)
  else (15, true)

/-- The gate reaction of a fault's own rule (R296, R320, R334, R342). -/
def reacOf (n : FName) (src sev : Nat) : Reac :=
  match n with
  | .dcOv2 | .dcOv3 => .overvolt
  | .gateDesat => if src < 40 then .pulseOff else .stop
  | .lkInternal => .sto
  | _ => if 3 ≤ sev then .stop else .none

/-- `a` comes before `b` in the order of R63 and R70. -/
def Entry.before (a b : Entry) : Bool :=
  if a.mid = b.mid ∧ a.epoch ≠ b.epoch then epochLater a.epoch b.epoch
  else
    let ka := 64 * a.mid + a.src
    let kb := 64 * b.mid + b.src
    if slotOfStamp a.stamp ≠ slotOfStamp b.stamp then decide (slotOfStamp a.stamp < slotOfStamp b.stamp)
    else if ka ≠ kb then decide (ka < kb)
    else decide (a.stamp < b.stamp)

/-- Insert an entry at its place: before the first entry it comes before (R63, R66). -/
def insertEntry (e : Entry) : List Entry → List Entry
  | [] => [e]
  | x :: r => if e.before x then e :: x :: r else x :: insertEntry e r

/-- A view with release delay `d` has released the slot of a stamp by `now` (R65). -/
def slotReleased (d now st : Nat) : Bool := decide (3 * (slotOfStamp st + 1) + d ≤ now)

/-- Present epoch of a module of the group. -/
def State.epochOf (s : State) (mid : Nat) : Nat :=
  if mid = s.mid.val then s.epoch else s.get (Reg.MOOR_MEMBER_EPOCH mid)

/-- The group view has released the slot of an entry: those of an earlier epoch of its module are released (R65,
R70). -/
def State.groupReleased (s : State) (e : Entry) : Bool :=
  epochLater e.epoch (s.epochOf e.mid) || slotReleased Config.releaseGroup s.tide e.stamp

/-- The module's own views have released the slot of a stamp: those of an earlier epoch are released (R65, R70). -/
def State.released (s : State) (epoch stamp : Nat) : Bool :=
  epochLater epoch s.epoch || slotReleased Config.releaseOwn s.tide stamp

/-- New entries of the fault queue go to the Logbook (R418 kind 6). -/
def State.logFaults (s : State) : State :=
  let new := s.fm.queue.filter fun e => !e.logged
  let s := new.foldl (fun s e => s.logEvent e.epoch e.src e.stamp fun c =>
    if c.kind = 6 then some (e.bytes ++ [0, 0, 0, 0]) else none) s
  s.updFm fun m => { m with queue := m.queue.map fun e => { e with logged := true } }

/-- An entry of the same name and source in the module's own queue, for TRIP_IN of the same input (R337). -/
def Entry.sameAs (e : Entry) (f : FaultIn) (mid : Nat) : Bool :=
  e.named f.name f.src f.inst && e.mid == mid

/-- A fault makes a new entry of the queue: no held entry takes it, and one of the 64 is free (R337). -/
def State.entersQueue (s : State) (f : FaultIn) (sev : Nat) : Bool :=
  !(s.fm.queue.any fun x => x.sameAs f s.mid && (decide (sev < 2) || x.cause)) && decide (s.fm.queue.length < 64)

/-- A fault that does not find room in the queue is counted; a member tells the lead (R337, R453). -/
def State.lostEntry (s : State) : State :=
  ((s.set Reg.BW_FQSTAT_OVFL 1).incHold Reg.BW_FQSTAT_LOST).tellLead

/-- Enter a fault in the queue (R337): merge, insert, or count as lost. -/
def State.enterQueue (s : State) (f : FaultIn) (sev : Nat) (req : Nat) (latched retry : Bool) :
    State :=
  let (axes, md) := s.scopeOf f
  let e : Entry :=
    { name := f.name, src := f.src, inst := f.inst, sev := sev, cause := decide (2 ≤ sev),
      latched := latched, retry := retry, mid := s.mid, epoch := f.epoch, req := req,
      stamp := f.stamp, detail := f.detail % 2 ^ 32, axes := axes, modScope := md }
  if sev < 2 then
    if s.fm.queue.any (fun x => x.sameAs f s.mid) then
      s.putQueue (s.fm.queue.map fun x =>
        if x.sameAs f s.mid then { x with detail := f.detail % 2 ^ 32 } else x)
    else if s.fm.queue.length < 64 then s.putQueue (insertEntry e s.fm.queue)
    else s.lostEntry
  else if s.fm.queue.any (fun x => x.sameAs f s.mid && x.cause) then
    s.putQueue (s.fm.queue.map fun x =>
      if x.sameAs f s.mid && x.cause then { x with sev := max x.sev sev } else x)
  else if s.fm.queue.length < 64 then s.putQueue (insertEntry e s.fm.queue)
  else s.lostEntry

/-- Make a fault of severity 2-5 active (R335). -/
def State.activate (s : State) (f : FaultIn) (sev : Nat) (latched : Bool) : State :=
  let (axes, md) := s.scopeOf f
  let same (a : Active) : Bool := a.name == f.name && a.src == f.src && a.inst == f.inst
  let new : Active :=
    { name := f.name, src := f.src, inst := f.inst, sev := sev, axes := axes,
      modScope := md, reac := reacOf f.name f.src sev, cause := true, latched := latched }
  if s.fm.active.any same then
    s.updFm fun m =>
      { m with
        active := m.active.map fun a =>
          if same a then
            { a with
              sev := max a.sev sev, axes := a.axes ||| axes, cause := true
              modScope := a.modScope || md
              reac := if a.sev < sev then reacOf f.name f.src sev else a.reac
              latched := a.latched || latched }
          else a }
  else s.updFm fun m => { m with active := m.active ++ [new] }

/-- An axis enters FAULT (R101, R334). An idle axis keeps its state; an axis without its factory calibration cannot
leave OFF (R135). -/
def State.faultAxis (s : State) (n : Fin 4) : State :=
  if s.idle n || ((s.axis n).calBad && (s.axis n).st == .off) then s
  else if (s.axis n).st = .fault then s
  else s.moveAxis n .fault

/-- Breakwater drives GTRIP low (R325). -/
def State.driveGtrip (s : State) (t : Nat) (f : Bw → Bw) : State :=
  if s.bit Reg.BW_GTRIP_EN then
    let s := if s.bit Reg.BW_GTRIP_DRIVE then s else s.updBw fun b => { b with gtAt := t }
    (s.updBw f).set Reg.BW_GTRIP_DRIVE 1
  else s

/-- A discharge trigger arrives (R321): `had` where it stands already. -/
def Bw.trigger (b : Bw) (t : Nat) (had : Bool) (f : Bw → Bw) : Bw :=
  if had then b
  else
    let open_ := (b.trgLoss || b.trgSafe || b.trgCmd) && !b.dscDone
    { f b with
      trgAt := if open_ then b.trgAt else some t
      dscDone := false }

/-- SELFTEST ends: the first event converted after it carries sequence number 0 (R144). -/
def State.seqFresh (s : State) : State := { s with adc := s.adc.map fun c => { c with seq := 255 } }

/-- A severity-5 reaction (R334): every axis FAULT, MODULE_SAFE, SO0 and SO1 de-energised, GTRIP
under ON5 (R325) and the discharge trigger under ONSAFE (R321). -/
def State.moduleSafe (s : State) (t : Nat) : State :=
  let s := if s.modState = 1 then s.seqFresh else s
  let s := (s.eachAxis State.faultAxis).setModState 4
  let s := s.updBw fun b => { b with so0Open := true, so1Open := true }
  let s := if s.bit Reg.BW_GTRIP_ON5 then s.driveGtrip t (fun b => { b with gt5 := true }) else s
  if s.bit Reg.BW_DSCCFG_ONSAFE then
    s.updBw fun b => b.trigger t b.trgSafe fun b => { b with trgSafe := true }
  else s

/-- The Logbook takes a trigger at `T` (R421): later triggers are ignored. -/
def State.logTriggerAt (s : State) (stamp : Nat) : State :=
  if s.get Reg.LOGB_STAT_STATE = 1 then
    (s.updLogb fun b => { b with trigAt := some stamp }).sets
      [(Reg.LOGB_STAT_STATE, 2), (Reg.LOGB_TRIGL_STAMP, stamp), (Reg.LOGB_TRIGH_STAMP, stamp / 2 ^ 32)]
  else s

/-- Logbook triggers cross the group: GTRIG is set, and on a member the lead is reached (R451, R454). -/
def State.gtrigOn (s : State) : Bool :=
  s.bit Reg.MOOR_CTL_GTRIG && (!s.isMember || s.bit (Reg.MOOR_MEMBER_PRESENT 0))

/-- A trigger of the module's own Logbook: GTRIG sends it to every member (R451). -/
def State.logTrigger (s : State) (stamp : Nat) : State :=
  let own := s.get Reg.LOGB_STAT_STATE == 1
  let s := s.logTriggerAt stamp
  if own && s.gtrigOn then s.sendAll 1 [stamp] else s

/-- Severity a fault carries on arrival. -/
def faultSev (f : FaultIn) : Nat := ((fnSeverity f.name).getD f.sev) % 8

/-- Warning ORDER_LATE: a record of source `src` that arrives after its slot has been released (R66). Its own
source number is 0, that of the table of R332, and its detail holds the record's source (log entry 48). -/
def State.orderLate (s : State) (epoch stamp src : Nat) : State :=
  if s.released epoch stamp then
    s.enterQueue { name := .orderLate, src := 0, detail := src, stamp := s.tide, sev := 0,
                   inst := 0, axes := 0, epoch := s.epoch } 0 0 false false
  else s

/-- A report of a gate channel that leaves the module's event path for the Logbook: a late one raises ORDER_LATE
(R66). -/
def State.gateReport (s : State) (stamp g ev : Nat) (plateau step : Option Nat := none) : State :=
  (s.orderLate s.epoch stamp (16 + g)).gateEv stamp g ev plateau step

/-- The severity-3 reaction of OBS_LOST is held at first (R254). -/
def State.holdObs (s : State) (src stamp : Nat) : State :=
  let n : Fin 4 := Fin.ofNat 4 (src - 47)
  { s with fbk := s.fbk.set n { s.fbk[n] with obsHold := some stamp } }

/-- The held severity-3 reaction of OBS_LOST is carried out (R254). -/
def State.obsReact (s : State) (n : Fin 4) : State :=
  if (s.fbk[n]).obsHold.isSome then
    let s := { s with fbk := s.fbk.set n { s.fbk[n] with obsHold := none } }
    (s.faultAxis n).settle s.tide
  else s

/-- A fault or warning reaches the fault manager (R335-R337): it is entered, becomes active, raises
the reaction of its severity, and triggers an armed Logbook (R421). CAL_OTP leaves its axis in OFF (R135). -/
def State.raiseFull (s : State) (f : FaultIn) (req : Nat) (latched retry : Bool) : State :=
  let sev := faultSev f
  let s := s.orderLate f.epoch f.stamp f.src
  let entered := s.entersQueue f sev
  let s := (s.enterQueue f sev req latched retry).logFaults
  let s := if 2 ≤ sev then s.activate f sev latched else s
  let (axes, _) := s.scopeOf f
  let s :=
    if sev = 5 then s.moduleSafe s.tide
    else if f.name = .obsLost ∧ (s.axis (Fin.ofNat 4 (f.src - 47))).st = .run then s.holdObs f.src f.stamp
    else if f.name = .calOtp then s
    else if 3 ≤ sev then (maskAxes axes).foldl State.faultAxis s
    else s
  let s := if entered && decide (s.logb.sev ≠ 0 ∧ s.logb.sev ≤ sev) then s.logTrigger f.stamp else s
  s.settle s.tide

/-- Names whose rule states the detail of their entry. The detail of every other entry is a free
value (log entry 7). -/
def fnDetail : FName → Bool
  | .marginLow | .cfgReject | .adcClusterFail | .fbIdxDrift | .obsLost | .leArith | .lePort | .leIllop
  | .prgUser | .prgUserWarn | .brkFail | .tripIn | .thFault | .lkInternal | .lkComm | .bollardFreed | .ethLinkDown | .ethBufFull
  | .ethGclErr | .canErrPassive | .canBusOff | .canRxqOvf | .memEccCorr | .memEccFatal | .acUserWarn
  | .acUserStop | .offstateFail | .moorPeerLost | .pwrStartRefused | .pwrRail | .pwrSrcLost | .manifestBankBad => true
  | _ => false

/-- Raise a fault or warning of the module itself. -/
def State.raise (s : State) (name : FName) (src : Nat) (detail : Nat) (stamp : Nat)
    (axes : BitVec 4 := 0) (sev : Nat := 1) (inst : Nat := 0) (latched : Bool := false)
    (retry : Bool := false) (req : Nat := 0) (epoch : Option Nat := none) : State :=
  let (d, s) := if fnDetail name then (detail, s) else s.freeNat
  s.raiseFull { name := name, src := src, detail := d, stamp := stamp, sev := sev, inst := inst,
                axes := axes, epoch := epoch.getD s.epoch } req latched retry

/-- Raise a fault unless it is active with its cause. -/
def State.raiseNew (s : State) (name : FName) (src : Nat) (detail : Nat) (stamp : Nat) : State :=
  if s.fm.active.any (fun a => a.name == name && a.src == src && a.cause) then s
  else s.raise name src detail stamp

/-- Raise a warning at most once in each 1 ms interval (R502). -/
def State.raiseOnce (s : State) (name : FName) (src : Nat) (detail : Nat) (stamp : Nat) : State :=
  let key := (name, src)
  let iv := interval stamp
  if s.fm.ivals.any (fun p => p.1 == key && p.2 == iv) then s
  else (s.updFm fun m => { m with ivals := (key, iv) :: m.ivals.filter fun p => p.1 != key }).raise
    name src detail stamp

/-- An active fault of this name, source and instance exists. -/
def State.isActive (s : State) (name : FName) (src : Nat) (inst : Nat := 0) : Bool :=
  s.fm.active.any fun a => a.name == name && a.src == src && a.inst == inst

/-- The other channel of the leg. -/
def partner (g : Fin 26) : Option (Fin 26) :=
  if h : g.val < 24 then some ⟨if g.val % 2 = 0 then g.val + 1 else g.val - 1, by split <;> omega⟩
  else none

/-- The reaction of OBS_LOST is no longer held (R254). -/
def State.dropObs (s : State) (src : Nat) : State :=
  let n : Fin 4 := Fin.ofNat 4 (src - 47)
  { s with fbk := s.fbk.set n { s.fbk[n] with obsHold := none } }

/-- What clearing a fault lifts beside its own demand: the held reaction of OBS_LOST (R254), the holds of a gate channel with the partner
hold (R301), and Breakwater's contactor demand once no severity-5 fault is active. The hold of the driver die goes
with that of GATE_LINK where command frames have resumed (R290). The next turn-on of a bootstrap high side waits
until its low side has been on for REFRESH (R276, R299). -/
def State.liftOf (s : State) (a : Active) : State :=
  let s := if a.name = .obsLost then s.dropObs a.src else s
  let s := if s.fm.active.any (fun x => x.sev == 5) then s
    else s.updBw fun b => { b with so0Open := false, so1Open := false, gt5 := false, trgSafe := false }
  if 16 ≤ a.src ∧ a.src ≤ 41 then
    let g : Fin 26 := Fin.ofNat 26 (a.src - 16)
    match a.name with
    | .gateDesat =>
      let s := (s.updHolds g fun h => { h with desat := false }).updGate g fun x => { x with due := x.due.set 0 none }
      let s := s.set (Reg.GATE_STAT_DESAT g) 0
      match partner g with
      | some p => (s.updHolds p fun h => { h with partner := false }).set (Reg.GATE_STAT_PFORCE p) 0
      | none => s
    | .gateUv =>
      (s.updHolds g fun h => { h with uv := false }).updGate g fun x => { x with due := x.due.set 1 none }
    | .bootUv =>
      let s := ((s.updHolds g fun h => { h with boot := false }).updGate g fun x =>
        { x with due := x.due.set 2 none }).set (Reg.GATE_STAT_BOOTUV g) 0
      match legOfGate g with
      | some l => s.updLeg l fun x =>
          { x with hold := 32 * s.get (Reg.PWM_BOOT_REFRESH l), holdFrom := 32 * s.tide }
      | none => s
    | .gateSupply =>
      (s.updHolds g fun h => { h with supply := false }).updGate g fun x => { x with due := x.due.set 3 none }
    | .gateLink =>
      let mute := (s.gate g).mute
      ((s.updHolds g fun h => { h with link := false, die := h.die && mute }).updGate g fun x =>
        { x with due := x.due.set 4 none }).set (Reg.GATE_STAT_LINKFAIL g) 0
    | _ => s
  else s

/-- Status bits of a gate channel that follow its holds and its faults (R300, R311). Where a hold is lifted, a channel
commanded on turns on (R294). -/
def State.gateBits (s : State) (g : Fin 26) : State :=
  let mine := s.fm.active.filter fun a => a.src == 16 + g.val && (fnCodes a.name).1 == 7
  let held := (s.gate g).held
  let s := if held != s.bit (Reg.GATE_STAT_HOLD g) then s.gateReport s.tide g (if held then 3 else 4) else s
  let s := if held || !s.bit (Reg.GATE_STAT_HOLD g) then s else s.updGate g fun x => { x with onAt := max x.onAt s.tide }
  s.sets [(Reg.GATE_STAT_HOLD g, if (s.gate g).held then 1 else 0),
    (Reg.GATE_STAT_LATCHED g, if mine.any (·.latched) then 1 else 0),
    (Reg.GATE_STAT_RETRY g, if (s.gate g).due.toList.any Option.isSome then 1 else 0)]

/-- The status bits of a channel and of its partner. -/
def State.legBits (s : State) (g : Fin 26) : State :=
  match partner g with
  | some p => (s.gateBits g).gateBits p
  | none => s.gateBits g

/-- Clear active faults: their demands are lifted, and the output stage follows. -/
def State.clearActive (s : State) (p : Active → Bool) : State :=
  let gone := s.fm.active.filter p
  let s := s.updFm fun m => { m with active := m.active.filter fun a => !p a }
  let s := gone.foldl State.liftOf s
  let s := gone.foldl (fun s a =>
    if 16 ≤ a.src ∧ a.src ≤ 41 then s.legBits (Fin.ofNat 26 (a.src - 16)) else s) s
  s.settle s.tide

/-- A fault clears by its own rule (R335): its entry stays with the cause flag 0. -/
def State.autoClear (s : State) (name : FName) (src inst : Nat) : State :=
  let s := s.causeGone name src inst
  (s.putQueue (s.fm.queue.map fun e =>
    if e.named name src inst && e.mid == s.mid.val then { e with retry := false } else e)).clearActive
    fun a => a.name == name && a.src == src && a.inst == inst

/-- Whether FAULT_CLEAR with a target reaches a scope (R107): an axis target reaches the entries
whose scope is that axis, the module target every entry. -/
def reaches (target : Option (Fin 4)) (axes : BitVec 4) (modScope : Bool) : Bool :=
  match target with
  | none => true
  | some n => axes.getLsbD n.val && !modScope

/-- Outcome of FAULT_CLEAR (R107): entries cleared, entries still active, and whether a named code
matched and nothing could be cleared. -/
def State.faultClear (s : State) (target : Option (Fin 4)) (code : Nat) :
    State × Nat × Nat × Bool :=
  let takeE (e : Entry) := e.mid == s.mid.val && reaches target e.axes e.modScope &&
    (code == 0xFFFF || faultCode e.name e.src == code)
  let takeA (a : Active) := reaches target a.axes a.modScope &&
    (code == 0xFFFF || faultCode a.name a.src == code)
  let taken := s.fm.queue.filter takeE
  let cleared := taken.filter fun e => !e.cause
  let still := taken.length - cleared.length
  let stuck := code != 0xFFFF && !taken.isEmpty && cleared.isEmpty
  if stuck then (s, 0, still, true)
  else
    let s := s.putQueue (s.fm.queue.filter fun e => !(takeE e && !e.cause))
    let act := s.fm.active
    let s := s.clearActive fun a => takeA a && !(act.any fun b => b.named a.name a.src a.inst && b.cause)
    let s := if code = 0xFFFF ∧ target = none then
        (s.sets [(Reg.BW_FQSTAT_OVFL, 0), (Reg.BW_FQSTAT_LOST, 0)]).tellLead else s
    (s, cleared.length, still, false)

/-- FAULT_CLEAR with the module target leaves MODULE_SAFE once no severity-5 cause remains, and
after a loss of the PLL only once it is locked again (R21, R102); a lead that reaches READY waits for its group
(R442). -/
def State.leaveSafe (s : State) : State :=
  if s.modState = 4 ∧ !(s.fm.active.any fun a => a.sev == 5 && a.cause) ∧
      (!s.bw.pllStop || s.bit Reg.TIDE_STATUS_LOCK) then
    let s := s.updBw fun b => { b with pllStop := false }
    (s.setModState 2).startForm.settle s.tide
  else s

/-! ### Memory errors (R401) -/

/-- A corrected ECC error (R401). -/
def State.eccCorr (s : State) (t a : Nat) : State :=
  (s.incHold Reg.PERF_ECC_CORR).raise .memEccCorr 56 a t

/-- An uncorrectable ECC error (R401). -/
def State.eccFatal (s : State) (t a : Nat) : State :=
  (s.incHold Reg.PERF_ECC_FATAL).raise .memEccFatal 56 a t
    (sev := if 0x25C000000 ≤ a ∧ a < 0x260000000 then 5 else 1)

/-- Bytes of a coded unit: a 64-bit word of SRAM, half a block of DRAM. -/
def eccSize (a : Nat) : Nat := if 0x80000000 ≤ a then 32 else 8

/-- First address of the coded unit of an address. -/
def eccUnit (a : Nat) : Nat := a / eccSize a * eccSize a

/-- A byte lies in a coded unit with an uncorrectable error. -/
def State.eccAt (s : State) (a : Nat) : Bool := s.ecc.contains (eccUnit a)

/-- The first address from `a` on, of `n` bytes, with an uncorrectable error. -/
def State.eccIn (s : State) (a n : Nat) : Option Nat :=
  if s.ecc.isEmpty then none else ((List.range n).map (a + ·)).find? s.eccAt

/-- What the switch, the Logbook or the Mooring link reads from memory: zeros in place of an uncorrectable error, which
is reported (R401). -/
def State.dmaBytes (s : State) (t a n : Nat) : List Byte × State :=
  ((s.bytes a n).zipIdx.map fun p => if s.eccAt (a + p.2) then 0 else p.1,
   match s.eccIn a n with
   | some x => s.eccFatal t x
   | none => s)

end Sys2Proof.Machine
end

