-- ==== Sys2Proof/Machine/Record.lean ====
section
/-! DEFINITION. What a recording Logbook does with an item of one of its channels (R418-R420). -/

namespace Sys2Proof.Machine

/-- A fresh block of channel `i` (R419). -/
def newBlock (i : Nat) (gap : Bool) (epoch : Nat) : LogBlock :=
  { chan := i, gap := gap, epoch := epoch }

/-- Bytes of the items of a block. -/
def LogBlock.bytes (b : LogBlock) : List Byte := b.items.flatMap LogItem.bytes

/-- Stamps of the first and the last item (R419). -/
def LogBlock.firstSt (b : LogBlock) : Nat := (b.items.head?.map LogItem.stamp).getD 0
def LogBlock.lastSt (b : LogBlock) : Nat := (b.items.getLast?.map LogItem.stamp).getD 0

def insertItem (e : LogItem) : List LogItem → List LogItem
  | [] => [e]
  | x :: r => if e.before x then e :: x :: r else x :: insertItem e r

/-- An item enters a block at its place: a late one before items of later slots (R66). -/
def LogBlock.add (b : LogBlock) (e : LogItem) : LogBlock := { b with items := insertItem e b.items }

/-- The block has room for the item (R419). -/
def LogBlock.fits (b : LogBlock) (e : LogItem) : Bool := decide (b.bytes.length + e.bytes.length ≤ 4064)

/-- The closed block of channel `i` joins the queue where there is room, and the channel opens its next block, with
its gap flag (R419, R420). -/
def State.queueBlock (s : State) (i : Nat) : State :=
  match s.logb.blocks[i]? with
  | none => s
  | some b =>
    if b.full && decide (s.logb.queue.length < 64) then
      s.updLogb fun k =>
        { k with
          queue := k.queue ++ [{ b with full := false }]
          blocks := k.blocks.set i (newBlock i ((k.gaps[i]?).getD false) s.epoch)
          gaps := k.gaps.set i false }
    else s

/-- Close the open block of channel `i` where it holds an item (R419); with the queue full it waits closed
(R420). -/
def State.closeBlock (s : State) (now i : Nat) : State :=
  match s.logb.blocks[i]? with
  | none => s
  | some b =>
    if b.items.isEmpty || b.full then s.queueBlock i
    else
      (s.updLogb fun k =>
        { k with
          blocks := k.blocks.set i { b with full := true, closedAt := now, seq := k.seq }
          seq := k.seq + 1 }).queueBlock i

/-- An item finds its channel's block closed and the queue full: it is lost (R420). -/
def State.loseItem (s : State) (now i : Nat) : State :=
  let s := (s.incHold Reg.LOGB_LOST_COUNT).set Reg.LOGB_STAT_OVERRUN 1
  (s.updLogb fun k => { k with gaps := k.gaps.set i true }).raiseOnce .logbOverrun 55 0 now

/-- A queued block of channel `i` takes a late item: the block ends after the item's place, and has room (R66). -/
def LogBlock.takesLate (i : Nat) (e : LogItem) (b : LogBlock) : Bool :=
  b.chan == i && (b.items.getLast?.any fun x => e.before x) && b.fits e

/-- An item of channel `i` (R419, R420): a late one enters the first queued block with its place and room for it
(R66), any other the open block, which is closed first where the item does not fit. A block of the ring is not
written again: a late item whose place lies there enters the open block (DESIGN CHOICE, log entry 57). -/
def State.logPut (s : State) (now i : Nat) (e : LogItem) : State :=
  match s.logb.queue.findIdx? (LogBlock.takesLate i e) with
  | some j => s.updLogb fun k => { k with queue := k.queue.modify j (LogBlock.add · e) }
  | none =>
    let open_ (b : LogBlock) : Bool := !b.full && b.fits e
    let s := if (s.logb.blocks[i]?).any open_ then s else s.closeBlock now i
    match s.logb.blocks[i]? with
    | none => s
    | some b =>
      if open_ b then s.updLogb fun k => { k with blocks := k.blocks.set i (b.add e) } else s.loseItem now i

end Sys2Proof.Machine
end

