-- ==== Sys2Proof/Machine/Tide.lean ====
section
/-! DEFINITION. The Tide time base: loss of the PLL and of the reference (R21, R47), core-rail trim and guard (R54-R59), IEEE 802.1AS discipline (R71-R73), captures (R48). -/

namespace Sys2Proof.Machine

/-- Outcome of a command. -/
abbrev Res := Host.Outcome State Fault Refusal

/-- One tick passes while no command waits (log entry 1); the count stands still without the PLL
(R21, R46). -/
def State.idleTick (s : State) : State :=
  if s.bit Reg.TIDE_STATUS_LOCK then { s with tide := s.tide + 1 } else s

/-- PLL_LOCK_LOSS: the module enters MODULE_SAFE, every axis takes its stop reaction at level 2 on
the speed last updated, and Breakwater runs from the backup oscillator (R21, R102). -/
def pllLockLoss (t : Nat) (s : State) : State :=
  let s := s.upto t
  let s := s.set Reg.TIDE_STATUS_LOCK 0
  let s := { s with backup := true }
  let s := (s.updBw fun b => { b with pllStop := true }).eachAxis State.faultAxis
  (s.setModState 4).settle t

def execPllLockLoss (t : Nat) (s : State) : Res := .next (pllLockLoss t s)

/-- TIDE_PLL_RELOCK: LOCK reads 1 again; the axes stay in their reactions (R21). -/
def execTidePllRelock (t : Nat) (s : State) : Res :=
  .next ({ (s.upto t).set Reg.TIDE_STATUS_LOCK 1 with backup := false })

/-- REFIN_LOSS: REFLOST is set, the crystal is in use, REF_LOST is raised (R47). A member that follows its lead does
not use REFIN (R439). -/
def refinLoss (t : Nat) (s : State) : State :=
  let s := s.upto t
  if s.bit Reg.TIDE_STATUS_REFACT && !s.following then
    (s.sets [(Reg.TIDE_STATUS_REFLOST, 1), (Reg.TIDE_STATUS_REFACT, 0)]).raise .refLost 0 0 t
  else s

def execRefinLoss (t : Nat) (s : State) : Res := .next (refinLoss t s)

/-- A ratio in 1/1000, saturating at 1023 (R59). A part of 1/1000 is dropped (DESIGN CHOICE, log entry 48). -/
def ratioCode (q : Q) : Nat := min 1023 (qFloor (qMul q (qInt 1000))).toNat

/-- Blocks that measure completion ratios: LE0-LE3 and Lookout. -/
def railBlocks : List (Fin 5) := [0, 1, 2, 3, 4]

/-- A fraction lies above `k` %. -/
def abovePct (q : Q) (k : Nat) : Bool := qLt ⟨k, 100⟩ q

/-- Projected ratio of a block (R56). Where the recorded canary delay is 0 the quotient has no value, and the last
ratio stands (DESIGN CHOICE, log entry 48). -/
def State.projected (s : State) (b : Fin 5) : Q :=
  if s.rail.canary[b] = 0 then s.rail.last[b]
  else qMul s.rail.last[b] ⟨s.get (Reg.TIDE_CANARY_DELAY b), s.rail.canary[b]⟩

/-- A projected ratio exceeds 80 % (R58). -/
def State.overGuard (s : State) : Bool := railBlocks.any fun b => abovePct (s.projected b) 80

/-- The rail goes to a code, between VMIN and VMAX (R57). -/
def State.railTo (s : State) (c : Int) : State :=
  let lo : Int := s.get Reg.TIDE_RAIL_VMIN
  let hi : Int := s.get Reg.TIDE_RAIL_VMAX
  s.set Reg.TIDE_RAIL_VCODE (max lo (min hi c)).toNat

/-- The guard on the projected ratios as they change from `old` (R58): above 80 % it drives the rail to VMAX and
sets BOOST, and `boostAt` keeps the last instant above 80 %. -/
def State.guardRail (old s : State) (t : Nat) : State :=
  let s := if old.overGuard || s.overGuard then { s with rail := { s.rail with boostAt := t } } else s
  if s.overGuard then (s.railTo (s.get Reg.TIDE_RAIL_VMAX)).set Reg.TIDE_STATUS_BOOST 1 else s

/-- Take a ratio into the largest of its 1 ms interval `iv` (R502). -/
def putWorst (iv : Nat) (q : Q) (l : List (Nat × Q)) : List (Nat × Q) :=
  match l with
  | (i, w) :: r => if i = iv then (i, qMax w q) :: r else (iv, q) :: [(i, w)]
  | [] => [(iv, q)]

/-- Largest ratio of a block in an interval; none where it ran no sample there. -/
def worstIn (iv : Nat) (l : List (Nat × Q)) : Option Q := (l.find? fun p => p.1 == iv).map Prod.snd

/-- A block has a new completion ratio (R54-R56): the margin registers, the worst ratio of the
interval, and the canary delay recorded with it; the guard sees the projected ratio change (R58). -/
def State.recordRatio (s : State) (b : Fin 5) (q : Q) : State :=
  let v := s.sets [(Reg.TIDE_MARGIN_LAST b, ratioCode q),
    (Reg.TIDE_MARGIN_PEAK b, max (s.get (Reg.TIDE_MARGIN_PEAK b)) (ratioCode q))]
  State.guardRail s { v with rail := { v.rail with
      worst := v.rail.worst.set b (putWorst (interval v.tide) q v.rail.worst[b])
      last := v.rail.last.set b q
      canary := v.rail.canary.set b (v.get (Reg.TIDE_CANARY_DELAY b)) } } v.tide

/-- The worst ratio of the interval `iv` (R57). -/
def State.worstRatio (s : State) (iv : Nat) : Q :=
  railBlocks.foldl (fun q b => qMax q ((worstIn iv s.rail.worst[b]).getD (s.projected b))) qZero

/-- Intervals in a row below 45 %, this one among them; a step down starts the count again (R57). -/
def State.lowRun (s : State) (q : Q) : Nat := if qLt q ⟨45, 100⟩ then s.rail.low + 1 else 0

/-- Steps of the trim rule for the worst ratio `q` after `low` intervals below 45 % (R57). -/
def trimStep (q : Q) (low : Nat) : Int :=
  if abovePct q 75 then 2 else if abovePct q 60 then 1 else if 8 ≤ low then -1 else 0

/-- One step of the trim rule at the end of the interval `iv`; while BOOST holds the rail at VMAX the intervals
are counted and no step is taken (R57, R58). -/
def State.railTrim (s : State) (iv : Nat) : State :=
  let q := s.worstRatio iv
  let k := s.lowRun q
  let low (k : Nat) (s : State) : State := { s with rail := { s.rail with low := k } }
  if !s.bit Reg.TIDE_CTL_TRIMEN then low k (s.railTo (s.get Reg.TIDE_RAIL_VMAX))
  else if s.bit Reg.TIDE_STATUS_BOOST then low k s
  else
    let d := trimStep q k
    low (if d < 0 then 0 else k) (s.railTo (s.get Reg.TIDE_RAIL_VCODE + d))

/-- Source number of a block that measures ratios (R59). -/
def railSource (b : Fin 5) : Nat := if b = 4 then 2 else 8 + b.val

/-- MARGIN_LOW of a block whose largest ratio of the interval exceeded 85 % (R59). -/
def State.marginLow (t iv : Nat) (w : Vector (List (Nat × Q)) 5) (s : State) (b : Fin 5) : State :=
  match worstIn iv w[b] with
  | some q => if abovePct q 85 then s.raise .marginLow (railSource b) (ratioCode q + b.val * 2 ^ 16) t else s
  | none => s

/-- RAIL_TRIM_INTERVAL: at the end of a 1 ms interval, a multiple of 400 000 ticks, the rail is trimmed, and
MARGIN_LOW is raised for each block whose ratio exceeded 85 % in the interval (R57, R59, R502). -/
def railInterval (t : Nat) (s : State) : State :=
  let s := s.upto t
  if t % Config.ms = 0 ∧ 0 < t then
    let iv := interval t - 1
    railBlocks.foldl (State.marginLow t iv s.rail.worst) (s.railTrim iv)
  else s

def execRailTrimInterval (t : Nat) (s : State) : Res := .next (railInterval t s)

/-- RAIL_GUARD_BOOST: the canary of a block reads `canary`; a projected ratio above 80 % drives the
rail to VMAX and sets BOOST (R56, R58). -/
def railGuard (t : Nat) (b : Fin 5) (canary : Nat) (s : State) : State :=
  let s := s.upto t
  State.guardRail s (s.set (Reg.TIDE_CANARY_DELAY b) canary) s.tide

def execRailGuardBoost (t : Nat) (b : Fin 5) (canary : Nat) (s : State) : Res :=
  .next (railGuard t b canary s)

/-- BOOST_RELEASE: 10 ms after the last projected ratio above 80 %, BOOST clears (R58). -/
def boostRelease (t : Nat) (s : State) : State :=
  let s := s.upto t
  if s.rail.boostAt + 10 * Config.ms ≤ t ∧ !s.overGuard then s.set Reg.TIDE_STATUS_BOOST 0 else s

def execBoostRelease (t : Nat) (s : State) : Res := .next (boostRelease t s)

/-- The AS base in ns. -/
def State.asBase (s : State) : Int :=
  ((s.get Reg.TIDE_ASBASE_SL_SEC + 2 ^ 32 * s.get Reg.TIDE_ASBASE_SH_SEC) * 1000000000 +
    s.get Reg.TIDE_ASBASE_NS_NS : Nat)

/-- Capture the AS time at Tide count 0 (R72). -/
def State.captureBase (s : State) (t : Nat) (asNs : Int) : State :=
  let base := (asNs - (5 * t / 2 : Nat)).toNat
  s.sets [(Reg.TIDE_ASBASE_NS_NS, base % 1000000000), (Reg.TIDE_ASBASE_SL_SEC, base / 1000000000),
    (Reg.TIDE_ASBASE_SH_SEC, base / 1000000000 / 2 ^ 32)]

/-- Clamp a value to a two's complement field of 32 bits. -/
def sat32 (v : Int) : Int := max (-(2 ^ 31)) (min (2 ^ 31 - 1) v)

/-- The rate trim takes a value the manual does not state, within ±100 ppm and at most 1 ppm per
second from the last (R71, log entry 6); after a holdover it goes on from the frozen trim (R73). -/
def State.asTrim (s : State) (t : Nat) : State :=
  let old := s.getI Reg.TIDE_ASRATE_TRIM
  let from_ := if s.bit Reg.TIDE_STATUS_ASHOLD then t else s.asd.lastSync
  let step : Int := (1000 * (t - from_) / Config.sec : Nat)
  let (v, s) := s.freeInt
  s.setI Reg.TIDE_ASRATE_TRIM
    (max (max (-100000) (old - step)) (min (min 100000 (old + step)) v))

/-- What a sync leaves: the error is shown, holdover ends, and the lock comes after 1 s within 100 ns
and is lost above 1 us (R71, R72). -/
def State.asDone (t : Nat) (err : Int) (far : Bool) (ok : Option Nat) (s : State) : State :=
  let s := s.setI Reg.TIDE_ASERR_ERR (sat32 err)
  let s := s.set Reg.TIDE_STATUS_ASHOLD 0
  let s := { s with asd := { started := true, lastSync := t, okSince := ok } }
  if ok.any (fun o => decide (o + Config.sec ≤ t)) then s.set Reg.TIDE_STATUS_ASLOCK 1
  else if far then s.set Reg.TIDE_STATUS_ASLOCK 0
  else s

/-- AS_SYNC_MESSAGE: a sync gives the AS time `asNs` at Tide count `t` (R71-R73); a grandmaster follows
none, and a port that is disabled or not asCapable accepts none (R382). -/
def asSync (t : Nat) (asNs : Int) (s : State) : State :=
  let s := s.upto t
  if !s.bit Reg.TIDE_CTL_ASEN || s.isMember || s.bit Reg.ETH_ASCFG_GM ||
      !(s.get Reg.ETH_ASCFG_PORTEN).testBit (s.get Reg.TIDE_CTL_ASPORT) ||
      !s.bit (Reg.ETH_PSTAT_ASCAP (s.get Reg.TIDE_CTL_ASPORT)) then s
  else
    let s := if s.asd.started then s else s.captureBase t asNs
    let err := asNs - s.asBase - (5 * t / 2 : Nat)
    if 1000000 < err.natAbs then
      let s := (s.captureBase t asNs).raise .tideAsStep 0 0 t
      (if s.asd.started then s.asTrim t else s).asDone t 0 true (some t)
    else
      let s := if s.asd.started then s.asTrim t else s
      let ok := if err.natAbs ≤ 100 then some (s.asd.okSince.getD t) else none
      s.asDone t err (decide (1000 < err.natAbs)) ok

def execAsSyncMessage (t : Nat) (asNs : Int) (s : State) : Res := .next (asSync t asNs s)

/-- AS_HOLDOVER: the trim is frozen, ASHOLD set, ASLOCK cleared, AS_HOLDOVER raised (R73); a member has no discipline
of its own (R71). -/
def asHoldover (t : Nat) (s : State) : State :=
  let s := s.upto t
  if s.bit Reg.TIDE_CTL_ASEN && s.asd.started && !s.isMember then
    let s := { s with asd := { s.asd with okSince := none } }
    (s.sets [(Reg.TIDE_STATUS_ASHOLD, 1), (Reg.TIDE_STATUS_ASLOCK, 0)]).raise .asHoldover 0 0 t
  else s

def execAsHoldover (t : Nat) (s : State) : Res := .next (asHoldover t s)

/-- Capture a value for a requester (R48). -/
def capPut (l : List (Nat × Nat)) (key v : Nat) : List (Nat × Nat) :=
  (key, v) :: l.filter fun p => p.1 != key

/-- The last capture of a requester; 0 before the first (log entry 4). -/
def capGet (l : List (Nat × Nat)) (key : Nat) : Nat :=
  ((l.find? fun p => p.1 == key).map Prod.snd).getD 0

/-- A read of TIDE_NOW_L captures the whole count for its requester (R48). -/
def State.tideCapture (s : State) (req : Nat) : State :=
  { s with caps := capPut s.caps req s.tide }

/-- A read of PWM_ZEROLn captures the last zero point for its requester (R286). -/
def State.zeroCapture (s : State) (req : Nat) (n : Fin 4) : State :=
  { s with zcaps := capPut s.zcaps (4 * req + n) ((s.carrier n).zero / 32) }

end Sys2Proof.Machine
end

