-- ==== Sys2Proof/Machine/Brake.lean ====
section
/-! DEFINITION. Breakwater on the DC link: thresholds (R316), the brake chopper BRK (R317-R319), the
overvoltage reaction (R320) and active discharge DSC (R321, R322). -/

namespace Sys2Proof.Machine

/-- The channels of the X domain (R287). -/
def gBrk : Fin 26 := 24
def gDsc : Fin 26 := 25

def State.brkOn (s : State) : Bool := s.bit Reg.BW_STATUS_BRKON
def State.dscOn (s : State) : Bool := s.bit Reg.BW_STATUS_DSCON

/-- The last compared VHV value in whole volts (R316). -/
def State.volts (s : State) : Nat := s.get Reg.BW_VHV_VOLTS

/-- The chopper counts as failed: with EN = 0 from start (R317). -/
def State.brkFailed (s : State) : Bool := !s.bit Reg.BW_BRKCFG_EN || s.bw.brkFailed

/-- The chopper is declared failed with a cause (R319): BRK_FAIL is latched (R302), and its cause is
gone at once. -/
def State.failBrk (s : State) (t cause : Nat) : State :=
  if s.bit Reg.BW_BRKCFG_EN then
    let s := s.updBw fun b => { b with brkFailed := true }
    (s.raise .brkFail 40 cause t (latched := true)).causeGone .brkFail 40 0
  else s

/-- BRK goes on or off (R317); a turn-on starts BRK_CONFIRM (R319). -/
def State.switchBrk (s : State) (t : Nat) (on : Bool) : State :=
  let v := s.volts
  let conf := t + 4000 * s.get Reg.BW_BRKCONF_CONFIRM
  let s := (s.setB Reg.BW_STATUS_BRKON on).gateEv t 24 (if on then 0 else 1)
  let s := if on then s.updGate gBrk fun g => { g with onAt := t } else s
  s.updBw fun b =>
    { b with brkSince := t, brkV := v, brkConf := if on then some conf else none }

/-- BRK_SWITCH: BRK follows a level-1 hold of G24, the energy inhibit and the OV1 levels (R317).
`result`: a VHV result has arrived. -/
def State.brkStep (s : State) (t : Nat) (result : Bool) : State :=
  let stop := (s.gate gBrk).held || s.bit Reg.BW_STATUS_BRKINH || !s.bit Reg.BW_BRKCFG_EN
  if stop then (if s.brkOn then s.switchBrk t false else s)
  else if result && decide (s.bw.brkSince + 400 * s.get Reg.BW_BRKCFG_MIN ≤ t) then
    if !s.brkOn && decide (s.get Reg.BW_OV1_ON ≤ s.volts) then s.switchBrk t true
    else if s.brkOn && decide (s.volts ≤ s.get Reg.BW_OV1_OFF) then s.switchBrk t false
    else s
  else s

/-- One result of an energy model in mJ (R318): `tau` in 0.1 s, `r` in 10 mΩ, `v` the link voltage. -/
def energyStep (e tau r : Nat) (v : Q) (on : Bool) : Nat :=
  let fall := qSub (qInt e) ⟨e, 20000 * tau⟩
  let rise := if on then qDiv (qMul v v) (qInt (2 * r)) else qZero
  (qRound (qAdd fall rise)).toNat

/-- The energy model of BRK at a result (R318). -/
def State.brkEnergy (s : State) (t : Nat) (v : Q) : State :=
  let e := energyStep s.bw.brkE (s.get Reg.BW_BRKTAU_TAU) (s.get Reg.BW_BRKRES_R) v s.brkOn
  let emax := s.get Reg.BW_BRKEMAX_EMAX
  let s := s.updBw fun b => { b with brkE := e }
  if s.bit Reg.BW_STATUS_BRKINH then
    if 4 * e ≤ 3 * (1000 * emax) then s.set Reg.BW_STATUS_BRKINH 0 else s
  else if 1000 * emax ≤ e then (s.set Reg.BW_STATUS_BRKINH 1).raise .brkEnergy 40 0 t
  else s

/-! ### Discharge (R321, R322) -/

/-- A discharge trigger is present. -/
def State.triggered (s : State) : Bool := s.bw.trgLoss || s.bw.trgSafe || s.bw.trgCmd

def State.dscOff (s : State) : State :=
  (if s.dscOn then s.gateEv s.tide 25 1 else s).set Reg.BW_STATUS_DSCON 0

def State.dscStartOn (s : State) : State :=
  ((s.gateEv s.tide 25 0).updGate gDsc fun g => { g with onAt := s.tide }).set Reg.BW_STATUS_DSCON 1

/-- DSC stops for good on its present trigger. -/
def State.dscStop (s : State) : State :=
  s.dscOff.updBw fun b => { b with dscDone := true, trgCmd := false }

/-- The energy model of DSC at a result, its stops and its restart (R322); with
the supply off it does not restart (R471). -/
def State.dscStep (s : State) (t : Nat) (v : Q) : State :=
  let e := energyStep s.bw.dscE (s.get Reg.BW_DSCTAU_TAU) (s.get Reg.BW_DSCRES_R) v s.dscOn
  let emax := s.get Reg.BW_DSCEMAX_EMAX
  let s := s.updBw fun b => { b with dscE := e }
  if s.dscOn then
    if s.volts ≤ s.get Reg.BW_DSCCFG_DONE ∨ (s.gate gDsc).held then s.dscStop
    else if 1000 * emax ≤ e then
      if s.pwr.off then s.dscStop else (s.dscOff.updBw fun b => { b with dscInh := true }).raise .dscEnergy 41 0 t
    else s
  else if s.bw.dscInh ∧ 4 * e ≤ 3 * (1000 * emax) then
    let s := s.updBw fun b => { b with dscInh := false }
    if s.triggered && !s.bw.dscDone && !s.bw.so0rb && !(s.gate gDsc).held
    then s.dscStartOn else s
  else s

/-- What an accepted write of `BW_DSCCTL` does (R321, R322). -/
def State.dscWritten (s : State) (t : Nat) (w : Word) : State :=
  let s := if wordGet w 0 1 = 1 ∧
        !(s.axes.toList.any fun a => a.st == .diag || a.st == .run || a.st == .tune) then
      s.updBw fun b => b.trigger t b.trgCmd fun b => { b with trgCmd := true }
    else s
  if wordGet w 1 1 = 1 ∧ s.bw.trgCmd then
    if s.bw.trgLoss || s.bw.trgSafe then s.updBw fun b => { b with trgCmd := false }
    else s.dscStop
  else s

/-- DSC_START: the SO0 readback shows the contactor open (R321). -/
def dscStart (t : Nat) (s : State) : State :=
  let s := (s.upto t).updBw fun b => { b with so0rb := false }
  if s.triggered && !s.bw.dscDone && !s.dscOn && !s.bw.dscInh && !(s.gate gDsc).held then
    s.dscStartOn
  else s

def execDscStart (t : Nat) (s : State) : Res := .next (dscStart t s)

/-- DSC_WAIT_EXPIRY: the contactor has not read open within WAIT of the trigger (R321). -/
def dscWait (t : Nat) (s : State) : State :=
  let s := s.upto t
  if s.triggered && !s.bw.dscDone && !s.dscOn && !s.bw.dscInh &&
      s.bw.trgAt.any (fun a => decide (a + Config.ms * s.get Reg.BW_DSCCFG_WAIT ≤ t)) then
    (s.updBw fun b => { b with dscDone := true, trgCmd := false }).raise .dscBlocked 41 0 t
  else s

def execDscWaitExpiry (t : Nat) (s : State) : Res := .next (dscWait t s)

/-! ### Thresholds (R316, R320) -/

/-- Undervoltage is armed: an axis is in RUN or TUNE. -/
def State.uvArmed (s : State) : Bool := s.axes.toList.any (·.st.closed)

/-- Start of the present fall below a level: `since` is kept while every result lies below it. -/
def uvRun (since : Option Nat) (below : Bool) (t : Nat) : Option Nat :=
  if below then some (since.getD t) else none

/-- Undervoltage at a result stamped `st` (R316). -/
def State.uvStep (s : State) (t st : Nat) : State :=
  let v := s.volts
  let l1 := s.get Reg.BW_UV_UV1
  let l2 := s.get Reg.BW_UV_UV2
  let time := 40000 * s.get Reg.BW_UVTIME_TIME
  let armed := s.uvArmed
  let below1 := decide (v < l1)
  let below2 := decide (v < l2)
  let s := s.sets [(Reg.BW_STATUS_UV1, if below1 then 1 else 0),
    (Reg.BW_STATUS_UV2, if below2 then 1 else 0)]
  let r1 := uvRun s.bw.uv1Since (below1 && armed) t
  let r2 := uvRun s.bw.uv2Since (below2 && armed) t
  let due1 := r1.any (fun a => decide (a + time ≤ t)) && !s.bw.uv1Done
  let due2 := r2.any (fun a => decide (a + time ≤ t))
  let s := s.updBw fun b =>
    { b with uv1Since := r1, uv2Since := r2, uv1Done := r1.isSome && (b.uv1Done || due1) }
  let s := if due1 then s.raise .dcUv1 3 0 st else s
  let s := if below2 then s else s.causeGone .dcUv2 3 0
  if due2 then s.raiseNew .dcUv2 3 0 st else s

/-- Overvoltage at a result stamped `st` (R316, R319, R320, R325). -/
def State.ovStep (s : State) (t st : Nat) : State :=
  let v := s.volts
  let at2 := decide (s.get Reg.BW_OV23_OV2 ≤ v)
  let at3 := decide (s.get Reg.BW_OV23_OV3 ≤ v)
  let met2 := at2 && s.bw.ov2Once
  let s := s.sets [(Reg.BW_STATUS_OV2, if met2 then 1 else 0), (Reg.BW_STATUS_OV3, if at3 then 1 else 0)]
  let s := s.updBw fun b => { b with ov2Once := at2 }
  let s := if v ≤ s.get Reg.BW_OV1_OFF then
      (((s.causeGone .dcOv2 3 0).causeGone .dcOv3 3 0)).updBw fun b => { b with gtOv3 := false }
    else s
  let s := if at3 then
      let s := s.raiseNew .dcOv3 3 0 st
      if s.bit Reg.BW_GTRIP_ONOV3 then s.driveGtrip t (fun b => { b with gtOv3 := true }) else s
    else s
  if met2 then
    let s := if s.brkFailed then s else s.failBrk t 3
    s.raiseNew .dcOv2 3 0 st
  else s

/-- A corrected VHV result `v` in V, stamped `st`, reaches Breakwater (R160, R312, R316-R322). -/
def State.bwResult (s : State) (t st : Nat) (v : Q) : State :=
  let whole := (max 0 (qRoundUp v)).toNat
  let s := s.set Reg.BW_VHV_VOLTS (min 2047 whole)
  let s := s.updBw fun b => { b with v := v }
  let s := (s.brkEnergy t v).dscStep t v
  ((s.brkStep t true).ovStep t st).uvStep t st

/-- BRK_CONFIRM_EXPIRY: BRK is still on and the link has not fallen by BRK_DV (R319). -/
def brkConfirm (t : Nat) (s : State) : State :=
  let s := s.upto t
  if s.brkOn && s.bw.brkConf.any (fun c => decide (c ≤ t)) then
    let stays := decide (s.bw.brkV < s.volts + s.get Reg.BW_BRKCFG_DV)
    let s := s.updBw fun b => { b with brkConf := none }
    if stays then s.failBrk t 1 else s
  else s

def execBrkConfirmExpiry (t : Nat) (s : State) : Res := .next (brkConfirm t s)

/-- A channel of the X domain is off with its rails up (R307, R319). -/
def State.offUp (s : State) (g : Fin 26) : Bool :=
  s.bit (Reg.GATE_STAT_RAILOK g) && !(if g = gBrk then s.brkOn else s.dscOn)

/-- BRK_LOAD_DETECTED: OFFLOW of a channel of the X domain has stood, or been 0, for 1 ms while the channel was off
with rails up (R307). On G24 with a chopper it raises BRK_LOAD, or ends its cause (R319). -/
def brkLoad (t : Nat) (dsc low : Bool) (s : State) : State :=
  let s := s.upto t
  let g := if dsc then gDsc else gBrk
  if s.offUp g then
    let s := s.setB (Reg.GATE_STAT_OFFLOW g) low
    if dsc then s
    else if low then (if s.bit Reg.BW_BRKCFG_EN then s.raise .brkLoad 40 0 t (latched := true) else s)
    else s.causeGone .brkLoad 40 0
  else s

def execBrkLoadDetected (i : LoadIn) (s : State) : Res := .next (brkLoad i.t i.dsc i.low s)

end Sys2Proof.Machine
end

