-- ==== Sys2Proof/Machine/Feedback.lean ====
section
/-! DEFINITION. The feedback ports (R170-R200): the record of a sample, the incremental encoder, Hall
switches, the resolver, SSI encoders, the observer's loss, and start-up of a port. The ports stop with the clock:
on the backup oscillator nothing reaches them (R21). -/

namespace Sys2Proof.Machine

def State.port (s : State) (n : Fin 4) : Port := s.fbk[n]
def State.updPort (s : State) (n : Fin 4) (f : Port → Port) : State :=
  { s with fbk := s.fbk.set n (f (s.port n)) }

/-- Source number of a port (R199). -/
def fbSource (n : Fin 4) : Nat := 47 + n.val

/-- Mode of a port (R170). -/
def State.fbMode (s : State) (n : Fin 4) : Nat := s.get (Reg.FBK_MODE_MODE n)

/-- SUP is switched on: SUPEN in modes 1, 2 and 4 (R170, R171). -/
def State.supOn (s : State) (n : Fin 4) : Bool :=
  s.bit (Reg.FBK_MODE_SUPEN n) && (s.fbMode n == 1 || s.fbMode n == 2 || s.fbMode n == 4)

/-- Counts per sensor turn: `FBK_CPRn` or the fixed value of the mode (R174, R186). -/
def State.cpr (s : State) (n : Fin 4) : Nat :=
  match s.fbMode n with
  | 2 => 6 * s.get (Reg.FBK_MODE_PP n)
  | 3 => 65536
  | _ => (s.reg (Reg.FBK_CPR n)).toNat

/-! ### Validity (R175, R187, R191-R199) -/

/-- VALID as the mode gives it. -/
def State.portValid (s : State) (n : Fin 4) : Bool :=
  let p := s.port n
  match s.fbMode n with
  | 0 => s.bit (Reg.FBK_OBSCFG_ACTIVE n)
  | 1 => p.settled
  | 2 => p.settled && p.hallOk
  | 3 => s.bit (Reg.FBK_STATUS_LOCK n) && !p.resBad
  | _ => p.settled && p.ssiOk

/-- EANG_VALID (R175). -/
def State.angValid (s : State) (n : Fin 4) : Bool :=
  s.portValid n &&
    (if s.fbMode n = 1 then
      (if s.bit (Reg.FBK_MODE_ZREF n) then (s.port n).latch1.isSome else (s.port n).eofsW)
    else true)

/-- `FBK_STATUSn` follows VALID and EANG_VALID. -/
def State.portBits (s : State) (n : Fin 4) : State :=
  (s.setB (Reg.FBK_STATUS_VALID n) (s.portValid n)).setB (Reg.FBK_STATUS_EANG_VALID n) (s.angValid n)

/-- A mode entry: count, index state and speed start afresh (R178, R184, R199). -/
def State.portEnter (s : State) (n : Fin 4) : State :=
  let p := s.port n
  let s := s.updPort n fun _ => { settled := p.settled, a := p.a, b := p.b, obsAbove := p.obsAbove
                                  obsSpd := p.obsSpd, obsHold := p.obsHold }
  let s := (s.setReg (Reg.FBK_COUNT n) 0).set (Reg.FBK_HALL_STATE n) 0
  (s.sets [(Reg.FBK_STATUS_SPD_VALID n, 0), (Reg.FBK_STATUS_DIR n, 0), (Reg.FBK_STATUS_SIGN n, 0),
    (Reg.FBK_STATUS_IDXSEEN n, 0), (Reg.FBK_STATUS_LOCK n, 0)]).portBits n

/-- The ports are powered at the end of SELFTEST (R199). -/
def State.portStart (s : State) (n : Fin 4) : State :=
  let s := s.updPort n fun p => { p with settled := !s.supOn n }
  s.portEnter n

/-- What an accepted write of `FBK_MODEn` does, given SUP and MODE before it (R175, R199). -/
def State.fbModeWritten (s : State) (n : Fin 4) (wasOn : Bool) (wasMode : Nat) : State :=
  let s := s.updPort n fun p => { p with settled := if s.supOn n then p.settled && wasOn else true }
  if s.fbMode n ≠ wasMode ∨ (s.supOn n ∧ !wasOn) then s.portEnter n
  else (s.updPort n fun p => { p with eofsW := false, latch1 := none }).portBits n

/-- What an accepted write of `FBK_CPRn` does (R199). -/
def State.cprWritten (s : State) (n : Fin 4) : State :=
  (s.updPort n fun p => { p with eofsW := false, latch1 := none }).portBits n

/-- What an accepted write of `FBK_EOFSn` does (R175, R199). -/
def State.eofsWritten (s : State) (n : Fin 4) : State :=
  (s.updPort n fun p => { p with eofsW := true, latch1 := none }).portBits n

/-- FEEDBACK_VALID_DELAY_END: the 50 ms since SUP was switched on are over (R199). -/
def validDelay (t : Nat) (n : Fin 4) (s : State) : State :=
  let s := s.upto t
  if s.backup then s else (s.updPort n fun p => { p with settled := true }).portBits n

def execFeedbackValidDelayEnd (t : Nat) (n : Fin 4) (s : State) : Res := .next (validDelay t n s)

/-! ### Supply and wires (R171, R172) -/

/-- FB_SUPPLY or FB_WIRE of a port is found gone: its status bit falls (R200). -/
def State.portCauseGone (s : State) (f : FName) (src : Nat) : State :=
  let n : Fin 4 := Fin.ofNat 4 (src - 47)
  if src < 47 ∨ 50 < src then s
  else if f = .fbWire then s.set (Reg.FBK_STATUS_WIRE n) 0
  else if f = .fbSupply then s.set (Reg.FBK_STATUS_SUPFAIL n) 0
  else s

/-- FB_SUPPLY_TIMEOUT: SUP low or current-limited for 1 ms (R171). -/
def fbSupply (t : Nat) (n : Fin 4) (s : State) : State :=
  let s := s.upto t
  if s.backup then s else
  if s.supOn n then
    (s.sets [(Reg.FBK_STATUS_SUPFAIL n, 1), (Reg.FBK_IRQ_WIRE n, 1)]).raise .fbSupply (fbSource n) 0 t
  else s

def execFbSupplyTimeout (t : Nat) (n : Fin 4) (s : State) : Res := .next (fbSupply t n s)

/-- FB_WIRE_TIMEOUT: a receiver pair in use below 200 mV for 2 µs (R172). -/
def fbWire (t : Nat) (n : Fin 4) (s : State) : State :=
  let s := s.upto t
  if s.backup then s else
  if s.fbMode n = 1 ∨ s.fbMode n = 2 ∨ s.fbMode n = 4 then
    (s.sets [(Reg.FBK_STATUS_WIRE n, 1), (Reg.FBK_IRQ_WIRE n, 1)]).raise .fbWire (fbSource n) 0 t
  else s

def execFbWireTimeout (t : Nat) (n : Fin 4) (s : State) : Res := .next (fbWire t n s)

/-! ### Edges and speed (R178-R185) -/

/-- SPD_TIMEOUT in ticks (R184). -/
def State.spdTimeout (s : State) (n : Fin 4) : Nat := Config.ms * s.get (Reg.FBK_SPDCFG_TIMEOUT n)

/-- SPD_WIN in ticks (R183). -/
def State.spdWin (s : State) (n : Fin 4) : Nat := 4000 * s.get (Reg.FBK_SPDCFG_WIN n)

/-- Standstill: no counted edge within SPD_TIMEOUT (R184). -/
def State.standstill (s : State) (n : Fin 4) : State :=
  (s.updPort n fun p => { p with spdOk := false, edges := [], period := none, revPend := false }).set
    (Reg.FBK_STATUS_SPD_VALID n) 0

/-- Stamps kept for edge counting: the newest, and those within the longest SPD_WIN (R183). -/
def keepEdges (st : Nat) (l : List Nat) : List Nat :=
  st :: l.filter fun e => decide (st < e + 10 * Config.ms)

/-- A counted edge stamped `st` in direction `rev` (R182, R184, R185). -/
def State.countEdge (s : State) (st : Nat) (n : Fin 4) (rev : Bool) : State :=
  let s := match (s.port n).edges with
    | e :: _ => if e + s.spdTimeout n ≤ st then s.standstill n else s
    | [] => s
  let p := s.port n
  let s := s.setB (Reg.FBK_STATUS_DIR n) rev
  if p.dir = some (!rev) then
    (s.set (Reg.FBK_IRQ_DIR n) 1).updPort n fun p =>
      { p with dir := some rev, edges := [st], period := none, revPend := true, tainted := true }
  else
    match p.edges with
    | [] => s.updPort n fun p => { p with dir := some rev, edges := [st] }
    | e :: _ => (s.updPort n fun p =>
        { p with
          dir := some rev, edges := keepEdges st p.edges, period := some (st - e), revPend := false
          spdOk := true }).set (Reg.FBK_STATUS_SPD_VALID n) 1

/-- SPEED_STANDSTILL: SPD_TIMEOUT without a counted edge of an encoder or of Hall switches (R184), or with fewer than
two accepted frames of an SSI encoder (R196). The speed of a resolver follows its lock (R192), and mode 0 counts no
edge. -/
def speedStandstill (t : Nat) (n : Fin 4) (s : State) : State :=
  let s := s.upto t
  if s.backup then s else
  let late := decide ((s.port n).edges.all fun e => decide (e + s.spdTimeout n ≤ t))
  let few := decide (((s.port n).frames.filter fun f => decide (t < f.1 + s.spdTimeout n)).length < 2)
  match s.fbMode n with
  | 1 | 2 => if late then s.standstill n else s
  | 4 => if few then s.set (Reg.FBK_STATUS_SPD_VALID n) 0 else s
  | _ => s

def execSpeedStandstill (t : Nat) (n : Fin 4) (s : State) : Res := .next (speedStandstill t n s)

/-- The time per count of R183 at sample instant `st`. -/
def edgeTime (st win : Nat) (edges : List Nat) (period : Option Nat) : Option Q :=
  match edges with
  | [] => none
  | last :: _ =>
    let ins := edges.filter fun e => decide (st < e + win ∧ e ≤ st)
    let first := ins.getLastD last
    let t := if 2 ≤ ins.length then some (⟨(last - first : Nat), ins.length - 1⟩ : Q)
      else period.map fun p => qInt p
    t.map fun t => qMax (qMax t (qInt (st - last : Nat))) qOne

/-- 60 s in ticks times 1 rev (R183). -/
def rpmTicks : Int := 24000000000

/-- SPEED by R183-R185 with SPD_VALID. -/
def State.edgeSpeed (s : State) (st : Nat) (n : Fin 4) : Q × Bool :=
  let p := s.port n
  let live := p.edges.head?.any fun e => decide (st < e + s.spdTimeout n)
  if !live || !p.spdOk then (qZero, false)
  else if p.revPend then (qZero, true)
  else
    match edgeTime st (s.spdWin n) p.edges p.period with
    | none => (qZero, true)
    | some t =>
      let v := qDiv ⟨rpmTicks, s.cpr n⟩ t
      (if p.dir = some true then qNeg v else v, true)

/-- Place of a pair of levels in the order 00, 10, 11, 01 of A leading B (R178). -/
def quadCode (a b : Bool) : Nat :=
  match a, b with
  | false, false => 0
  | true, false => 1
  | true, true => 2
  | false, true => 3

/-- ILLEGAL_TRANSITION: accepted A and B change in one tick, stamped at the physical instant `st` (R179, R177, R61). -/
def State.illegalEdge (s : State) (st : Nat) (n : Fin 4) : State :=
  let s := s.sets [(Reg.FBK_STATUS_ILLEGAL n, 1), (Reg.FBK_IRQ_ILLEGAL n, 1)]
  let s := s.incHold (Reg.FBK_ERRCNT_ILL n)
  let ills := st :: ((s.port n).ills.filter fun e => decide (st < e + 10 * Config.ms))
  let s := s.updPort n fun p => { p with ills := ills.take 16, tainted := true }
  let s := s.raiseOnce .fbIllegal (fbSource n) 0 st
  if 16 ≤ ills.length then
    (s.raise .fbEncFail (fbSource n) 0 st).causeGone .fbEncFail (fbSource n) 0
  else s

/-- ENCODER_EDGE: new accepted levels of A and B at `t`; the edge is stamped FILT ticks earlier, at its
physical instant (R177-R179, R182). -/
def encoderEdge (t : Nat) (n : Fin 4) (a b : Bool) (s : State) : State :=
  let s := s.upto t
  if s.backup then s else
  let p := s.port n
  let s := s.updPort n fun p => { p with a := a, b := b }
  if s.fbMode n = 1 then
    let st := t - s.get (Reg.FBK_FILT_FILT n)
    let d := (quadCode a b + 4 - quadCode p.a p.b) % 4
    let rev := (d == 3) != s.bit (Reg.FBK_MODE_INV n)
    if d = 0 then s
    else if d = 2 then s.illegalEdge st n
    else
      let c := s.reg (Reg.FBK_COUNT n)
      let s := s.setReg (Reg.FBK_COUNT n) (if rev then c - 1 else c + 1)
      s.countEdge st n rev
  else s

def execEncoderEdge (t : Nat) (n : Fin 4) (a b : Bool) (s : State) : Res := .next (encoderEdge t n a b s)

/-! ### Index (R180, R181) -/

/-- The index is qualified by the accepted levels (R180). -/
def zgate (g : Nat) (a b : Bool) : Bool :=
  match g with
  | 0 => true
  | 1 => a && b
  | 2 => a && !b
  | _ => !a && b

/-- The drift check against the previous latch, for an index edge stamped `t` (R181). -/
def State.driftCheck (s : State) (t : Nat) (n : Fin 4) (latch prev : Word) (tainted : Bool) : State :=
  let delta := latch - prev
  let s := s.setReg (Reg.FBK_IDXDELTA n) delta
  let diff := ((delta.toInt.natAbs : Int) - (s.cpr n : Int)).natAbs
  if tainted then s.incHold (Reg.FBK_ERRCNT_SKIP n)
  else if s.get (Reg.FBK_IDXCFG_TOL n) < diff then
    ((s.incHold (Reg.FBK_ERRCNT_IDXERR n)).raise .fbIdxDrift (fbSource n) diff t).causeGone
      .fbIdxDrift (fbSource n) 0
  else s

/-- ENCODER_INDEX: a rising edge of accepted Z (R180, R181). -/
def encoderIndex (t : Nat) (n : Fin 4) (s : State) : State :=
  let s := s.upto t
  if s.backup then s else
  let p := s.port n
  if s.fbMode n = 1 ∧ zgate (s.get (Reg.FBK_IDXCFG_ZGATE n)) p.a p.b then
    let c := s.reg (Reg.FBK_COUNT n)
    let s := (s.setReg (Reg.FBK_IDXLAT n) c).sets [(Reg.FBK_IRQ_IDX n, 1), (Reg.FBK_STATUS_IDXSEEN n, 1)]
    let s := s.updPort n fun p =>
      { p with latch1 := some (p.latch1.getD c), latch := some c, tainted := false }
    let s := match p.latch with
      | some l => s.driftCheck (t - s.get (Reg.FBK_FILT_FILT n)) n c l p.tainted
      | none => s
    s.portBits n
  else s

def execEncoderIndex (t : Nat) (n : Fin 4) (s : State) : Res := .next (encoderIndex t n s)

/-! ### Hall switches (R186-R188) -/

/-- Place of a valid Hall state in the order 1, 3, 2, 6, 4, 5; none for 0 and 7 (R186). -/
def hallPlace (h : Nat) : Option Nat :=
  match h with
  | 1 => some 0
  | 3 => some 1
  | 2 => some 2
  | 6 => some 3
  | 4 => some 4
  | 5 => some 5
  | _ => none

/-- Place of a state in the forward order, entry to state 1 first (R186, R188). -/
def hallIndex (inv : Bool) (k : Nat) : Nat := if inv then (6 - k) % 6 else k

/-- An invalid Hall event stamped `t` (R187). -/
def State.hallBad (s : State) (t : Nat) (n : Fin 4) : State :=
  let ills := t :: ((s.port n).ills.filter fun e => decide (t < e + Config.sec))
  let s := s.updPort n fun p => { p with hallOk := false, ills := ills.take 3 }
  let s := s.portBits n
  if 3 ≤ ills.length then (s.set (Reg.FBK_IRQ_SENSOR n) 1).raise .fbHallFail (fbSource n) 0 t else s

/-- A valid Hall state is read: VALID returns and the cause of FB_HALL_FAIL is gone (R187). -/
def State.hallGood (s : State) (n : Fin 4) : State :=
  ((s.updPort n fun p => { p with hallOk := true }).portBits n).causeGone .fbHallFail (fbSource n) 0

/-- HALL_STATE_CHANGE to state `h` (R186-R188). The angle at a state that follows no valid one is a
free value. -/
def hallChange (t : Nat) (n : Fin 4) (h : Fin 8) (s : State) : State :=
  let s := s.upto t
  if s.backup then s else
  if s.fbMode n = 2 then
    let old := hallPlace (s.get (Reg.FBK_HALL_STATE n))
    let s := s.set (Reg.FBK_HALL_STATE n) h
    let st := t - s.get (Reg.FBK_FILT_FILT n)
    match old, hallPlace h with
    | _, none => s.hallBad st n
    | none, some _ =>
      let (a, s) := s.freeNat
      (s.updPort n fun p => { p with hallAt := some st, hallAng := a % 65536 }).hallGood n
    | some k, some j =>
      let inv := s.bit (Reg.FBK_MODE_INV n)
      let i := hallIndex inv j
      let d := (i + 6 - hallIndex inv k) % 6
      if d = 1 ∨ d = 5 then
        let rev := decide (d = 5)
        let edge := if rev then (i + 1) % 6 else i
        let ang := (s.get (Reg.FBK_HALL_OFS n) + 65536 * edge / 6) % 65536
        let s := s.updPort n fun p =>
          { p with
            sector := if rev then p.sector - 1 else p.sector + 1
            hallAt := some st, hallAng := ang }
        (s.countEdge st n rev).hallGood n
      else if d = 0 then s
      else s.hallBad st n
  else s

def execHallStateChange (t : Nat) (n : Fin 4) (h : Fin 8) (s : State) : Res := .next (hallChange t n h s)

/-! ### Resolver (R190-R192) -/

/-- The loop has locked: LOCK and VALID set, SPD_VALID follows (R192). -/
def resolverLock (t : Nat) (n : Fin 4) (s : State) : State :=
  let s := s.upto t
  if s.backup then s else
  if s.fbMode n = 3 then
    ((s.sets [(Reg.FBK_STATUS_LOCK n, 1), (Reg.FBK_STATUS_SPD_VALID n, 1)]).causeGone .fbResLock
      (fbSource n) 0).portBits n
  else s

def execResolverLock (t : Nat) (n : Fin 4) (s : State) : Res := .next (resolverLock t n s)

/-- RESOLVER_LOCK_LOSS (R192). -/
def resolverLoss (t : Nat) (n : Fin 4) (s : State) : State :=
  let s := s.upto t
  if s.backup then s else
  if s.fbMode n = 3 ∧ s.bit (Reg.FBK_STATUS_LOCK n) then
    let s := s.sets [(Reg.FBK_STATUS_LOCK n, 0), (Reg.FBK_STATUS_SPD_VALID n, 0), (Reg.FBK_IRQ_SENSOR n, 1)]
    (s.portBits n).raise .fbResLock (fbSource n) 0 t
  else s

def execResolverLockLoss (t : Nat) (n : Fin 4) (s : State) : Res := .next (resolverLoss t n s)

/-- An amplitude lies outside the limits of R191. -/
def State.ampBad (s : State) (n : Fin 4) (amp : Nat) : Bool :=
  let anom := s.get (Reg.FBK_RESANOM_ANOM n)
  decide (amp < 4096) || (anom != 0 && (decide (100 * amp < 70 * anom) || decide (130 * anom < 100 * amp)))

/-- RESOLVER_AMP_FAULT: the amplitude has been out for 10 excitation periods (R191). -/
def resolverAmp (t : Nat) (n : Fin 4) (amp : Nat) (s : State) : State :=
  let s := s.upto t
  if s.backup then s else
  if s.fbMode n = 3 ∧ s.ampBad n amp then
    let s := (s.set (Reg.FBK_RESAMP_AMP n) amp).updPort n fun p => { p with resBad := true }
    ((s.set (Reg.FBK_IRQ_SENSOR n) 1).portBits n).raise .fbResAmp (fbSource n) 0 t
  else s

def execResolverAmpFault (t : Nat) (n : Fin 4) (amp : Nat) (s : State) : Res :=
  .next (resolverAmp t n amp s)

/-- What the resolver converters deliver at a sample instant (R190-R192). -/
def State.resolverSample (s : State) (n : Fin 4) (r : ResIn) : State :=
  if s.fbMode n = 3 then
    let s := s.sets [(Reg.FBK_RESAMP_AMP n, r.amp), (Reg.FBK_RESAMP_PHASE n, r.phase)]
    let s := s.updPort n fun p => { p with resPos := r.pos, resSpd := r.spd }
    let s := if (bfVal r.spd).num = 0 then s
      else s.setB (Reg.FBK_STATUS_DIR n) (decide ((bfVal r.spd).num < 0))
    if (s.port n).resBad && !s.ampBad n r.amp then
      ((s.updPort n fun p => { p with resBad := false }).causeGone .fbResAmp (fbSource n) 0).portBits n
    else s
  else s

/-! ### SSI (R194-R196) -/

/-- Bits of the position value in a frame (R194). -/
def State.ssiWidth (s : State) (n : Fin 4) : Nat :=
  s.get (Reg.FBK_SSICFG_BITS n) - s.get (Reg.FBK_SSICFG_ERREN n)

/-- Binary value of a Gray code, by the prefix sums of its bits. -/
def grayDecode : Nat → Nat → Nat
  | 0, _ => 0
  | k + 1, g => g ^^^ grayDecode k (g / 2)

/-- The value of a frame as received. -/
def State.ssiValue (s : State) (n : Fin 4) (raw : Nat) : Nat :=
  let v := (if s.bit (Reg.FBK_SSICFG_ERREN n) then raw / 2 else raw) % 2 ^ s.ssiWidth n
  if s.bit (Reg.FBK_SSICFG_GRAY n) then grayDecode 32 v % 2 ^ s.ssiWidth n else v

/-- A SAMPLE event starts a frame where none is in progress (R194). -/
def State.ssiSample (s : State) (t : Nat) (n : Fin 4) : State :=
  if s.fbMode n = 4 ∧ (s.port n).ssiStart.isNone then s.updPort n fun p => { p with ssiStart := some t }
  else s

/-- A frame is discarded (R195). -/
def State.ssiDiscard (s : State) (t : Nat) (n : Fin 4) : State :=
  let s := (s.set (Reg.FBK_STATUS_SSIERR n) 1).incHold (Reg.FBK_ERRCNT_SSIERR n)
  let bad := (s.port n).ssiBad + 1
  let s := s.updPort n fun p => { p with ssiBad := bad }
  if bad = 3 then
    let s := s.updPort n fun p => { p with ssiOk := false }
    ((s.portBits n).set (Reg.FBK_IRQ_SENSOR n) 1).raise .fbSsiFrame (fbSource n) 0 t
  else s

/-- Signed change between two values of `w` bits. -/
def ssiDelta (w new old : Nat) : Int := toSigned w (new + 2 ^ w - old % 2 ^ w)

/-- SSI_FRAME_END: a frame `raw` ends; `tailOk`: the data line went low and returned high within TM
(R195). -/
def ssiEnd (t : Nat) (n : Fin 4) (raw : Word) (tailOk : Bool) (s : State) : State :=
  let s := s.upto t
  if s.backup then s else
  match s.fbMode n, (s.port n).ssiStart with
  | 4, some start =>
    let r := raw.toNat % 2 ^ s.get (Reg.FBK_SSICFG_BITS n)
    let s := (s.setReg (Reg.FBK_SSIRAW n) (BitVec.ofNat 32 r)).updPort n fun p => { p with ssiStart := none }
    let v := s.ssiValue n r
    let w := s.ssiWidth n
    let err := s.bit (Reg.FBK_SSICFG_ERREN n) && r % 2 == 1
    let lim := (s.reg (Reg.FBK_SSISTEP n)).toNat
    let jump := lim != 0 && (s.port n).frames.head?.any fun f =>
      decide (lim < (ssiDelta w v f.2.toNat).natAbs)
    if !tailOk || err then s.ssiDiscard t n
    else if jump then (s.raise .fbSsiJump (fbSource n) 0 t).ssiDiscard t n
    else
      let s := match (s.port n).frames.head? with
        | some f =>
          let d := ssiDelta w v f.2.toNat
          if d = 0 then s else s.setB (Reg.FBK_STATUS_DIR n) (decide (d < 0))
        | none => s
      let s := s.updPort n fun p =>
        { p with
          frames := (start, BitVec.ofNat 32 v) ::
            p.frames.filter fun f => decide (start < f.1 + Config.sec)
          ssiBad := 0, ssiOk := true }
      (s.causeGone .fbSsiFrame (fbSource n) 0).portBits n
  | _, _ => s

def execSsiFrameEnd (t : Nat) (n : Fin 4) (raw : Word) (tailOk : Bool) (s : State) : Res :=
  .next (ssiEnd t n raw tailOk s)

/-- SPEED of an SSI encoder at `st` (R196); none where the window holds fewer than two frames though
SPD_TIMEOUT holds two: the manual states no speed there. -/
def State.ssiSpeed (s : State) (st : Nat) (n : Fin 4) : Option Q × Bool :=
  let fr := (s.port n).frames
  let live := fr.filter fun f => decide (st < f.1 + s.spdTimeout n)
  if live.length < 2 then (some qZero, false)
  else
    let ins := fr.filter fun f => decide (st < f.1 + s.spdWin n)
    match ins.head?, ins.getLast? with
    | some l, some f =>
      if l.1 = f.1 then (none, true)
      else
        let d := ssiDelta (s.ssiWidth n) l.2.toNat f.2.toNat
        (some (qDiv ⟨rpmTicks * d, s.cpr n⟩ (qInt (l.1 - f.1 : Nat))), true)
    | _, _ => (none, true)

/-! ### Speed and record (R173-R176) -/

/-- SPEED of the sensor at `st`, BF32 rounded once, and SPD_VALID; `free` stands where the manual
states no speed. -/
def State.speedAt (s : State) (st : Nat) (n : Fin 4) (free : Word) : Word × Bool :=
  match s.fbMode n with
  | 0 => (s.reg (Reg.FBK_OBSSPD n), s.bit (Reg.FBK_OBSCFG_ACTIVE n))
  | 3 => (bfRound (qDiv (bfVal (s.port n).resSpd) (qInt (s.get (Reg.FBK_MODE_SPDR n)))),
      s.bit (Reg.FBK_STATUS_LOCK n))
  | 4 => let v := s.ssiSpeed st n
    ((v.1.map bfRound).getD free, v.2)
  | _ => let v := s.edgeSpeed st n
    (bfRound v.1, v.2)

/-- POS of the record (R173). -/
def State.posAt (s : State) (n : Fin 4) : Word :=
  match s.fbMode n with
  | 0 => 0
  | 1 => s.reg (Reg.FBK_COUNT n)
  | 2 => (s.port n).sector
  | 3 => (s.port n).resPos
  | _ => ((s.port n).frames.head?.map Prod.snd).getD 0

/-- AGE of the record (R176); `free` where no sector change, or frame, has been seen since the mode entry. -/
def State.ageAt (s : State) (st : Nat) (n : Fin 4) (free : Nat) : Nat :=
  match s.fbMode n with
  | 0 => 0
  | 1 => s.get (Reg.FBK_FILT_FILT n)
  | 2 => ((s.port n).hallAt.map fun a => min 65535 (st - a)).getD (free % 65536)
  | 3 => 600
  | _ => ((s.port n).frames.head?.map fun f => min 65535 (st - f.1)).getD (free % 65536)

/-- The extrapolation term of R174. -/
def angleStep (spd : Word) (pp age : Nat) : Int :=
  qRound (qDiv (qMul (bfVal spd) (qInt (pp * 65536 * age : Nat))) (qInt rpmTicks))

/-- EANG of the record (R174, R188, R197). -/
def State.angAt (s : State) (n : Fin 4) (pos spd : Word) (spdOk : Bool) (age : Nat) : Nat :=
  let pp := s.get (Reg.FBK_MODE_PP n)
  let ext := if spdOk then angleStep spd pp age else 0
  match s.fbMode n with
  | 0 => s.get (Reg.FBK_OBSANG_EANG n)
  | 2 => (((s.port n).hallAng : Int) + max (-10923) (min 10923 ext)) % 65536 |>.toNat
  | _ =>
    let c := s.cpr n
    let ref : Int := if s.fbMode n = 1 ∧ s.bit (Reg.FBK_MODE_ZREF n) then
      ((s.port n).latch1.map (·.toInt)).getD 0 else 0
    let d := (pos.toInt - ref - (s.reg (Reg.FBK_EOFS n)).toInt) % (c : Int)
    let base := d * pp * 65536 / ((s.get (Reg.FBK_MODE_SPDR n) : Int) * c)
    ((base + ext) % 65536).toNat

/-- Residual of the observer at a sample, while the axis is in RUN with ACTIVE set (R198). -/
def State.obsSample (s : State) (t : Nat) (n : Fin 4) : State :=
  if (s.axis n).st == .run && s.bit (Reg.FBK_OBSCFG_ACTIVE n) then
    let above := qLt (bfVal (s.reg (Reg.FBK_OBSLOSS n))) (qAbs (bfVal (s.reg (Reg.FBK_OBSRES n))))
    if above then s.updPort n fun p => { p with obsAbove := some (p.obsAbove.getD t) }
    else s.updPort n fun p => { p with obsAbove := none, obsSpd := s.reg (Reg.FBK_OBSSPD n) }
  else s.updPort n fun p => { p with obsAbove := none }

/-- FEEDBACK_RECORD_LATCH: the record of a SAMPLE event at `t`, in the registers and as port-window
entries 64-68 (R173, R224). -/
def State.latchRecord (s : State) (t : Nat) (n : Fin 4) (r : ResIn) : State × List Word :=
  let s := (s.resolverSample n r).ssiSample t n
  let (fw, s) := s.freeWord
  let (fa, s) := s.freeNat
  let (spd, ok) := s.speedAt t n fw
  let pos := s.posAt n
  let age := s.ageAt t n fa
  let ang := s.angAt n pos spd ok age
  let neg := decide ((bfVal spd).num < 0)
  let sign := if s.fbMode n = 1 ∨ s.fbMode n = 2 then s.bit (Reg.FBK_STATUS_DIR n) else neg
  let s := if s.fbMode n = 0 then s.setB (Reg.FBK_STATUS_DIR n) neg else s
  let s := ((s.setB (Reg.FBK_STATUS_SPD_VALID n) ok).setB (Reg.FBK_STATUS_SIGN n) sign).portBits n
  let s := (s.setReg (Reg.FBK_POS n) pos).setReg (Reg.FBK_SPEED n) spd
  let s := s.sets [(Reg.FBK_EANG_EANG n, ang), (Reg.FBK_EANG_AGE n, age)]
  let s := s.obsSample t n
  let bits := (s.reg (Reg.FBK_STATUS n)).toNat % 32
  (s, [pos, BitVec.ofNat 32 (ang + age * 65536), spd, BitVec.ofNat 32 bits, bfRound ⟨ang, 65536⟩])

/-! ### Observer (R198, R253, R254) -/

/-- OBSERVER_LOSS_TIMEOUT: the residual has stayed above OBS_LOSS at every sample for OBS_TIME (R198,
R242), with ACTIVE still set. -/
def obsLoss (t : Nat) (n : Fin 4) (s : State) : State :=
  let s := s.upto t
  if s.backup then s else
  let p := s.port n
  let long := p.obsAbove.any fun a => decide (a + 40000 * s.get (Reg.FBK_OBSCFG_TIME n) ≤ t)
  if (s.axis n).st == .run && s.bit (Reg.FBK_OBSCFG_ACTIVE n) && long && !s.bit (Reg.FBK_OBSCFG_LOST n) then
    let s := s.sets [(Reg.FBK_OBSCFG_LOST n, 1), (Reg.FBK_IRQ_OBS n, 1)]
    let s := s.updEng n fun e => { e with port := stoPut e.port 206 0x01400000 0 }
    s.raise .obsLost (fbSource n) p.obsSpd.toNat t
  else s

def execObserverLossTimeout (t : Nat) (n : Fin 4) (s : State) : Res := .next (obsLoss t n s)

end Sys2Proof.Machine
end

