-- ==== Sys2Proof/Machine/Pwm.lean ====
section
/-! DEFINITION. The PWM generator (R261-R286): carriers, reload, the pulse frame of a leg, window
shifting, double update, bootstrap refresh, FORCE, locked carriers and carrier interrupts. -/

namespace Sys2Proof.Machine

/-! ### Values in force (R125, R126) -/

/-- T = DT + MINPULSE of a leg in fine steps, in force (R267). -/
def State.shortest (s : State) (n : Fin 4) (l : Fin 12) : Nat :=
  s.dtOf n l + s.effGet n (Reg.PWM_MINP_FINE l) + 32 * s.effGet n (Reg.PWM_MINP_TICK l)

def State.extendPolicy (s : State) (n : Fin 4) (l : Fin 12) : Bool :=
  decide (s.effGet n (Reg.PWM_MINP_POLICY l) ≠ 0)

def State.centre (s : State) (n : Fin 4) : Bool := !s.bit (Reg.PWM_CTL_MODE n)

def State.running (s : State) (n : Fin 4) : Bool := s.bit (Reg.PWM_STATUS_RUNNING n)

/-- A Reload register of a running carrier is written at `t`: the word in force stays (R126). -/
def EffWord.write (old : Option EffWord) (was : Word) (t : Nat) (w : Word) : EffWord :=
  match old with
  | some e => { e with writes := (t, w) :: e.writes }
  | none => { force := was, next := was, writes := [(t, w)] }

/-- The writes up to the instant `c` of the claim are taken, the last one of a register as its word (R126, R264). -/
def EffWord.claim (e : EffWord) (c : Nat) : EffWord :=
  { e with
    next := ((e.writes.find? fun p => decide (p.1 ≤ c)).map Prod.snd).getD e.next
    writes := e.writes.filter fun p => decide (c < p.1) }

/-- A zero-point formation uses the words that a reload has taken; a register with nothing left to take reads as
written (R264). -/
def formEff (l : List (Nat × EffWord)) : List (Nat × EffWord) :=
  (l.map fun e => (e.1, { e.2 with force := e.2.next })).filter fun e => !e.2.writes.isEmpty

/-! ### Carriers (R262, R280, R281) -/

/-- Source axis of a carrier locked within the module (R280). -/
def State.srcAxis (s : State) (n : Fin 4) : Option (Fin 4) :=
  let v := s.get (Reg.PWM_CTL_SRC n)
  if 1 ≤ v ∧ v ≤ 4 then some (Fin.ofNat 4 (v - 1)) else none

/-- First `z ≥ from_` with `z ≡ off (mod p)`. -/
def nextPoint (from_ off p : Nat) : Nat := from_ + (off % p + p - from_ % p) % p

/-- PHASE in fine steps (R262). -/
def State.phaseFine (s : State) (n : Fin 4) : Nat :=
  32 * s.get (Reg.PWM_PHASE_TICK n) + s.get (Reg.PWM_PHASE_FINE n)

/-- First zero point of a carrier at or after the Tide count `from_`, in fine steps, where its source gives one
(R262, R280). -/
def State.firstZero (s : State) (n : Fin 4) (from_ : Nat) (group : Fin 4 → Option Nat) : Option Nat :=
  let p := 32 * s.period n
  let ph := s.phaseFine n
  if p = 0 then none
  else match s.get (Reg.PWM_CTL_SRC n) with
    | 0 => some (nextPoint (32 * from_) ph p)
    | v =>
      if v ≤ 4 then
        let m : Fin 4 := Fin.ofNat 4 (v - 1)
        if s.running m then some (nextPoint (32 * from_) ((s.carrier m).zero + ph) p) else none
      else (group (Fin.ofNat 4 (v - 5))).map fun z => nextPoint (32 * from_) (z + ph) p

/-- LOCK_LOST of axis `m`: it runs on free, LOCKLOST is set and PWM_LOCK_LOST raised (R281). -/
def State.loseLock (s : State) (t : Nat) (m : Fin 4) : State :=
  if s.bit (Reg.PWM_STATUS_LOCKED m) then
    (s.sets [(Reg.PWM_STATUS_LOCKED m, 0), (Reg.PWM_IRQ_LOCKLOST m, 1)]).raise .pwmLockLost (12 + m)
      m t
  else s

/-- Group carriers as a member knows them; none before a descriptor has come (R445). -/
def State.groupZero (s : State) (g : Fin 4) : Option Nat := s.gcZero[g]

/-- Schedule a start: the first zero point at least 64 ticks ahead, or WAIT for the source (R262,
R280). -/
def State.schedCarrier (s : State) (t : Nat) (n : Fin 4) : State :=
  match s.firstZero n (t + 64) s.groupZero with
  | some z => (s.updCarrier n fun c => { c with startAt := some z }).set (Reg.PWM_STATUS_WAIT n) 0
  | none => (s.updCarrier n fun c => { c with startAt := none }).set (Reg.PWM_STATUS_WAIT n) 1

/-- A source of axis `m`'s carrier is lost: it loses its lock, and a start that it awaits waits for the source again
(R280, R281). -/
def State.lockEnds (s : State) (t : Nat) (m : Fin 4) : State :=
  let s := s.loseLock t m
  if (s.carrier m).startAt.isSome then s.schedCarrier t m else s

/-- The carrier of axis `n` stops, restarts, or changes PERIOD or MODE: carriers locked to it lose
their lock (R281). -/
def State.sourceLost (s : State) (t : Nat) (n : Fin 4) : State :=
  s.eachAxis fun s m => if s.get (Reg.PWM_CTL_SRC m) = n.val + 1 then s.lockEnds t m else s

/-- Stop a carrier at once (R262): Reload writes then take effect at once (R125), no duty is in force before the next
reload (R264), and its open ADC blocks close (R419). -/
def State.stopCarrier (s : State) (t : Nat) (n : Fin 4) : State :=
  let was := s.running n
  let s := s.drive (32 * t)
  let s := s.sets [(Reg.PWM_STATUS_RUNNING n, 0), (Reg.PWM_STATUS_DOWN n, 0),
    (Reg.PWM_STATUS_LOCKED n, 0), (Reg.PWM_STATUS_WAIT n, 0)]
  let s := s.updCarrier n fun c => { c with
      startAt := none, eff := [], inForce := { c.inForce with duties := Vector.replicate 24 0, fresh := false } }
  if was then
    ([0, 1, 2, 3] : List (Fin 4)).foldl (fun s c =>
      if s.axisOfCluster c = n then
        s.logClose (42 + c.val) t fun k => (k.kind == 1 || k.kind == 2) && k.b1 == c.val
      else s) (s.sourceLost t n)
  else s

/-- What a write to `PWM_CTLn`, `PWM_PERIODn` or `PWM_PHASEn` does to the carrier, given EN and the
four shaping values before it (R262). -/
def State.carrierWritten (s : State) (t : Nat) (n : Fin 4) (wasEn : Bool) (changed : Bool) : State :=
  let en := s.bit (Reg.PWM_CTL_EN n)
  if wasEn && !en then s.stopCarrier t n
  else if en && (!wasEn || changed) then (s.stopCarrier t n).schedCarrier t n
  else s

/-- The source of a carrier gives zero points: it is free, or its source runs (R280). -/
def State.sourceRuns (s : State) (n : Fin 4) : Bool :=
  match s.get (Reg.PWM_CTL_SRC n) with
  | 0 => true
  | v => if v ≤ 4 then s.running (Fin.ofNat 4 (v - 1)) else (s.groupZero (Fin.ofNat 4 (v - 5))).isSome

/-- CARRIER_START: a carrier starts at the first zero point its start has been scheduled for; carriers that wait
for it are scheduled (R262, R280). -/
def carrierStart (t : Nat) (n : Fin 4) (s : State) : State :=
  let s := s.upto t
  match (s.carrier n).startAt with
  | some z =>
    if s.bit (Reg.PWM_CTL_EN n) && !s.running n && !s.idle n && z / 32 == t && s.sourceRuns n then
      let locked := s.get (Reg.PWM_CTL_SRC n) ≠ 0
      let s := s.updCarrier n fun c => { c with startAt := none, zero := z, formed := false }
      let s := s.sets [(Reg.PWM_STATUS_RUNNING n, 1), (Reg.PWM_STATUS_WAIT n, 0),
        (Reg.PWM_STATUS_LOCKED n, if locked then 1 else 0), (Reg.PWM_STATUS_DOWN n, 0)]
      s.eachAxis fun s m =>
        if s.srcAxis m = some n ∧ s.bit (Reg.PWM_STATUS_WAIT m) then s.schedCarrier t m else s
    else s
  | none => s

def execCarrierStart (t : Nat) (n : Fin 4) (s : State) : Res := .next (carrierStart t n s)

/-! ### Interrupts (R282) -/

/-- Index of the period in progress on the anchor of the carrier (R282). -/
def State.periodIndex (s : State) (n : Fin 4) : Int :=
  if s.period n = 0 then 0
  else ((s.carrier n).zero - s.phaseFine n : Int) / (32 * s.period n : Nat)

/-- Ticks from the last zero point (R261). -/
def State.sinceZero (s : State) (n : Fin 4) (t : Nat) : Nat := t - (s.carrier n).zero / 32

/-- `t` is a zero point of the running carrier whose frames are not formed yet (R261, R262). -/
def State.atZero (s : State) (n : Fin 4) (t : Nat) : Bool :=
  let c := s.carrier n
  s.period n != 0 && decide (c.zero / 32 ≤ t) && s.sinceZero n t % s.period n == 0 &&
    (!c.formed || decide (c.zero / 32 < t))

/-- `t` is a period point: in the middle of a centre-aligned period, at the end of a sawtooth period (R261). -/
def State.atPeriodPoint (s : State) (n : Fin 4) (t : Nat) : Bool :=
  s.period n != 0 && decide ((s.carrier n).zero / 32 < t) &&
    s.sinceZero n t % s.period n == (if s.centre n then s.period n / 2 else 0)

/-- `t` is a reload point as `PWM_CTLn.RELOAD` selects them (R264). -/
def State.atReload (s : State) (n : Fin 4) (t : Nat) : Bool :=
  let r := s.get (Reg.PWM_CTL_RELOAD n)
  (r != 2 && s.atZero n t) || (r != 1 && s.centre n && s.atPeriodPoint n t)

/-- An event with prescaler field `pre` sets the status bit `b` in the periods it is due. -/
def State.carrierIrq (s : State) (n : Fin 4) (pre b : Fld) : State :=
  if s.periodIndex n % ((s.get pre + 1 : Nat) : Int) = 0 then s.set b 1 else s

/-- CMP0 or CMP1 of a running carrier, POS ticks after the zero point (R282). -/
def compareEvent (t : Nat) (n : Fin 4) (x : Fin 2) (s : State) : State :=
  let s := s.upto t
  if s.running n && s.bit ⟨Reg.PWM_ICMP x n, 31, 1⟩ &&
      t == (s.carrier n).zero / 32 + s.get ⟨Reg.PWM_ICMP x n, 0, 24⟩ then
    if x = 0 then s.carrierIrq n (Reg.PWM_PRES_CMP0 n) (Reg.PWM_IRQ_CMP0 n)
    else s.carrierIrq n (Reg.PWM_PRES_CMP1 n) (Reg.PWM_IRQ_CMP1 n)
  else s

def execCarrierCompareEvent (t : Nat) (n : Fin 4) (x : Fin 2) (s : State) : Res :=
  .next (compareEvent t n x s)

/-- The PERIOD event: its interrupt, and a centre-aligned count turns down (R261, R282). -/
def State.periodEvent (s : State) (n : Fin 4) : State :=
  let s := if s.centre n then s.set (Reg.PWM_STATUS_DOWN n) 1 else s
  s.carrierIrq n (Reg.PWM_PRES_PERIOD n) (Reg.PWM_IRQ_PERIOD n)

/-- PERIOD_POINT: a period point that is no reload point (R282). -/
def periodPoint (t : Nat) (n : Fin 4) (s : State) : State :=
  let s := s.upto t
  if s.running n && s.atPeriodPoint n t && !s.atReload n t then s.periodEvent n else s

def execPeriodPoint (t : Nat) (n : Fin 4) (s : State) : Res := .next (periodPoint t n s)

/-! ### The pulse frame (R266-R274) -/

/-- What forming a frame needs, in fine steps (R268). -/
structure FrameIn where
  centre : Bool
  p : Nat
  h : Nat
  t : Nat
  extend : Bool
  loRun : Nat
  hiOn : Bool
  fromOff : Bool
  deriving DecidableEq, Repr

/-- Short-pulse rules on the width (R268). -/
def shortWidth (x : FrameIn) (w : Nat) : Nat :=
  let w := if 0 < w ∧ w < x.t then (if x.extend then x.t else 0) else w
  if 0 < x.p - w ∧ x.p - w < x.t then (if x.extend then x.p - x.t else x.p) else w

/-- The rise before its rules, for width `w` (R268). -/
def riseOf (x : FrameIn) (w : Nat) : Nat := if x.centre then 32 * x.h - w / 2 else 0

/-- Rule 3: a low pulse already begun is finished (R268). -/
def finishLow (x : FrameIn) (w rise : Nat) : Nat :=
  if 0 < w ∧ 0 < x.loRun ∧ x.loRun + rise < x.t then x.t - x.loRun else rise

/-- Rule 4: the low pulse after full-on, or on entry from OFF (R268). -/
def lowAfterOn (x : FrameIn) (rise : Nat) : Nat :=
  if (x.hiOn || x.fromOff) ∧ 0 < rise ∧ rise < x.t then (if x.extend then x.t else 0) else rise

/-- The frame of R268 from the requested on-time with the carry added: rise, fall, and whether a
short-pulse rule changed it. -/
def formFrame (x : FrameIn) (wreq : Int) : Nat × Nat × Bool :=
  let w0 := (max 0 (min (x.p : Int) wreq)).toNat
  let w := shortWidth x w0
  let r0 := riseOf x w
  let r := lowAfterOn x (finishLow x w r0)
  (r, r0 + w, decide (w ≠ w0 ∨ r ≠ r0))

/-- A point lies in one of the windows. -/
def inWindows (ws : List (Int × Int)) (e : Int) : Bool :=
  ws.any fun w => decide (w.1 ≤ e ∧ e ≤ w.2)

/-- Windows of the present period and the next: offsets of the enabled sample events, window and
period in fine steps (R273). -/
def sampleWindows (offs : List Nat) (win p : Nat) : List (Int × Int) :=
  offs.flatMap fun (o : Nat) =>
    [((o : Int) - win, (o : Int) + 256), ((o : Int) + (p : Int) - win, (o : Int) + (p : Int) + 256)]

/-- Movable edges of a frame (R273): no edge at a rise of 0 that continues an on-time, and none at
a fall that continues into the next period. -/
def movable (x : FrameIn) (dt rise fall : Nat) : List Nat :=
  (if rise = 0 ∧ x.hiOn then [] else [rise, rise + dt]) ++
  (if fall = x.p then [] else [fall, fall + dt])

/-- A shift is valid: the moved frame keeps the rise rules, and none of the edges it then has lies in a window
(R273). -/
def shiftOk (x : FrameIn) (ws : List (Int × Int)) (dt rise fall : Nat) (s : Int) : Bool :=
  let r := (rise : Int) + s
  let f := (fall : Int) + s
  decide (0 ≤ r ∧ r ≤ x.p ∧ 0 ≤ f ∧ f ≤ x.p) &&
    !((movable x dt r.toNat f.toNat).any fun e => inWindows ws e) &&
    !(decide (0 < x.loRun ∧ (x.loRun : Int) + r < x.t)) &&
    !((x.hiOn || x.fromOff) && decide (0 < r ∧ r < x.t))

/-- The better of two shifts: smaller magnitude, the positive one on a tie (R273). -/
def betterShift (a b : Int) : Bool :=
  decide (a.natAbs < b.natAbs ∨ (a.natAbs = b.natAbs ∧ b < a))

/-- The valid shift of smallest magnitude, where there is one (R273). -/
def bestShift (x : FrameIn) (ws : List (Int × Int)) (dt rise fall : Nat) : Option Int :=
  let cands : List Int := (movable x dt rise fall).flatMap fun (e : Nat) =>
    ws.flatMap fun (w : Int × Int) => [w.2 + 1 - (e : Int), w.1 - 1 - (e : Int)]
  (cands.filter (shiftOk x ws dt rise fall)).foldl (fun b c =>
    match b with
    | none => some c
    | some d => if betterShift c d then some c else some d) none

/-- Enabled sample offsets of an axis in force, in fine steps (R272). -/
def State.sampleOffs (s : State) (n : Fin 4) : List Nat :=
  ([0, 1].filterMap fun x =>
    let w := s.eff n (Reg.PWM_SOFS x n)
    if wordGet w 31 1 = 1 then some (wordGet w 0 29) else none)

/-- Windows in force of an axis; none with SAMPLE_WIN = 0 (R273). -/
def State.windows (s : State) (n : Fin 4) : List (Int × Int) :=
  let win := s.effGet n (Reg.PWM_SWIN_WIN n)
  if win = 0 then [] else sampleWindows (s.sampleOffs n) (32 * win) (32 * s.period n)

/-- Duty of a slot in the set in force (R266). -/
def State.duty (s : State) (n : Fin 4) (l : Fin 12) : Q :=
  bfVal ((s.carrier n).inForce.duties[Fin.ofNat 24 (s.slotOf l)])

/-- q of R268, or the requested width of a sawtooth period. -/
def State.qOf (s : State) (n : Fin 4) (l : Fin 12) : Int :=
  if s.centre n then qRound (qMul (s.duty n l) (qInt (32 * (s.period n / 2))))
  else qRound (qMul (s.duty n l) (qInt (32 * s.period n)))

def State.carryReg (s : State) (l : Fin 12) : Int := (s.reg (Reg.PWM_CARRY l)).toInt

def State.setFrame (s : State) (l : Fin 12) (rise fall : Nat) : State :=
  (s.setReg (Reg.PWM_RISE l) (BitVec.ofNat 32 rise)).setReg (Reg.PWM_FALL l) (BitVec.ofNat 32 fall)

def State.setCarry (s : State) (l : Fin 12) (c : Int) : State :=
  s.setReg (Reg.PWM_CARRY l) (BitVec.ofInt 32 c)

/-- State of a leg at the zero point `z` (fine steps) that ends its frame: the high side is on through it, or the
low side has been on since an instant or comes on at one, DT after the high side went off (R268, R275, R277). -/
def State.legAtZero (s : State) (l : Fin 12) (z : Nat) : Bool × Option Nat :=
  let g := s.leg l
  let f := s.frameNow l
  let m := s.outMode (s.axisOfLeg l)
  if m = .force then (s.chanAt z l true, if s.chanAt z l false then g.lowSince else none)
  else if m = .asc then (false, g.lowSince)
  else if m = .off ∨ !g.framed then (false, none)
  else if f.pulse && decide (z ≤ f.z + f.fall) && g.pwmHi f (z - 1) then (true, none)
  else if g.refreshLow f z then (false, some (s.lowFrom z l))
  else if g.refreshAt.any fun r => decide (r ≤ z ∧ z < r + g.dt) then (false, g.refreshAt.map (· + g.dt))
  else if !f.pulse then (false, g.lowSince)
  else if f.z + f.fall < z then (false, some (f.z + f.fall + g.dt))
  else (false, none)

/-- Continuous on-time of the high side of a bootstrap leg at the instant `x` of its frame: on-times add up, and a
low side on without a break for BOOT_REFRESH starts the count anew (R275). -/
def State.hiCountAt (s : State) (l : Fin 12) (x : Nat) : Nat :=
  let g := s.leg l
  let f := s.frameNow l
  let fallAt := f.z + f.fall
  match g.refreshAt with
  | some r =>
    if r + g.dt + f.refresh ≤ x then min x fallAt - max f.z (r + 2 * g.dt + f.refresh) else g.hiCount
  | none =>
    let end_ := if f.pulse then min x (f.z + f.rise) else x
    let c := if g.lowSince.any fun v => decide (v + f.refresh ≤ end_) then 0 else g.hiCount
    if f.pulse then
      let c := if decide (g.hold ≤ g.lowServed f) then c + (min x fallAt - g.hiStart f) else c
      if fallAt + g.dt + f.refresh ≤ x then 0 else c
    else c

/-- Low-side on-time of a frame up to its end at `z`, after the pulse (R276). -/
def State.lowAfter (s : State) (l : Fin 12) (z : Nat) : Nat :=
  let g := s.leg l
  let f := s.frameNow l
  if f.pulse then z - max (f.z + f.fall + g.dt) g.holdFrom
  else z - max (max (g.lowSince.getD z) f.z) g.holdFrom

/-- What a zero point decides for one leg: whether a short-pulse rule changed the frame, whether an edge lies in a
window and by how much the pulse moves, and the frame with what it carries on. -/
structure FramePlan where
  short : Bool
  moves : Bool
  shift : Option Int
  rise : Nat
  fall : Nat
  carry : Int
  q : Int
  dt : Nat
  hiThru : Bool
  low : Option Nat
  deriving DecidableEq, Repr

/-- The low side at the start of a frame: from OFF it turns on at the zero point where the frame has a low pulse
there, after a high side on through it DT later, and else it stays or comes on (R266, R268). -/
def lowAtStart (z dt rise : Nat) (pulse fromOff hiOn : Bool) (low : Option Nat) : Option Nat :=
  let begins := !pulse || decide (0 < rise)
  if fromOff then (if begins then some z else none)
  else if hiOn then (if begins then some (z + dt) else none)
  else if begins then some (low.getD z)
  else low

/-- The plan of the frame that starts at `z`, in fine steps (R266-R276). -/
def State.planLeg (s : State) (n : Fin 4) (z : Nat) (entry fromOff : Bool) (l : Fin 12) : FramePlan :=
  let p := 32 * s.period n
  let (hiOn, low) := s.legAtZero l z
  let dt := s.dtOf n l
  let x : FrameIn :=
    { centre := s.centre n, p := p, h := s.period n / 2, t := s.shortest n l,
      extend := s.extendPolicy n l, loRun := (low.map fun v => z - v).getD 0, hiOn := hiOn,
      fromOff := entry && fromOff }
  let q := s.qOf n l
  let wreq := (if s.centre n then 2 * q else q) + (if entry then 0 else s.carryReg l)
  let (rise, fall, short) := formFrame x wreq
  let ws := s.windows n
  let moves := decide (0 < fall - rise ∧ fall - rise < p) &&
    (movable x dt rise fall).any fun e => inWindows ws e
  let shift := if moves then bestShift x ws dt rise fall else some 0
  let v := shift.getD 0
  let rise' := ((rise : Int) + v).toNat
  let fall' := ((fall : Int) + v).toNat
  let left : Int := wreq - ((fall' : Int) - rise')
  { short := short, moves := moves, shift := shift, rise := rise', fall := fall', q := q, dt := dt
    carry := if x.extend then 0 else max (-(p : Int)) (min p left)
    hiThru := hiOn
    low := lowAtStart z dt rise' (decide (rise' < fall')) (entry && fromOff) hiOn low }

/-- What the channels of a leg in PWM mode take along into the frame that starts at `z` (R275, R276). -/
def State.carryLeg (s : State) (z : Nat) (entry fromOff : Bool) (l : Fin 12) (f : FramePlan) : State :=
  let g := s.leg l
  let now := s.frameNow l
  let boot := s.bit (Reg.GATE_CFG_BOOT (hiCh l))
  let hold :=
    if entry then
      (if boot then now.refresh - (if fromOff then 0 else (g.lowSince.map fun v => z - v).getD 0) else 0)
    else g.hold - ((if now.pulse then g.lowServed now else 0) + s.lowAfter l z)
  let count := if entry then 0 else s.hiCountAt l z
  s.updLeg l fun g =>
    { g with
      framed := true, hiThru := f.hiThru, lowSince := f.low, hold := hold, holdFrom := max z g.holdFrom
      hiCount := count
      refreshAt := if entry then none else g.refreshAt.filter fun r => decide (z < r + 2 * g.dt + now.refresh) }

/-- Form the frame of one leg at the zero point `z`; `entry` where the leg enters PWM mode here, with `fromOff`;
`pwm` where its channels follow the frame (R268, R269, R273, R276). -/
def State.formLeg (s : State) (n : Fin 4) (z : Nat) (pwm entry fromOff : Bool) (l : Fin 12) : State :=
  let f := s.planLeg n z entry fromOff l
  let s := if f.short then s.incHold (Reg.PWM_SHORT_SHORT l) else s
  let s := if f.moves then
      match f.shift with
      | some v => (s.incHold (Reg.PWM_SHORT_SHIFT l)).setReg (Reg.PWM_SHIFT l) (BitVec.ofInt 32 v)
      | none => s.incHold (Reg.PWM_FAIL_SHIFTFAIL l)
    else s
  let s := if pwm then s.carryLeg z entry fromOff l f else s
  ((s.setFrame l f.rise f.fall).setCarry l f.carry).updLeg l fun g => { g with q0 := f.q, dt := f.dt }

/-- The axis enters PWM mode at this zero point (R277). -/
def State.entersPwm (s : State) (n : Fin 4) : Bool :=
  (s.carrier n).inForce.fresh && (s.gateRequest n).2 && s.gateDemand n == none &&
    (s.outMode n == .off || s.outMode n == .asc)

/-- The lead pulls GSYNC low at prescaled zero points of the chosen group carrier (R446). -/
def State.gsyncPulse (s : State) (t : Nat) (n : Fin 4) : State :=
  if s.bit Reg.MOOR_CTL_EN && s.mid == 0 && s.bit Reg.MOOR_GSYNC_DRIVE &&
      s.get Reg.MOOR_GSYNC_SRC == n.val &&
      s.periodIndex n % ((s.get Reg.MOOR_GSYNC_PRES + 1 : Nat) : Int) == 0
  then s.emit (.gsync t) else s

/-- The lead sends a marker stamped at a zero point of each running free carrier (R445). -/
def State.sendMarker (s : State) (n : Fin 4) (z : Nat) : State :=
  if s.isLead && s.get (Reg.PWM_CTL_SRC n) == 0 then s.sendPorts 3 [n, z] else s

/-- The frames of every leg of an axis are formed at the zero point `z`, whatever the mode of its output stage
(R268). -/
def State.formAll (s : State) (n : Fin 4) (z : Nat) (pwm entry fromOff : Bool) : State :=
  let s := (s.legsOf n).foldl (State.formLeg · n z pwm entry fromOff ·) s
  s.updCarrier n fun c => { c with zero := z, formed := true }

/-- Channels with a drive profile start from their written settings on entry to PWM (R292). -/
def State.startSteps (s : State) (n : Fin 4) : State :=
  (s.channelsOf n).foldl (fun (s : State) (g : Fin 26) =>
    if s.bit (Reg.GATE_CFG_MODE g) then
      s.sets [(Reg.GATE_STEP_SRC g, s.get (Reg.GATE_DRV_SRC g)),
        (Reg.GATE_STEP_SNK g, s.get (Reg.GATE_DRV_SNK g))]
    else s) s

/-- ZERO_POINT: the zero point of a running carrier at `t` (R261, R268, R277, R282, R445, R446). -/
def zeroPoint (t : Nat) (n : Fin 4) (s : State) : State :=
  let s := s.upto t
  if s.running n && s.atZero n t then
    let z := (s.carrier n).zero + 32 * s.sinceZero n t
    let s := s.drive z
    let s := s.updCarrier n fun c => { c with eff := formEff c.eff }
    let enters := s.entersPwm n
    let fromOff := s.outMode n == .off
    let s := s.formAll n z (enters || s.outMode n == .pwm) enters fromOff
    let s := if enters then (s.set (Reg.PWM_STATUS_OUT n) OutMode.pwm.code).startSteps n else s
    let s := s.set (Reg.PWM_STATUS_DOWN n) 0
    ((s.carrierIrq n (Reg.PWM_PRES_ZERO n) (Reg.PWM_IRQ_ZERO n)).gsyncPulse t n).sendMarker n z
  else s

def execZeroPoint (t : Nat) (n : Fin 4) (s : State) : Res := .next (zeroPoint t n s)

/-! ### Reload (R264, R265, R270, R274) -/

/-- Nearest place for a fall that clears every window, between `lo` and `p`; the later one on a tie
(R274). -/
def bestFall (ws : List (Int × Int)) (dt f lo p : Nat) : Option Nat :=
  let ok (g : Int) : Bool := decide ((lo : Int) ≤ g ∧ g ≤ p) && !inWindows ws g && !inWindows ws (g + dt)
  let cands : List Int := ws.flatMap fun w => [w.2 + 1, w.1 - 1, w.2 + 1 - dt, w.1 - 1 - dt]
  ((cands.filter ok).foldl (fun (b : Option Int) c =>
    match b with
    | none => some c
    | some d =>
      if (c - f).natAbs < (d - f).natAbs ∨ ((c - f).natAbs = (d - f).natAbs ∧ d < c) then some c
      else some d) none).map Int.toNat

/-- Double update of one leg at the period point (R270, R274): `q1` comes from the set just taken. -/
def State.updateFall (s : State) (n : Fin 4) (l : Fin 12) : State :=
  let q1 := s.qOf n l
  let d := q1 - (s.leg l).q0
  let p := 32 * s.period n
  let h := 32 * (s.period n / 2)
  let rise := s.riseReg l
  let fall := s.fallReg l
  let tt := s.shortest n l
  let ext := s.extendPolicy n l
  let carry := s.carryReg l
  if rise = fall ∨ fall < h then (if ext then s else s.setCarry l (carry + d))
  else
    let f0 := (max (h : Int) (min p ((fall : Int) + d))).toNat
    let f := min p (max f0 (rise + tt))
    let s := if f0 < f then s.incHold (Reg.PWM_SHORT_SHORT l) else s
    let c1 := if ext then carry else carry + ((fall : Int) + d - f)
    let dt := s.dtOf n l
    let ws := s.windows n
    if f < p ∧ (inWindows ws f || inWindows ws ((f : Int) + dt)) then
      match bestFall ws dt f (max h (rise + tt)) p with
      | some g => (s.setFrame l rise g).setCarry l (c1 + ((f : Int) - g))
      | none => ((s.setFrame l rise f).setCarry l c1).incHold (Reg.PWM_FAIL_SHIFTFAIL l)
    else (s.setFrame l rise f).setCarry l c1

/-- A deadline miss of an axis in RUN or TUNE, stamped at the commit deadline `t` (R60, R61): its program has
committed nothing in time, which ends the hold of OBS_LOST (R254, log entry 30). -/
def State.deadlineMiss (s : State) (t : Nat) (n : Fin 4) : State :=
  if (s.axis n).st.closed then
    let c := s.get (Reg.TIDE_MISS_CONSEC n)
    let s := (s.incHold (Reg.TIDE_MISS_TOTAL n)).set (Reg.TIDE_MISS_CONSEC n) (min 3 (c + 1))
    let s := if c = 2 then s.raise .leDeadline (8 + n) 0 t else s
    s.obsReact n
  else s

/-- One sample whose commit deadline is the claim at `c`: a miss unless its COMMIT was requested by then; a
sample committed in time sets CONSEC back to 0 (R30, R60). -/
def State.judgeSample (c : Nat) (n : Fin 4) (s : State) (p : Nat × Option Nat) : State :=
  if p.2.any fun r => decide (r ≤ c) then
    (if (s.axis n).st.closed && s.get (Reg.TIDE_MISS_CONSEC n) < 3 then s.set (Reg.TIDE_MISS_CONSEC n) 0 else s)
  else s.deadlineMiss c n

/-- An engine COMMIT requested by the claim at `c` waits at the element until after it (R30, R265). `lost`: where
the grant falls on the claim itself, the element gave the shadow bank to the reload first. -/
def State.commitLate (s : State) (n : Fin 4) (c : Nat) (lost : Bool) : Bool :=
  let k := s.carrier n
  ((s.engine n).crossing && decide ((s.engine n).settledAt ≤ c)) ||
    decide (k.shadowReq ≤ c ∧ (c < k.shadowAt ∨ (lost = true ∧ k.shadowAt = c ∧ 0 < c)))

/-- The claim of the reload at `t`, 4 ticks earlier: every sample stamped before it and not judged yet has its
commit deadline there (R30, R60, R237). A sample stamped at the claim itself is due at the next reload (DESIGN
CHOICE, log entry 48). -/
def State.claim (s : State) (t : Nat) (n : Fin 4) (toReload : Bool) : State :=
  let c := t - 4
  let due := (s.engine n).samples.filter fun p => decide (p.1 < c)
  let late := s.commitLate n c toReload
  let s := s.updEng n fun e => { e with samples := e.samples.filter fun p => !decide (p.1 < c) }
  let s := if toReload || late then s.incHold (Reg.PWM_LATE_COUNT n) else s
  due.foldl (State.judgeSample c n) s

/-- The reload takes the set that the shadow held at its claim, and the Reload fields written by then (R126, R264,
R265). -/
def Carrier.take (k : Carrier) (c : Nat) (lost : Bool) : Carrier :=
  let late := decide (c < k.shadowAt) || (lost && decide (k.shadowAt = c ∧ 0 < c))
  let by_ := if lost then c - 1 else c
  { k with
    inForce := if late then k.before else k.shadow
    eff := k.eff.map fun e => (e.1, e.2.claim by_) }

/-- A duty-set record of the Logbook (R418 kind 4): stamp, duties, gate request, in memory order
(R11). -/
def dutyItem (t slots : Nat) (d : DutySet) : List Byte :=
  leBytes 8 t ++ ((d.duties.toList.take slots).flatMap fun w => leBytes 4 w.toNat) ++
    leBytes 4 d.gate.toNat

/-- RELOAD: a reload point at `t` (R264). `toReload`: a write of a Reload field, or a COMMIT granted at the claim
itself, waited at the element and lost to the reload (R265). -/
def reload (t : Nat) (n : Fin 4) (toReload : Bool) (s : State) : State :=
  let s := s.upto t
  if s.running n && s.atReload n t then
    let s := (s.drive (32 * t)).claim t n toReload
    let s := s.updCarrier n fun c => c.take (t - 4) toReload
    let s := s.updAxis n fun a => { a with reqTaken := a.reqTaken || a.st.closed }
    let point := s.atPeriodPoint n t
    let s := if point && s.centre n && s.get (Reg.PWM_CTL_RELOAD n) == 3 then
        (s.legsOf n).foldl (State.updateFall · n ·) s else s
    let s := if point then s.periodEvent n else s
    let d := (s.carrier n).inForce
    let s := s.logEvent s.epoch (12 + n) t fun c =>
      if c.kind = 4 ∧ c.b1 = n.val then some (dutyItem t (s.slots n) d) else none
    s.settleAxis t n
  else s

def execReload (t : Nat) (n : Fin 4) (toReload : Bool) (s : State) : Res :=
  .next (reload t n toReload s)

/-! ### Bootstrap refresh and FORCE (R275, R279) -/

/-- BOOTSTRAP_REFRESH of a leg in PWM mode with a bootstrap high side: its count has reached BOOT_MAX_ON, the high
side turns off, and the low side is driven from DT later on for BOOT_REFRESH (R275). -/
def bootRefresh (t : Nat) (l : Fin 12) (s : State) : State :=
  let s := s.upto t
  let n := s.axisOfLeg l
  let max_ := 32 * Config.us * s.get (Reg.PWM_BOOT_MAXON l)
  if s.bit (Reg.GATE_CFG_BOOT (hiCh l)) && s.outMode n == .pwm && s.legOn (t - 1) l true &&
      decide (max_ ≤ s.hiCountAt l (32 * t)) then
    let s := (s.drive (32 * t)).incHold (Reg.PWM_FAIL_BOOTREF l)
    s.updLeg l fun g => { g with refreshAt := some (32 * t) }
  else s

def execBootstrapRefresh (t : Nat) (l : Fin 12) (s : State) : Res := .next (bootRefresh t l s)

/-- The channels of a leg take the states FORCE asks for; in FORCE mode their changes are gate events
(R279, R418). -/
def State.holdForced (s : State) (n : Fin 4) (l : Fin 12) (hi lo : Bool) : State :=
  let g := s.leg l
  let live := s.outMode n == .force
  let edge (s : State) (isHi on : Bool) : State :=
    s.putEdge { x := 32 * s.tide, tick := s.tide, tap := 0, leg := l, hi := isHi, on := on }
  let s := if live && g.forceHi != hi then edge s true hi else s
  let s := if live && g.forceLo != lo then edge s false lo else s
  s.updLeg l fun g =>
    { g with
      forceHi := hi, forceLo := lo
      lowSince := if live then (if lo then some (g.lowSince.getD (32 * s.tide)) else none) else g.lowSince }

/-- One leg takes its bits of `PWM_FORCEn`: a request for both channels is blocked, the leg keeps its
state, and its bit of `PWM_XCMD` is set (R279). -/
def State.forceLeg (s : State) (n : Fin 4) (l : Fin 12) : State :=
  let p := s.slotOf l
  let hi := (s.reg (Reg.PWM_FORCE n)).getLsbD (2 * p)
  let lo := (s.reg (Reg.PWM_FORCE n)).getLsbD (2 * p + 1)
  if hi && lo then s.set (Reg.PWM_XCMD_BIT l) 1
  else s.holdForced n l hi lo

/-- Both channels of a leg of the axis are asked for. -/
def State.forceBoth (s : State) (n : Fin 4) : Bool :=
  (s.legsOf n).any fun l =>
    (s.reg (Reg.PWM_FORCE n)).getLsbD (2 * s.slotOf l) &&
      (s.reg (Reg.PWM_FORCE n)).getLsbD (2 * s.slotOf l + 1)

/-- What an accepted write of `PWM_FORCEn` does (R279, R32). -/
def State.forceWritten (s : State) (t : Nat) (n : Fin 4) : State :=
  if s.bit (Reg.PWM_FORCE_FEN n) then
    let s := s.settle t
    let s := (s.legsOf n).foldl (State.forceLeg · n ·) s
    if s.forceBoth n then s.raise .xcmd (12 + n) n t
    else s.causeGone .xcmd (12 + n) 0
  else
    let s := (s.legsOf n).foldl (fun s l => s.holdForced n l false false) s
    (s.causeGone .xcmd (12 + n) 0).settle t

end Sys2Proof.Machine
end

