-- ==== Sys2Proof/Machine/Gates.lean ====
section
/-! DEFINITION. The isolated gate channels (R287-R302): rails, isolator link, adaptive drive, the
two-level turn-off, desaturation, shoot-through in the channel logic, bootstrap supply and retry. -/

namespace Sys2Proof.Machine

/-! ### Commanded state of a channel -/

/-- A channel is commanded on and not held off. While the channel logic blocks its leg it keeps the state it held
(R297). -/
def State.chOn (s : State) (t : Nat) (g : Fin 26) : Bool :=
  !(s.gate g).held &&
  match legOfGate g with
  | some l =>
    let hi := decide (g.val % 2 = 0)
    match (s.leg l).block with
    | some b => if hi then b.1 else b.2
    | none => s.legOn t l hi
  | none => if g = gBrk then s.brkOn else s.dscOn

/-! ### Holds -/

/-- After a change of a hold: the status bits, BRK and DSC of the X domain (R317, R322), and the
demands of the axes (R33). -/
def State.heldChanged (s : State) (t : Nat) (g : Fin 26) : State :=
  let s := s.gateBits g
  let s := if g = gBrk then s.brkStep t false else s
  let s := if g = gDsc ∧ s.dscOn ∧ (s.gate gDsc).held then s.dscStop else s
  s.settle t

/-- The place of a fault among a channel's retry instants. -/
def retrySlot : FName → Fin 5
  | .gateUv => 1
  | .bootUv => 2
  | .gateSupply => 3
  | .gateLink => 4
  | _ => 0

/-- A gate fault of retry class `c` arises (R300, R302): retry pending or latched. A fault that is latched stays so
when it arises again. -/
def State.raiseGate (s : State) (t : Nat) (name : FName) (g : Fin 26) (c : Fin 4) (stamp : Nat)
    (sev : Nat := 1) (epoch : Option Nat := none) : State :=
  let win := Config.sec * s.get (Reg.GATE_RETRY_WINDOW c)
  let hist := t :: ((s.gate g).hist[c]).filter fun x => decide (t < x + win)
  let latched := s.fm.active.any fun a => a.name == name && a.src == 16 + g.val && a.latched
  let pending := decide (g.val < 24 ∧ hist.length ≤ s.get (Reg.GATE_RETRY_MAX c)) && !latched
  let due := t + Config.ms * s.get (Reg.GATE_RETRY_WAIT c)
  let s := s.updGate g fun x =>
    { x with
      hist := x.hist.set c hist
      due := x.due.set (retrySlot name) (if pending then some due else none) }
  ((s.raise name (16 + g) 0 stamp (sev := sev) (latched := !pending) (retry := pending)
    (epoch := epoch)).gateBits g).heldChanged t g

/-- The two-level turn-off starts where the channel is on (R295). -/
def State.softOff (s : State) (t : Nat) (g : Fin 26) : State :=
  if s.bit (Reg.GATE_STAT_SOFT g) then s else (s.gateReport t g 2).set (Reg.GATE_STAT_SOFT g) 1

/-! ### Desaturation (R294-R296) -/

/-- The channel is on, and has been for its blanking time and 40 ticks more (R294). -/
def State.desatArmed (s : State) (t : Nat) (g : Fin 26) : Bool :=
  s.chOn t g && !s.bit (Reg.GATE_STAT_SOFT g) &&
    decide ((s.gate g).onAt + 10 * s.get (Reg.GATE_DESAT_BLANK g) + 40 ≤ t)

/-- DESAT_DETECTED: DSN has stood above THR for 40 ticks outside blanking with the channel on; the driver die
starts the two-level turn-off by itself (R294, R295). -/
def desatDetected (t : Nat) (g : Fin 26) (s : State) : State :=
  let s := (s.upto t).drive (32 * t)
  if s.desatArmed t g then
    ((s.softOff t g).incHold (Reg.GATE_CNT_DESAT g)).updGate g fun x => { x with desatAt := t, desatEp := s.epoch }
  else s

def execDesatDetected (t : Nat) (g : Fin 26) (s : State) : Res := .next (desatDetected t g s)

/-- DESAT_REPORT: the report reaches the channel logic; channel and partner are held off, and
GATE_DESAT carries the stamp of the detection (R296). Its cause is gone already where the turn-off has ended. On G24 the chopper is declared failed (R319). -/
def desatReport (t : Nat) (g : Fin 26) (s : State) : State :=
  let s := s.upto t
  let s := (s.updHolds g fun h => { h with desat := true }).set (Reg.GATE_STAT_DESAT g) 1
  let s := match partner g with
    | some p => ((s.updHolds p fun h => { h with partner := true }).set (Reg.GATE_STAT_PFORCE p) 1).gateBits p
    | none => s
  let s := s.raiseGate t .gateDesat g 0 (s.gate g).desatAt (epoch := some (s.gate g).desatEp)
  let s := if s.bit (Reg.GATE_STAT_SOFT g) then s else s.causeGone .gateDesat (16 + g) 0
  if g = gBrk then s.failBrk t 2 else s

def execDesatReport (t : Nat) (g : Fin 26) (s : State) : Res := .next (desatReport t g s)

/-- The adaptive steps restart from `GATE_DRVg` (R292). -/
def State.restartSteps (s : State) (g : Fin 26) : State :=
  if s.bit (Reg.GATE_CFG_MODE g) then
    s.sets [(Reg.GATE_STEP_SRC g, s.get (Reg.GATE_DRV_SRC g)), (Reg.GATE_STEP_SNK g, s.get (Reg.GATE_DRV_SNK g))]
  else s

/-- TWO_LEVEL_TURN_OFF_END: the sequence ends; the causes of GATE_DESAT and BOOT_UV are gone (R295,
R299, R301). -/
def softEnd (t : Nat) (g : Fin 26) (s : State) : State :=
  let s := s.upto t
  if s.bit (Reg.GATE_STAT_SOFT g) then
    let s := s.set (Reg.GATE_STAT_SOFT g) 0
    ((s.restartSteps g).causeGone .gateDesat (16 + g) 0).causeGone .bootUv (16 + g) 0
  else s

def execTwoLevelTurnOffEnd (t : Nat) (g : Fin 26) (s : State) : Res := .next (softEnd t g s)

/-! ### Rails (R288, R289, R299) -/

/-- VP and VN of a code, in 50 mV (R287). -/
def vpUnits (code : Nat) : Nat := 300 + 10 * code
def vnUnits (code : Nat) : Nat := 40 + 10 * code

/-- The channel whose setting a channel's rails follow: G25 mirrors G24 (R287). -/
def railCfg (g : Fin 26) : Fin 26 := if g = gDsc then gBrk else g

/-- The high side of a channel's leg has a bootstrap supply (R298). -/
def State.bootFed (s : State) (g : Fin 26) : Bool :=
  decide (g.val < 24 ∧ g.val % 2 = 0) && s.bit (Reg.GATE_CFG_BOOT g)

/-- The channel whose converter feeds a channel: the low side of the leg for a bootstrap high side (R298). -/
def State.feeder (s : State) (g : Fin 26) : Fin 26 := if s.bootFed g then (partner g).getD g else g

/-- VP lies within ±5 % and VN within ±10 % of the step the rails have reached (R288). -/
def Gate.inBand (x : Gate) (r : RailIn) : Bool :=
  decide (19 * vpUnits x.vp ≤ 20 * r.vp ∧ 20 * r.vp ≤ 21 * vpUnits x.vp ∧
    9 * vnUnits x.vn ≤ 10 * r.vn ∧ 10 * r.vn ≤ 11 * vnUnits x.vn)

/-- The settings that the undervoltage thresholds follow: during a move the lower of the old and the new one (R288,
R289). -/
def State.uvCodes (s : State) (g : Fin 26) : Nat × Nat :=
  let x := s.gate g
  (min x.vpOld (s.get (Reg.GATE_CFG_VP (railCfg g))), min x.vnOld (s.get (Reg.GATE_CFG_VN (railCfg g))))

/-- VP below 0.85 of its setting; VN below 0.5 of its setting (R289). -/
def vpLow (code v : Nat) : Bool := decide (100 * v < 85 * vpUnits code)
def vnLow (code v : Nat) : Bool := decide (2 * v < vnUnits code)

/-- The undervoltage shown of a rail: it begins with its event, and clears 0.5 V above the threshold (R289). The cause
of GATE_UV is gone once both rails are above their thresholds plus that hysteresis (R301). -/
def State.uvClear (s : State) (g : Fin 26) (r : RailIn) : State :=
  let (cp, cn) := s.uvCodes g
  let s := if vpLow cp (r.vp - 10) then s else s.set (Reg.GATE_STAT_VPUV g) 0
  let s := if vnLow cn (r.vn - 10) then s else s.set (Reg.GATE_STAT_VNUV g) 0
  if vpLow cp (r.vp - 10) || vnLow cn (r.vn - 10) then s else s.causeGone .gateUv (16 + g) 0

/-- RAILOK of a channel takes a value; the cause of GATE_SUPPLY is gone where it is set (R288). -/
def State.putRailOk (s : State) (g : Fin 26) (ok : Bool) : State :=
  let s := s.setB (Reg.GATE_STAT_RAILOK g) ok
  if ok then (s.updGate g fun x => { x with seenOk := true }).causeGone .gateSupply (16 + g) 0 else s

/-- The bootstrap supply of the leg follows its low side `g`: its VP is a free value, its VN is 0, and RAILOK is that
of the low side (R298, log entry 51). -/
def State.bootRails (s : State) (g : Fin 26) (ok : Bool) : State :=
  match partner g with
  | none => s
  | some h =>
    if s.bootFed h then
      let (v, s) := s.freeNat
      (s.sets [(Reg.GATE_RAIL_VP h, v), (Reg.GATE_RAIL_VN h, 0)]).setB (Reg.GATE_STAT_RAILOK h) ok
    else s

/-- A measurement of a channel's rails while they are enabled: `GATE_RAILg`, RAILOK and the undervoltage shown (R288,
R289). -/
def State.takeRails (s : State) (g : Fin 26) (r : RailIn) : State :=
  if (s.gate g).en then
    let s := s.sets [(Reg.GATE_RAIL_VP g, r.vp), (Reg.GATE_RAIL_VN g, r.vn)]
    let ok := (s.gate g).inBand r
    ((s.putRailOk g ok).uvClear g r).bootRails g ok
  else s

/-- A reading `v` in 50 mV within `pct` % around a setting, otherwise free. -/
def near (v pct r : Nat) : Nat :=
  let lo := (v * (100 - pct) + 99) / 100
  lo + r % (v * (100 + pct) / 100 + 1 - lo)

/-- The rails of a channel are found at their setting, within its tolerance (R288): the readings themselves are free
values. -/
def State.railsUp (s : State) (g : Fin 26) : State :=
  let (p, s) := s.freeNat
  let (n, s) := s.freeNat
  s.takeRails g { vp := near (vpUnits (s.gate g).vp) 5 p, vn := near (vnUnits (s.gate g).vn) 10 n }

/-- The converter of a channel is switched on (R288, R461). -/
def State.railOn (s : State) (t : Nat) (g : Fin 26) : State :=
  let vp := s.get (Reg.GATE_CFG_VP (railCfg g))
  let vn := s.get (Reg.GATE_CFG_VN (railCfg g))
  s.updGate g fun x => { x with en := true, seenOk := false, vp := vp, vn := vn, vpOld := vp, vnOld := vn, enAt := t }

/-- The converter of a channel is switched off: RAILOK reads 0 and the undervoltage shown ends. -/
def State.railOff (s : State) (g : Fin 26) : State :=
  let s := s.updGate g fun x => { x with en := false, seenOk := false }
  s.sets [(Reg.GATE_STAT_RAILOK g, 0), (Reg.GATE_STAT_VPUV g, 0), (Reg.GATE_STAT_VNUV g, 0),
    (Reg.GATE_RAIL_VP g, 0), (Reg.GATE_RAIL_VN g, 0)]

/-- BOOT was written on a high side whose low side has its rails on (R298): its own converter goes off and its supply
follows the low side, or its converter takes over again (log entry 51). -/
def State.bootWritten (s : State) (g : Fin 26) (was : Bool) : State :=
  let lo := (partner g).getD g
  if !(s.gate lo).en then s
  else if s.bootFed g && !was then (s.railOff g).bootRails lo (s.bit (Reg.GATE_STAT_RAILOK lo))
  else if !s.bootFed g && was then (s.railOff g).railOn s.tide g
  else s

/-- RAIL_UNDERVOLTAGE of VP or VN (R289): the rail has lain below its threshold for 2 µs; the channel holds itself
off and raises GATE_UV. -/
def railUv (t : Nat) (g : Fin 26) (vp : Bool) (r : RailIn) (s : State) : State :=
  let s := s.upto t
  let seen := (s.gate g).seenOk
  let low := if vp then vpLow (s.uvCodes g).1 r.vp else vnLow (s.uvCodes g).2 r.vn
  let shown := if vp then Reg.GATE_STAT_VPUV g else Reg.GATE_STAT_VNUV g
  let on := s.chOn t g
  let s := s.takeRails g r
  if seen && low && !s.bootFed g && !s.bit shown then
    let s := if on then s.softOff t g else s
    let s := (s.set shown 1).incHold (Reg.GATE_CNT_UV g)
    (s.updHolds g fun h => { h with uv := true }).raiseGate t .gateUv g 1 t
  else s

def execRailUndervoltage (t : Nat) (c : ChanRails) (vp : Bool) (s : State) : Res := .next (railUv t c.g vp c.r s)

/-- BOOT_UNDERVOLTAGE of a bootstrap high side with the channel on (R299). -/
def bootUv (t : Nat) (g : Fin 26) (s : State) : State :=
  let s := s.upto t
  if s.bootFed g && s.chOn t g then
    let s := (s.softOff t g).set (Reg.GATE_STAT_BOOTUV g) 1
    let s := (s.incHold (Reg.GATE_CNT_UV g)).updHolds g fun h => { h with boot := true }
    s.raiseGate t .bootUv g 2 t (sev := if s.bit (Reg.GATE_CFG_BOOTREACT g) then 2 else 3)
  else s

def execBootUndervoltage (t : Nat) (g : Fin 26) (s : State) : Res := .next (bootUv t g s)

/-- GATE_SUPPLY_TIMEOUT: RAILOK not set within 5 ms of enable (R288). -/
def gateSupply (t : Nat) (g : Fin 26) (r : RailIn) (s : State) : State :=
  let s := (s.upto t).takeRails g r
  if (s.gate g).en && !(s.gate g).seenOk && decide ((s.gate g).enAt + 5 * Config.ms ≤ t) then
    (s.updHolds g fun h => { h with supply := true }).raiseGate t .gateSupply g 3 t
  else s

def execGateSupplyTimeout (t : Nat) (c : ChanRails) (s : State) : Res := .next (gateSupply t c.g c.r s)

/-- A gate rail of the X domain that did not come up within 5 ms of its enable in SELFTEST (R288, R464). -/
def State.railMissing (s : State) (t : Nat) (g : Fin 26) : State :=
  (s.updHolds g fun h => { h with supply := true }).raiseGate t .gateSupply g 3 t

/-- The gate rails of the X domain are enabled, where they are not yet: after a module restart they are (R467). -/
def State.enableX (s : State) (t : Nat) : State :=
  ([gBrk, gDsc] : List (Fin 26)).foldl (fun (s : State) g => if (s.gate g).en then s else s.railOn t g) s

/-- The gate rails of the X domain in SELFTEST: enabled, and `ok`: up within 5 ms (R288, R464). -/
def State.startX (s : State) (t : Nat) (ok : Bool) : State :=
  let s := s.enableX t
  ([gBrk, gDsc] : List (Fin 26)).foldl (fun (s : State) g =>
    if (s.gate g).seenOk then s else if ok then s.railsUp g else s.railMissing t g) s

/-- One 0.5 V step of a rail towards its setting. -/
def stepTo (x y : Nat) : Nat := if x < y then x + 1 else if y < x then x - 1 else x

/-- A rail takes its next step; where it reaches the setting, that is the one it rests at. -/
def Gate.stepRails (x : Gate) (vp vn : Nat) : Gate :=
  let p := stepTo x.vp vp
  let n := stepTo x.vn vn
  { x with vp := p, vn := n, vpOld := if p = vp then vp else x.vpOld, vnOld := if n = vn then vn else x.vnOld }

/-- RAIL_SETTING_STEP: a rail that moves to a new setting takes its next step, and is measured (R288). -/
def railStep (t : Nat) (g : Fin 26) (r : RailIn) (s : State) : State :=
  let s := s.upto t
  if (s.gate g).en then
    let vp := s.get (Reg.GATE_CFG_VP (railCfg g))
    let vn := s.get (Reg.GATE_CFG_VN (railCfg g))
    (s.updGate g fun x => x.stepRails vp vn).takeRails g r
  else s

def execRailSettingStep (t : Nat) (c : ChanRails) (s : State) : Res := .next (railStep t c.g c.r s)

/-! ### Isolator link (R290) -/

/-- COMMAND_FRAME_LOSS: the driver die turns its switch off by itself and holds it off; `back`: frames have resumed,
and the primary side lifts the hold unless it holds the channel for GATE_LINK itself (R290, log entry 51). -/
def commandLoss (t : Nat) (g : Fin 26) (back : Bool) (s : State) : State :=
  let s := s.upto t
  let s := if !back && s.chOn t g then s.softOff t g else s
  let s := s.updHolds g fun h => { h with die := if back then h.die && h.link else true }
  (s.updGate g fun x => { x with mute := !back }).heldChanged t g

def execCommandFrameLoss (t : Nat) (c : ChanFrames) (s : State) : Res := .next (commandLoss t c.g c.back s)

/-- STATUS_FRAME_LOSS: the primary side treats the channel as held off, LINKFAIL is set and GATE_LINK
raised (R290). -/
def statusLoss (t : Nat) (g : Fin 26) (s : State) : State :=
  let s := s.upto t
  let s := if s.chOn t g then s.softOff t g else s
  let s := (s.updHolds g fun h => { h with link := true }).set (Reg.GATE_STAT_LINKFAIL g) 1
  s.raiseGate t .gateLink g 3 t

def execStatusFrameLoss (t : Nat) (g : Fin 26) (s : State) : Res := .next (statusLoss t g s)

/-! ### Retry (R300, R301) -/

/-- Faults of a retry class. -/
def retryFaults : Fin 4 → List FName
  | 0 => [.gateDesat]
  | 1 => [.gateUv]
  | 2 => [.bootUv]
  | 3 => [.gateSupply, .gateLink]

/-- The cause of a gate fault is gone at the channel (R301); `frames`: status frames without a gap. -/
def State.gateGone (s : State) (g : Fin 26) (frames : Bool) : FName → Bool
  | .gateUv => !(s.fm.active.any fun a => a.name == .gateUv && a.src == 16 + g.val && a.cause)
  | .gateSupply => s.bit (Reg.GATE_STAT_RAILOK g)
  | .gateLink => frames
  | _ => !s.bit (Reg.GATE_STAT_SOFT g)

/-- A retry-pending fault that is due: cleared where its cause is gone, else it waits a further RETRY_WAIT (R300). -/
def State.retryOne (s : State) (t : Nat) (g : Fin 26) (c : Fin 4) (frames : Bool) (name : FName) : State :=
  if ((s.gate g).due[retrySlot name]).any fun d => decide (d ≤ t) then
    if s.gateGone g frames name then
      (s.updGate g fun x => { x with due := x.due.set (retrySlot name) none }).autoClear name (16 + g.val) 0
    else
      s.updGate g fun x =>
        { x with due := x.due.set (retrySlot name) (some (t + Config.ms * s.get (Reg.GATE_RETRY_WAIT c))) }
  else s

/-- RETRY_WAIT_EXPIRY: the retry-pending faults of class `c` are looked at, on the rails as measured and the status
frames. -/
def retryExpiry (t : Nat) (g : Fin 24) (c : Fin 4) (r : RailIn) (frames : Bool) (s : State) : State :=
  let g : Fin 26 := ⟨g.val, by omega⟩
  let s := (s.upto t).takeRails g r
  (((retryFaults c).foldl (fun s n => s.retryOne t g c frames n) s).gateBits g).settle t

def execRetryWaitExpiry (t : Nat) (g : Fin 24) (c : Fin 4) (r : RetryIn) (s : State) : Res :=
  .next (retryExpiry t g c r.r r.frames s)

/-- FAULT_CLEAR finds the cause of a gate fault gone (R107, R301): what the channel then shows of it. Readings of
which only that is known are free values. -/
def State.gateCauseGone (s : State) (name : FName) (g : Fin 26) : State :=
  match name with
  | .gateUv =>
    let (p, s) := s.freeNat
    let (n, s) := s.freeNat
    let (cp, cn) := s.uvCodes g
    let s := s.takeRails g
      { vp := max ((85 * vpUnits cp + 99) / 100 + 10) p, vn := max ((vnUnits cn + 1) / 2 + 10) n }
    s.causeGone .gateUv (16 + g) 0
  | .gateSupply => (s.railsUp g).causeGone .gateSupply (16 + g) 0
  | _ => s.causeGone name (16 + g) 0

/-! ### Adaptive drive (R292) -/

/-- The next step after a plateau time `tp` against target `tgt` (R292). -/
def adaptStep (tp tgt step lo hi : Nat) : Nat :=
  let band := max 1 (tgt / 16)
  if tgt + band < tp ∧ step < hi then step + 1
  else if tp + band < tgt ∧ lo < step then step - 1
  else step

/-- A plateau time lies beyond the band on the side of the limit step in use: the side, above or not (R292). -/
def atLimit (tp tgt step lo hi : Nat) : Option Bool :=
  let band := max 1 (tgt / 16)
  if step = hi ∧ tgt + band < tp then some true
  else if step = lo ∧ tp + band < tgt then some false
  else none

/-- The count of events at a limit on one side, after `k` on the side `up` (R292). -/
def limitCount (k : Nat) (up : Bool) : Option Bool → Nat
  | some side => if side = up then k + 1 else 1
  | none => 0

/-- PLATEAU_MEASURED of a switching event in PWM mode of an adaptive channel: `tp` in ns, none where
no plateau was detected (R292). -/
def plateau (t : Nat) (g : Fin 24) (on : Bool) (tp : Option Nat) (s : State) : State :=
  let s := s.upto t
  let g : Fin 26 := ⟨g.val, by omega⟩
  match legOfGate g with
  | none => s
  | some l =>
    if s.bit (Reg.GATE_CFG_MODE g) && s.outMode (s.axisOfLeg l) == .pwm && !s.bit (Reg.GATE_STAT_SOFT g) then
      let s := s.gateReport t g (if on then 0 else 1) (tp.map (Nat.min 1023))
        (some (s.get (if on then Reg.GATE_STEP_SRC g else Reg.GATE_STEP_SNK g)))
      match tp with
      | none => s.incHold (Reg.GATE_CNT_NOPL g)
      | some v =>
        let v := min 1023 v
        let fstep := if on then Reg.GATE_STEP_SRC g else Reg.GATE_STEP_SNK g
        let lo := s.get (if on then Reg.GATE_ADAPT_SRCMIN g else Reg.GATE_ADAPT_SNKMIN g)
        let hi := s.get (if on then Reg.GATE_ADAPT_SRCMAX g else Reg.GATE_ADAPT_SNKMAX g)
        let tgt := s.get (if on then Reg.GATE_TGT_TON g else Reg.GATE_TGT_TOFF g)
        let step := s.get fstep
        let lim := atLimit v tgt step lo hi
        let k := if on then limitCount (s.gate g).limOn (s.gate g).upOn lim
          else limitCount (s.gate g).limOff (s.gate g).upOff lim
        let full := decide (k = 1024)
        let s := s.sets [(if on then Reg.GATE_TP_TPON g else Reg.GATE_TP_TPOFF g, v),
          (fstep, adaptStep v tgt step lo hi)]
        let k := if full then 0 else k
        let up := lim.getD false
        let s := s.updGate g fun x =>
          if on then { x with limOn := k, upOn := up } else { x with limOff := k, upOff := up }
        if full then (s.incHold (Reg.GATE_CNT_LIMIT g)).raise .gateAdaptLimit (16 + g) 0 t else s
    else s

def execPlateauMeasured (t : Nat) (g : Fin 24) (on : Bool) (tp : Option Nat) (s : State) : Res :=
  .next (plateau t g on tp s)

/-- The channel logic blocks a leg: each channel keeps the state it held (R297). -/
def State.blockLeg (s : State) (t : Nat) (l : Fin 12) : State :=
  if (s.leg l).block.isSome then s
  else
    let b := (s.legOn t l true, s.legOn t l false)
    s.updLeg l fun g => { g with block := some b }

/-- The commands of a leg no longer ask for both: its channels follow them again, and a change of state is a
switching event (R297). -/
def State.freeLeg (s : State) (t : Nat) (l : Fin 12) : State :=
  let v := s.updLeg l fun g => { g with block := none }
  ([hiCh l, loCh l] : List (Fin 26)).foldl (fun (v : State) g =>
    let on := v.chOn t g
    if s.chOn t g == on then v
    else
      let v := if on then v.updGate g fun x => { x with onAt := max x.onAt t } else v
      v.gateReport t g (if on then 0 else 1)) v

/-- CHANNEL_LOGIC_SHOOT_THROUGH: the channel logic blocks a command for both channels of a leg and
raises XCMD (R297), latched (R302); its cause is gone when the commands no longer ask for both. -/
def shootThrough (t : Nat) (l : Fin 12) (both : Bool) (s : State) : State :=
  let s := (s.upto t).drive (32 * t)
  if both then
    let s := s.blockLeg t l
    ((s.set (Reg.GATE_XCMD_BIT l) 1).raise .xcmd (16 + 2 * l) 0 t (latched := true)).gateBits (hiCh l)
  else (s.freeLeg t l).causeGone .xcmd (16 + 2 * l) 0

def execChannelLogicShootThrough (t : Nat) (a : LegAsked) (s : State) : Res := .next (shootThrough t a.l a.both s)

/-! ### Channel status as read (R293, R311) -/

/-- The Miller clamp is engaged: off with the rails up and no two-level turn-off (R293). -/
def State.clampOn (s : State) (g : Fin 26) : Bool :=
  s.bit (Reg.GATE_CFG_CLAMPEN g) && (s.gate (s.feeder g)).en && (s.gate (s.feeder g)).seenOk && !s.chOn s.tide g &&
    !s.bit (Reg.GATE_STAT_SOFT g)

/-! ### Causes found gone (R107, R301, R335) -/

/-- The end of a cause that an event or another command of this model reports; every other cause is found gone
when FAULT_CLEAR looks (log entry 35). -/
def reportedCause : FName → Bool
  | .dcUv1 | .dcUv2 | .dcOv2 | .dcOv3 | .brkFail | .brkLoad | .fbEncFail | .fbHallFail | .fbResAmp | .fbResLock
  | .fbSsiFrame | .obsLost | .gateDesat | .bootUv | .xcmd | .offstateFail | .pathCheckFail | .gtrip
  | .tripIn | .moorPeerLost | .pwrLoss | .pwrShed | .thFault | .thShutdown | .thLatched | .vhvFail
  | .adcRefFail | .acUserStop => true
  | n => (fnCodes n).1 == 10

/-- Causes found gone: name, source and instance. -/
def State.foundGone (s : State) (gone : List (FName × Nat × Nat)) : State :=
  gone.foldl (fun (s : State) x =>
    if reportedCause x.1 then s
    else if 16 ≤ x.2.1 ∧ x.2.1 ≤ 41 ∧ (fnCodes x.1).1 = 7 then s.gateCauseGone x.1 (Fin.ofNat 26 (x.2.1 - 16))
    else (s.causeGone x.1 x.2.1 x.2.2).portCauseGone x.1 x.2.1) s

/-- What a clear under way finds of the causes that no event reports: as its row says, or as each is found, a free
value (R107, R338; log entry 35). -/
def State.findGone (s : State) : State :=
  match s.fm.found with
  | some gone => s.foundGone gone
  | none => s.fm.active.foldl (fun (s : State) (a : Active) =>
      if a.cause && !reportedCause a.name then
        let (v, s) := s.freeNat
        if v % 2 = 1 then s.foundGone [(a.name, a.src, a.inst)] else s
      else s) s

/-- FAULT_CLEAR is not accepted before the PLL is locked again (R21). -/
def State.clearWaits (s : State) : Bool := s.bw.pllStop && !s.bit Reg.TIDE_STATUS_LOCK

end Sys2Proof.Machine
end

