-- ==== Sys2Proof/Machine/Thermal.lean ====
section
/-! DEFINITION. The thermal manager (R326-R330): governing sensors, throttle levels, TH_FAULT, the
hardware comparators and the thermal restart. -/

namespace Sys2Proof.Machine

/-- HK channels that carry temperatures. -/
def thermalChannels : List (Fin 44) := List.ofFn id

/-- Register of the thresholds of a channel (R326). -/
def thrReg (c : Fin 44) : Nat :=
  if c.val < 8 then Reg.BW_THDIE else if c.val < 12 then Reg.BW_THMOD
  else if c.val < 36 then Reg.BW_THNTC else Reg.BW_THTP (c.val - 36)

/-- WARN, FAULT and HYST of a channel in °C. -/
def State.thWarn (s : State) (c : Fin 44) : Nat := wordGet (s.reg (thrReg c)) 0 8
def State.thFault (s : State) (c : Fin 44) : Nat := wordGet (s.reg (thrReg c)) 8 8
def State.thHyst (s : State) (c : Fin 44) : Nat := wordGet (s.reg (thrReg c)) 16 8

/-- Axes a sensor governs (R326). -/
def State.governs (s : State) (c : Fin 44) : BitVec 4 :=
  if c.val < 12 then 15
  else if c.val < 36 then axisMask (s.axisOfLeg (Fin.ofNat 12 ((c.val - 12) / 2)))
  else BitVec.ofNat 4 (s.get (Reg.BW_THTP_AXES (c.val - 36)))

/-- Governing reading of a channel lies above a level. -/
def State.above (s : State) (c : Fin 44) (level : Int) : Bool := qLt (qInt level) (bfVal s.temps[c])

/-- One sensor after a slow round: TH_WARN (R327), and TH_FAULT where the sensor governs an axis (R328). -/
def State.sensorRound (t : Nat) (s : State) (c : Fin 44) : State :=
  let warn : Int := s.thWarn c
  let fault : Int := s.thFault c
  let hyst : Int := s.thHyst c
  let wasW := s.bw.warned[c]
  let wasH := s.bw.hot[c]
  let nowW := s.above c warn || (wasW && s.above c (warn - hyst))
  let nowH := s.governs c != 0 && (s.above c fault || (wasH && s.above c (fault - hyst)))
  let s := s.updBw fun b => { b with warned := b.warned.set c nowW, hot := b.hot.set c nowH }
  let s := if nowW && !wasW then s.raise .thWarn 4 c t (axes := s.governs c) else s
  if nowH && !wasH then s.raise .thFault 4 c t (axes := s.governs c) else s

/-- Every on-die sensor lies below 130 °C and every module-internal one below 105 °C (R329). -/
def State.allCool (s : State) : Bool :=
  thermalChannels.all fun c =>
    decide (12 ≤ c.val) || qLt (bfVal s.temps[c]) (qInt (if c.val < 8 then 130 else 105))

/-- What the thermal manager does with the values of a slow round (R327, R328); COOL follows them (R329, log
entry 49). -/
def State.thermalRound (s : State) (t : Nat) : State :=
  let s := thermalChannels.foldl (State.sensorRound t) s
  let s := if s.bw.hot.toList.any id then s else s.causeGone .thFault 4 0
  let s := s.setB Reg.BW_THSTAT_COOL s.allCool
  s.eachAxis fun (s : State) (n : Fin 4) =>
    let warm := thermalChannels.any fun c =>
      (s.governs c).getLsbD n.val && s.above c ((s.thWarn c : Int) - s.thHyst c)
    s.updBw fun b => { b with thrCool := b.thrCool.set n (if warm then none else some (b.thrCool[n].getD t)) }

/-- An axis takes throttle level `l` (R327): entry 205 and `BW_AXSTATn.THRLVL`. -/
def State.setThrottle (s : State) (t : Nat) (n : Fin 4) (l : Nat) : State :=
  if s.get (Reg.BW_AXSTAT_THRLVL n) = l then s
  else
    let s := s.updEng n fun e => { e with port := stoPut e.port 205 (bfRound ⟨l, 16⟩) 0 }
    (s.set (Reg.BW_AXSTAT_THRLVL n) l).updBw fun b => { b with thrAt := b.thrAt.set n t }

/-- THERMAL_DWELL: every DWELL each axis's level falls, rises or holds (R327). -/
def thermalDwell (t : Nat) (s : State) : State :=
  (s.upto t).eachAxis fun (s : State) (n : Fin 4) =>
    let l := s.get (Reg.BW_AXSTAT_THRLVL n)
    let mine := thermalChannels.filter fun c => (s.governs c).getLsbD n.val
    if mine.any fun c => s.above c (s.thWarn c) then s.setThrottle t n (max 4 (l - 1))
    else if s.bw.thrCool[n].any (fun c =>
          decide (max s.bw.thrAt[n] c + 4 * Config.ms * s.get Reg.BW_THCFG_DWELL ≤ t)) &&
        !(mine.any fun c => s.above c ((s.thWarn c : Int) - s.thHyst c)) then
      s.setThrottle t n (min 16 (l + 1))
    else s

def execThermalDwell (t : Nat) (s : State) : Res := .next (thermalDwell t s)

/-! ### Comparators and restart (R329, R330) -/

/-- Thermal restarts within the last 60 minutes (R330). -/
def State.recentRestarts (s : State) (t : Nat) : List Nat :=
  s.bw.restarts.filter fun r => decide (t < r + 3600 * Config.sec)

/-- What each axis was in when the shutdown came (R330). The validity of its setpoint runs on. -/
def State.noteTherm (s : State) (n : Fin 4) : State :=
  s.updAxis n fun a => { a with preTherm := some a.st, preAsc := a.holdAsc, expired := false }

/-- What a trip of a comparator raises (R329, R330): the fault of the shutdown that stands, and a shutdown that
would need a fourth restart within 60 minutes raises TH_LATCHED instead. -/
def State.tripName (s : State) (t : Nat) : FName :=
  if s.isActive .thShutdown 4 then .thShutdown
  else if s.isActive .thLatched 4 then .thLatched
  else if s.bit Reg.BW_THCFG_AUTORST && decide (3 ≤ (s.recentRestarts t).length) then .thLatched
  else .thShutdown

/-- THERMAL_COMPARATOR_TRIP of an on-die (`die`) or module-internal comparator (R329, R330). -/
def thermalTrip (t : Nat) (die : Bool) (s : State) : State :=
  let s := s.upto t
  let s := s.sets [(if die then Reg.BW_THSTAT_DIE else Reg.BW_THSTAT_MOD, 1), (Reg.BW_THSTAT_COOL, 0)]
  let name := s.tripName t
  if s.isActive name 4 then s.raise name 4 0 t
  else
    let exps := s.axes.toList.map (·.expiry)
    let s := (s.eachAxis State.noteTherm).raise name 4 0 t
    s.eachAxis fun (s : State) (n : Fin 4) =>
      s.updAxis n fun a => if a.preTherm = some .run then { a with expiry := (exps[n.val]?).getD none } else a

def execThermalComparatorTrip (t : Nat) (die : Bool) (s : State) : Res := .next (thermalTrip t die s)

/-- One axis at the thermal restart (R330). -/
def State.restartAxis (t : Nat) (s : State) (n : Fin 4) : State :=
  let a := s.axis n
  let other := (s.faultsOn n).any fun f => decide (3 ≤ f.sev)
  if a.st ≠ .fault ∨ other ∨ a.safeHeld then s
  else
    let done (s : State) : State := s.updAxis n fun a => { a with preTherm := none, expired := false }
    match a.preTherm with
    | none | some .fault => done s
    | some .run =>
      if a.expired || a.expiry.any (fun e => decide (e ≤ t)) then
        (done (s.expireToHold n)).raise .cmdTimeout 1 n t
      else
        let e := a.expiry
        (s.enterClosed n .run).updAxis n fun a => { a with expiry := e }
    | some .tune => done (s.moveAxis n .ready)
    | some st => done (s.moveAxis n st a.preAsc)

/-- THERMAL_RESTART: TH_SHUTDOWN clears itself and the axes return to their former states (R330). -/
def State.thermalRestart (s : State) (t : Nat) : State :=
  let s := s.autoClear .thShutdown 4 0
  let s := s.updBw fun b => { b with restarts := t :: s.recentRestarts t }
  (s.eachAxis (State.restartAxis t)).settle t

/-- THERMAL_COOLDOWN: every comparator has lain below its reset level for 2 s (R329). -/
def thermalCool (t : Nat) (s : State) : State :=
  let s := (s.upto t).sets [(Reg.BW_THSTAT_COOL, 1), (Reg.BW_THSTAT_DIE, 0), (Reg.BW_THSTAT_MOD, 0)]
  let s := (s.causeGone .thShutdown 4 0).causeGone .thLatched 4 0
  if s.isActive .thShutdown 4 && s.bit Reg.BW_THCFG_AUTORST then s.thermalRestart t else s

def execThermalCooldown (t : Nat) (s : State) : Res := .next (thermalCool t s)

end Sys2Proof.Machine
end

