-- ==== Sys2Proof/Machine/Breakwater.lean ====
section
/-! DEFINITION. Breakwater's inputs (R323-R325), the arrival of faults from other blocks (R336). -/

namespace Sys2Proof.Machine

/-! ### Trip inputs (R283, R323) -/

/-- TRIP_IN of input `k` (R323): its fault, and GTRIP under GTOUT. -/
def State.tripIn (s : State) (t first : Nat) (k : Fin 8) : State :=
  if s.bit (Reg.PWM_TRIP_EN k) then
    let s := s.raise .tripIn 5 k first (axes := BitVec.ofNat 4 (s.get (Reg.BW_TRIPR_AXES k)))
      (sev := s.get (Reg.BW_TRIPR_SEV k)) (inst := k)
    if s.bit (Reg.BW_TRIPR_GTOUT k) then
      s.driveGtrip t fun b => { b with gtTrip := b.gtTrip ||| BitVec.ofNat 8 (2 ^ k.val) }
    else s
  else s

/-- The cause of TRIP_IN of input `k` is gone (R323). -/
def State.tripOut (s : State) (k : Fin 8) : State :=
  (s.causeGone .tripIn 5 k).updBw fun b =>
    { b with gtTrip := b.gtTrip &&& ~~~BitVec.ofNat 8 (2 ^ k.val) }

/-- Ticks of an interval `[a, b)` that lie in a blanking window of the input (R283). -/
def State.blanked (s : State) (k : Fin 8) (a b : Nat) : Nat :=
  let len := s.get (Reg.PWM_TRIP_BLANK k)
  (s.bw.trips[k]).wins.foldl (fun n o => n + (min b (o + len) - max a o)) 0

/-- The input has counted FILT + 1 unblanked ticks of one run: its level has stood at the pin since `first`, and two
ticks later behind the synchroniser (R283). -/
def State.tripCounted (s : State) (t : Nat) (k : Fin 8) (first : Nat) : Bool :=
  decide (first + 2 + s.get (Reg.PWM_TRIP_FILT k) + 1 + s.blanked k (first + 2) t ≤ t)

/-- TRIP_ACCEPTED: input `k` is accepted active; the event is stamped at the first tick of the accepted run (R283,
R284). -/
def tripAccepted (t : Nat) (k : Fin 8) (first : Nat) (high : Bool) (s : State) : State :=
  let s := (s.upto t).drive (32 * t)
  if high == s.bit (Reg.PWM_TRIP_POL k) && s.tripCounted t k first then
    (s.sets [(Reg.PWM_TRIP_LEVEL k, 1), (Reg.PWM_TRIP_SEEN k, 1)]).tripIn t first k
  else s

def execTripAccepted (t : Nat) (k : Fin 8) (pin : PinIn) (s : State) : Res :=
  .next (tripAccepted t k pin.first pin.high s)

/-- TRIP_INACTIVE: input `k` is accepted inactive (R283, R323). -/
def tripInactive (t : Nat) (k : Fin 8) (first : Nat) (high : Bool) (s : State) : State :=
  let s := (s.upto t).drive (32 * t)
  if high != s.bit (Reg.PWM_TRIP_POL k) && s.tripCounted t k first then
    (s.set (Reg.PWM_TRIP_LEVEL k) 0).tripOut k
  else s

def execTripInactive (t : Nat) (p : TripPin) (s : State) : Res :=
  .next (tripInactive t p.k p.pin.first p.pin.high s)

/-- An accepted write of `PWM_TRIPk` with the input active raises or ends TRIP_IN (R323, log entry
10). -/
def State.tripWritten (s : State) (t : Nat) (k : Fin 8) (wasEn : Bool) : State :=
  let en := s.bit (Reg.PWM_TRIP_EN k)
  if s.bit (Reg.PWM_TRIP_LEVEL k) then
    if en && !wasEn then s.tripIn t t k
    else if !en && wasEn then s.tripOut k
    else s
  else s

/-! ### STO inputs (R324) -/

/-- A channel of a pair takes a level at `t`; `win` is the pair's discrepancy time in ticks (R347,
R348). -/
def LkPair.level (p : LkPair) (second lv : Bool) (t win : Nat) : LkPair :=
  let rose := lv && !(if second then p.b else p.a)
  let p := if second then { p with b := lv, riseB := if rose then t else p.riseB }
    else { p with a := lv, riseA := if rose then t else p.riseA }
  let p := { p with diff := if p.a = p.b then none else some (p.diff.getD t) }
  if !p.a || !p.b then { p with need := true, bothLow := p.bothLow || (!p.a && !p.b) }
  else if p.bothLow then
    { p with need := false, bothLow := false
             edge := p.edge || decide (p.riseA ≤ p.riseB + win ∧ p.riseB ≤ p.riseA + win) }
  else p

/-- Lookout watches the STO pair (R347, R367): a low level needs a cycle of the pair and an
acknowledge; the pair passes its demand state until both are high. -/
def State.watchSto (s : State) (t : Nat) (b lv : Bool) : State :=
  { s with lk :=
      { s.lk with
        sto := s.lk.sto.level b lv t 0
        tested := if lv && s.lk.sto.a && s.lk.sto.b then s.lk.tested else s.lk.tested.set 4 t
        ax := if lv then s.lk.ax else s.lk.ax.map fun a => { a with hw := true } } }

/-- STOA (`b` false) or STOB has been low for 400 ticks: every axis takes its STO safe state. -/
def stoLow (t : Nat) (b : Bool) (s : State) : State :=
  let s := (s.upto t).set (if b then Reg.BW_STATUS_STOB else Reg.BW_STATUS_STOA) 0
  let s := s.updBw fun w => { w with sto := true }
  (s.watchSto t b false).settle t

def execStoInputLow (t : Nat) (b : Bool) (s : State) : Res := .next (stoLow t b s)

/-- STOA or STOB has been high for 400 ticks: the demand lifts once both are (R324). -/
def stoHigh (t : Nat) (b : Bool) (s : State) : State :=
  let s := (s.upto t).set (if b then Reg.BW_STATUS_STOB else Reg.BW_STATUS_STOA) 1
  let both := s.bit Reg.BW_STATUS_STOA && s.bit Reg.BW_STATUS_STOB
  let s := s.updBw fun w => { w with sto := w.sto && !both }
  (s.watchSto t b true).settle t

def execStoInputHigh (t : Nat) (b : Bool) (s : State) : Res := .next (stoHigh t b s)

/-! ### GTRIP (R325) -/

/-- GTRIP_LINE_LOW: the line has been low for 400 ticks. A module that drives it raises its own fault
only. -/
def gtripLow (t : Nat) (s : State) : State :=
  let s := (s.upto t).sets [(Reg.BW_GTRIP_LEVEL, 0), (Reg.BW_GTRIP_SEEN, 1)]
  if s.bit Reg.BW_GTRIP_EN && !s.bit Reg.BW_GTRIP_DRIVE then
    s.raise .gtrip 54 0 t (axes := 15) (sev := s.get Reg.BW_GTRIP_INSEV)
  else s

def execGtripLineLow (t : Nat) (s : State) : Res := .next (gtripLow t s)

/-- GTRIP_LINE_HIGH: the line has been high for 1 ms; the cause of GTRIP is gone. -/
def gtripHigh (t : Nat) (s : State) : State :=
  ((s.upto t).set Reg.BW_GTRIP_LEVEL 1).causeGone .gtrip 54 0

def execGtripLineHigh (t : Nat) (s : State) : Res := .next (gtripHigh t s)

/-- GTRIP_DRIVE_RELEASE: the line is released once no cause stands and 10 µs are over. -/
def gtripRelease (t : Nat) (s : State) : State :=
  let s := s.upto t
  let b := s.bw
  if b.gt5 || b.gtOv3 || b.gtTrip != 0 || decide (t < b.gtAt + 4000) then s
  else s.set Reg.BW_GTRIP_DRIVE 0

def execGtripDriveRelease (t : Nat) (s : State) : Res := .next (gtripRelease t s)

/-! ### Arrival of faults (R336) and views (R65) -/

/-- Retry class of a gate fault (R300). -/
def retryClass : FName → Option (Fin 4)
  | .gateDesat => some 0
  | .gateUv => some 1
  | .bootUv => some 2
  | .gateSupply | .gateLink => some 3
  | _ => none

/-- Faults that are latched as they come (R302). -/
def fnLatched : FName → Bool
  | .xcmd | .brkFail | .brkLoad => true
  | _ => false

/-- FAULT_ARRIVAL: a fault or warning from a block reaches the fault manager (R336, R337). Lookout
counts the ECC errors it corrects (R343). -/
def faultArrival (t : Nat) (f : FaultIn) (s : State) : State :=
  let s := s.upto t
  match retryClass f.name with
  | some c =>
    if 16 ≤ f.src ∧ f.src ≤ 41 then s.raiseGate t f.name (Fin.ofNat 26 (f.src - 16)) c f.stamp (sev := f.sev)
        (epoch := some f.epoch)
    else s.raiseFull f 0 false false
  | none =>
    let s := if f.name = .lkEccCorr then s.incHold Reg.LOOKOUT_SELFTEST_ECCCORR else s
    s.raiseFull f 0 (fnLatched f.name) false

def execFaultArrival (t : Nat) (f : FaultIn) (s : State) : Res := .next (faultArrival t f s)

end Sys2Proof.Machine
end

