-- ==== Sys2Proof/Machine/Berths.lean ====
section
/-! DEFINITION. Cores, interrupt lines, memory, the flash berth, berths, bollards and the lottery
arbiters (R395-R416). -/

namespace Sys2Proof.Machine

/-! ### Bollards (R408-R412) -/

/-- A read of `BERTH_Kk` by `req` (R408): a free bollard is claimed and reads 0, an owned one reads
its owner. -/
def State.claimBollard (s : State) (req : Nat) (k : Fin 16) : State × Word :=
  let o := s.get (Reg.BERTH_KOWN_OWNER k)
  (if o = 0 then s.set (Reg.BERTH_KOWN_OWNER k) req else s, BitVec.ofNat 32 o)

/-- A write of `BERTH_Kk` by `req` (R409). -/
def State.putBollard (s : State) (req : Nat) (k : Fin 16) (w : Word) : State :=
  if w = 0 ∧ s.get (Reg.BERTH_KOWN_OWNER k) = req ∧ req ≠ 0 then s.set (Reg.BERTH_KOWN_OWNER k) 0
  else s.incHold (Reg.BERTH_KOWN_BADWR k)

/-- The bollard `k` is freed without its owner (R412). -/
def State.freeBollard (s : State) (t : Nat) (k : Fin 16) : State :=
  let o := s.get (Reg.BERTH_KOWN_OWNER k)
  if o = 0 then s
  else (s.set (Reg.BERTH_KOWN_OWNER k) 0).raise .bollardFreed 56 (k + 256 * o) t

/-- Every bollard whose owner `p` names is freed (R412). -/
def State.freeBollards (s : State) (t : Nat) (p : Nat → Bool) : State :=
  [0, 1, 2, 3, 4, 5, 6, 7, 8, 9, 10, 11, 12, 13, 14, 15].foldl
    (fun (s : State) (k : Fin 16) => if p (s.get (Reg.BERTH_KOWN_OWNER k)) then s.freeBollard t k else s) s

/-- A write of `BERTH_KFREE` (R412). -/
def State.kfreeWritten (s : State) (t : Nat) (w : Word) : State :=
  [0, 1, 2, 3, 4, 5, 6, 7, 8, 9, 10, 11, 12, 13, 14, 15].foldl
    (fun (s : State) (k : Fin 16) => if w.getLsbD k then s.freeBollard t k else s) s

/-! ### Cores (R396, R397, R399) -/

/-- `mtime` (R396). -/
def State.mtime (s : State) : Nat := s.tide / 16

/-- The compare value of a core's timer (R396). -/
def State.mtimecmp (s : State) (r : Fin 4) : Nat :=
  (s.reg (Reg.BERTH_TCMPH r)).toNat * 2 ^ 32 + (s.reg (Reg.BERTH_TCMPL r)).toNat

def State.updCore (s : State) (r : Fin 4) (f : Core → Core) : State :=
  { s with cores := s.cores.set r (f s.cores[r]) }

/-- The machine timer interrupt follows `mtime` and its compare value (R396). -/
def State.timerLevel (s : State) (r : Fin 4) : State :=
  s.updCore r fun c => { c with mtip := decide (s.mtimecmp r ≤ s.mtime) }

/-- MACHINE_TIMER_INTERRUPT (R396). -/
def execMachineTimerInterrupt (t : Nat) (r : Fin 4) (s : State) : Res := .next ((s.upto t).timerLevel r)

/-- `BERTH_ACCTLr.RUN` has been written (R397): a start is in M mode, with the core's own registers at their reset
values. -/
def State.runWritten (s : State) (t : Nat) (r : Fin 4) (was : Bool) : State :=
  let run := s.bit (Reg.BERTH_ACCTL_RUN r)
  if run && !was then
    s.updCore r fun c => { mtip := c.mtip, since := some t, boot := (s.reg (Reg.BERTH_ACBOOT r)).toNat * 256 }
  else if !run && was then
    (s.updCore r fun c => { mtip := c.mtip, boot := c.boot }).freeBollards t fun o => o == r.val + 1
  else s

/-- A write of `BERTH_ACFLT` by a core (R399): AC_USER_STOP has its cause gone as soon as it is
raised. -/
def State.acFault (s : State) (t : Nat) (w : Word) (req : Nat) : State :=
  if w.getLsbD 31 then
    (s.raise .acUserStop 57 (w.toNat % 2 ^ 31) t (req := req)).causeGone .acUserStop 57 0
  else s.raise .acUserWarn 57 (w.toNat % 2 ^ 31) t (req := req)

/-! ### Interrupt lines (R398) -/

/-- A flag register of a block has a pending bit that its enable passes. -/
def State.irqOn (s : State) (a : Nat) : Bool :=
  let w := (s.reg a).toNat
  w % 65536 &&& w / 65536 != 0

/-- The released entries of the fault queue (R65, R337): what `BW_FQSTAT.COUNT` counts. -/
def State.fqView (s : State) : List Entry :=
  s.fm.queue.filter fun e => s.released e.epoch e.stamp

/-- Line `i` of the core whose requester number is `req` is pending (R398). -/
def State.line (s : State) (req i : Nat) : Bool :=
  if i < 32 then s.get (Reg.BERTH_CFG_RECEIVER i) == req && s.bit (Reg.BERTH_STAT_FULL i)
  else if i < 36 then s.irqOn (Reg.PWM_IRQ (i - 32))
  else if i < 40 then s.irqOn (Reg.FBK_IRQ (i - 36))
  else if i = 40 then s.irqOn Reg.ETH_IRQ
  else if i < 45 then s.irqOn (Reg.CAN_IRQ (i - 41))
  else if i = 45 then s.irqOn Reg.LOGB_IRQ
  else if i = 46 then s.irqOn Reg.PERF_IRQ
  else if i = 47 then s.irqOn Reg.MOOR_IRQ
  else if i = 48 then s.irqOn Reg.PWR_IRQ
  else if i = 49 then !s.fqView.isEmpty
  else false

/-- Lines `lo`-`lo + 31` of core `r` (r = 4 the supervisor core) as `BERTH_IPENDLr` and
`BERTH_IPENDHr` show them. -/
def State.ipend (s : State) (r lo : Nat) : Word :=
  (List.range 32).foldl (fun w i => if s.line (r + 1) (lo + i) then w ||| (1#32 <<< i) else w) 0

/-- The machine external interrupt of core `r` (R398). -/
def State.extInt (s : State) (r : Nat) : Bool :=
  (s.ipend r 0 &&& s.reg (Reg.BERTH_IENL r)) != 0 || (s.ipend r 32 &&& s.reg (Reg.BERTH_IENH r)) != 0

/-! ### Memory (R400, R401) -/

/-- Bytes `a` to `a + n - 1` lie in the shared SRAM or the general DRAM that a requester may use
(R400); under `LOGB_CTL.EN` the staging area is the Logbook's. -/
def State.plainMem (s : State) (a n : Nat) : Bool :=
  (0x10000000 ≤ a && a + n ≤ (if s.bit Reg.LOGB_CTL_EN then 0x10380000 else 0x10400000)) ||
  (0x80000000 ≤ a && a + n ≤ 0x25C000000)

/-- The Logbook region while the Logbook is in use (R400, R417). -/
def State.inLogRegion (s : State) (a n : Nat) : Bool :=
  let b := s.get Reg.LOGB_BASE_BASE * 2 ^ 20
  s.bit Reg.LOGB_CTL_EN && decide (a < b + s.get Reg.LOGB_SIZE_MIB * 2 ^ 20 ∧ b < a + n)

/-- Memory that software may have Harbourmaster write. -/
def State.writableMem (s : State) (a n : Nat) : Bool := s.plainMem a n && !s.inLogRegion a n

/-- PATROL_SCRUB_READ: the scrubber reads the word or block at `addr` (R401): no error, a corrected
one, or an uncorrectable one, which every read of it meets until the scrubber finds it sound again. -/
def patrolScrub (t addr : Nat) (kind : Fin 3) (s : State) : State :=
  let s := s.upto t
  let others := s.ecc.filter (· != eccUnit addr)
  match kind with
  | 0 => { s with ecc := others }
  | 1 => State.eccCorr { s with ecc := others } t addr
  | 2 => State.eccFatal { s with ecc := eccUnit addr :: others } t addr

def execPatrolScrubRead (t addr : Nat) (kind : Fin 3) (s : State) : Res := .next (patrolScrub t addr kind s)

/-! ### Berths (R404-R407) -/

/-- A word of the message by the sender (R405). -/
def State.berthSend (s : State) (b : Fin 32) (i : Fin 16) (w : Word) : State :=
  if s.bit (Reg.BERTH_STAT_FULL b) then
    (s.set (Reg.BERTH_STAT_DROP b) 1).incHold (Reg.BERTH_STAT_DROPS b)
  else
    let s := s.setReg (Reg.BERTH_MSG b i) w
    if i = 15 then s.set (Reg.BERTH_STAT_FULL b) 1 else s

/-- The receiver's read of offset 0x3C (R406). -/
def State.berthTake (s : State) (b : Fin 32) : State := s.set (Reg.BERTH_STAT_FULL b) 0

/-- `BERTH_CFGb` has been written (R407): a changed configuration discards a held message. -/
def State.berthConfigured (s : State) (b : Nat) (old : Word) : State :=
  let m : Word := 0x17F7F
  if old &&& m ≠ s.reg (Reg.BERTH_CFG b) &&& m ∧ s.bit (Reg.BERTH_STAT_FULL b)
  then s.set (Reg.BERTH_STAT_FULL b) 0 else s

/-- The message of a berth, 64 bytes (R404; memory byte order of R11). -/
def State.berthBytes (s : State) (b : Nat) : List Byte :=
  (List.range 16).flatMap fun i => leBytes 4 (s.reg (Reg.BERTH_MSG b i)).toNat

/-- Little-endian field of a descriptor. -/
def leAt (l : List Byte) (o n : Nat) : Nat := leNat ((l.drop o).take n)

/-- Harbourmaster, as sender, puts a message of 64 bytes into a berth (R89, R405). -/
def State.berthMessage (s : State) (b : Fin 32) (m : List Byte) : State :=
  [0, 1, 2, 3, 4, 5, 6, 7, 8, 9, 10, 11, 12, 13, 14, 15].foldl
    (fun (s : State) (i : Fin 16) => s.berthSend b i (BitVec.ofNat 32 (leAt m (4 * i.val) 4))) s

/-! ### Flash berth (R403) -/

/-- Start and size of the user program store (R402). -/
def storeBase : Nat := 0x61800000
def storeSize : Nat := 40896 * 1024

/-- Descriptor offset of the first failing field (R403). -/
def State.badFlash (s : State) (d : List Byte) : Option Nat :=
  let op := leAt d 0 1
  let off := leAt d 4 4
  let src := leAt d 8 8
  let len := leAt d 16 4
  let unit := if op = 1 then 65536 else 256
  let size := if op = 1 then 65536 else len
  let bad : List (Bool × Nat) :=
    [(op != 1 && op != 2, 0), (leAt d 1 3 != 0, 1),
     (off % unit != 0 || decide (storeSize < off + size), 4),
     (op == 2 && !s.plainMem src len, 8),
     (if op = 1 then len != 0 else len % 256 != 0 || decide (len < 256) || decide (65536 < len), 16),
     (leAt d 20 4 != 0, 20),
     (leAt d 24 8 % 8 != 0 || !s.writableMem (leAt d 24 8) 8, 24), (leAt d 32 32 != 0, 32)]
  (bad.find? (·.1)).map (·.2)

/-- The 8-byte completion of a descriptor, where its address can be written. -/
def State.flashDone (s : State) (at_ : Nat) (detail : Option Nat) (off : Nat) : State :=
  let s := if s.writableMem at_ 8 ∧ at_ % 8 = 0 then
      s.setBytes at_ ([if detail.isSome then 0x15 else 0, 0] ++ leBytes 2 (detail.getD 0) ++ leBytes 4 off)
    else s
  s.berthTake 8

/-- FLASH_BERTH_DESCRIPTOR: Harbourmaster takes the descriptor in B8 (R403). -/
def flashDescriptor (t : Nat) (s : State) : State :=
  let s := s.upto t
  if s.bit (Reg.BERTH_STAT_FULL 8) ∧ s.flash = none then
    let d := s.berthBytes 8
    match s.badFlash d with
    | some o => s.flashDone (leAt d 24 8) (some o) (leAt d 4 4)
    | none =>
      { s with
        flash := some { program := leAt d 0 1 == 2, off := leAt d 4 4, src := leAt d 8 8
                        len := leAt d 16 4, done := leAt d 24 8 } }
  else s

def execFlashBerthDescriptor (t : Nat) (s : State) : Res := .next (flashDescriptor t s)

/-- A byte programmed over `old`: erased flash takes the byte; what programming over other contents
gives is a free value (log entry 7). -/
def programByte (free i : Nat) (old new : Byte) : Byte := if old = 0xFF then new else Config.freeByte free i

/-- FLASH_OPERATION_COMPLETE: the erase or program in progress ends (R403). -/
def flashComplete (t : Nat) (s : State) : State :=
  let s := s.upto t
  match s.flash with
  | none => s
  | some j =>
    let a := storeBase + j.off
    let s :=
      if j.program then
        let new := (s.bytes j.src j.len).zipIdx.map fun p =>
          programByte s.free p.2 (s.byte (a + p.2)) p.1
        { s with free := s.free + 1 }.setBytes a new
      else s.setBytes a (List.replicate 65536 0xFF)
    { s.flashDone j.done none j.off with flash := none }

def execFlashOperationComplete (t : Nat) (s : State) : Res := .next (flashComplete t s)

/-! ### Lottery arbiters (R413-R416) -/

def slots8 : List (Fin 8) := [0, 1, 2, 3, 4, 5, 6, 7]

/-- The next value of an arbiter's LFSR (R414). -/
def lfsrStep (l : Nat) : Nat := if l % 2 = 1 then (l / 2) ^^^ 0xB400 else l / 2

/-- Tickets of slot `i` at an arbiter (R413). -/
def State.tickets (s : State) (a : Fin 3) (i : Fin 8) : Nat :=
  let lo := if a = 0 then Reg.ARB_DTKTL else Reg.ARB_MTKTL (a.val - 1)
  let hi := if a = 0 then Reg.ARB_DTKTH else Reg.ARB_MTKTH (a.val - 1)
  wordGet (s.reg (if i.val < 4 then lo else hi)) (8 * (i.val % 4)) 8

/-- The lowest active slot whose running sum of tickets exceeds `x` (R414). -/
def lottery (tk : Fin 8 → Nat) (x : Nat) : List (Fin 8) → Nat → Option (Fin 8)
  | [], _ => none
  | i :: r, sum => if x < sum + tk i then some i else lottery tk x r (sum + tk i)

/-- The winner of a draw among the active slots `act` (R414). -/
def drawWinner (tk : Fin 8 → Nat) (lfsr last : Nat) (act : List (Fin 8)) : Option (Fin 8) :=
  let t := (act.map tk).sum
  if t = 0 then ((act.find? fun i => last < i.val).or act.head?)
  else lottery tk (lfsr * t / 65536) act 0

/-- Counters of a slot at an arbiter. -/
def arbWin (a : Fin 3) (i : Fin 8) : Fld :=
  if a = 0 then Reg.ARB_DWIN_WINS i else Reg.ARB_MWIN_WINS (a.val - 1) i
def arbLoss (a : Fin 3) (i : Fin 8) : Fld :=
  if a = 0 then Reg.ARB_DWIN_LOSSES i else Reg.ARB_MWIN_LOSSES (a.val - 1) i

/-- Ticks of a grant slot (R415). -/
def slotTicks (a : Fin 3) : Nat := if a = 0 then 2 else 21

/-- A slot loses a draw and backs off (R415). -/
def Arb.lose (x : Arb) (t k : Nat) (i : Fin 8) : Arb :=
  let n := if x.len[i] = 0 then 1 else min 1024 (2 * x.len[i])
  { x with len := x.len.set i n, off := x.off.set i (some (t + n * k)) }

/-- The requesting slots that are not backing off (R414). -/
def State.activeSlots (s : State) (a : Fin 3) (requests : Nat) : List (Fin 8) :=
  slots8.filter fun i => requests.testBit i && (s.arb[a]).off[i].isNone

/-- Grants of an arbiter are held: a Mooring arbiter in a group of one or two modules (R416). -/
def State.holds (s : State) (a : Fin 3) : Bool := a != 0 && s.bit Reg.ARB_MODE_HOLD

/-- Slot `w` of arbiter `a` holds its grant, where grants are held. -/
def State.own (s : State) (a : Fin 3) (w : Fin 8) : State :=
  { s with arb := s.arb.set a { s.arb[a] with owner := if s.holds a then some w.val else none } }

/-- ARBITER_DRAW: an arbiter with `requests` pending grants one active slot, a single one without a draw (R414, R415).
While the owner of a held grant keeps requesting, nothing is drawn (R416). -/
def arbiterDraw (t : Nat) (a : Fin 3) (requests : Nat) (s : State) : State :=
  let s := s.upto t
  let act := s.activeSlots a requests
  if s.holds a && (s.arb[a]).owner.any requests.testBit then s
  else if act.length < 2 then act.foldl (State.own · a ·) s
  else
    let x := s.arb[a]
    let l := lfsrStep x.lfsr
    match drawWinner (s.tickets a) l x.last act with
    | none => s
    | some w =>
      let s := s.own a w
      let losers := act.filter fun i => i != w
      let x := { s.arb[a] with lfsr := l, last := w.val, len := x.len.set w 0 }
      let x := losers.foldl (fun x i => x.lose s.tide (slotTicks a) i) x
      let s := { s with arb := s.arb.set a x }
      losers.foldl (fun s i => s.incHold (arbLoss a i)) (s.incHold (arbWin a w))

def execArbiterDraw (t : Nat) (a : Fin 3) (requests : Nat) (s : State) : Res :=
  .next (arbiterDraw t a requests s)

/-- BACKOFF_EXPIRY: the back-off of a slot is over (R415). -/
def backoffExpiry (t : Nat) (a : Fin 3) (i : Fin 8) (s : State) : State :=
  let s := s.upto t
  let x := s.arb[a]
  if x.off[i].any (· ≤ s.tide) then { s with arb := s.arb.set a { x with off := x.off.set i none } } else s

def execBackoffExpiry (t : Nat) (a : Fin 3) (i : Fin 8) (s : State) : Res := .next (backoffExpiry t a i s)

/-- A write of `ARB_SEED` seeds every arbiter (R414). -/
def State.seedArbiters (s : State) : State :=
  let v := s.get Reg.ARB_SEED_SEED
  { s with arb := s.arb.map fun x => { x with lfsr := v } }

/-! ### Counters (R424-R427) -/

/-- BANDWIDTH_WINDOW_END: the counts of the window are latched, and counting starts again (R427). Those of the switch
ports are the bytes of their frames; what else went over the DRAM and Mooring ports is told by `units` (log entry 64). -/
def bandwidthEnd (t : Nat) (units : List Nat) (s : State) : State :=
  let s := s.upto t
  if s.tide % (s.get Reg.PERF_BWWIN_US * 400) = 0 then
    let s := (units.take 22).zipIdx.foldl (fun s p => s.set (Reg.PERF_BW_UNITS p.2) p.1) s
    let s := ([0, 1, 2, 3, 4] : List (Fin 5)).foldl (fun (s : State) (p : Fin 5) =>
      s.sets [(Reg.PERF_BW_UNITS (8 + 2 * p.val), s.eth.rx[p] / 64), (Reg.PERF_BW_UNITS (9 + 2 * p.val), s.eth.tx[p] / 64)]) s
    let s := { s with eth := { s.eth with rx := Vector.replicate 5 0, tx := Vector.replicate 5 0 } }
    s.incWrap Reg.PERF_BWSTAT_WINDOWS
  else s

def execBandwidthWindowEnd (t : Nat) (units : List Nat) (s : State) : Res := .next (bandwidthEnd t units s)

/-- `PERF_SCTLu.CLR` is written 1: the buffer is empty (R432). -/
def State.perfClear (s : State) (u : Fin 8) : State :=
  { s with perf := s.perf.set u { s.perf[u] with buf := [] } }

/-- `mcycle` of a core: Tide ticks since it left reset (R396). -/
def State.mcycle (s : State) (r : Fin 4) : Nat := ((s.cores[r]).since.map fun t => s.tide - t).getD 0

end Sys2Proof.Machine
end

