-- ==== Sys2Proof/Machine/Crypto.lean ====
section
/-! DEFINITION. CRC-32 (R76, R360), SHA-256 and HMAC-SHA-256 as FIPS 180-4 and FIPS 198-1 define them
(R93, R138; PRESUMED, log entry 11: the manual names the functions and does not restate them). -/

namespace Sys2Proof.Machine

/-! ### CRC -/

/-- One bit of a reflected CRC. -/
def crcBit (poly : Word) (c : Word) : Word :=
  if c.getLsbD 0 then (c >>> 1) ^^^ poly else c >>> 1

/-- One byte of a reflected CRC. -/
def crcByte (poly : Word) (c : Word) (b : Byte) : Word :=
  let c := c ^^^ b.setWidth 32
  let f := crcBit poly
  f (f (f (f (f (f (f (f c)))))))

/-- The reflected CRC of R76 with polynomial `poly`. -/
def crcOf (poly : Word) (l : List Byte) : Word := ~~~(l.foldl (crcByte poly) 0xFFFFFFFF)

/-- CRC-32C (R76). -/
def crc32c (l : List Byte) : Word := crcOf 0x82F63B78 l

/-- The CRC of Lookout frames (R360). -/
def crcLookout (l : List Byte) : Word := crcOf 0xC8DF352F l

/-! ### SHA-256 -/

/-- The round constants, sixteen words of 32 bits in each number, the first word in its highest place. -/
def roundKeys : List Nat :=
  [0x428a2f9871374491b5c0fbcfe9b5dba53956c25b59f111f1923f82a4ab1c5ed5d807aa9812835b01243185be550c7dc372be5d7480deb1fe9bdc06a7c19bf174,
   0xe49b69c1efbe47860fc19dc6240ca1cc2de92c6f4a7484aa5cb0a9dc76f988da983e5152a831c66db00327c8bf597fc7c6e00bf3d5a7914706ca635114292967,
   0x27b70a852e1b21384d2c6dfc53380d13650a7354766a0abb81c2c92e92722c85a2bfe8a1a81a664bc24b8b70c76c51a3d192e819d6990624f40e3585106aa070,
   0x19a4c1161e376c082748774c34b0bcb5391c0cb34ed8aa4a5b9cca4f682e6ff3748f82ee78a5636f84c878148cc7020890befffaa4506cebbef9a3f7c67178f2]

/-- Word `i` of numbers of sixteen words each. -/
def packedWord (l : List Nat) (i : Nat) : Word :=
  BitVec.ofNat 32 (((l[i / 16]?).getD 0) >>> (480 - 32 * (i % 16)))

/-- A word rotated right by `i` and by `j` places, and a third term. -/
def rotated (x : Word) (i j : Nat) (z : Word) : Word := x.rotateRight i ^^^ x.rotateRight j ^^^ z

/-- Four of the eight working variables, the newest first. -/
structure Quad where
  q0 : Word
  q1 : Word
  q2 : Word
  q3 : Word
  deriving DecidableEq, Repr

/-- A new value moves the others on by one place. -/
def Quad.push (q : Quad) (x : Word) : Quad := ⟨x, q.q0, q.q1, q.q2⟩
def Quad.add (q r : Quad) : Quad := ⟨q.q0 + r.q0, q.q1 + r.q1, q.q2 + r.q2, q.q3 + r.q3⟩
def Quad.bytes (q : Quad) : List Byte := [q.q0, q.q1, q.q2, q.q3].flatMap fun w => beBytes 4 w.toNat

/-- Bits of the second word where the first has 1, else of the third; bits that two of three words have. -/
def Quad.pick (q : Quad) : Word := q.q2 ^^^ (q.q0 &&& (q.q1 ^^^ q.q2))
def Quad.most (q : Quad) : Word := (q.q0 &&& q.q1) ||| (q.q2 &&& (q.q0 ||| q.q1))

/-- One round on the variables a-d and e-h, for the sum `kw` of its constant and its message word. -/
def hashRound (v : Quad × Quad) (kw : Word) : Quad × Quad :=
  let (x, y) := v
  let t := y.q3 + kw + rotated y.q0 6 11 (y.q0.rotateRight 25) + y.pick
  (x.push (t + rotated x.q0 2 13 (x.q0.rotateRight 22) + x.most), y.push (x.q3 + t))

/-- The message words of a block, newest first, with `n` more. -/
def schedule : Nat → List Word → List Word
  | 0, l => l
  | n + 1, l =>
    let at_ (i : Nat) : Word := (l[i]?).getD 0
    let w := rotated (at_ 1) 17 19 (at_ 1 >>> 10) + at_ 6 + rotated (at_ 14) 7 18 (at_ 14 >>> 3) + at_ 15
    schedule n (w :: l)

/-- One block of 64 bytes. -/
def hashBlock (v : Quad × Quad) (block : List Byte) : Quad × Quad :=
  let m := (List.range 16).map fun i => BitVec.ofNat 32 (beAt block (4 * i) 4)
  let kws := ((schedule 48 m.reverse).reverse.zipIdx).map fun p => p.1 + packedWord roundKeys p.2
  let r := kws.foldl hashRound v
  (v.1.add r.1, v.2.add r.2)

/-- The next `n` blocks. -/
def hashBlocks : Nat → List Byte → Quad × Quad → Quad × Quad
  | 0, _, v => v
  | n + 1, l, v => hashBlocks n (l.drop 64) (hashBlock v (l.take 64))

/-- SHA-256. -/
def sha256 (l : List Byte) : List Byte :=
  let m := l ++ 0x80 :: List.replicate ((119 - l.length % 64) % 64) 0 ++ beBytes 8 (8 * l.length)
  let first (i : Nat) : Word := packedWord [0x6a09e667bb67ae853c6ef372a54ff53a510e527f9b05688c1f83d9ab5be0cd19] (i + 8)
  let v := hashBlocks (m.length / 64) m (⟨first 0, first 1, first 2, first 3⟩, ⟨first 4, first 5, first 6, first 7⟩)
  v.1.bytes ++ v.2.bytes

/-- HMAC-SHA-256. -/
def hmac (key msg : List Byte) : List Byte :=
  let k := if 64 < key.length then sha256 key else key
  let k := k ++ List.replicate (64 - k.length) 0
  sha256 (k.map (· ^^^ 0x5C) ++ sha256 (k.map (· ^^^ 0x36) ++ msg))

/-- The first 16 bytes of a MAC (R93, R138). -/
def mac16 (key msg : List Byte) : List Byte := (hmac key msg).take 16

end Sys2Proof.Machine
end

