-- ==== Sys2Proof/Machine/Image.lean ====
section
/-! DEFINITION. Manifest images (R113, R114, R117): the elements of an image, the images in the two flash
banks, and the staging image (R121). -/

namespace Sys2Proof.Machine

/-- Bytes of one bank (R113). -/
def bankSize : Nat := 0x400000

/-- Start of bank A or B in the flash read window (R113). -/
def bankBase (b : Fin 2) : Nat := 0x61000000 + b.val * bankSize

/-- `n` bytes from `o` of something read byte by byte. -/
def takeFrom (rd : Nat → Byte) (o n : Nat) : List Byte := (List.range n).map fun i => rd (o + i)

/-- Big-endian field read byte by byte. -/
def numFrom (rd : Nat → Byte) (o n : Nat) : Nat := beNat (takeFrom rd o n)

/-- An element of an image (R114): its offset, its type and its body. -/
structure Elem where
  off : Nat
  typ : Nat
  body : List Byte
  deriving DecidableEq, Repr

/-- Offset after an element with a body of `len` bytes at `off`. -/
def elemEnd (off len : Nat) : Nat := off + 8 + (len + 3) / 4 * 4

/-- The elements from `off` up to End, and the offset after End; none where an element does not lie inside
the first `limit` bytes, or End has a body. Flags and reserved bytes of an element are not looked at (R114; DESIGN
CHOICE, log entry 56). -/
def scanElems (rd : Nat → Byte) (limit : Nat) : Nat → Nat → Option (List Elem × Nat)
  | 0, _ => none
  | fuel + 1, off =>
    let len := numFrom rd (off + 4) 4
    let next := elemEnd off len
    if limit < next then none
    else if rd off = 0 then (if len = 0 then some ([], next) else none)
    else
      (scanElems rd limit fuel next).map fun r =>
        ({ off := off, typ := (rd off).toNat, body := takeFrom rd (off + 8) len } :: r.1, r.2)

/-- Elements of an image of at most `limit` bytes, header excluded. -/
def elemsIn (rd : Nat → Byte) (limit : Nat) : Option (List Elem × Nat) := scanElems rd limit (limit / 8 + 1) 32

/-- Magic, format and part are as R113 has them. -/
def headerOk (rd : Nat → Byte) : Bool :=
  takeFrom rd 0 4 == [0x4C, 0x58, 0x4D, 0x46] && rd 4 == 1 && numFrom rd 16 2 == 0x2460

/-- Magic, format and part, and elements that end with End at byte `n` (R117, without the CRC). -/
def structureOk (rd : Nat → Byte) (n : Nat) : Bool :=
  headerOk rd && (elemsIn rd n).any fun r => r.2 == n

/-! ### Banks -/

def State.bankByte (s : State) (b : Fin 2) (i : Nat) : Byte := s.byte (bankBase b + i)

/-- Length field of the image in a bank. -/
def State.bankLen (s : State) (b : Fin 2) : Nat := numFrom (s.bankByte b) 12 4

/-- Version of the image in a bank. -/
def State.bankVersion (s : State) (b : Fin 2) : Nat := numFrom (s.bankByte b) 8 4

/-- The bank holds a valid image (R117). -/
def State.bankValid (s : State) (b : Fin 2) : Bool :=
  let rd := s.bankByte b
  let n := s.bankLen b
  headerOk rd && decide (4 ≤ n ∧ n ≤ bankSize) && structureOk rd (n - 4) &&
    (crc32c (takeFrom rd 0 (n - 4))).toNat == numFrom rd (n - 4) 4

/-- The bank with the newest valid image: the higher version, and A where they are equal (R118). -/
def State.newestBank (s : State) : Option (Fin 2) :=
  if s.bankValid 0 then
    if s.bankValid 1 && decide (s.bankVersion 0 < s.bankVersion 1) then some 1 else some 0
  else if s.bankValid 1 then some 1
  else none

/-- Version of the newest valid image, 0 where there is none. -/
def State.newestVersion (s : State) : Nat := (s.newestBank.map s.bankVersion).getD 0

/-- Bytes of the image in a bank, without its CRC. -/
def State.bankImage (s : State) (b : Fin 2) : List Byte := takeFrom (s.bankByte b) 0 (s.bankLen b - 4)

/-- Elements of the valid image in a bank, End excluded. -/
def State.bankElems (s : State) (b : Fin 2) : List Elem :=
  ((elemsIn (s.bankByte b) (s.bankLen b - 4)).map (·.1)).getD []

/-! ### The staging image (R121) -/

def State.stageByte (s : State) (i : Nat) : Byte := stoGet s.hm.stage i 0

/-- Write bytes into the staging image from `o` on. -/
def State.setStage (s : State) (o : Nat) (l : List Byte) : State :=
  s.updHm fun h =>
    { h with
      stage := (l.foldl (fun (a : List Host.Cell × Nat) (b : Byte) => (stoPut a.1 a.2 b 0, a.2 + 1))
        (h.stage, o)).1 }

/-- The staging image holds these bytes and 0 after them. -/
def State.loadStage (s : State) (l : List Byte) : State :=
  s.updHm fun h =>
    { h with stage := (l.zipIdx.filter fun p => p.1 != 0).map fun p => (p.2, p.1) }

/-- The empty image (R121). -/
def emptyImage : List Byte :=
  [0x4C, 0x58, 0x4D, 0x46, 1, 0, 0, 0] ++ List.replicate 8 0 ++ [0x24, 0x60] ++ List.replicate 14 0 ++
    List.replicate 8 0

end Sys2Proof.Machine
end

