-- ==== Sys2Proof/Machine/Operands.lean ====
section
/-! DEFINITION. Operand fields of a program word of a loop engine (R212-R215) and the opcode table's
numbers (R217), with the rules of program validation on one word (R260). -/

namespace Sys2Proof.Machine

/-- `n` bits of a program word from bit `lo`. -/
def wBits (w : Word64) (lo n : Nat) : Nat := (w.toNat / 2 ^ lo) % 2 ^ n

def wOp (w : Word64) : Nat := wBits w 58 6
def wDst (w : Word64) : Fin 32 := Fin.ofNat 32 (wBits w 53 5)
def wA (w : Word64) : Fin 32 := Fin.ofNat 32 (wBits w 48 5)
def wB (w : Word64) : Fin 32 := Fin.ofNat 32 (wBits w 43 5)
def wIdx (w : Word64) : Nat := wBits w 32 11
def wMask (w : Word64) : BitVec 8 := BitVec.ofNat 8 (wBits w 24 8)
def wImm (w : Word64) : Nat := wBits w 0 20

/-- MODE bits of an arithmetic instruction (R213). -/
def wFixe (w : Word64) : Bool := wBits w 23 1 == 1
def wPredGate (w : Word64) : Bool := wBits w 22 1 == 1
def wBcast (w : Word64) : Bool := wBits w 21 1 == 1
def wRtz (w : Word64) : Bool := wBits w 20 1 == 1

/-- MODE of LD and ST (R213). -/
def wSpace (w : Word64) : Nat := wBits w 22 2
def wInt (w : Word64) : Bool := wBits w 21 1 == 1
def wLdBcast (w : Word64) : Bool := wBits w 20 1 == 1

/-- The 12-bit index (R214). -/
def wIndex (w : Word64) : Nat := wBits w 12 1 * 2048 + wIdx w

/-- State index of PI, LPF and RAMP (R214). -/
def wState (w : Word64) : Nat := wBits w 0 12

/-- First entry of an LD or ST (R215). -/
def wEntry (w : Word64) : Nat :=
  if wSpace w = 3 then wBits w 13 7 * 4096 + wIndex w else wIndex w

/-- Two's complement value of `n` bits from `lo`. -/
def wSigned (w : Word64) (lo n : Nat) : Int :=
  let v := wBits w lo n
  if v < 2 ^ (n - 1) then v else (v : Int) - 2 ^ n

/-- The constant of MOV with BCAST: c x 2^k (R214). -/
def wConst (w : Word64) : Q := qMul (qInt (wSigned w 8 12)) (qPow2 (wSigned w 0 8))

/-- Lanes enabled by MASK and PRED (R213). -/
def wEnable (w : Word64) (pred : BitVec 8) (i : Fin 8) : Bool :=
  (wMask w).getLsbD i && (!wPredGate w || pred.getLsbD i)

/-- Opcodes (R217). -/
def opHalt : Nat := 0x00
def opMov : Nat := 0x01
def opLd : Nat := 0x02
def opSt : Nat := 0x03
def opAdd : Nat := 0x04
def opSub : Nat := 0x05
def opMul : Nat := 0x06
def opMac : Nat := 0x07
def opNeg : Nat := 0x08
def opAbs : Nat := 0x09
def opMin : Nat := 0x0A
def opMax : Nat := 0x0B
def opClamp : Nat := 0x0C
def opCmp : Nat := 0x0D
def opSel : Nat := 0x0E
def opScale : Nat := 0x0F
def opNorm : Nat := 0x10
def opSincos : Nat := 0x11
def opAtan2 : Nat := 0x12
def opRecip : Nat := 0x13
def opRsqrt : Nat := 0x14
def opClarke : Nat := 0x15
def opIclarke : Nat := 0x16
def opPark : Nat := 0x17
def opIpark : Nat := 0x18
def opSvm : Nat := 0x19
def opPi : Nat := 0x1A
def opLpf : Nat := 0x1B
def opRamp : Nat := 0x1C
def opSettle : Nat := 0x1D
def opCommit : Nat := 0x1E

/-- An undefined encoding (R221). -/
def wUndefined (w : Word64) : Bool :=
  decide (0x1F ≤ wOp w) || (wOp w == opCmp && decide (6 ≤ wBits w 0 3))

/-- Bits of the fields that an opcode uses, over bits 57-0 (R212-R214). -/
def wUsed (w : Word64) : Nat :=
  let dst := 31 * 2 ^ 53
  let a := 31 * 2 ^ 48
  let b := 31 * 2 ^ 43
  let idx := 2047 * 2 ^ 32
  let mask := 255 * 2 ^ 24
  let mode := 15 * 2 ^ 20
  let imm := 2 ^ 20 - 1
  let op := wOp w
  if op = opHalt ∨ op = opCommit then 0
  else if op = opMov ∧ wBcast w then dst + mask + mode + imm
  else if op = opMov ∨ op = opNeg ∨ op = opAbs ∨ op = opNorm ∨ op = opSincos ∨ op = opRecip ∨
      op = opRsqrt ∨ op = opClarke ∨ op = opIclarke then dst + a + mask + mode
  else if op = opLd then dst + idx + mask + mode + imm
  else if op = opSt then a + idx + mask + mode + imm
  else if op = opScale then dst + a + mask + mode + imm
  else if op = opCmp then dst + a + b + mask + mode + imm
  else if op = opClamp ∨ op = opPi ∨ op = opLpf ∨ op = opRamp ∨ op = opSettle then
    dst + a + idx + mask + mode + imm
  else dst + a + b + mask + mode

/-- Fields that the opcode does not use are 0, the opcode and the condition are defined, and an ST
does not set BCAST (R260). -/
def wFieldsOk (w : Word64) : Bool :=
  !wUndefined w && ((w.toNat % 2 ^ 58) &&& ((2 ^ 58 - 1) ^^^ wUsed w)) == 0 &&
    !(wOp w == opSt && wLdBcast w)

/-- Store indices of a lane-wise instruction stay within 4095 (R260). -/
def wIndexOk (w : Word64) : Bool :=
  let op := wOp w
  let top :=
    if op = opClamp ∨ op = opRamp then wIndex w + 15
    else if op = opPi then wIndex w + 31
    else if op = opLpf ∨ op = opSettle then wIndex w + 7
    else if op = opLd ∧ wSpace w < 2 then (if wLdBcast w then wIndex w else wIndex w + 7)
    else 0
  let st := if op = opPi ∨ op = opLpf ∨ op = opRamp then wState w + 7 else 0
  decide (top ≤ 4095 ∧ st ≤ 4095)

end Sys2Proof.Machine
end

