-- ==== Sys2Proof/Machine/Lanes.lean ====
section
/-! DEFINITION. Vector registers and the result rule of the loop engine (R203-R207). -/

namespace Sys2Proof.Machine

/-- Eight exact lane results. -/
abbrev Lanes := Vector Q 8

/-- Stage exponent. -/
def VReg.exp (v : VReg) : Int := v.e.toInt

/-- Exact value of lane `i`: m x 2^(E-23) (R203). -/
def VReg.lane (v : VReg) (i : Fin 8) : Q :=
  qMul (qInt (v.m[i]).toInt) (qPow2 (v.exp - 23))

def VReg.lanes (v : VReg) : Lanes := Vector.ofFn fun i => v.lane i

/-- The zero register: all lanes 0 and E = -128 (R203). -/
def zeroReg : VReg := {}

def VReg.isZeroReg (v : VReg) : Bool := decide (v = zeroReg)

/-- Lane results with disabled lanes at their old exact values (R205). -/
def gateLanes (en : Fin 8 → Bool) (old : VReg) (r : Fin 8 → Q) : Lanes :=
  Vector.ofFn fun i => if en i then r i else old.lane i

/-- Largest magnitude of the lanes. -/
def maxLane (r : Lanes) : Q := r.toList.foldl (fun m x => qMax m (qAbs x)) qZero

/-- A lane rounded at exponent `e`. -/
def roundAt (rtz : Bool) (e : Int) (x : Q) : Int := qRnd rtz (qMul x (qPow2 (23 - e)))

/-- Build a register from lane mantissas. -/
def mkReg (e : Int) (f : Fin 8 → Int) : VReg :=
  { m := Vector.ofFn fun i => BitVec.ofInt 24 (f i), e := BitVec.ofInt 8 e }

/-- Hold a mantissa at ±(2^23 - 1). -/
def satMant (m : Int) : Int := max (-(2 ^ 23 - 1)) (min (2 ^ 23 - 1) m)

/-- Flags a register write can set. -/
structure WFlags where
  sat : Bool := false
  exov : Bool := false
  exuf : Bool := false
  deriving DecidableEq, Repr

/-- Whether a lane exceeds ±(2^23 - 1) at exponent 127. -/
def over127 (x : Q) : Bool := qLt (qMul (qInt (2 ^ 23 - 1)) (qPow2 104)) (qAbs x)

/-- The result rule (R206, R207) on exact lane results. -/
def resultReg (old : VReg) (fixe rtz : Bool) (r : Lanes) : VReg × WFlags :=
  if fixe && !old.isZeroReg then
    let e := old.exp
    let m (i : Fin 8) := roundAt rtz e r[i]
    let sat := decide (∃ i : Fin 8, 2 ^ 23 - 1 < (m i).natAbs)
    (mkReg e fun i => satMant (m i), { sat := sat })
  else
    let top := maxLane r
    if qIsZero top then (zeroReg, {})
    else
      let e0 := qLog2 top + 1
      let e := if decide (∃ i : Fin 8, (roundAt rtz e0 r[i]).natAbs = 2 ^ 23) then e0 + 1 else e0
      if 127 < e then
        (mkReg 127 fun i =>
          if over127 r[i] then (if r[i].num < 0 then -(2 ^ 23 - 1) else 2 ^ 23 - 1)
          else satMant (roundAt rtz 127 r[i]), { exov := true })
      else if e < -128 then (zeroReg, { exuf := true })
      else (mkReg e fun i => roundAt rtz e r[i], {})

end Sys2Proof.Machine
end

