-- ==== Sys2Proof/Machine/Flags.lean ====
section
/-! DEFINITION. The sticky flags of a loop engine (R208-R210): set live or held by a pilot pass,
merged on a hit. -/

namespace Sys2Proof.Machine

/-- Bit numbers of `LE_FLAGSn` (R226). -/
def fSat : Nat := 0
def fExov : Nat := 1
def fExuf : Nat := 2
def fDivz : Nat := 3
def fDom : Nat := 4
def fOvm : Nat := 5
def fPorterr : Nat := 6
def fIllop : Nat := 7

/-- Source number of engine `n`. -/
def leSource (n : Fin 4) : Nat := 8 + n.val

/-- Engine counters that count an event advance by `k` (R424). -/
def State.leCount (s : State) (n : Fin 4) (event k : Nat) : State :=
  if s.bit Reg.PERF_CTL_FREEZE then s
  else (List.range 8).foldl (fun (s : State) i =>
    if s.get (Reg.PERF_LESEL_EVENT n i) = event then
      s.set (Reg.PERF_LECNT_COUNT n i) (s.get (Reg.PERF_LECNT_COUNT n i) + k)
    else s) s

/-- A flag set by program word `w` becomes live (R208, R209): the sticky bit, the first capture, and
the warning LE_ARITH. -/
def State.flagLive (s : State) (t : Nat) (n : Fin 4) (w bit : Nat) : State :=
  let s := (s.set (Reg.LE_FLAGS_BIT n bit) 1).leCount n 9 1
  let s := if s.bit (Reg.LE_FLAGADDR_VALID n) then s
    else s.sets [(Reg.LE_FLAGADDR_WORD n, w), (Reg.LE_FLAGADDR_FLAG n, bit), (Reg.LE_FLAGADDR_VALID n, 1)]
  if bit ≤ 4 then s.raiseOnce .leArith (leSource n) (w + bit * 2 ^ 16) t else s

/-- A port error becomes live (R209, R215): `code` is laid out as `LE_PORTERRn` without VALID. -/
def State.portErrLive (s : State) (t : Nat) (n : Fin 4) (w code : Nat) : State :=
  let s := s.flagLive t n w fPorterr
  let s := if s.bit (Reg.LE_PORTERR_VALID n) then s
    else s.setReg (Reg.LE_PORTERR n) (BitVec.ofNat 32 (code + 2 ^ 31))
  s.raiseOnce .lePort (leSource n) code t

/-- The pass in progress is a pilot pass: its flags and stores are held (R210, R220). -/
def State.inPilot (s : State) (n : Fin 4) : Bool :=
  s.phase n == 1 || s.phase n == 2 || s.phase n == 3

/-- Set a flag for the word being executed (R208, R210). -/
def State.setFlag (s : State) (t : Nat) (n : Fin 4) (bit : Nat) : State :=
  let w := (s.engine n).pc
  if s.inPilot n then
    s.updEng n fun e => { e with heldFlags := e.heldFlags ++ [(w, bit)] }
  else s.flagLive t n w bit

/-- Set a flag where a condition holds. -/
def State.flagIf (s : State) (t : Nat) (n : Fin 4) (bit : Nat) (c : Bool) : State :=
  if c then s.setFlag t n bit else s

/-- A port error of the word being executed. -/
def State.portErr (s : State) (t : Nat) (n : Fin 4) (code : Nat) : State :=
  let w := (s.engine n).pc
  if s.inPilot n then
    s.updEng n fun e =>
      { e with
        heldFlags := e.heldFlags ++ [(w, fPorterr)]
        heldPort := some (e.heldPort.getD code) }
  else s.portErrLive t n w code

/-- Merge the held flags of a pilot hit, in the order they were set (R210, R234). -/
def State.mergeFlags (s : State) (t : Nat) (n : Fin 4) : State :=
  let e := s.engine n
  let s := e.heldFlags.foldl (fun s p =>
    if p.2 = fPorterr then s.portErrLive t n p.1 (e.heldPort.getD 0) else s.flagLive t n p.1 p.2) s
  s.updEng n fun e => { e with heldFlags := [], heldPort := none }

/-- Flags of a register write. -/
def State.writeFlags (s : State) (t : Nat) (n : Fin 4) (f : WFlags) : State :=
  ((s.flagIf t n fSat f.sat).flagIf t n fExov f.exov).flagIf t n fExuf f.exuf

end Sys2Proof.Machine
end

