-- ==== Sys2Proof/Machine/Passes.lean ====
section
/-! DEFINITION. Passes of a loop engine (R227-R239): their starts and ends, the redirected stores of
a pilot pass, squash, hit and hand-over, and the service of samples. -/

namespace Sys2Proof.Machine

/-! ### Stores as the engine sees them (R215, R220, R231) -/

/-- What a list of written entries holds at an entry. -/
def written (l : List (Nat × Word)) (i : Nat) : Option Word := (l.find? fun p => p.1 == i).map Prod.snd

/-- Record a written entry, the newest value only. -/
def record (l : List (Nat × Word)) (i : Nat) (w : Word) : List (Nat × Word) :=
  (i, w) :: l.filter fun p => p.1 != i

/-- Live entry of the state store, the coefficient store, the port window as other requesters see
it, and the sample and trace buffer. -/
def State.stateEntry (s : State) (n : Fin 4) (i : Nat) : Word := stoGet (s.engine n).state i 0
def State.coefEntry (s : State) (n : Fin 4) (i : Nat) : Word := stoGet (s.engine n).coef i 0
def State.portEntry (s : State) (n : Fin 4) (i : Nat) : Word :=
  if i < 72 then stoGet (s.engine n).newest i 0 else stoGet (s.engine n).port i 0
def State.bufEntry (s : State) (n : Fin 4) (i : Nat) : Word := stoGet (s.engine n).buf i 0

def State.setState (s : State) (n : Fin 4) (i : Nat) (w : Word) : State :=
  s.updEng n fun e => { e with state := stoPut e.state i w 0 }
def State.setCoef (s : State) (n : Fin 4) (i : Nat) (w : Word) : State :=
  s.updEng n fun e => { e with coef := stoPut e.coef i w 0 }
def State.setPort (s : State) (n : Fin 4) (i : Nat) (w : Word) : State :=
  s.updEng n fun e => { e with port := stoPut e.port i w 0 }
def State.setBuf (s : State) (n : Fin 4) (i : Nat) (w : Word) : State :=
  s.updEng n fun e => { e with buf := stoPut e.buf i w 0 }

/-- State entry read by the pass in progress (R220). -/
def State.readState (s : State) (n : Fin 4) (i : Nat) : Word :=
  if s.inPilot n then (written (s.engine n).scratch i).getD (s.stateEntry n i) else s.stateEntry n i

/-- State entry written by the pass in progress (R220). -/
def State.writeState (s : State) (n : Fin 4) (i : Nat) (w : Word) : State :=
  if s.inPilot n then s.updEng n fun e => { e with scratch := record e.scratch i w }
  else s.setState n i w

/-- Port-window entry read by the pass in progress (R220, R224, R231, R234). -/
def State.readPort (s : State) (n : Fin 4) (i : Nat) : Word :=
  let e := s.engine n
  if s.inPilot n ∧ 32 ≤ i ∧ i < 64 then stoGet e.port (i + 64) 0
  else if i < 72 then stoGet e.view i 0
  else if s.inPilot n ∧ 128 ≤ i ∧ i < 192 then (written e.prov i).getD (stoGet e.port i 0)
  else stoGet e.port i 0

/-- Entries the engine may write (R224). -/
def portWritable (i : Nat) : Bool :=
  decide ((96 ≤ i ∧ i < 152) ∨ (160 ≤ i ∧ i < 192))

/-- Port-window entry written by the pass in progress (R220). -/
def State.writePort (s : State) (n : Fin 4) (i : Nat) (w : Word) : State :=
  if s.inPilot n ∧ 128 ≤ i then s.updEng n fun e => { e with prov := record e.prov i w }
  else s.setPort n i w

/-- Buffer entry written by the pass in progress: discarded before a hit is decided, held on the hit
path (R220, R234). -/
def State.writeBuf (s : State) (n : Fin 4) (i : Nat) (w : Word) : State :=
  match s.phase n with
  | 1 | 2 => s
  | 3 => s.updEng n fun e => { e with held3 := e.held3 ++ [(i, w)] }
  | _ => s.setBuf n i w

/-- Buffer entry read by the pass in progress: on the hit path the newest store it holds (R220). -/
def State.readBuf (s : State) (n : Fin 4) (i : Nat) : Word :=
  if s.phase n = 3 then (written (s.engine n).held3.reverse i).getD (s.bufEntry n i) else s.bufEntry n i

/-! ### Performance records of a pass (R424, R426) -/

/-- Stamp of a sampling record (R426). -/
def perfStamp (r : List Word) : Nat := (r.getD 4 0).toNat + 2 ^ 32 * (r.getD 5 0).toNat

/-- A record enters unit `u`. -/
def State.perfPut (s : State) (u : Fin 8) (r : List Word) : State :=
  let b := (s.perf[u]).buf
  if b.length < 64 then
    let s := { s with perf := s.perf.set u { s.perf[u] with buf := b ++ [(s.epoch, r)] } }
    if b.length = 63 ∧ !s.bit (Reg.PERF_SCTL_WRAP u) then
      s.set Reg.PERF_IRQ_FULL (s.get Reg.PERF_IRQ_FULL ||| 2 ^ u.val)
    else s
  else if s.bit (Reg.PERF_SCTL_WRAP u) then
    { s with perf := s.perf.set u { s.perf[u] with buf := b.drop 1 ++ [(s.epoch, r)] } }
  else s

/-- The sampling unit of an engine. -/
def leUnit (n : Fin 4) : Fin 8 := ⟨n.val + 4, by omega⟩

/-- PERF_SAMPLE_RECORD of an engine instruction, held until its pass commits or halts (R426). The
latency is a measured one: a free value. -/
def State.leSample (s : State) (t : Nat) (n : Fin 4) (w : Word64) (pc : Nat) : State :=
  let u := leUnit n
  if s.bit (Reg.PERF_SCTL_EN u) then
    let k := (s.perf[u]).skip + 1
    if s.get (Reg.PERF_SCTL_INTERVAL u) < k then
      let (lat, s) := s.freeNat
      let r : List Word := [w.setWidth 32, (w >>> 32).setWidth 32, BitVec.ofNat 32 pc, 0,
        BitVec.ofNat 32 t, BitVec.ofNat 32 (t / 2 ^ 32),
        BitVec.ofNat 32 (lat % 2 ^ 16 + s.phase n * 2 ^ 16), 0]
      let s := { s with perf := s.perf.set u { s.perf[u] with skip := 0 } }
      s.updEng n fun e => { e with perfHeld := e.perfHeld ++ [r] }
    else { s with perf := s.perf.set u { s.perf[u] with skip := k } }
  else s

/-- Counters of a core that count an event advance (R424). -/
def State.hpmCount (s : State) (r : Fin 4) (event : Nat) : State :=
  if s.bit Reg.PERF_CTL_FREEZE then s
  else
    let c := s.cores[r]
    { s with
      cores := s.cores.set r
        { c with hpm := Vector.ofFn fun (i : Fin 16) => if c.hpmEvent[i] = event then c.hpm[i] + 1 else c.hpm[i] } }

/-- The sampling record of a core's instruction, every INTERVAL + 1 of them (R426). Its word, virtual PC, latency and
stall are its own: free values (log entry 64). -/
def State.coreSample (s : State) (t : Nat) (r : Fin 4) : State :=
  let u : Fin 8 := ⟨r.val, by omega⟩
  if s.bit (Reg.PERF_SCTL_EN u) then
    let k := (s.perf[u]).skip + 1
    if s.get (Reg.PERF_SCTL_INTERVAL u) < k then
      let priv := (s.cores[r]).priv
      let (op, s) := s.freeWord
      let (lo, s) := s.freeWord
      let (hi, s) := s.freeWord
      let (lat, s) := s.freeNat
      let rec_ : List Word := [op, 0, lo, hi, BitVec.ofNat 32 t, BitVec.ofNat 32 (t / 2 ^ 32),
        BitVec.ofNat 32 (lat % 2 ^ 16 + priv * 2 ^ 16 + lat / 2 ^ 16 % 2 * 2 ^ 24), 0]
      State.perfPut { s with perf := s.perf.set u { s.perf[u] with skip := 0 } } u rec_
    else { s with perf := s.perf.set u { s.perf[u] with skip := k } }
  else s

/-- A load or store of a core, or of no core, reaches the fabric: a retired instruction of the core counts and is
sampled (R424, R426). The core's other instructions are no commands and are not seen (log entry 64). -/
def State.coreAccess (s : State) (t req : Nat) (store : Bool) : State :=
  if h : 1 ≤ req ∧ req ≤ 4 then
    let r : Fin 4 := ⟨req - 1, by omega⟩
    (((s.hpmCount r 1).hpmCount r (if store then 3 else 2)).hpmCount r 7).coreSample t r
  else s

/-- The pass commits or halts: its records enter the buffer (R426), late ones with ORDER_LATE (R66), and its ticks
count (R424). -/
def State.passDone (s : State) (t : Nat) (n : Fin 4) : State :=
  let e := s.engine n
  let s := e.perfHeld.foldl (fun s r => (s.orderLate s.epoch (perfStamp r) (leSource n)).perfPut (leUnit n) r) s
  (s.updEng n fun e => { e with perfHeld := [] }).leCount n 8 (t - e.started)

/-! ### Starts -/

/-- A pass starts at a word with every register zero and PRED 0 (R204). -/
def State.startPass (s : State) (t : Nat) (n : Fin 4) (phase entry : Nat) : State :=
  let s := s.updEng n fun e =>
    { e with v := Vector.replicate 32 zeroReg, pred := 0, pc := entry, started := t, orphan := false }
  s.sets [(Reg.LE_STATUS_PHASE n, phase), (Reg.LE_STATUS_PC n, entry), (Reg.LE_STATUS_PRED n, 0)]

/-- FULL_PASS_START on the newest sample whose results have arrived (R228, R231). -/
def State.startFull (s : State) (t : Nat) (n : Fin 4) : State :=
  let s := s.updEng n fun e =>
    { e with
      view := e.newest
      serving := e.arrived.orElse fun _ => e.serving
      arrived := none }
  (s.startPass t n 4 (s.get (Reg.LE_ENTRY_FULL n))).leCount n 5 1

/-- A GO pass on the port window as it stands (R227). -/
def State.startGo (s : State) (t : Nat) (n : Fin 4) : State :=
  let s := s.updEng n fun e => { e with view := e.newest, goPending := false, serving := none }
  s.startPass t n 5 (s.get (Reg.LE_ENTRY_FULL n))

/-- SQUASH: what the pilot pass holds is discarded and the squash counter advances (R235, R236). -/
def State.squash (s : State) (t : Nat) (n : Fin 4) : State :=
  ((s.leCount n 8 (t - (s.engine n).started)).updEng n Eng.dropPilot).incHold (Reg.LE_SQUASH_COUNT n)

/-- The axis is in RUN with pilot passes enabled. -/
def State.pilots (s : State) (n : Fin 4) : Bool :=
  (s.axis n).st == .run && s.bit (Reg.LE_CTL_PILOTEN n)

/-- PILOT_PASS_START: where the next sample's results have arrived already, it is squashed at its
start and that sample is served by a full pass (R29, R232, R237). -/
def State.startPilot (s : State) (t : Nat) (n : Fin 4) : State :=
  let s := (s.updEng n Eng.dropPilot).startPass t n 1 (s.get (Reg.LE_ENTRY_PILOT n))
  let s := (s.updEng n fun e => { e with pRatio := none, serving := none }).leCount n 4 1
  if (s.engine n).arrived.isSome then (s.squash t n).startFull t n else s

/-- The engine is free: the newest sample that waits is served, or a GO that waits starts (R227,
R237). -/
def State.engineFree (s : State) (t : Nat) (n : Fin 4) : State :=
  let s := s.set (Reg.LE_STATUS_PHASE n) 0
  let s := s.updEng n fun e => { e with serving := none, crossing := false }
  if (s.axis n).st.closed then
    if (s.engine n).arrived.isSome then
      (s.updEng n fun e => { e with pRatio := none }).startFull t n
    else s
  else if (s.engine n).goPending then s.startGo t n
  else s

/-- The pass ends without handing anything over, by HALT or an undefined encoding (R219, R221, R234,
R236). -/
def State.endPass (s : State) (t : Nat) (n : Fin 4) : State :=
  ((s.passDone t n).updEng n Eng.dropPilot).engineFree t n

/-- A pass of the axis program ends without a set: outside prediction and wait that is a program that stops
committing, and the held reaction of OBS_LOST is carried out (R254, log entry 30). -/
def State.endUncommitted (s : State) (t : Nat) (n : Fin 4) : State :=
  let left := (s.axis n).st.closed && decide (s.phase n = 3 ∨ s.phase n = 4)
  let s := s.endPass t n
  if left then s.obsReact n else s

/-- GO written 1, outside RUN and TUNE (R227). -/
def State.goWritten (s : State) (t : Nat) (n : Fin 4) : State :=
  if s.phase n = 0 then s.startGo t n else s.updEng n fun e => { e with goPending := true }

/-- The results of a sample stamped `st` become visible (R228, R29, R237): what the engine does. -/
def State.resultsArrive (s : State) (t : Nat) (n : Fin 4) (st : Nat) : State :=
  if (s.axis n).st.closed then
    let s := s.updEng n fun e => { e with arrived := some st, arrivedAt := t }
    match s.phase n with
    | 0 => (s.updEng n fun e => { e with pRatio := none }).startFull t n
    | 1 => ((s.squash t n).updEng n fun e => { e with pRatio := none }).startFull t n
    | _ => s
  else s

/-! ### Hand-over (R219, R225, R234, R239) -/

/-- Slots of the axis that carry a duty entry: its legs (R219). -/
def State.dutySlots (s : State) (n : Fin 4) : Nat := (s.legsOf n).length

/-- A duty entry held to 0 ... 1.0 (R219). -/
def clampDuty (w : Word) : Word × Bool :=
  let v := bfVal w
  if v.num < 0 then (0, true) else if qLt qOne v then (bfInt 1, true) else (w, false)

/-- Entry of the set the pass hands over: the provisional one in a pilot pass. -/
def State.setEntry (s : State) (n : Fin 4) (i : Nat) : Word :=
  if s.inPilot n then (written (s.engine n).prov i).getD (stoGet (s.engine n).port i 0)
  else stoGet (s.engine n).port i 0

/-- Entries 128-191 of the set. -/
def State.handSet (s : State) (n : Fin 4) : List (Nat × Word) :=
  (List.range 64).map fun i => (128 + i, s.setEntry n (128 + i))

/-- A duty of the set lies outside 0 ... 1.0. -/
def State.dutyOut (s : State) (n : Fin 4) : Bool :=
  (List.range (s.dutySlots n)).any fun p => (clampDuty (s.setEntry n (128 + p))).2

/-- The set as the shadow bank takes it. -/
def State.dutySet (s : State) (n : Fin 4) : DutySet :=
  { duties := Vector.ofFn fun (p : Fin 24) =>
      let w := s.setEntry n (128 + p.val)
      if p.val < s.dutySlots n then (clampDuty w).1 else w
    gate := s.setEntry n 164
    fresh := s.setEntry n 164 == 0 }

/-- An entry of the last committed set (R242). -/
def State.handed (s : State) (n : Fin 4) (i : Nat) : Word :=
  (written (s.engine n).handed i).getD 0

/-- Entries of a committed set differ only where it lists them. -/
def entryOf (l : List (Nat × Word)) (i : Nat) : Word := (written l i).getD 0

/-- FAULT_REQUEST: entry 184 of a committed set changed from 0 (R256); `st` is the sample instant of
the set. -/
def State.faultRequest (s : State) (n : Fin 4) (old new st : Nat) : State :=
  if old = 0 then
    match new with
    | 1 => s.raise .prgOvercurrent (leSource n) 0 st
    | 2 => s.raise .obsReacqFail (leSource n) 0 st
    | 3 => s.raise .linePllLost (leSource n) 0 st
    | 4 => s.raise .tuneLimit (leSource n) 0 st
    | v =>
      if 16 ≤ v ∧ v ≤ 31 then s.raise .prgUser (leSource n) v st
      else if 32 ≤ v ∧ v ≤ 47 then s.raise .prgUserWarn (leSource n) v st
      else s
  else s

/-- Next reload point of the carrier of axis `n` whose claim falls after a Tide count (R30, R264). -/
def State.nextReload (s : State) (n : Fin 4) (st : Nat) : Nat :=
  let p := s.period n
  let z := (s.carrier n).zero / 32
  let from_ := st + 5
  if p = 0 then from_
  else
    let zp := nextPoint from_ z p
    let pp := nextPoint from_ (z + p / 2) p
    match s.get (Reg.PWM_CTL_RELOAD n) with
    | 2 => pp
    | 3 => min zp pp
    | _ => zp

/-- Completion ratio of the sample served (R54): the larger of C/Bc and P/Bp. -/
def State.commitRatio (s : State) (t : Nat) (n : Fin 4) (st : Nat) : Q :=
  let bc := s.nextReload n st - 4 - st
  let c : Q := ⟨(t - st : Nat), bc⟩
  ((s.engine n).pRatio).elim c (qMax c)

/-- Index of an engine among the blocks that measure ratios. -/
def railOf (n : Fin 4) : Fin 5 := ⟨n.val, by omega⟩

/-- A pilot hit becomes live: provisional entries, scratch state, held stores, flags and the hit
counter (R234). -/
def State.hitLive (s : State) (t : Nat) (n : Fin 4) : State :=
  let e := s.engine n
  let s := e.prov.reverse.foldl (fun s p => s.setPort n p.1 p.2) s
  let s := e.scratch.reverse.foldl (fun s p => s.setState n p.1 p.2) s
  let s := e.held3.foldl (fun s p => s.setBuf n p.1 p.2) s
  ((s.mergeFlags t n).incHold (Reg.LE_HIT_COUNT n)).updEng n Eng.dropPilot

/-- The observer loss of an axis ends: LOST clears, the notice in entry 206 ends (R198, R242). -/
def State.obsFound (s : State) (n : Fin 4) : State :=
  let s := (s.set (Reg.FBK_OBSCFG_LOST n) 0).setPort n 206 0
  { s with fbk := s.fbk.set n { s.fbk[n] with obsAbove := none, obsHold := none } }

/-- The port takes the observer entries of a committed set (R197, R225); ACTIVE set again after a
loss is the re-acquisition of R254. -/
def State.takeObserver (s : State) (n : Fin 4) (set : List (Nat × Word)) : State :=
  let ang := bfVal (entryOf set 160)
  let turn := qSub ang (qInt (qFloor ang))
  let act := decide (entryOf set 163 ≠ 0)
  let was := s.bit (Reg.FBK_OBSCFG_ACTIVE n)
  let s := s.set (Reg.FBK_OBSANG_EANG n) (qFloor (qMul turn (qInt 65536))).toNat
  let s := (s.setReg (Reg.FBK_OBSSPD n) (entryOf set 161)).setReg (Reg.FBK_OBSRES n) (entryOf set 162)
  let s := s.setB (Reg.FBK_OBSCFG_ACTIVE n) act
  if act && !was && s.bit (Reg.FBK_OBSCFG_LOST n) then
    (s.obsFound n).autoClear .obsLost (47 + n) 0
  else s

/-- Entry 175 of a committed set decides on the held reaction (R254): it is held while it reads
2-4. -/
def State.obsSequence (s : State) (n : Fin 4) (set : List (Nat × Word)) : State :=
  let v := bfVal (entryOf set 175)
  if qEq v (qInt 1) || qEq v (qInt 5) then s.obsReact n else s

/-- COMMIT of the pass in progress: OVM where a duty is clamped, the request of the element, and the
end of a pass that hands nothing over (R219, R227, R230). -/
def State.commitPass (s : State) (t : Nat) (n : Fin 4) : State :=
  let ph := s.phase n
  let e := s.engine n
  if ph = 5 ∨ e.orphan ∨ !(s.axis n).st.closed then
    let s := if ph = 4 then s.set (Reg.LE_PASS_FULL n) (min 65535 (t - e.started)) else s
    s.endPass t n
  else
    let s := s.flagIf t n fOvm (s.dutyOut n)
    let s := if ph = 4 then s.set (Reg.LE_PASS_FULL n) (min 65535 (t - e.started)) else s
    s.updEng n fun e =>
      { e with
        crossing := true, settledAt := t
        samples := e.samples.map fun p =>
          if some p.1 = e.serving then (p.1, some (p.2.getD t)) else p }

/-- An engine-variable record of the Logbook (R418 kind 3): sample stamp, then words of the state or the
port window. -/
def State.engItem (s : State) (n : Fin 4) (st : Nat) (c : LogChan) : List Byte :=
  leBytes 8 st ++ (List.range c.b3).flatMap fun i =>
    leBytes 4 (if c.b2 = 1 then s.stateEntry n (c.first + i) else s.readPort n (c.first + i)).toNat

/-- The hand-over of a committed set `set` with its duties `duty` (R225, R234, R238, R256): a hit becomes live, the
shadow bank, the record of the last commit and the observer take the set, which is from now on the one that TUNE_RESULT shows
(R242, R259), and the next pass starts. -/
def State.handOver (s : State) (t : Nat) (n : Fin 4) (set : List (Nat × Word)) (duty : DutySet) : State :=
  let e := s.engine n
  let st := e.serving.getD t
  let s := (s.passDone t n).leCount n 7 (t - e.settledAt)
  let s := if s.phase n = 3 then s.hitLive t n else s
  let s := s.updCarrier n fun c =>
    { c with before := c.shadow, shadow := duty, shadowReq := e.settledAt, shadowAt := t }
  let s := s.recordRatio (railOf n) (s.commitRatio t n st)
  let s := s.updEng n fun e =>
    { e with handed := set, committed := true, lastCommit := t, crossing := false }
  let s := s.updAxis n fun a => { a with tune := { a.tune with ended := none } }
  let s := s.logEvent s.epoch (leSource n) st fun c =>
    if c.kind = 3 ∧ c.b1 = n.val then some (s.engItem n st c) else none
  let s := s.takeObserver n set
  let s := s.faultRequest n (entryOf e.handed 184).toNat (entryOf set 184).toNat st
  let s := s.obsSequence n set
  if s.pilots n && (s.engine n).committed then s.startPilot t n else s.engineFree t n

/-- COMMIT_COMPLETE: the crossing is granted; a pass of an axis that no longer runs hands nothing over (R219,
R238). -/
def commitComplete (t : Nat) (n : Fin 4) (s : State) : State :=
  let s := s.upto t
  if (s.engine n).crossing then
    if (s.engine n).orphan || !(s.axis n).st.closed then s.endPass t n
    else s.handOver t n (s.handSet n) (s.dutySet n)
  else s

def execCommitComplete (t : Nat) (n : Fin 4) (s : State) : Res := .next (commitComplete t n s)

end Sys2Proof.Machine
end

