-- ==== Sys2Proof/Machine/Logbook.lean ====
section
/-! DEFINITION. The Logbook (R417-R422): release of fault and gate records, the write of closed blocks to
the ring, the trigger, the freeze and the disarm, and the last-words summary (R423). -/

namespace Sys2Proof.Machine

/-! ### Release of records (R65) -/

/-- A released record of its channel enters its block, or ends it (R418, R419). -/
def State.takeWait (now : Nat) (s : State) (w : LogWait) : State :=
  if w.close then s.closeBlock now w.chan else s.logPut now w.chan w.item

/-- The records whose slots are released enter the blocks of their channels, in the order of R63 (R65, R418). -/
def State.drainLog (s : State) (now : Nat) : State :=
  let rel (w : LogWait) : Bool := s.released w.item.epoch w.item.stamp
  let due := s.logb.evs.filter rel
  due.foldl (State.takeWait now) (s.updLogb fun b => { b with evs := b.evs.filter fun w => !rel w })

/-- VIEW_RELEASE: the Tide count passes the release instant of a slot (R65). The fault queue shows the
entry from now on; the Logbook takes its records, the edges that the output stage has placed by now among them. -/
def viewRelease (t : Nat) (s : State) : State :=
  let s := (s.upto t).drive (32 * t)
  s.drainLog s.tide

def execViewRelease (t : Nat) (s : State) : Res := .next (viewRelease t s)

/-! ### The ring (R417, R419, R420) -/

/-- Blocks in the region. -/
def State.ringBlocks (s : State) : Nat := s.get Reg.LOGB_SIZE_MIB * 256

/-- The block holds the trigger `T`: T lies from its first to its last item (R419). -/
def LogBlock.holds (b : LogBlock) (trig : Option Nat) : Bool :=
  trig.any fun t => decide (b.firstSt ≤ t ∧ t ≤ b.lastSt)

/-- The 32-byte header of a block (R419). -/
def LogBlock.header (b : LogBlock) (kind : Nat) (trig : Option Nat) : List Byte :=
  [BitVec.ofNat 8 b.chan, BitVec.ofNat 8 kind,
   BitVec.ofNat 8 ((if b.gap then 1 else 0) + (if b.holds trig then 2 else 0) + (if b.last then 4 else 0)),
   BitVec.ofNat 8 ((b.items.head?.map LogItem.epoch).getD b.epoch)] ++
    leBytes 4 b.seq ++ leBytes 8 b.firstSt ++ leBytes 8 b.lastSt ++ leBytes 2 b.items.length ++
    leBytes 2 (b.bytes.length / b.items.length) ++ leBytes 4 b.closedAt

/-- A closed block is written at the next position of the ring (R419). The bytes after its items are
free values (log entry 7). -/
def State.writeBlock (s : State) (b : LogBlock) : State :=
  let pos := s.get Reg.LOGB_WPTR_BLOCK
  let n := s.ringBlocks
  let kind := (s.logb.chans[b.chan]?.map (·.kind)).getD 0
  let (pad, s) := s.freeBytes (4064 - b.bytes.length)
  let a := s.get Reg.LOGB_BASE_BASE * 2 ^ 20 + 4096 * pos
  let s := s.setBytes a (b.header kind s.logb.trigAt ++ b.bytes ++ pad)
  let s := s.updLogb fun k => { k with ring := ((pos, b.closedAt) :: k.ring).take n }
  s.set Reg.LOGB_WPTR_BLOCK (if n ≤ pos + 1 then 0 else pos + 1)

/-- Blocks that were closed with the queue full join it where there is room, the oldest first (R420). -/
def State.queueFull (s : State) : State :=
  let full := (s.logb.blocks.filter fun b => b.full).map fun b => (b.seq, b.chan)
  match full.foldl (fun (m : Option (Nat × Nat)) p => if m.any fun q => decide (q.1 < p.1) then m else some p) none with
  | some p => s.queueBlock p.2
  | none => s

/-- LOGBOOK_BLOCK_WRITE: the DRAM arbiter grants the oldest queued block (R420). -/
def logbookBlockWrite (t : Nat) (s : State) : State :=
  let s := s.upto t
  match s.logb.queue with
  | [] => s
  | b :: r => if s.recording then ((s.updLogb fun k => { k with queue := r }).writeBlock b).queueFull else s

def execLogbookBlockWrite (t : Nat) (s : State) : Res := .next (logbookBlockWrite t s)

/-! ### Trigger, freeze, disarm (R421) -/

/-- The trigger instant. -/
def State.trigT (s : State) : Nat := s.logb.trigAt.getD 0

/-- Close every open block (R419). -/
def State.closeAll (s : State) (now : Nat) : State :=
  (List.range s.logb.blocks.length).foldl (fun s i => s.closeBlock now i) s

/-- Mark the last closed block as the last of the record (R419). -/
def markLast : List LogBlock → List LogBlock
  | [] => []
  | [b] => [{ b with last := true }]
  | b :: r => b :: markLast r

/-- The frozen record (R421): the blocks from the first that closed at or after T - PRE, as start position
and count; the list holds the newest first. -/
def recordOf (ring : List (Nat × Nat)) (from_ : Int) : Option (Nat × Nat) :=
  let l := ring.reverse.dropWhile fun p => decide ((p.2 : Int) < from_)
  l.head?.map fun p => (p.1, l.length)

/-- The newest block of the ring becomes the last of the record (R419). -/
def State.markRing (s : State) : State :=
  match s.logb.ring.head? with
  | none => s
  | some p =>
    let a := s.get Reg.LOGB_BASE_BASE * 2 ^ 20 + 4096 * p.1 + 2
    s.setByte a (s.byte a ||| 4)

/-- Insert a closed block in the order of closing. -/
def insertBlock (b : LogBlock) : List LogBlock → List LogBlock
  | [] => [b]
  | x :: r => if b.seq < x.seq then b :: x :: r else x :: insertBlock b r

/-- Closed blocks that wait, for a freeze: the queue, and then the blocks closed with the queue full or by the
freeze, in the order of their closing (R419, R421). -/
def State.blocksDue (s : State) : List LogBlock :=
  s.logb.queue ++ (s.logb.blocks.filter fun b => b.full).foldl (fun l b => insertBlock b l) []

/-- Freeze the record: every open block is closed, the closed blocks reach the ring, and no more is written (R421).
Records whose slots are not released yet are not in it (DESIGN CHOICE, log entry 57). -/
def State.logFreeze (s : State) (now : Nat) : State :=
  let s := (s.drive (32 * now)).drainLog now
  let s := s.closeAll now
  let q := markLast s.blocksDue
  let s := if q.isEmpty then s.markRing
    else q.foldl State.writeBlock (s.updLogb fun k => { k with queue := [], blocks := [] })
  let rec_ := recordOf s.logb.ring ((s.trigT : Int) - s.logb.pre * 400000)
  let s := s.updLogb fun k => { k with frozen := rec_, evs := [] }
  let s := s.sets [(Reg.LOGB_STAT_STATE, 3), (Reg.LOGB_IRQ_FROZEN, 1)]
  match rec_ with
  | none => let (w, s) := s.freeWord; (s.set Reg.LOGB_FRZBLK_BLOCKS 0).setReg Reg.LOGB_PRE w
  | some (p, n) =>
    let a := s.get Reg.LOGB_BASE_BASE * 2 ^ 20 + 4096 * p
    let first := leNat (s.bytes (a + 8) 8)
    s.sets [(Reg.LOGB_FRZBLK_BLOCKS, n), (Reg.LOGB_PRE_US, min (2 ^ 32 - 1) ((s.trigT - first) / 400))]

/-- LOGBOOK_FREEZE: T + POST is reached (R421). -/
def logbookFreeze (t : Nat) (s : State) : State :=
  let s := s.upto t
  if s.get Reg.LOGB_STAT_STATE = 2 ∧ s.trigT + s.logb.post * 400000 ≤ s.tide then s.logFreeze s.tide else s

def execLogbookFreeze (t : Nat) (s : State) : Res := .next (logbookFreeze t s)

/-- The Logbook becomes idle; a frozen record is discarded (R421). -/
def State.logIdle (s : State) : State :=
  (s.updLogb fun k =>
    { k with
      chans := [], skips := [], blocks := [], gaps := [], evs := [], queue := [], ring := [], trigAt := none
      frozen := none, sev := 0 }).sets
    [(Reg.LOGB_STAT_STATE, 0), (Reg.LOGB_FRZBLK_BLOCKS, 0)]

/-- Disarm by action 1 (R421). -/
def State.logDisarm (s : State) (now : Nat) : State :=
  match s.get Reg.LOGB_STAT_STATE with
  | 1 => s.logIdle
  | 2 => s.logFreeze now
  | 3 => s.logIdle
  | _ => s

/-- An armed Logbook is triggered by action 2 or by a write of `LOGB_CTL.TRIG` (R421). -/
def State.logTriggerNow (s : State) (now : Nat) : State := s.logTrigger now

/-! ### Last words (R423) -/

/-- Start of the last-words slots (R402). -/
def lwBase : Nat := 0x63FF0000

/-- Sequence of a slot that holds a valid summary. -/
def State.lwSeq (s : State) (i : Nat) : Option Nat :=
  let a := lwBase + 4096 * i
  if s.bytes a 4 = [0x4C, 0x58, 0x4C, 0x57] then
    let b := s.bytes a 4092
    if crc32c b = BitVec.ofNat 32 (leNat (s.bytes (a + 4092) 4)) then some (leAt b 4 4) else none
  else none

/-- Newest valid slot and its sequence. -/
def State.lwNewest (s : State) : Option (Nat × Nat) :=
  (List.range 16).foldl (fun best i =>
    match s.lwSeq i, best with
    | some q, some (_, p) => if (q + 2 ^ 32 - p) % 2 ^ 32 < 2 ^ 31 then some (i, q) else best
    | some q, none => some (i, q)
    | none, _ => best) none

/-- `LOGB_LWSLOT` as found at start. -/
def State.lwFound (s : State) : State :=
  match s.lwNewest with
  | some (i, q) => s.sets [(Reg.LOGB_LWSLOT_SLOT, i), (Reg.LOGB_LWSLOT_VALID, 1), (Reg.LOGB_LWSLOT_SEQ, q)]
  | none => s.sets [(Reg.LOGB_LWSLOT_SLOT, 0), (Reg.LOGB_LWSLOT_VALID, 0), (Reg.LOGB_LWSLOT_SEQ, 0)]

/-- The slot that takes the next summary. -/
def State.lwNext (s : State) : Nat := match s.lwNewest with | some (i, _) => (i + 1) % 16 | none => 0

/-- Exactly `n` bytes: cut, or filled with 0. -/
def padTo (n : Nat) (l : List Byte) : List Byte := l.take n ++ List.replicate (n - l.length) 0

/-- Bytes 0-4091 of the summary at `now` for a signal of stamp `st` (R423). Fields the manual states no
value for are free: the sequence of a first summary and the CRC without a safety set. -/
def State.lwSummary (s : State) (now st : Nat) : List Byte :=
  let seq := match s.lwNewest with | some (_, q) => q + 1 | none => Config.freeNat s.free
  let crc := match s.lk.inForce with | some x => x.crc | none => Config.freeNat (s.free + 1)
  let entries := s.fqView.take 64
  let states := s.axes.toList.map fun a => BitVec.ofNat 8 a.st.code
  let a := ([0x4C, 0x58, 0x4C, 0x57] : List Byte) ++ leBytes 4 seq ++ leBytes 8 st ++
    [BitVec.ofNat 8 s.epoch, BitVec.ofNat 8 s.modState] ++ states ++ [0, 0] ++ leBytes 8 now ++
    leBytes 4 s.hm.fw.version ++ leBytes 4 s.newestVersion ++ leBytes 4 crc ++
    leBytes 4 (s.reg Reg.ADC_VHVVAL).toNat ++
    [BitVec.ofNat 8 (s.get Reg.LOGB_STAT_STATE), BitVec.ofNat 8 (s.get Reg.LOGB_STAT_PLAN), 0, 0] ++
    leBytes 8 ((s.reg Reg.LOGB_TRIGH).toNat * 2 ^ 32 + (s.reg Reg.LOGB_TRIGL).toNat) ++
    leBytes 4 (s.get Reg.LOGB_FRZBLK_BLOCKS) ++ leBytes 4 (s.get Reg.LOGB_LOST_COUNT) ++
    List.replicate 12 0
  let f := padTo 1280 (entries.flatMap Entry.bytes)
  let c := leBytes 2 entries.length ++ [BitVec.ofNat 8 (s.get Reg.BW_FQSTAT_OVFL), 0] ++
    leBytes 2 (s.get Reg.BW_FQSTAT_LOST) ++ [0, 0]
  let h := (List.range 44).flatMap fun i => leBytes 4 (s.reg (Reg.HK_VAL i)).toNat
  padTo 4092 (a ++ f ++ c ++ h)

/-- LAST_WORDS_WRITE: the summary is written; `ok` is whether it reads back correctly (R423, R428). -/
def lastWords (t : Nat) (ok : Bool) (s : State) : State :=
  let s := s.upto t
  match s.pwr.lwDue with
  | none => s
  | some st =>
    let b := s.lwSummary s.tide st
    let b := b ++ leBytes 4 (crc32c b).toNat
    let a := lwBase + 4096 * s.lwNext
    let s := { s with free := s.free + 2, pwr := { s.pwr with lwDue := none } }
    if ok then s.setBytes a b
    else
      let (junk, s) := s.freeBytes 4096
      (s.setBytes a junk).raise .logbLastwordsFail 55 0 t

def execLastWordsWrite (t : Nat) (ok : Bool) (s : State) : Res := .next (lastWords t ok s)

end Sys2Proof.Machine
end

