-- ==== Sys2Proof/Machine/NetBase.lean ====
section
/-! DEFINITION. The transmit buffers of the CAN controllers that Harbourmaster and Lookout use (R88,
R389), and the ARP table (R372). -/

namespace Sys2Proof.Machine

def State.canCtl (s : State) (c : Fin 4) : CanCtl := s.can[c]
def State.updCan (s : State) (c : Fin 4) (f : CanCtl → CanCtl) : State :=
  { s with can := s.can.set c (f (s.canCtl c)) }

/-! ### CAN (R389) -/

/-- A buffer is pending. -/
def State.txPending (s : State) (c : Fin 4) (b : Fin 16) : Bool := s.get (Reg.CAN_TXCTL_STATE c b) == 1

/-- The data lengths that a DLC encodes. -/
def dlcLengths : List Nat := [0, 1, 2, 3, 4, 5, 6, 7, 8, 12, 16, 20, 24, 32, 48, 64]

/-- The smallest of them that holds `n` bytes. -/
def dlcCeil (n : Nat) : Nat := (dlcLengths.find? fun k => decide (n ≤ k)).getD 64

/-- Load an FD frame into a buffer and make it pending. Whether the frame switches its bit rate is not
stated for the frames of Harbourmaster and Lookout: a free value (log entry 7). -/
def State.canLoad (s : State) (c : Fin 4) (b : Fin 16) (id : Word) (data : List Byte) : State :=
  let n := dlcCeil data.length
  let data := data ++ List.replicate (64 - data.length) 0
  let (brs, s) := s.freeNat
  let s := s.setReg (Reg.CAN_TXID c b) (id ||| 0x40000000 ||| (BitVec.ofNat 32 (brs % 2) <<< 31))
  let s := (List.range 16).foldl (fun s w =>
    s.setReg (Reg.CAN_TXDATA c b w) (BitVec.ofNat 32 (leNat ((data.drop (4 * w)).take 4)))) s
  s.setReg (Reg.CAN_TXCTL c b) (BitVec.ofNat 32 (n + 1024))

/-- The next fragment of Harbourmaster's replies enters buffer 14, the next frame of Lookout buffer 15,
where these are free. -/
def State.canFeed (s : State) (c : Fin 4) : State :=
  if s.bit (Reg.CAN_CTL_EN c) then
    let s := match s.hm.canTx[c] with
      | [] => s
      | fr :: r =>
        if s.txPending c 14 then s
        else ({ s with hm := { s.hm with canTx := s.hm.canTx.set c r } }).canLoad c 14
          (s.reg (Reg.CAN_RPLID c) &&& 0x3FFFFFFF) fr
    match (s.canCtl c).lkTx with
    | [] => s
    | (id, fr) :: r =>
      if s.txPending c 15 then s else (s.updCan c fun x => { x with lkTx := r }).canLoad c 15 id fr
  else s

/-- A Lookout frame for a CAN path (R361): an extended frame with the connection's identifier. -/
def State.lkCanSend (s : State) (c : Fin 4) (id : Nat) (fr : List Byte) : State :=
  if s.bit (Reg.CAN_CTL_EN c) then
    (s.updCan c fun x =>
      { x with lkTx := x.lkTx ++ [(BitVec.ofNat 32 (id % 2 ^ 29) ||| 0x20000000, fr)] }).canFeed c
  else s

/-! ### ARP (R372, R379) -/

/-- The address to resolve for a destination: itself, or the gateway outside the subnet. -/
def State.nextHop (s : State) (ip : Nat) : Nat :=
  let m := s.reg Reg.ETH_IPMASK
  let gw := s.reg Reg.ETH_IPGW
  if BitVec.ofNat 32 ip &&& m = s.reg Reg.ETH_IPADDR &&& m ∨ gw = 0 then ip else gw.toNat

/-- The MAC address of a destination, where ARP holds it. -/
def State.arpFind (s : State) (ip : Nat) : Option Nat :=
  (s.eth.arp.find? fun e => e.ip == s.nextHop ip).map (·.mac)

/-- A multicast IPv4 address. -/
def ipMulticast (ip : Nat) : Bool := ip / 2 ^ 28 == 14

/-- Lookout's destination can be reached (R379). -/
def State.lkReach (s : State) : Bool :=
  let ip := (s.reg Reg.ETH_LKDEST).toNat
  ipMulticast ip || (s.arpFind ip).isSome

end Sys2Proof.Machine
end

