-- ==== Sys2Proof/Machine/Front.lean ====
section
/-! DEFINITION. The front end of Harbourmaster: packets (R75, R76), replies (R77), the checks 1-6 of
R81, channels and sessions (R83, R93-R95), and the transports (R86-R89). -/

namespace Sys2Proof.Machine

/-! ### Packets -/

/-- The fields of a packet of at least 18 bytes (R75). -/
structure Pkt where
  flags : BitVec 8
  len : Nat
  target : Nat
  seq : Nat
  op : Nat
  payload : List Byte
  /-- Header and payload, over which the tag runs (R93). -/
  body : List Byte
  tag : List Byte
  crc : Nat
  deriving DecidableEq, Repr

/-- Bit 1 of the flags: a tag is present. -/
def Pkt.auth (p : Pkt) : Bool := p.flags.getLsbD 1

/-- Bytes of a packet with this header: 18 + Length, and 16 for a tag (R75). -/
def declared (b : List Byte) : Nat :=
  18 + beAt b 4 2 + (if (b[3]?.getD 0).getLsbD 1 then 16 else 0)

/-- Read the fields of a packet. -/
def readPkt (b : List Byte) : Pkt :=
  let len := beAt b 4 2
  let fl : Byte := b[3]?.getD 0
  { flags := fl, len := len, target := beAt b 6 1, seq := beAt b 8 4, op := beAt b 12 2
    payload := (b.drop 14).take len, body := b.take (14 + len)
    tag := if fl.getLsbD 1 then (b.drop (14 + len)).take 16 else []
    crc := beNat (b.drop (b.length - 4)) }

/-- The opcodes of R103. -/
def opcodes : List Nat :=
  [0x01, 0x02, 0x10, 0x11, 0x12, 0x20, 0x21, 0x22, 0x30, 0x31, 0x32, 0x33, 0x40, 0x41, 0x42, 0x50, 0x51,
   0x60, 0x61, 0x70, 0x80, 0x81, 0x90, 0xA0, 0xA1, 0xB0, 0xB1, 0xC0]

/-- Status codes (R81). -/
def stOk : Nat := 0x00
def stPending : Nat := 0x01
def errOpcode : Nat := 0x10
def errLength : Nat := 0x11
def errCrc : Nat := 0x12
def errState : Nat := 0x13
def errLoopClosed : Nat := 0x14
def errRange : Nat := 0x15
def errBudget : Nat := 0x16
def errAuth : Nat := 0x17
def errBusy : Nat := 0x18
def errSafety : Nat := 0x19
def errSequence : Nat := 0x1A

/-- A reply body (R77). -/
structure Reply where
  status : Nat
  detail : Nat := 0
  stamp : Nat
  data : List Byte := []
  deriving DecidableEq, Repr

/-- What a reply copies from its command. -/
structure Head where
  chan : Chan
  target : Nat
  seq : Nat
  op : Nat
  ack : Bool
  buf : Option (Nat × Nat)
  deriving DecidableEq, Repr

/-- The session of a channel (R93). -/
def State.session (s : State) (ch : Chan) : Option Session := s.hm.sess.find? fun x => x.chan == ch

/-- The bytes of a reply (R77, R93): tagged with the key of the channel's session. -/
def State.replyBytes (s : State) (h : Head) (r : Reply) (completion : Bool) : List Byte :=
  let key := (s.session h.chan).map (·.key)
  let fl := 128 + (if completion then 64 else 0) + (if key.isSome then 2 else 0) + (if h.ack then 1 else 0)
  let body := [BitVec.ofNat 8 r.status, BitVec.ofNat 8 s.epoch] ++ beBytes 2 r.detail ++ beBytes 8 r.stamp ++
    r.data
  let b := ([0x4C, 0x58, 0x01, BitVec.ofNat 8 fl] : List Byte) ++ beBytes 2 body.length ++
    [BitVec.ofNat 8 h.target, 0] ++ beBytes 4 h.seq ++ beBytes 2 h.op ++ body
  let b := b ++ ((key.map fun k => mac16 k b).getD [])
  b ++ beBytes 4 (crc32c b).toNat

/-! ### Reply transports (R86-R89) -/

/-- The 64-byte descriptor of a reply: address and length. -/
def replyDesc (addr len : Nat) : List Byte := leBytes 8 addr ++ leBytes 2 len ++ List.replicate 54 0

/-- The reply berth of a core (R89). -/
def replyBerth (n : Fin 4) : Fin 32 := ⟨n.val + 4, by omega⟩

/-- A reply descriptor goes to the core's reply berth, or waits for it (R89). -/
def State.berthReply (s : State) (n : Fin 4) (addr len : Nat) : State :=
  let busy := s.hm.waits.any (fun w => w.chan == .berth n) || s.bit (Reg.BERTH_STAT_FULL (replyBerth n))
  if busy then
    s.updHm fun h =>
      { h with waits := h.waits ++ [{ chan := .berth n, bytes := leBytes 2 len, since := s.tide, addr := addr }] }
  else s.berthMessage (replyBerth n) (replyDesc addr len)

/-- Fragments of a packet (R88). -/
def canFragments : Nat → Nat → List Byte → List (List Byte)
  | 0, _, _ => []
  | fuel + 1, i, b =>
    let last := decide (b.length ≤ 63)
    let hd := (if i = 0 then 128 else 0) + (if last then 64 else 0) + i
    (BitVec.ofNat 8 hd :: b.take 63) :: (if last then [] else canFragments fuel (i + 1) (b.drop 63))

/-- HRDY is high: the reply queue has room; the input buffer is free between two writes, the front end taking a packet
as it is complete (R82, R87, log entry 53). -/
def State.hrdy (s : State) : Bool := decide (s.hm.hspiQ.length < 16)

/-- HRDY falls where a reply has filled the queue. -/
def State.hrdyFell (s : State) : State := if s.hrdy then s else s.emit (.hrdy false)

/-- Send the bytes of a reply back on its channel (R83); a member answers a relayed command through the lead (R450). -/
def State.transmit (s : State) (h : Head) (b : List Byte) : State :=
  match h.chan with
  | .udp _ _ => s.emit (.reply h.chan b)
  | .udpRelay ip port => s.sendTo 0 12 ([ip, port] ++ b.map BitVec.toNat)
  | .hspi =>
    if s.hm.hspiQ.length < 16 then (s.updHm fun m => { m with hspiQ := m.hspiQ ++ [b] }).hrdyFell
    else s.updHm fun m =>
      { m with waits := m.waits ++ [{ chan := .hspi, bytes := b, since := s.tide, addr := 0 }] }
  | .can c =>
    (s.updHm fun m => { m with canTx := m.canTx.set c (m.canTx[c] ++ canFragments 17 0 b) }).canFeed c
  | .berth n =>
    match h.buf with
    | none => s
    | some (a, _) => (s.setBytes a b).berthReply n a b.length

/-- The reply as its transport can carry it: a reply larger than the berth's buffer is replaced by
ERR_LENGTH without data (R89). -/
def State.fitted (s : State) (h : Head) (r : Reply) (completion : Bool) : List Byte :=
  let b := s.replyBytes h r completion
  match h.buf with
  | some (_, size) =>
    if size < b.length then s.replyBytes h { status := errLength, stamp := r.stamp } completion else b
  | none => b

/-- One byte per axis: its state, 0xFF where it is idle (R104). -/
def State.axisBytes (s : State) : List Byte :=
  ([0, 1, 2, 3] : List (Fin 4)).map fun n => if s.idle n then 0xFF else BitVec.ofNat 8 (s.axis n).st.code

/-- One byte per axis of M0-M7: 0xFF for those of an absent module, and free values for those of another member
(R104, R452, log entry 7). -/
def State.groupAxes (s : State) : List Byte × State :=
  mids8.foldl (fun (r : List Byte × State) (m : Fin 8) =>
    if m = s.mid then (r.1 ++ s.axisBytes, r.2)
    else if s.bit (Reg.MOOR_MEMBER_PRESENT m) then
      let x := r.2.freeBytes 4
      (r.1 ++ x.1, x.2)
    else (r.1 ++ [0xFF, 0xFF, 0xFF, 0xFF], r.2)) ([], s)

/-- A reply as it is sent: every reply to an AXIS_STATE with the module or the group as its target carries the states
of the axes, whatever its status (R104). -/
def State.dressed (s : State) (h : Head) (r : Reply) : Reply × State :=
  if h.op = 0x30 ∧ h.target = 0xF0 then ({ r with data := s.axisBytes }, s)
  else if h.op = 0x30 ∧ h.target = 0xFF then let x := s.groupAxes; ({ r with data := x.1 }, x.2)
  else (r, s)

/-- Answer a packet. -/
def State.answer (s : State) (h : Head) (r : Reply) : State :=
  let x := s.dressed h r
  x.2.transmit h (x.2.fitted h x.1 false)

/-- The bytes of a reply sent again; one larger than the buffer of the new descriptor is replaced by ERR_LENGTH with
its stamp (R84, R89). -/
def State.refitted (s : State) (h : Head) (b : List Byte) : List Byte :=
  match h.buf with
  | some (_, size) =>
    if size < b.length then
      s.replyBytes h { status := errLength, stamp := beAt b 18 8 } ((b[3]?.getD 0).getLsbD 6)
    else b
  | none => b

/-! ### Channels (R83) -/

/-- A channel as Harbourmaster holds it; a channel not yet held starts with L = 0. -/
def State.channel (s : State) (ch : Chan) : ChanSt :=
  (s.hm.chans.find? fun c => c.chan == ch).getD { chan := ch }

def State.putChannel (s : State) (c : ChanSt) : State :=
  s.updHm fun h => { h with chans := h.chans.filter (fun x => x.chan != c.chan) ++ [c] }

def State.updChannel (s : State) (ch : Chan) (f : ChanSt → ChanSt) : State := s.putChannel (f (s.channel ch))

/-! ### Pending commands (R78, R80, R84, R85) -/

def PendCmd.head (p : PendCmd) : Head :=
  { chan := p.chan, target := p.target, seq := p.seq, op := p.op, ack := decide (p.flags % 2 = 1)
    buf := p.buf }

/-- The pending command of an opcode and target. -/
def State.pendOf (s : State) (op target : Nat) : Option PendCmd :=
  s.hm.pend.find? fun p => p.op == op && p.target == target

/-- The PENDING reply of a command is due: more than 1 ms has passed since its receipt (R78). -/
def State.pendDue (s : State) (p : PendCmd) : Bool := p.hold.isSome && decide (p.at_ + Config.ms < s.tide)

/-- Send the PENDING replies that are due. -/
def State.sendDue (s : State) : State :=
  (s.hm.pend.filter s.pendDue).foldl (fun (s : State) p => s.transmit p.head (p.hold.getD []))
    (s.updHm fun h => { h with pend := h.pend.map fun p => if s.pendDue p then { p with hold := none } else p })

/-- A pending command completes: its completion reply, or its only reply where no PENDING has been sent by then,
which takes the place of the PENDING reply in the reply cache of its channel (R78, R85). -/
def State.complete (s : State) (p : PendCmd) (r : Reply) : State :=
  let s := s.updHm fun h => { h with pend := h.pend.erase p }
  let s := if s.pendDue p then s.transmit p.head (p.hold.getD []) else s
  let b := s.fitted p.head r (p.hold.isNone || s.pendDue p)
  let s :=
    if s.hm.chans.any (fun c => c.chan == p.chan) then
      s.updChannel p.chan fun c =>
        { c with
          cache := c.cache.map fun (e : Cached) =>
            if e.seq = p.seq ∧ e.pending then { e with reply := b, pending := false } else e }
    else s
  s.transmit p.head b

/-- Detail of ERR_STATE: module state, and axis state or 0xFF (R81). -/
def State.stateDetail (s : State) (n : Option (Fin 4)) : Nat :=
  256 * s.modState + ((n.map fun n => (s.axis n).st.code).getD 0xFF)

/-- Complete the pending command of an opcode and target, where there is one. -/
def State.completeOp (s : State) (op target : Nat) (r : Reply) : State :=
  match s.pendOf op target with
  | some p => s.complete p r
  | none => s

/-- A pending command that is superseded or no longer valid completes with ERR_STATE and the state at that
instant (R80). -/
def State.supersede (s : State) (op target : Nat) (n : Option (Fin 4)) : State :=
  s.completeOp op target { status := errState, detail := s.stateDetail n, stamp := s.tide }

/-! ### Arrival (R81, R82) -/

def Pkt.head (p : Pkt) (ch : Chan) (buf : Option (Nat × Nat)) : Head :=
  { chan := ch, target := p.target, seq := p.seq, op := p.op, ack := p.flags.getLsbD 0, buf := buf }

/-- A packet discarded without reply is counted (R81, R88). -/
def State.discard (s : State) : State := s.updHm fun h => { h with disc := h.disc + 1 }

/-- Harbourmaster answers commands: not before the end of BOOT (R102), and from the power-loss signal not
until it has cleared and the last words are written (R423, R472). -/
def State.answers (s : State) : Bool :=
  s.pwr.up && s.modState != 0 && !s.bit Reg.PWR_STATUS_LOSS && s.pwr.lwDue.isNone

/-- Checks 1-6 of R81 on the bytes of one packet, in their order; a packet that passes enters the
front-end queue. -/
def State.arrive (s : State) (ch : Chan) (b : List Byte) (buf : Option (Nat × Nat)) : State :=
  let p := readPkt b
  let no (st : Nat) : State := s.answer (p.head ch buf) { status := st, stamp := s.tide }
  if !s.answers then s
  else if b.length < 18 ∨ beAt b 0 2 ≠ 0x4C58 then s.discard
  else if p.flags.getLsbD 7 then s.discard
  else if b.length ≠ declared b ∨ 1024 < p.len then no errLength
  else if (crc32c (b.take (b.length - 4))).toNat ≠ p.crc then no errCrc
  else if beAt b 2 1 ≠ 1 ∨ !opcodes.contains p.op then no errOpcode
  else if 32 ≤ s.hm.feq.length then no errBusy
  else s.updHm fun h => { h with feq := h.feq ++ [{ chan := ch, bytes := b, at_ := s.tide, buf := buf }] }

/-- UDP_DATAGRAM (R86). -/
def execUdpDatagram (t ip port : Nat) (b : List Byte) (s : State) : Res :=
  .next ((s.upto t).sendDue.arrive (.udp ip port) b none)

/-- HSPI_WRITE: HRDY falls at its end and rises again, unless its answer has filled the reply queue; a write while
HRDY is low has no effect (R87). -/
def hspiWrite (t : Nat) (b : List Byte) (s : State) : State :=
  let s := s.upto t
  if s.hrdy then
    let s := ((s.emit (.hrdy false)).sendDue).arrive .hspi b none
    if s.hrdy then s.emit (.hrdy true) else s
  else s

def execHspiWrite (t : Nat) (b : List Byte) (s : State) : Res := .next (hspiWrite t b s)

/-- A waiting HSPI reply enters the queue. -/
def State.hspiRefill (s : State) : State :=
  match s.hm.waits.find? fun w => w.chan == .hspi with
  | some w => s.updHm fun m => { m with hspiQ := m.hspiQ ++ [w.bytes], waits := m.waits.erase w }
  | none => s

/-- HSPI_READ: `n` bytes are clocked out: the length of the oldest reply and the reply, which leaves the
queue once all its bytes are out (R87). -/
def hspiRead (t n : Nat) (s : State) : State :=
  let s := (s.upto t).sendDue
  match s.hm.hspiQ with
  | [] => s.emit (.reply .hspi (([0, 0] : List Byte).take n))
  | b :: r =>
    let s := s.emit (.reply .hspi ((beBytes 2 b.length ++ b).take n))
    if 2 + b.length ≤ n then
      let full := !s.hrdy
      let s := (s.updHm fun m => { m with hspiQ := r }).hspiRefill
      if full && s.hrdy then s.emit (.hrdy true) else s
    else s

def execHspiRead (t n : Nat) (s : State) : Res := .next (hspiRead t n s)

/-! ### CAN fragments (R88) -/

def State.setPartial (s : State) (c : Fin 4) (p : Option CanPartial) : State :=
  s.updHm fun h => { h with canRx := h.canRx.set c p }

/-- Drop a partial packet, counted. -/
def State.dropPartial (s : State) (c : Fin 4) : State :=
  if (s.hm.canRx[c]).isSome then (s.setPartial c none).discard else s

/-- The bytes of the packet in its fragments: without the padding, where the last frame is the smallest
that holds it. `l` is the data length of the last frame. -/
def unpad (b : List Byte) (l : Nat) : List Byte :=
  let n := declared b
  let before := b.length - (l - 1)
  if before ≤ n ∧ n ≤ b.length ∧ dlcCeil (n - before + 1) = l then b.take n else b

/-- A fragment of a command arrives on controller `c` (R88). A partial packet that a new FIRST fragment replaces, and a
fragment with no partial packet to follow, each count as a discard (DESIGN CHOICE, log entry 56). -/
def State.canFragment (s : State) (c : Fin 4) (b : List Byte) : State :=
  match b with
  | [] => s
  | h :: data =>
    let i := h.toNat % 32
    let first := h.getLsbD 7
    let s := if first then s.dropPartial c else s
    let old := s.hm.canRx[c]
    let prior : Option (List Byte) :=
      if first then (if i = 0 then some [] else none)
      else old.bind fun p => if p.next = i ∧ s.tide ≤ p.lastAt + 20 * Config.ms then some p.bytes else none
    match prior with
    | none => if old.isSome then s.dropPartial c else s.discard
    | some bs =>
      if h.getLsbD 6 then
        (s.setPartial c none).arrive (.can c) (unpad (bs ++ data) b.length) none
      else s.setPartial c (some { bytes := bs ++ data, next := i + 1, lastAt := s.tide })

def execCanCommandFragment (t : Nat) (c : Fin 4) (b : List Byte) (s : State) : Res :=
  .next ((s.upto t).sendDue.canFragment c b)

/-- FRAGMENT_TIMEOUT: more than 20 ms have passed since the last fragment (R88). -/
def fragmentTimeout (t : Nat) (c : Fin 4) (s : State) : State :=
  let s := s.upto t
  if (s.hm.canRx[c]).any fun p => decide (p.lastAt + 20 * Config.ms < s.tide) then s.dropPartial c else s

def execFragmentTimeout (t : Nat) (c : Fin 4) (s : State) : Res := .next (fragmentTimeout t c s)

/-! ### Command berths (R89) -/

/-- The command berth of a core. -/
def commandBerth (n : Fin 4) : Fin 32 := ⟨n.val, by omega⟩

/-- BERTH_COMMAND_DESCRIPTOR: Harbourmaster takes the descriptor of core `n`. -/
def berthCommand (t : Nat) (n : Fin 4) (s : State) : State :=
  let s := (s.upto t).sendDue
  if s.bit (Reg.BERTH_STAT_FULL (commandBerth n)) then
    let d := s.berthBytes (commandBerth n)
    let s := s.berthTake (commandBerth n)
    let size := leAt d 10 2
    let rep := leAt d 16 8
    if size < 46 ∨ !s.writableMem rep size ∨ !s.plainMem (leAt d 0 8) (leAt d 8 2) then
      (s.berthReply n 0 0).raise .cmdReplyLost 1 0 t
    else s.arrive (.berth n) (s.bytes (leAt d 0 8) (leAt d 8 2)) (some (rep, size))
  else s

def execBerthCommandDescriptor (t : Nat) (n : Fin 4) (s : State) : Res := .next (berthCommand t n s)

/-- REPLY_BERTH_RETRY: the oldest waiting reply of core `n` is sent, or given up after 100 ms (R89). -/
def replyRetry (t : Nat) (n : Fin 4) (s : State) : State :=
  let s := (s.upto t).sendDue
  match s.hm.waits.find? fun w => w.chan == .berth n with
  | none => s
  | some w =>
    let gone (s : State) : State := s.updHm fun m => { m with waits := m.waits.erase w }
    if !s.bit (Reg.BERTH_STAT_FULL (replyBerth n)) then
      (gone s).berthMessage (replyBerth n) (replyDesc w.addr (leNat w.bytes))
    else if w.since + 100 * Config.ms ≤ s.tide then (gone s).raise .cmdReplyLost 1 0 t
    else s

def execReplyBerthRetry (t : Nat) (n : Fin 4) (s : State) : Res := .next (replyRetry t n s)

/-! ### Sessions and firmware updates (R83, R93, R109) -/

/-- Discard an open firmware update, exactly as ABORT does (R109); a phase of it that is pending ends with
ERR_STATE. -/
def State.dropUpdate (s : State) : State := (s.updHm fun h => { h with upd := none }).supersede 0x90 0xF0 none

/-- Discard the update that belongs to a channel. -/
def State.dropUpdateOf (s : State) (ch : Chan) : State :=
  if s.hm.upd.any fun u => u.chan == ch then s.dropUpdate else s

/-- Close the session of a channel (R93, R109). -/
def State.closeSession (s : State) (ch : Chan) : State :=
  if (s.session ch).isSome then
    (s.updHm fun h => { h with sess := h.sess.filter fun x => x.chan != ch }).dropUpdateOf ch
  else s

def Chan.isUdp : Chan → Bool
  | .udp _ _ | .udpRelay _ _ => true
  | _ => false

/-- Room for a channel (R83): at most 8 UDP channels; a ninth source takes the place of the one idle
longest without a session; none where all hold sessions. A channel is idle since its last accepted command, and from
the start where it has none; packets sent again or refused with ERR_SEQUENCE do not count (DESIGN CHOICE, log entry
56). -/
def State.takeChannel (s : State) (ch : Chan) : Option State :=
  if s.hm.chans.any (fun c => c.chan == ch) then some s
  else
    let udp := s.hm.chans.filter fun c => Chan.isUdp c.chan
    if Chan.isUdp ch ∧ 8 ≤ udp.length then
      let free := udp.filter fun c => (s.session c.chan).isNone
      match free with
      | [] => none
      | c :: r =>
        let old := r.foldl (fun a b => if b.usedAt < a.usedAt then b else a) c
        some (((s.dropUpdateOf old.chan).updHm fun h =>
          { h with chans := h.chans.filter fun x => x.chan != old.chan }).putChannel { chan := ch })
    else some (s.putChannel { chan := ch })

/-- SESSION_IDLE_TIMEOUT: 60 s without an accepted tagged command (R93). -/
def sessionIdle (t : Nat) (ch : Chan) (s : State) : State :=
  let s := s.upto t
  if (s.session ch).any fun x => decide (x.lastAt + 60 * Config.sec ≤ s.tide) then s.closeSession ch else s

def execSessionIdleTimeout (t : Nat) (ch : Chan) (s : State) : Res := .next (sessionIdle t ch s)

/-- CHANNEL_BAR_EXPIRY: the 10 s of R95 are over. -/
def barExpiry (t : Nat) (ch : Chan) (s : State) : State :=
  let s := s.upto t
  if (s.channel ch).barred.any (· ≤ s.tide) then
    s.updChannel ch fun c => { c with barred := none, authErrs := 0 }
  else s

def execChannelBarExpiry (t : Nat) (ch : Chan) (s : State) : Res := .next (barExpiry t ch s)

/-- FW_UPDATE_IDLE_TIMEOUT: no FW_UPDATE for 60 s (R109). -/
def updateIdle (t : Nat) (s : State) : State :=
  let s := s.upto t
  if s.hm.upd.any fun u => decide (u.lastAt + 60 * Config.sec ≤ s.tide) then s.dropUpdate else s

def execFwUpdateIdleTimeout (t : Nat) (s : State) : Res := .next (updateIdle t s)

end Sys2Proof.Machine
end

