-- ==== Sys2Proof/Machine/SafeSet.lean ====
section
/-! DEFINITION. The safety set: its layout (R345, R361), its verification (R137, R346), its seal (R138)
and its coming into force (R134, R366). -/

namespace Sys2Proof.Machine

/-! ### Layout (R345, R361) -/

/-- Range of a field of the set data. -/
inductive SetRange where
  | nat (lo hi : Nat)
  | int (lo hi : Int)
  | pos
  | nonneg
  deriving DecidableEq, Repr

/-- A field: offset, bytes, range. -/
structure SetField where
  off : Nat
  len : Nat
  rng : SetRange
  deriving DecidableEq, Repr

def uf (off len lo hi : Nat) : SetField := { off := off, len := len, rng := .nat lo hi }
def sf (off : Nat) (m : Int) : SetField := { off := off, len := 4, rng := .int (-m) m }
def posf (off : Nat) : SetField := { off := off, len := 4, rng := .pos }
def nonnegf (off : Nat) : SetField := { off := off, len := 4, rng := .nonneg }
def zerof (off len : Nat) : SetField := uf off len 0 0

/-- Module segment. -/
def moduleFields : List SetField :=
  [uf 0 2 1 1, uf 3 1 0 8, uf 8 2 1 500, uf 10 2 1 500, uf 12 2 1 500, uf 14 2 1 500, uf 16 2 1 500,
   uf 18 1 0 6, uf 19 1 0 6, uf 20 1 0 6, uf 21 1 0 6, uf 26 2 5 100, uf 28 2 0 2000, uf 30 1 0 1,
   uf 31 1 0 3, posf 32, uf 36 2 1 1000, uf 38 1 0 1, zerof 39 1, sf 40 52428, sf 44 20971, zerof 48 16]

/-- Axis segment, offsets within the segment; the ranges of R200 for PP, SPDR and CPR. They hold in every segment,
that of an axis not in use included (R346). -/
def axisFields : List SetField :=
  [uf 2 1 0 2, uf 3 1 0 4, uf 4 1 0 1, posf 8, uf 12 1 1 32, uf 13 1 1 8, uf 16 4 4 0x80000000, nonnegf 20,
   nonnegf 24, nonnegf 28, posf 32, uf 36 2 1 100, posf 40, uf 44 2 1 1000, nonnegf 48, posf 52,
   uf 56 2 1 1000, posf 60, uf 64 2 0 10000, uf 66 2 100 60000, posf 68, posf 72, posf 76, posf 80,
   uf 84 2 0 10000, uf 108 1 0 1, posf 112, posf 148,
   zerof 5 3, zerof 14 2, zerof 38 2, zerof 46 2, zerof 58 2, zerof 86 2, zerof 104 4, zerof 109 3,
   sf 116 52428, sf 120 52428, sf 124 52428, sf 128 52428, sf 132 20971, sf 136 20971, sf 140 20971,
   sf 144 20971, zerof 152 24]

/-- Connection record (R361). -/
def connFields : List SetField :=
  [uf 0 4 1 0xFFFFFFFF, uf 4 1 0 1, uf 5 1 0 2, uf 6 1 0 7, uf 7 1 0 7, uf 16 4 100 1000000,
   uf 20 4 500 10000000, uf 24 2 50 65535, uf 26 1 1 255, uf 27 1 1 255, uf 29 1 0 1, uf 31 1 0 2,
   uf 32 1 1 255, zerof 33 3]

/-- A field of the set data lies in its range. -/
def SetField.ok (d : List Byte) (base : Nat) (f : SetField) : Bool :=
  let v := beAt d (base + f.off) f.len
  match f.rng with
  | .nat lo hi => decide (lo ≤ v ∧ v ≤ hi)
  | .int lo hi => decide (lo ≤ toSigned 32 v ∧ toSigned 32 v ≤ hi)
  | .pos => qLt qZero (bfVal (BitVec.ofNat 32 v))
  | .nonneg => qLe qZero (bfVal (BitVec.ofNat 32 v))

/-- Offsets of the fields that lie outside their range. -/
def badFields (d : List Byte) (base : Nat) (l : List SetField) : List Nat :=
  (l.filter fun f => !f.ok d base).map fun f => base + f.off

/-- Field at offset `o` of axis segment `n`. -/
def axAt (d : List Byte) (n : Fin 4) (o k : Nat) : Nat := beAt d (64 + 176 * n.val + o) k

/-- BF32 field at offset `o` of axis segment `n`. -/
def axBf (d : List Byte) (n : Fin 4) (o : Nat) : Q := bfVal (BitVec.ofNat 32 (axAt d n o 4))

/-- Field at offset `o` of connection record `j`. -/
def cnAt (d : List Byte) (j : Fin 8) (o k : Nat) : Nat := beAt d (768 + 36 * j.val + o) k

/-- Function bit `b` of axis `n` (R345). -/
def fnOn (d : List Byte) (n : Fin 4) (b : Nat) : Bool := (axAt d n 0 2).testBit b

/-- The axis is in use. -/
def inUse (d : List Byte) (n : Fin 4) : Bool := (beAt d 2 1).testBit n

/-- Connections of the set. -/
def connsOf (d : List Byte) : List (Fin 8) :=
  ([0, 1, 2, 3, 4, 5, 6, 7] : List (Fin 8)).filter fun j => decide (j.val < beAt d 3 1)

/-- The connection receives; it is dual. -/
def receives (d : List Byte) (j : Fin 8) : Bool := cnAt d j 4 1 == 0
def isDual (d : List Byte) (j : Fin 8) : Bool := cnAt d j 5 1 != 0

/-! ### Verification (R346) -/

/-- Failing offsets of axis segment `n`: the ranges of R345, PP and SPDR by R200 among them, and R346. -/
def State.badAxis (s : State) (d : List Byte) (n : Fin 4) : List Nat :=
  let b := 64 + 176 * n.val
  let any (m : Nat) : Bool := axAt d n 0 2 &&& m != 0
  let ty := s.axType n
  badFields d b axisFields ++
  (if qLt (axBf d n 92) (axBf d n 96) then [] else [b + 92]) ++
  (if (any 0x02 && ty != 0) || (any 0x1C && ty != 1) || (any 0x1E && axAt d n 3 1 == 0) then [b] else []) ++
  (if axAt d n 2 1 != 0 && ty == 2 then [b + 2] else []) ++
  (if axAt d n 12 1 % max 1 (axAt d n 13 1) = 0 then [] else [b + 12]) ++
  (if [1, 2, 4].contains (axAt d n 3 1) && axAt d n 13 1 != 1 then [b + 13] else [])

/-- Function bit that a safe-input function needs on its axes (R346). -/
def siNeeds : Nat → Option Nat
  | 2 => some 1
  | 3 => some 2
  | 4 => some 4
  | 5 => some 3
  | _ => none

/-- Failing offsets of safe input `i`. -/
def badInput (d : List Byte) (i : Nat) : List Nat :=
  match siNeeds (beAt d (18 + i) 1) with
  | none => []
  | some b =>
    if ([0, 1, 2, 3] : List (Fin 4)).any fun n =>
        (beAt d (22 + i) 1).testBit n && !(inUse d n && fnOn d n b) then [22 + i] else []

/-- Failing offsets of connection record `j` (R361). -/
def badConn (d : List Byte) (j : Fin 8) : List Nat :=
  let b := 768 + 36 * j.val
  badFields d b connFields ++
  (if isDual d j && cnAt d j 6 1 == cnAt d j 7 1 then [b + 7] else []) ++
  (if cnAt d j 24 2 < cnAt d j 20 4 then [] else [b + 24]) ++
  (if cnAt d j 28 1 == (if receives d j then 4 else 20) then [] else [b + 28])

/-- Byte offset of the first failing field (R346). -/
def State.badContent (s : State) (d : List Byte) : Option Nat :=
  (badFields d 0 moduleFields ++
    (if beAt d 30 1 == 1 && !inUse d (Fin.ofNat 4 (beAt d 31 1)) then [31] else []) ++
    ([0, 1, 2, 3] : List Nat).flatMap (badInput d) ++
    ([0, 1, 2, 3] : List (Fin 4)).flatMap (s.badAxis d) ++
    (connsOf d).flatMap (badConn d)).min?

/-- The seal of R138. -/
def sealOf (ver crc : Nat) : List Byte := mac16 Config.sealKey (beBytes 4 ver ++ beBytes 4 crc)

/-! ### Coming into force (R134, R137, R366) -/

/-- Lookout writes the safety-relevant trims of the set (R134). -/
def State.writeTrims (s : State) (d : List Byte) : State :=
  let s := s.sets [(Reg.ADC_VHVGT_GU, beAt d 40 4), (Reg.ADC_VHVOT_OU, beAt d 44 4)]
  ([0, 1, 2, 3] : List (Fin 4)).foldl (fun (s : State) (n : Fin 4) =>
    ([3, 4, 5, 6] : List Nat).foldl (fun (s : State) (k : Nat) =>
      s.sets [(Reg.ADC_GTRIM_GU n k, axAt d n (104 + 4 * k) 4),
        (Reg.ADC_OTRIM_OU n k, axAt d n (120 + 4 * k) 4)]) s) s

def State.lkAx (s : State) (n : Fin 4) : LkAx := s.lk.ax[n]
def State.updLkAx (s : State) (n : Fin 4) (f : LkAx → LkAx) : State :=
  { s with lk := { s.lk with ax := s.lk.ax.set n (f (s.lkAx n)) } }

/-- Lookout writes the STO state in force into STOSAFE (R338, R356). -/
def State.writeStosafe (s : State) (n : Fin 4) : State :=
  s.setB (Reg.BW_AXCFG_STOSAFE n) (s.lkAx n).asc

/-- A verified or sealed set comes into force. An axis that is not OFF by then counts as leaving OFF with it (log
entry 60). -/
def State.forceSet (s : State) (x : SafetySet) (fresh : Bool) : State :=
  let s := s.sets [(Reg.LOOKOUT_STATUS_SETOK, 1), (Reg.LOOKOUT_SETCRC_CRC, x.crc),
    (Reg.LOOKOUT_SETVER_VER, x.ver)]
  let s := { s with lk := { s.lk with inForce := some x, fresh := fresh, conn := Vector.replicate 8 {},
                                      dcv := none
                                      left := s.axes.map fun (a : Axis) => a.outside s.tide } }
  let s := s.writeTrims x.data
  ([0, 1, 2, 3] : List (Fin 4)).foldl (fun (s : State) (n : Fin 4) =>
    (s.updLkAx n fun a =>
      { a with
        asc := axAt x.data n 2 1 != 0
        ss1 := none, sls := none, cur := none, spd := none, slip := none, tq1 := none, tq2 := none
        sdi := none }).writeStosafe n) s

/-- Outcome of a verification (R137, R345, R346). -/
inductive Verified where
  | badCrc
  | badCode
  | badLength
  | badField (off : Nat)
  | ok (x : SafetySet)
  deriving DecidableEq, Repr

/-- SAFETY_PARAM_VERIFY: what Lookout answers on the staged set. The version is one above that of the
set in force; the first one is 1. -/
def State.verifySet (s : State) (crc code : Nat) : Verified :=
  let d := s.lk.staged
  if (crc32c d).toNat ≠ crc then .badCrc
  else if beAt d 4 4 ≠ code then .badCode
  else if d.length ≠ 768 + 36 * beAt d 3 1 then .badLength
  else
    match s.badContent d with
    | some o => .badField o
    | none =>
      let ver := ((s.lk.inForce.map SafetySet.ver).getD 0 + 1) % 2 ^ 32
      .ok { ver := ver, code := code, crc := crc, mac := sealOf ver crc, data := d }

end Sys2Proof.Machine
end

