-- ==== Sys2Proof/Machine/Switch.lean ====
section
/-! DEFINITION. Entry into the Ethernet switch (R373-R376): classification, learning and queueing, and the frames
that the module itself puts in at the internal port: Harbourmaster's and Lookout's (R372, R379). -/

namespace Sys2Proof.Machine

def State.updEth (s : State) (f : Eth → Eth) : State := { s with eth := f s.eth }

def ports5 : List (Fin 5) := [0, 1, 2, 3, 4]

/-- The module's MAC address (R372). -/
def State.ownMac (s : State) : Nat := s.get Reg.ETH_MACH_MAC * 2 ^ 32 + s.get Reg.ETH_MACL_MAC

/-- The address that port `p` sends its own 802.1AS frames from (R372). -/
def State.asMac (s : State) (p : Nat) : Nat := (s.ownMac + p + 1) % 2 ^ 48

/-! ### Ingress (R373-R376) -/

/-- Bytes of a frame with its FCS (R370). -/
def ethLen (f : EthFrame) (tagged : Bool) : Nat := 18 + f.payload.length + (if tagged then 4 else 0)

/-- Bytes of frames that a port receives and sends, for the bandwidth counters (R427). -/
def State.countRx (s : State) (p : Fin 5) (n : Nat) : State :=
  s.updEth fun e => { e with rx := e.rx.set p (e.rx[p] + n) }
def State.countTx (s : State) (p : Fin 5) (n : Nat) : State :=
  s.updEth fun e => { e with tx := e.tx.set p (e.tx[p] + n) }

/-- The governing entry of the VLAN table: the lowest valid one (R375). -/
def State.vlanOf (s : State) (vid : Nat) : Option Nat :=
  (List.range 64).find? fun v => s.bit (Reg.ETH_VLAN_VALID v) && s.get (Reg.ETH_VLAN_VID v) == vid

/-- Port `p` is a member of a VLAN. -/
def State.member (s : State) (vid : Nat) (p : Fin 5) : Bool :=
  (s.vlanOf vid).any fun v => (s.get (Reg.ETH_VLAN_MEMBER v)).testBit p

/-- A frame leaves port `p` untagged. -/
def State.untags (s : State) (vid : Nat) (p : Fin 5) : Bool :=
  (s.vlanOf vid).any fun v => (s.get (Reg.ETH_VLAN_UNTAG v)).testBit p

/-- A port can send: enabled, and on E0-E3 with its link up. -/
def State.portUp (s : State) (p : Fin 5) : Bool :=
  s.bit (Reg.ETH_PCFG_EN p) && (p = 4 || s.bit (Reg.ETH_PSTAT_LINK p))

/-- Learn a source address (R373). -/
def State.learn (s : State) (t vid mac : Nat) (p : Fin 5) : State :=
  let hit (e : MacEnt) : Bool := e.vid == vid && e.mac == mac
  if s.eth.macs.any hit then
    s.updEth fun e =>
      { e with macs := e.macs.map fun x => if hit x then { x with port := p.val, seen := t } else x }
  else if s.eth.macs.length < 2048 then
    s.updEth fun e => { e with macs := e.macs ++ [{ vid := vid, mac := mac, port := p.val, seen := t }] }
  else s

/-- The port an address is known on: the module's own lies behind the internal port. -/
def State.macPort (s : State) (vid mac : Nat) : Option Nat :=
  if mac = s.ownMac then some 4
  else (s.eth.macs.find? fun e => e.vid == vid && e.mac == mac).map (·.port)

/-- A group address. -/
def isGroup (mac : Nat) : Bool := (mac / 2 ^ 40).testBit 0

/-- Bytes held in a queue, and in the whole buffer (R376). -/
def State.queueBytes (s : State) (p : Fin 5) (q : Fin 8) : Nat := ((s.eth.q[p])[q]).foldl (fun n f => n + f.len) 0
def State.bufBytes (s : State) : Nat :=
  s.eth.q.toList.foldl (fun n v => v.toList.foldl (fun n l => l.foldl (fun n f => n + f.len) n) n) 0

/-- Warnings of the buffer: once per 1 ms interval over all ports (R376). -/
def State.bufDrop (s : State) (t : Nat) (p : Fin 5) : State :=
  (s.incHold (Reg.ETH_DROP_BUF p)).raiseOnce .ethBufFull 52 p t

/-- Frames stand in order of completed reception, those of the same tick in order of ingress port (R374). -/
def putFrame (l : List QFrame) (x : QFrame) : List QFrame :=
  let after (y : QFrame) : Bool := y.done == x.done && decide (x.ing < y.ing)
  l.filter (fun y => !after y) ++ x :: l.filter after

/-- A frame enters the egress queue of port `p`, or is dropped (R376). -/
def State.enqueue (s : State) (t : Nat) (p : Fin 5) (x : QFrame) (prio : Nat) : State :=
  let q : Fin 8 := Fin.ofNat 8 (s.get (Reg.ETH_PCPMAP_Q prio))
  if s.get (Reg.ETH_QLIM_KIB q) * 1024 ≤ s.queueBytes p q ∨ 2 ^ 21 < s.bufBytes + x.len then s.bufDrop t p
  else s.updEth fun e => { e with q := e.q.set p (e.q[p].set q (putFrame (e.q[p][q]) x)) }

/-- A frame enters the switch at port `p`: VLAN, learning, forwarding to the port its address is known on, to every
member, or to the one port `only` (R373-R376). -/
def State.switchTo (s : State) (t : Nat) (p : Fin 5) (only : Option (Fin 5)) (f : EthFrame) : State :=
  let vid := match f.tag with
    | some (v, _) => if v = 0 then s.get (Reg.ETH_PCFG_PVID p) else v
    | none => s.get (Reg.ETH_PCFG_PVID p)
  let prio := match f.tag with | some (_, c) => c | none => s.get (Reg.ETH_PCFG_DPCP p)
  if !s.member vid p then s.incHold (Reg.ETH_DROP_VLAN p)
  else
    let s := if f.src = s.ownMac ∨ isGroup f.src then s else s.learn t vid f.src p
    let outs := match (only.map Fin.val).orElse fun _ => if isGroup f.dst then none else s.macPort vid f.dst with
      | some k => ports5.filter fun (o : Fin 5) => o.val == k
      | none => ports5
    (outs.filter fun o => o != p && s.member vid o && s.portUp o).foldl (fun s o =>
      let x : QFrame :=
        { f := f, vid := vid, ing := p.val, arr := f.sfd, done := t, len := ethLen f (!s.untags vid o) }
      s.enqueue t o x prio) s

/-- A checked frame enters the switch at port `p`. -/
def State.switchIn (s : State) (t : Nat) (p : Fin 5) (f : EthFrame) : State := s.switchTo t p none f

/-! ### Frames of the module itself (R372, R379) -/

/-- A frame of the module enters the switch at the internal port, where it is counted. -/
def State.ownIn (s : State) (t : Nat) (only : Option (Fin 5)) (f : EthFrame) : State :=
  ((s.incHold (Reg.ETH_RXFRM_COUNT 4)).countRx 4 (ethLen f f.tag.isSome)).switchTo t 4 only f

/-- A frame of the module in VLAN `vid`, or where none is given in that of the internal port. -/
def State.ownFrame (s : State) (t : Nat) (vid : Option Nat) (dst etype : Nat) (payload : List Byte)
    (only : Option (Fin 5) := none) : State :=
  s.ownIn t only
    { dst := dst, src := s.ownMac, tag := vid.map fun v => (v, s.get (Reg.ETH_PCFG_DPCP 4)), etype := etype
      fcsOk := true, sfd := t, payload := payload ++ List.replicate (46 - payload.length) 0 }

/-- An ARP packet (R372): hardware Ethernet, protocol IPv4. -/
def arpBytes (op smac sip dmac dip : Nat) : List Byte :=
  beBytes 2 1 ++ beBytes 2 0x0800 ++ [6, 4] ++ beBytes 2 op ++ beBytes 6 smac ++ beBytes 4 sip ++ beBytes 6 dmac ++
    beBytes 4 dip

/-- Harbourmaster asks for the address of a destination that it has not resolved (R372, log entry 63). -/
def State.arpAsk (s : State) (t ip : Nat) : State :=
  s.ownFrame t none 0xFFFFFFFFFFFF 0x0806
    (arpBytes 1 s.ownMac (s.reg Reg.ETH_IPADDR).toNat 0 (s.nextHop ip))

/-- The internet checksum of an even number of bytes. -/
def inetSum : List Byte → Nat
  | a :: b :: r => a.toNat * 256 + b.toNat + inetSum r
  | [a] => a.toNat * 256
  | [] => 0

def inetCheck (b : List Byte) : Nat :=
  let v := inetSum b
  let v := v % 65536 + v / 65536
  65535 - (v % 65536 + v / 65536)

/-- MAC address of a destination: that of the group for a multicast address (RFC 1112: PRESUMED, log entry 63), else the
one ARP holds. -/
def State.macOf (s : State) (ip : Nat) : Option Nat :=
  if ipMulticast ip then some (0x01005E000000 + ip % 2 ^ 23) else s.arpFind ip

/-- An IPv4 packet with a UDP datagram from and to `port` (R379). Identification, time to live and type of service are not
stated: free values (log entry 63). -/
def State.udpPacket (s : State) (ip port : Nat) (data : List Byte) : List Byte × State :=
  let (v, s) := s.freeNat
  let own := s.reg Reg.ETH_IPADDR
  let ends := beBytes 4 own.toNat ++ beBytes 4 ip
  let len := 8 + data.length
  let udp (sum : Nat) : List Byte := beBytes 2 port ++ beBytes 2 port ++ beBytes 2 len ++ beBytes 2 sum ++ data
  let check := inetCheck (ends ++ beBytes 2 17 ++ beBytes 2 len ++ udp 0)
  let head (sum : Nat) : List Byte :=
    [0x45, BitVec.ofNat 8 (v / 2 ^ 24)] ++ beBytes 2 (20 + len) ++ beBytes 2 v ++ beBytes 2 0 ++
      [BitVec.ofNat 8 (v / 2 ^ 16), 17] ++ beBytes 2 sum ++ ends
  (head (inetCheck (head 0)) ++ udp (if check = 0 then 65535 else check), s)

/-- A datagram of Lookout for the path out of port `p`: sent to `ETH_LKDEST` where that is resolved, else dropped while
ARP asks for it (R361, R372, R379). -/
def State.lkEthSend (s : State) (t : Nat) (p : Fin 5) (port : Nat) (fr : List Byte) : State :=
  let ip := (s.reg Reg.ETH_LKDEST).toNat
  match s.macOf ip with
  | some mac =>
    let x := s.udpPacket ip port fr
    x.2.ownFrame t none mac 0x0800 x.1 (some p)
  | none => s.arpAsk t ip

end Sys2Proof.Machine
end

