-- ==== Sys2Proof/Machine/Trig.lean ====
section
/-! DEFINITION. Sine, cosine, arctangent, reciprocal square root and logarithm as fractions precise
enough that every rounding of R202 and R206 sees the exact value (R205, log entry 20). -/

namespace Sys2Proof.Machine

/-- π x 2^800, rounded down. -/
def piFix : Nat :=
  0x3243f6a8885a308d313198a2e03707344a4093822299f31d0082efa98ec4e6c89452821e638d01377be5466cf34e90c6cc0ac29b7c97c50dd3f84d5b5b54709179216d5d98979fb1bd1310ba698dfb5ac2ffd72dbd01adfb7b8e1afed6a267e96ba7c9045

/-- Working precision of the series: fraction bits. -/
def fxBits : Nat := 1100

def fxOne : Int := 2 ^ fxBits

/-- Terms of the sine or cosine series after `term`, which has degree `k`. -/
def circGo (x2 : Int) : Nat → Nat → Int → Int → Int
  | 0, _, _, acc => acc
  | f + 1, k, term, acc =>
    let next := -(term * x2 / fxOne / ((k + 1) * (k + 2) : Nat))
    circGo x2 f (k + 2) next (acc + next)

/-- `sin θ` and `cos θ` of θ in fixed point, 0 ≤ θ ≤ π/4. -/
def sinFix (th : Int) : Int := circGo (th * th / fxOne) 100 1 th th
def cosFix (th : Int) : Int := circGo (th * th / fxOne) 100 0 fxOne fxOne

/-- A fixed-point number as a fraction. -/
def fxQ (v : Int) : Q := ⟨v, 2 ^ fxBits⟩

/-- 2πr in fixed point. -/
def fxTurn (r : Q) : Int := 2 * piFix * r.num * 2 ^ (fxBits - 800) / qDen r

/-- `cos 2πx` and `sin 2πx` for an angle in turns. -/
def cosSin (x : Q) : Q × Q :=
  let f := qSub x (qInt (qFloor x))
  let o := (qFloor (qMul f (qInt 8))).toNat
  let r := if o % 2 = 0 then qSub f ⟨o, 8⟩ else qSub ⟨o + 1, 8⟩ f
  let c := fxQ (cosFix (fxTurn r))
  let s := fxQ (sinFix (fxTurn r))
  match o with
  | 0 => (c, s)
  | 1 => (s, c)
  | 2 => (qNeg s, c)
  | 3 => (qNeg c, s)
  | 4 => (qNeg c, qNeg s)
  | 5 => (qNeg s, qNeg c)
  | 6 => (s, qNeg c)
  | _ => (c, qNeg s)

/-- Halve an angle: tan(θ/2) from tan θ, repeatedly. -/
def halveGo : Nat → Int → Int
  | 0, t => t
  | n + 1, t => halveGo n (t * fxOne / (fxOne + isqrt (fxOne * fxOne + t * t).toNat))

/-- Terms of the arctangent series after degree `k`; `sgn` is -1 for atan and 1 for atanh. -/
def atanGo (sgn : Int) (x2 : Int) : Nat → Nat → Int → Int → Int
  | 0, _, _, acc => acc
  | f + 1, k, pow, acc =>
    let next := sgn * (pow * x2 / fxOne)
    atanGo sgn x2 f (k + 2) next (acc + next / (k + 2 : Nat))

/-- `atan t` in fixed point, 0 ≤ t ≤ 1. -/
def atanFix (t : Int) : Int :=
  let h := halveGo 8 t
  2 ^ 8 * atanGo (-1) (h * h / fxOne) 80 1 h h

/-- `atan (a/b) / 2π` in turns for 0 ≤ a ≤ b, b > 0. -/
def atanTurns (a b : Q) : Q :=
  if qIsZero a then qZero
  else if qEq a b then ⟨1, 8⟩
  else
    let t := qDiv a b
    let fx := t.num * 2 ^ fxBits / qDen t
    ⟨atanFix fx * 2 ^ 800, 2 ^ fxBits * (2 * piFix)⟩

/-- `atan2(y, x) / 2π` in (-0.5, 0.5]; (0, 0) gives 0 (R217). -/
def atan2Turns (y x : Q) : Q :=
  let ay := qAbs y
  let ax := qAbs x
  if qIsZero y && qIsZero x then qZero
  else
    let a := if qLe ay ax then atanTurns ay ax else qSub ⟨1, 4⟩ (atanTurns ax ay)
    let a := if x.num < 0 then qSub ⟨1, 2⟩ a else a
    if y.num < 0 then qNeg a else a

/-- `1/√a` for `a > 0`: the root where it is a fraction of the working precision, else a value
strictly between its two neighbours. -/
def invRoot (a : Q) : Q :=
  let n := 4 ^ 800 * qDen a / a.num.toNat
  let s := isqrt n
  if s * s * a.num.toNat = 4 ^ 800 * qDen a then ⟨s, 2 ^ 800⟩ else ⟨2 * s + 1, 2 ^ 801⟩

/-- `ln x` for `x > 0`. -/
def lnQ (x : Q) : Q :=
  let e := qLog2 x
  let f := qMul x (qPow2 (-e))
  let z := qDiv (qSub f qOne) (qAdd f qOne)
  let ath (z : Q) : Int :=
    let t := z.num * 2 ^ fxBits / qDen z
    2 * atanGo 1 (t * t / fxOne) 400 1 t t
  fxQ (ath z + e * ath ⟨1, 3⟩)

end Sys2Proof.Machine
end

