-- ==== Sys2Proof/Machine/Lookout.lean ====
section
/-! DEFINITION. Lookout's monitoring cycle: inputs (R347, R348), requests and acknowledges (R349),
outputs (R350), safe speed and comparisons (R351-R355), safety functions (R356, R357), send
connections (R359-R361), token and self-test counts (R341, R343); the internal fault reaction (R342). -/

namespace Sys2Proof.Machine

/-- Source of Lookout's faults, and of LK_STO_DISC (R368). -/
def lkSource : FName → Nat
  | .lkStoDisc => 6
  | _ => 2

def fin4 : List (Fin 4) := [0, 1, 2, 3]

/-! ### Outputs (R350) -/

/-- A severity-5 reaction stands. -/
def State.sev5 (s : State) : Bool := s.fm.active.any fun a => a.sev == 5

/-- SO0 as commanded. -/
def State.so0On (s : State) : Bool :=
  match s.lk.inForce with
  | none => false
  | some x => qLe (qInt (beAt x.data 28 2)) (bfVal (s.reg Reg.ADC_VHVVAL)) && !s.sev5 && !s.bw.so0Open &&
      !s.bit Reg.BW_LKDEMAND_SO0OPEN

/-- The brake of SO1 may be released: its axis is in RUN or TUNE and not in STO. -/
def State.brakeFree (s : State) (d : List Byte) : Bool :=
  let n : Fin 4 := Fin.ofNat 4 (beAt d 31 1)
  (s.axis n).st.closed && !(s.lkAx n).sto

/-- SO1 as commanded; an unused output stays off. -/
def State.so1On (s : State) : Bool :=
  match s.lk.inForce with
  | none => false
  | some x => beAt x.data 30 1 == 1 && s.brakeFree x.data && !s.sev5 && !s.bw.so1Open && !s.bw.sto &&
      !s.bit Reg.BW_LKDEMAND_SO1OPEN

/-- A write of `BW_LKDEMAND` (R324, R338): Breakwater carries it out. -/
def State.putLkDemand (s : State) (t : Nat) (w : Word) : State :=
  (s.setReg Reg.BW_LKDEMAND (w &&& 0x3FF)).settle t

/-- The demand Lookout makes (R350, R356). -/
def State.lkWord (s : State) (d : List Byte) : Word :=
  let used := fin4.filter (inUse d)
  let ax := fin4.foldl (fun (w : Nat) (n : Fin 4) =>
    if (s.lkAx n).sto then w + (if (s.lkAx n).asc then 2 else 1) * 4 ^ n.val else w) 0
  let hw := !(s.bit Reg.BW_STATUS_STOA && s.bit Reg.BW_STATUS_STOB)
  let so0 := (beAt d 38 1 == 1 && hw) || (!used.isEmpty && used.all fun n => (s.lkAx n).sto)
  let so1 := beAt d 30 1 == 1 && !s.brakeFree d
  BitVec.ofNat 32 (ax + (if so0 then 256 else 0) + (if so1 then 512 else 0))

/-- Readbacks of the outputs, and the instants since which each is energised and disagrees with its command (R350). -/
def State.watchOutputs (s : State) (t : Nat) (rb0 rb1 : Bool) : State :=
  let s := ((s.setB Reg.LOOKOUT_SOUT_SO0RB rb0).setB Reg.LOOKOUT_SOUT_SO1RB rb1).updBw fun b =>
    { b with so0rb := rb0, so1rb := rb1 }
  let on0 := s.so0On
  let on1 := s.so1On
  let since (on : Bool) (o : Option Nat) : Option Nat := if on then some (o.getD t) else none
  let f0 := s.lk.soFail[0] && rb0 != on0
  let f1 := s.lk.soFail[1] && rb1 != on1
  let was := s.lk.soFail[0] || s.lk.soFail[1]
  let s := { s with lk := { s.lk with
      soSince := #v[since on0 s.lk.soSince[0], since on1 s.lk.soSince[1]]
      soDiff := #v[since (rb0 != on0) s.lk.soDiff[0], since (rb1 != on1) s.lk.soDiff[1]]
      soFail := #v[f0, f1] } }
  if was && !f0 && !f1 then s.causeGone .lkSoFail 2 0 else s

/-! ### Requests, violations and acknowledges (R349) -/

/-- Bits 0-4 that connection `j` asks of axis `n`: its payload, or after a loss the reaction (R363). -/
def State.connBits (s : State) (d : List Byte) (j : Fin 8) (n : Fin 4) : Nat :=
  if receives d j && (cnAt d j 30 1).testBit n then
    let c := s.lk.conn[j]
    if c.lost then
      match cnAt d j 31 1 with
      | 1 => 1
      | 2 => if fnOn d n 1 then 2 else 1
      | _ => 0
    else ((c.bits[n.val]?).getD 0).toNat
  else 0

/-- A connection asks axis `n` for bit `b`. -/
def State.connAsks (s : State) (d : List Byte) (n : Fin 4) (b : Nat) : Bool :=
  (connsOf d).any fun j => (s.connBits d j n).testBit b

/-- A safe input of function `fn` asks axis `n` (R348). -/
def State.inputAsks (s : State) (d : List Byte) (n : Fin 4) (fn : Nat) : Bool :=
  fin4.any fun i => beAt d (18 + i.val) 1 == fn && (beAt d (22 + i.val) 1).testBit n &&
    !(s.lk.si[i].a && s.lk.si[i].b)

/-- A request: function `fn` of a safe input or bit `b` of a connection. -/
def State.asks (s : State) (d : List Byte) (n : Fin 4) (fn b : Nat) : Bool :=
  s.inputAsks d n fn || s.connAsks d n b

/-- The axis takes STO (R356): Lookout holds SAFE, and Harbourmaster sets it; an axis in FAULT stays in
FAULT. -/
def State.takeSto (s : State) (n : Fin 4) : State :=
  let s := s.updLkAx n fun a => { a with ss1 := none, sto := true }
  let s := s.updAxis n fun a => { a with safeHeld := true }
  let a := s.axis n
  if s.idle n || (a.calBad && a.st == .off) || a.st == .fault || a.st == .safe then s else s.moveAxis n .safe

/-- A fault of severity 2 stands for the axis until acknowledged. -/
def State.lkHold (s : State) (n : Fin 4) (name : FName) : State :=
  s.updLkAx n fun a =>
    { a with
      items := (name, true) :: a.items.filter fun p => p.1 != name
      acked := a.acked.filter (· != name) }

def State.lkHolds (s : State) (n : Fin 4) (name : FName) : Bool :=
  (s.lkAx n).items.any fun p => p.1 == name

/-- Raise a severity-2 fault on one axis, once while it stands. -/
def State.lkNote (s : State) (t : Nat) (n : Fin 4) (name : FName) : State :=
  let s := if s.lkHolds n name then s
    else s.raise name (lkSource name) 0 t (axes := axisMask n)
  s.lkHold n name

/-- A violation: the fault, and STO (R356). -/
def State.viol (s : State) (t : Nat) (n : Fin 4) (name : FName) : State := (s.lkNote t n name).takeSto n

/-- Apply an acknowledge to an axis: items whose condition has ended are acknowledged (R349). -/
def State.ackAxis (s : State) (n : Fin 4) : State :=
  s.updLkAx n fun a =>
    { a with
      items := a.items.filter fun p => p.2
      acked := a.acked ++ (a.items.filter fun p => !p.2).map Prod.fst
      hw := a.hw && s.lk.sto.need }

/-- The axis holds a fault, unacknowledged or with SAFE not lifted yet. -/
def State.lkOwes (s : State) (n : Fin 4) (name : FName) : Bool := s.lkHolds n name || (s.lkAx n).acked.contains name

/-- SAFE does not stand on the axis: the causes of its acknowledged faults end once no other axis holds them, so
that their entries clear by FAULT_CLEAR (R349, R368). -/
def State.endAcked (s : State) (n : Fin 4) : State :=
  let gone := (s.lkAx n).acked
  let s := s.updLkAx n fun a => { a with acked := [] }
  gone.foldl (fun (s : State) (name : FName) =>
    if fin4.any fun k => s.lkOwes k name then s
    else fin4.foldl (fun (s : State) (i : Fin 4) => s.causeGone name (lkSource name) i) s) s

/-- Acknowledge and lift at the end of an axis's cycle; `req`: a STO or SS1 request stands. SAFE is lifted by an
acknowledge that comes with no request and nothing unacknowledged, as the example of R365 has it (log entry 55). -/
def State.release (s : State) (n : Fin 4) (ack req : Bool) : State :=
  let s := if ack then s.ackAxis n else s
  let s := if ack && (s.lkAx n).sto && !req && !(s.lkAx n).hw && (s.lkAx n).items.isEmpty then
      (s.updLkAx n fun a => { a with sto := false }).updAxis n fun a => { a with safeHeld := false }
    else s
  if (s.lkAx n).sto then s else s.endAcked n

/-! ### Safe inputs and the STO pair (R347, R348) -/

/-- Levels of the safe inputs as the cycle reads them. -/
def State.readInputs (s : State) (t : Nat) (d : List Byte) (r : CycleIn) : State :=
  let s := s.sets [(Reg.LOOKOUT_SIN_SIA, r.sia.toNat), (Reg.LOOKOUT_SIN_SIB, r.sib.toNat)]
  fin4.foldl (fun (s : State) (i : Fin 4) =>
    let a := r.sia.getLsbD i
    let b := r.sib.getLsbD i
    let win := beAt d (10 + 2 * i.val) 2 * Config.ms
    let p := s.lk.si[i]
    let p := if a = p.a then p else p.level false a t win
    let p := if b = p.b then p else p.level true b t win
    let p := { p with edge := p.edge && s.lk.ran }
    { s with lk := { s.lk with
        si := s.lk.si.set i p
        tested := if a && b then s.lk.tested else s.lk.tested.set i t } }) s

/-- A pair differs for longer than `ms` milliseconds. -/
def LkPair.discord (p : LkPair) (t ms : Nat) : Bool := p.diff.any fun u => decide (u + ms * Config.ms < t)

/-- Discrepancies (R347, R348). -/
def State.discrepancies (s : State) (t : Nat) (d : List Byte) : State :=
  let p := s.lk.sto
  let s := if p.discord t (beAt d 8 2) && !p.disc then
      let s := { s with lk := { s.lk with sto := { p with disc := true } } }
      let s := s.raise .lkStoDisc 6 0 t (axes := 15)
      fin4.foldl (fun (s : State) (n : Fin 4) => s.lkHold n .lkStoDisc) s
    else if p.disc && !p.need then { s with lk := { s.lk with sto := { p with disc := false } } }
    else s
  fin4.foldl (fun (s : State) (i : Fin 4) =>
    let p := s.lk.si[i]
    let put (q : LkPair) (s : State) : State := { s with lk := { s.lk with si := s.lk.si.set i q } }
    let mask := beAt d (22 + i.val) 1
    if beAt d (18 + i.val) 1 != 0 && p.discord t (beAt d (10 + 2 * i.val) 2) && !p.disc then
      let s := (put { p with disc := true } s).raise .lkSiDisc 2 0 t (axes := BitVec.ofNat 4 mask) (inst := i)
      (fin4.filter fun (n : Fin 4) => mask.testBit n.val).foldl (fun (s : State) (n : Fin 4) => s.lkHold n .lkSiDisc) s
    else if p.a && p.b then put { p with disc := false } s
    else s) s

/-- Registers of the inputs (R369); DISC and STODISC follow the faults as they are read. -/
def State.inputRegs (s : State) : State :=
  let bit (f : LkPair → Bool) : Nat := fin4.foldl (fun (w : Nat) (i : Fin 4) =>
    if f s.lk.si[i] then w + 2 ^ i.val else w) 0
  let hw := !(s.bit Reg.BW_STATUS_STOA && s.bit Reg.BW_STATUS_STOB)
  (s.set Reg.LOOKOUT_SIN_DEMAND (bit fun p => !(p.a && p.b))).setB Reg.LOOKOUT_STATUS_HWSTO hw

/-- Edges of the safe inputs are used up at the end of the cycle. -/
def State.dropEdges (s : State) : State :=
  { s with lk := { s.lk with si := s.lk.si.map fun p => { p with edge := false } } }

/-- Rising edges of safe inputs of function `fn` on axis `n` (R348). -/
def State.inputEdge (s : State) (d : List Byte) (n : Fin 4) (fn : Nat) : Bool :=
  fin4.any fun i => beAt d (18 + i.val) 1 == fn && (beAt d (22 + i.val) 1).testBit n && s.lk.si[i].edge

/-! ### Safe speed and position (R351, R357) -/

/-- The safe speed; none while unknown. -/
def State.safeSpeed (s : State) (d : List Byte) (n : Fin 4) : Option Q :=
  if axAt d n 3 1 = 0 then some (bfVal (s.reg (Reg.FBK_OBSSPD n)))
  else if s.bit (Reg.FBK_STATUS_VALID n) then some (bfVal (s.reg (Reg.FBK_SPEED n)))
  else none

/-- Counts per turn of the sensor of axis `n`, as the set names it (R174). -/
def setCpr (d : List Byte) (n : Fin 4) : Nat :=
  match axAt d n 3 1 with
  | 2 => 6 * axAt d n 12 1
  | 3 => 65536
  | _ => axAt d n 16 4

/-- Change of POS from `p` to `q`: modulo the width of an SSI frame in mode 4, modulo 2^32 otherwise (R174, R357). -/
def State.posStep (s : State) (n : Fin 4) (p q : Word) : Int :=
  ssiDelta (if s.get (Reg.FBK_MODE_MODE n) = 4 then s.ssiWidth n else 32) q.toNat p.toNat

/-- Counts of the position, extended across wraps; the reference is lost with VALID, with FB_WIRE and
by a change of the mode (R357). -/
def State.trackPos (s : State) (n : Fin 4) : State :=
  let m := s.get (Reg.FBK_MODE_MODE n)
  let pos := s.reg (Reg.FBK_POS n)
  let a := s.lkAx n
  if s.bit (Reg.FBK_STATUS_VALID n) && !s.bit (Reg.FBK_STATUS_WIRE n) && (a.pos.isNone || m == a.mode) then
    s.updLkAx n fun a =>
      { a with cum := a.cum + (a.pos.map fun p => s.posStep n p pos).getD 0, pos := some pos, mode := m }
  else s.updLkAx n fun a => { a with pos := none, mode := m, ref := none, sdi := none }

/-- Position x of SLP in m (R356). -/
def State.slpX (s : State) (d : List Byte) (n : Fin 4) : Option Q :=
  (s.lkAx n).ref.map fun r =>
    qAdd (axBf d n 100) (qMul (axBf d n 88) ⟨(s.lkAx n).cum - r, setCpr d n⟩)

/-! ### Comparisons (R352-R355) -/

/-- Start of a run of deviations, and whether it has lasted `ms`. -/
def runOf (dev : Bool) (old : Option Nat) (t : Nat) : Option Nat := if dev then some (old.getD t) else none
def ranFor (o : Option Nat) (t ms : Nat) : Bool := o.any fun u => decide (u + ms * Config.ms ≤ t)

/-- Main and check currents of a cluster deviate, or are not consistent (R352). -/
def State.currentDev (s : State) (tol : Q) (c : Fin 4) : Bool :=
  let w (k : Nat) : Word := s.reg (Reg.ADC_RES c k)
  let same := ([1, 2, 3, 4, 5] : List Nat).all fun k => w k >>> 24 == w 0 >>> 24
  let test (k : Nat) : Bool := (w k).getLsbD 18
  let v (k : Nat) : Q := bfVal (s.reg (Reg.ADC_VAL c k))
  !same || ([0, 1, 2] : List Nat).any fun k =>
    !test k && !test (k + 3) && qLt tol (qAbs (qSub (v k) (v (k + 3))))

/-- LK_CUR_DISC (R352). -/
def State.currents (s : State) (t : Nat) (d : List Byte) (n : Fin 4) : State :=
  let on := fnOn d n 6 && (s.axis n).st.closed
  let dev := on && (s.clustersOf n).any (s.currentDev (axBf d n 32))
  let s := s.updLkAx n fun a => { a with cur := runOf dev a.cur t }
  if ranFor (s.lkAx n).cur t (axAt d n 36 2) then s.viol t n .lkCurDisc else s

/-- LK_DCV_DISC on every axis (R353). -/
def State.dcLink (s : State) (t : Nat) (d : List Byte) : State :=
  let vhv := bfVal (s.reg Reg.ADC_VHVVAL)
  let tol := bfVal (BitVec.ofNat 32 (beAt d 32 4))
  let dev := fin4.any fun n => (s.axis n).st.closed && (s.clustersOf n).any fun c =>
    qLt tol (qAbs (qSub vhv (bfVal (s.reg (Reg.ADC_VAL c 6)))))
  let s := { s with lk := { s.lk with dcv := runOf dev s.lk.dcv t } }
  if ranFor s.lk.dcv t (beAt d 36 2) then
    let s := if fin4.any (s.lkHolds · .lkDcvDisc) then s else s.raise .lkDcvDisc 2 0 t (axes := 15)
    fin4.foldl (fun (s : State) (n : Fin 4) => (s.lkHold n .lkDcvDisc).takeSto n) s
  else s

/-- LK_FB_DISC (R354). The electrical speed of the observer angle comes from its change over a cycle. -/
def State.feedback (s : State) (t : Nat) (d : List Byte) (n : Fin 4) (spd : Option Q) : State :=
  let ang := s.get (Reg.FBK_OBSANG_EANG n)
  let old := (s.lkAx n).obsAng
  let on := fnOn d n 7 && spd.any fun v => qLe (axBf d n 148) (qAbs v)
  let v := spd.getD qZero
  let dev := on && qLt (axBf d n 40) (qAbs (qSub v (bfVal (s.reg (Reg.FBK_OBSSPD n)))))
  let pp : Q := qInt (axAt d n 12 1)
  let fObs : Option Q := old.map fun o => qMul ⟨toSigned 16 (ang + 65536 - o), 65536⟩ (qInt 4000)
  let sixty : Q := ⟨1, 60⟩
  let slip := on && axAt d n 4 1 == 1 && fObs.any fun f =>
    qLt (qMul (qMul (axBf d n 48) pp) sixty) (qAbs (qSub f (qMul (qMul v pp) sixty)))
  let s := s.updLkAx n fun a =>
    { a with spd := runOf dev a.spd t, slip := runOf slip a.slip t, obsAng := some ang }
  let ms := axAt d n 44 2
  if ranFor (s.lkAx n).spd t ms || ranFor (s.lkAx n).slip t ms then s.viol t n .lkFbDisc else s

/-- The angle of the check torque in turns; none while unknown (R355). -/
def State.checkAngle (s : State) (d : List Byte) (n : Fin 4) : Option Q :=
  if axAt d n 4 1 = 1 ∨ axAt d n 3 1 = 0 then some ⟨s.get (Reg.FBK_OBSANG_EANG n), 65536⟩
  else if s.bit (Reg.FBK_STATUS_EANG_VALID n) then some ⟨s.get (Reg.FBK_EANG_EANG n), 65536⟩
  else none

/-- The check torque, or its bound while the angle is unknown (R355). -/
def State.checkTorque (s : State) (d : List Byte) (n : Fin 4) : Q × Bool :=
  let i (k : Nat) : Q := bfVal (s.reg (Reg.ADC_VAL n k))
  let a := qMul (qSub (qSub (qMul (qInt 2) (i 3)) (i 4)) (i 5)) ⟨1, 3⟩
  let b := qDiv (qSub (i 4) (i 5)) qSqrt3
  let k := qMul ⟨3, 2⟩ (qInt (axAt d n 12 1))
  let psi := axBf d n 20
  let dl := qSub (axBf d n 24) (axBf d n 28)
  let ind := axAt d n 4 1 == 1
  match s.checkAngle d n with
  | some th =>
    let (c, sn) := cosSin th
    let id_ := qAdd (qMul a c) (qMul b sn)
    let iq := qSub (qMul b c) (qMul a sn)
    (qMul k (if ind then qMul psi iq else qAdd (qMul psi iq) (qMul dl (qMul id_ iq))), true)
  | none =>
    let m2 := qAdd (qMul a a) (qMul b b)
    let m := qSqrt 600 m2
    (qMul k (if ind then qMul psi m else qAdd (qMul psi m) (qMul (qAbs dl) (qMul m2 ⟨1, 2⟩))), false)

/-- LK_TORQUE (R355). -/
def State.torque (s : State) (t : Nat) (d : List Byte) (n : Fin 4) : State :=
  if fnOn d n 5 && (s.axis n).st.closed then
    let (tq, known) := s.checkTorque d n
    let rep := bfVal (stoGet (s.engine n).handed 167 0)
    let d1 := known && qLt (axBf d n 52) (qAbs (qSub tq rep))
    let d2 := qLt (axBf d n 60) (qAbs tq)
    let s := (s.setReg (Reg.LOOKOUT_TORQUE n) (bfRound tq)).updLkAx n fun a =>
      { a with tq1 := runOf d1 a.tq1 t, tq2 := runOf d2 a.tq2 t }
    let ms := axAt d n 56 2
    if ranFor (s.lkAx n).tq1 t ms || ranFor (s.lkAx n).tq2 t ms then s.viol t n .lkTorque else s
  else s.updLkAx n fun a => { a with tq1 := none, tq2 := none }

/-! ### Safety functions (R356) -/

/-- The registers differ from what the set expects (R346). The set holds no axis type: a type that does
not carry an enabled function differs. -/
def State.mismatch (s : State) (d : List Byte) (n : Fin 4) : Bool :=
  let f := axAt d n 0 2
  let any (m : Nat) : Bool := f &&& m != 0
  s.get (Reg.FBK_MODE_MODE n) != axAt d n 3 1 || s.get (Reg.FBK_MODE_PP n) != axAt d n 12 1 ||
    s.get (Reg.FBK_MODE_SPDR n) != axAt d n 13 1 || s.get (Reg.FBK_CPR_CPR n) != axAt d n 16 4 ||
    s.get (Reg.BW_AXCFG_MACH n) != axAt d n 4 1 || (any 0x02 && s.axType n != 0) ||
    (any 0x1C && s.axType n != 1)

/-- SS1 starts (R356): speed mode, target 0 and deceleration 0 in entries 192-196. -/
def State.ss1Start (s : State) (t : Nat) (n : Fin 4) (n0 : Q) : State :=
  let s := s.updEng n fun e =>
    { e with port := stoPut (stoPut (stoPut e.port 192 (bfInt 1) 0) 194 0 0) 196 0 0 }
  s.updLkAx n fun a => { a with ss1 := some (t, bfRound (qAbs n0)) }

/-- limit(t) of SS1. -/
def ss1Limit (d : List Byte) (n : Fin 4) (n0 : Q) (el : Nat) : Q :=
  let top := qAdd n0 (axBf d n 72)
  let dly := axAt d n 64 2 * Config.ms
  if el ≤ dly then top
  else qMax (axBf d n 76) (qSub top (qMul (axBf d n 68) ⟨(el - dly : Nat), Config.sec⟩))

/-- SS1. -/
def State.ss1Step (s : State) (t : Nat) (d : List Byte) (n : Fin 4) (spd : Option Q) (req : Bool) : State :=
  let s := if req && (s.lkAx n).ss1.isNone && !(s.lkAx n).sto then
      match spd with
      | none => s.viol t n .lkFbLoss
      | some v => s.ss1Start t n v
    else s
  match (s.lkAx n).ss1 with
  | none => s
  | some (t0, w) =>
    match spd with
    | none => s.viol t n .lkFbLoss
    | some v =>
      if qLt (ss1Limit d n (bfVal w) (t - t0)) (qAbs v) then s.viol t n .ss1Viol
      else if qLe (qAbs v) (axBf d n 76) || decide (axAt d n 66 2 * Config.ms ≤ t - t0) then s.takeSto n
      else s

/-- Harbourmaster clamps the speed reference to 0.95 × SLS_LIM (R356). -/
def slsClamp (d : List Byte) (n : Fin 4) : Q := qMul ⟨95, 100⟩ (axBf d n 80)

/-- SLS, selected or forced by an unreferenced SLP. -/
def State.slsStep (s : State) (t : Nat) (d : List Byte) (n : Fin 4) (spd : Option Q) (on : Bool) : State :=
  if on then
    let first := (s.lkAx n).sls.isNone
    let s := if first then
        let ref := bfVal (stoGet (s.engine n).port 194 0)
        let lim := slsClamp d n
        let s := s.updLkAx n fun a => { a with sls := some t }
        if qLt lim (qAbs ref) then
          s.updEng n fun e =>
            { e with port := stoPut e.port 194 (bfRound (if ref.num < 0 then qNeg lim else lim)) 0 }
        else s
      else s
    match spd with
    | none => s.viol t n .lkFbLoss
    | some v =>
      let t0 := ((s.lkAx n).sls).getD t
      if t0 + axAt d n 84 2 * Config.ms ≤ t ∧ qLt (axBf d n 80) (qAbs v) then s.viol t n .slsViol else s
  else s.updLkAx n fun a => { a with sls := none }

/-- SLP (R356, R357). -/
def State.slpStep (s : State) (t : Nat) (d : List Byte) (n : Fin 4) (spd : Option Q) : State :=
  if fnOn d n 3 then
    let s := if s.inputEdge d n 5 && (s.lkAx n).pos.isSome then
        s.updLkAx n fun a => { a with ref := some a.cum } else s
    if spd.isNone then s.viol t n .lkFbLoss
    else
      match s.slpX d n with
      | none => s
      | some x =>
        let s := s.setReg (Reg.LOOKOUT_POS n) (bfRound x)
        if qLt x (axBf d n 92) || qLt (axBf d n 96) x then s.viol t n .slpViol else s
  else s

/-- Travel back from the furthest position in the permitted direction, in counts (R356). -/
def State.sdiBack (s : State) (d : List Byte) (n : Fin 4) : Int :=
  let a := s.lkAx n
  let p := a.sdi.getD a.cum
  if axAt d n 108 1 = 0 then p - a.cum else a.cum - p

/-- The travel back exceeds SDI_TOL. -/
def State.sdiOver (s : State) (d : List Byte) (n : Fin 4) : Bool :=
  qLt (qMul (axBf d n 112) (qInt (setCpr d n))) (qInt (s.sdiBack d n))

/-- SDI (R356). -/
def State.sdiStep (s : State) (t : Nat) (d : List Byte) (n : Fin 4) (spd : Option Q) (on : Bool) : State :=
  if on then
    if spd.isNone then s.viol t n .lkFbLoss
    else
      let s := s.updLkAx n fun a =>
        let p := a.sdi.getD a.cum
        { a with sdi := some (if axAt d n 108 1 = 0 then max p a.cum else min p a.cum) }
      if s.sdiOver d n then s.viol t n .sdiViol else s
  else s.updLkAx n fun a => { a with sdi := none }

/-- Whether the condition of an unacknowledged item still stands. -/
def State.itemStands (s : State) (d : List Byte) (n : Fin 4) (spd : Option Q) (mis : Bool) : FName → Bool
  | .lkCfgMismatch => mis
  | .lkFbLoss => spd.isNone
  | .lkStoDisc => s.lk.sto.need
  | .lkSiDisc => fin4.any fun i => s.lk.si[i].disc && (beAt d (22 + i.val) 1).testBit n
  | .lkCurDisc => (s.lkAx n).cur.isSome
  | .lkDcvDisc => s.lk.dcv.isSome
  | .lkFbDisc => (s.lkAx n).spd.isSome || (s.lkAx n).slip.isSome
  | .lkTorque => (s.lkAx n).tq1.isSome || (s.lkAx n).tq2.isSome
  | .slsViol => (s.lkAx n).sls.isSome && spd.all fun v => qLt (axBf d n 80) (qAbs v)
  | .slpViol => (s.slpX d n).any fun x => qLt x (axBf d n 92) || qLt (axBf d n 96) x
  | .sdiViol => (s.lkAx n).sdi.isSome && s.sdiOver d n
  | .lkComm => (connsOf d).any fun j => s.lk.conn[j].lost && (cnAt d j 30 1).testBit n
  | _ => false

/-- The STO state in force (R356). -/
def State.stoState (s : State) (d : List Byte) (n : Fin 4) (spd : Option Q) : Bool :=
  match axAt d n 2 1 with
  | 0 => false
  | 1 => true
  | _ =>
    let lim := axBf d n 8
    match spd with
    | none => true
    | some v =>
      if qLt lim (qAbs v) then true
      else if qLt (qAbs v) (qMul ⟨9, 10⟩ lim) then false
      else (s.lkAx n).asc

/-- A violation of a safety function, apart from the LK_ faults (R349, R356). -/
def isViol : FName → Bool
  | .ss1Viol | .slsViol | .slpViol | .sdiViol => true
  | _ => false

/-- An unacknowledged violation stands on the axis (R359, R369). -/
def LkAx.viol (a : LkAx) : Bool := a.items.any fun p => isViol p.1

/-- Registers of an axis (R369). -/
def State.axisRegs (s : State) (t : Nat) (d : List Byte) (n : Fin 4) (spd : Option Q) : State :=
  let a := s.lkAx n
  let b (f : Fld) (v : Bool) : Fld × Nat := (f, if v then 1 else 0)
  let lim : Word := match a.ss1 with
    | some (t0, w) => bfRound (ss1Limit d n (bfVal w) (t - t0))
    | none => if a.sls.isSome then BitVec.ofNat 32 (axAt d n 80 4) else 0
  ((s.sets [b (Reg.LOOKOUT_AXSTAT_SAFE n) a.sto, b (Reg.LOOKOUT_AXSTAT_STO n) a.sto,
      b (Reg.LOOKOUT_AXSTAT_SS1 n) a.ss1.isSome, b (Reg.LOOKOUT_AXSTAT_SLS n) a.sls.isSome,
      b (Reg.LOOKOUT_AXSTAT_SDI n) a.sdi.isSome, b (Reg.LOOKOUT_AXSTAT_SLPREF n) a.ref.isSome,
      b (Reg.LOOKOUT_AXSTAT_VIOL n) a.viol, b (Reg.LOOKOUT_AXSTAT_SPDKNOWN n) spd.isSome,
      b (Reg.LOOKOUT_AXSTAT_STOASC n) a.asc]).setReg (Reg.LOOKOUT_SPEED n)
      (bfRound (spd.getD qZero))).setReg (Reg.LOOKOUT_LIMIT n) lim

/-- One axis in use in one cycle; `ack` where an acknowledge reaches it. -/
def State.lkAxis (t : Nat) (d : List Byte) (s : State) (n : Fin 4) (ack : Bool) : State :=
  let s := s.trackPos n
  let spd := s.safeSpeed d n
  let mis := s.mismatch d n
  let hwNow := !(s.bit Reg.BW_STATUS_STOA && s.bit Reg.BW_STATUS_STOB)
  let sto := hwNow || (s.lkAx n).hw || s.asks d n 1 0
  let ss1 := fnOn d n 1 && s.asks d n 2 1
  let s := s.updLkAx n fun a => { a with hw := a.hw || hwNow }
  let s := if sto then s.takeSto n else s
  let s := if mis then s.viol t n .lkCfgMismatch else s
  let s := s.ss1Step t d n spd ss1
  let s := s.slpStep t d n spd
  let s := s.slsStep t d n spd
    ((fnOn d n 2 && s.asks d n 3 2) || (fnOn d n 3 && (s.lkAx n).ref.isNone))
  let s := s.sdiStep t d n spd (fnOn d n 4 && s.asks d n 4 3)
  let s := ((s.currents t d n).feedback t d n spd).torque t d n
  let s := s.updLkAx n fun a =>
    { a with
      items := a.items.map fun p => (p.1, s.itemStands d n spd mis p.1)
      asc := s.stoState d n spd }
  ((s.writeStosafe n).release n ack (hwNow || s.asks d n 1 0 || ss1)).axisRegs t d n spd

/-- One axis not in use in one cycle: the STO pair and the DC-link comparison act on every axis (R347, R353), with
the STO state of its segment (R356). -/
def State.lkBare (t : Nat) (d : List Byte) (s : State) (n : Fin 4) (ack : Bool) : State :=
  let spd := s.safeSpeed d n
  let hwNow := !(s.bit Reg.BW_STATUS_STOA && s.bit Reg.BW_STATUS_STOB)
  let s := s.updLkAx n fun a => { a with hw := a.hw || hwNow }
  let s := if (s.lkAx n).hw then s.takeSto n else s
  let s := s.updLkAx n fun a =>
    { a with
      items := a.items.map fun p => (p.1, s.itemStands d n spd false p.1)
      asc := s.stoState d n spd }
  ((s.writeStosafe n).release n ack hwNow).axisRegs t d n spd

/-! ### Connections in the cycle (R359-R361, R365) -/

/-- Axes whose acknowledge bit rises from the payload in effect to the next one (R349). -/
def ackRise (d : List Byte) (j : Fin 8) (old new : List Byte) : Nat :=
  let bit (l : List Byte) (n : Fin 4) : Bool := ((l[n.val]?).getD 0).getLsbD 4
  fin4.foldl (fun (w : Nat) (n : Fin 4) =>
    if (cnAt d j 30 1).testBit n && bit new n && !bit old n then w ||| 2 ^ n.val else w) 0

/-- Payloads accepted since the last cycle take effect; the axes that an acknowledge bit reaches. -/
def State.takePayloads (s : State) (d : List Byte) : State × Nat :=
  (connsOf d).foldl (fun (p : State × Nat) (j : Fin 8) =>
    let (s, acks) := p
    let c := s.lk.conn[j]
    match c.next with
    | none => p
    | some bits =>
      ({ s with lk := { s.lk with conn := s.lk.conn.set j { c with bits := bits, next := none } } },
        acks ||| ackRise d j c.bits bits)) (s, 0)

/-- Half nanoseconds of the timebase of connection `j` at Tide count `t` (R359). -/
def State.halfNs (s : State) (d : List Byte) (j : Fin 8) (t : Nat) : Int :=
  if cnAt d j 29 1 = 1 then 2 * s.asBase + (5 * t : Nat) else (5 * t : Nat)

/-- The virtual header of R360. -/
def virtHeader (sig hi : Nat) : List Byte := beBytes 4 sig ++ beBytes 2 hi ++ [0, 1]

/-- Payload of a send connection (R359). -/
def State.sendPayload (s : State) : List Byte :=
  (fin4.map fun n =>
    let a := s.lkAx n
    let b (k : Nat) (v : Bool) : Nat := if v then 2 ^ k else 0
    BitVec.ofNat 8 (b 0 a.sto + b 1 a.ss1.isSome + b 2 a.sls.isSome + b 3 a.sdi.isSome + b 4 a.ref.isSome +
      b 5 a.viol + b 6 (s.bit (Reg.LOOKOUT_AXSTAT_SPDKNOWN n)))) ++
  fin4.flatMap fun (n : Fin 4) => beBytes 4 (s.reg (Reg.LOOKOUT_SPEED n)).toNat

/-- A frame of identity, sequence, timestamp and payload (R359, R360). -/
def lkFrame (sig ident ext ts : Nat) (pay : List Byte) : List Byte :=
  let b := beBytes 4 ident ++ beBytes 2 ext ++ beBytes 4 ts ++
    [BitVec.ofNat 8 pay.length, 0] ++ pay
  b ++ beBytes 4 (crcLookout (virtHeader sig (ext / 65536) ++ b)).toNat

/-- A frame of connection `j` goes out on a path (R361, R379, R389): on CAN through buffer 15, on
Ethernet through the switch where the destination is resolved. -/
def State.sendOn (s : State) (d : List Byte) (j : Fin 8) (path : Nat) (fr : List Byte) : State :=
  if path < 4 then
    (if s.lkReach then s.emit (.lookout j path fr) else s).lkEthSend s.tide (Fin.ofNat 5 path) (cnAt d j 8 4) fr
  else (s.emit (.lookout j path fr)).lkCanSend (Fin.ofNat 4 (path - 4)) (cnAt d j 8 4) fr

/-- A send connection falls due: one frame, with identical copies on both paths (R361). -/
def State.sendFrame (s : State) (t : Nat) (d : List Byte) (j : Fin 8) : State :=
  let c := s.lk.conn[j]
  let (v, s) := match c.tx with
    | some v => (v, s)
    | none => s.freeNat
  let ext := v % 2 ^ 32
  let fr := lkFrame (cnAt d j 12 4) (cnAt d j 0 4) ext ((s.halfNs d j t) / 2000 % 2 ^ 32).toNat s.sendPayload
  let s := { s with lk := { s.lk with conn := s.lk.conn.set j { c with tx := some (ext + 1) } } }
  let s := s.sendOn d j (cnAt d j 6 1) fr
  let s := if isDual d j then s.sendOn d j (cnAt d j 7 1) fr else s
  s.incHold (Reg.LOOKOUT_CRX_ACCEPTED j)

/-- Send connections of cycle `k` (R361). -/
def State.sendFrames (s : State) (t k : Nat) (d : List Byte) : State :=
  (connsOf d).foldl (fun (s : State) (j : Fin 8) =>
    if !receives d j && k % max 1 (cnAt d j 32 1) == 0 then s.sendFrame t d j else s) s

/-! ### The cycle (R341) -/

/-- The functions of the set in force. -/
def State.lkFunctions (s : State) (t : Nat) (d : List Byte) (r : CycleIn) : State :=
  let s := (s.readInputs t d r).discrepancies t d
  let (s, acks) := s.takePayloads d
  let s := s.dcLink t d
  let s := fin4.foldl (fun (s : State) (n : Fin 4) =>
    let ack := acks.testBit n || s.inputEdge d n 6
    if inUse d n then s.lkAxis t d n ack else s.lkBare t d n ack) s
  let s := (s.putLkDemand t (s.lkWord d)).inputRegs
  s.dropEdges

/-- LOOKOUT_CYCLE: a monitoring cycle while Lookout runs. -/
def lookoutCycle (t : Nat) (r : CycleIn) (s : State) : State :=
  let s := s.upto t
  if s.get Reg.LOOKOUT_STATUS_STATE = 1 then
    let k := t / 100000
    let s := match s.lk.inForce with
      | none => (s.readInputs t [] r).inputRegs.dropEdges
      | some x => (s.lkFunctions t x.data r).sendFrames t k x.data
    let s := s.watchOutputs t r.so0rb r.so1rb
    let s := (s.set Reg.LOOKOUT_DLTOKEN_TOKEN (k % 65536)).incWrap Reg.LOOKOUT_STATUS_CYCLE
    let s := if s.get Reg.LOOKOUT_STATUS_CYCLE % 32768 = 0 then s.incWrap Reg.LOOKOUT_SELFTEST_PASSES else s
    let s := { s with lk := { s.lk with fresh := false, ran := true } }
    s.recordRatio 4 ⟨r.busy, 100000⟩
  else s

def execLookoutCycle (t : Nat) (r : CycleIn) (s : State) : Res := .next (lookoutCycle t r s)

/-! ### Internal faults and outputs (R342, R350) -/

/-- The internal fault reaction (R342): every axis takes the STO state in STOSAFE at level 2, SO0 and SO1
are de-energised, LK_INTERNAL is raised with the cause as its detail; `PWR_RSTCAUSE` keeps the latch
(R475). -/
def State.lkInternal (s : State) (t cause : Nat) : State :=
  (s.sets [(Reg.LOOKOUT_STATUS_STATE, 2), (Reg.PWR_RSTCAUSE_LKLATCH, 1)]).raise .lkInternal 2 cause t (axes := 15)

/-- DEADLINE_MONITOR_CHECK at the start of a cycle: the token of the cycle before must stand (R341). -/
def deadlineCheck (t : Nat) (s : State) : State :=
  let s := s.upto t
  let k := t / 100000
  if s.get Reg.LOOKOUT_STATUS_STATE = 1 ∧ s.lk.ran ∧ s.get Reg.LOOKOUT_DLTOKEN_TOKEN ≠ (k + 65535) % 65536 then
    s.lkInternal t 2
  else s

def execDeadlineMonitorCheck (t : Nat) (s : State) : Res := .next (deadlineCheck t s)

/-- INTERNAL_FAULT_REACTION: a codeword, ECC, self-test or readback failure (R342, R343). -/
def internalFault (t cause : Nat) (s : State) : State := (s.upto t).lkInternal t cause

def execInternalFaultReaction (t : Nat) (cause : Nat) (s : State) : Res := .next (internalFault t cause s)

/-- LK_SO_FAIL (R350). -/
def State.soFailed (s : State) (t : Nat) (o : Fin 2) : State :=
  let s := { s with lk := { s.lk with soFail := s.lk.soFail.set o true } }
  s.raise .lkSoFail 2 0 t (axes := 15)

/-- An output as commanded. -/
def State.soOn (s : State) (o : Fin 2) : Bool := if o = 0 then s.so0On else s.so1On

/-- SO_TEST_PULSE: an output energised for 10 s is off for 300 µs; `readOff` is what its readback shows
by then. -/
def soPulse (t : Nat) (o : Fin 2) (readOff : Bool) (s : State) : State :=
  let s := s.upto t
  if s.soOn o && s.lk.soSince[o].any (fun u => decide (u + 10 * Config.sec ≤ t)) then
    let s := { s with lk := { s.lk with soSince := s.lk.soSince.set o (some (t + 120000)) } }
    if readOff then s else s.soFailed t o
  else s

def execSoTestPulse (t : Nat) (o : Fin 2) (readOff : Bool) (s : State) : Res := .next (soPulse t o readOff s)

/-- SO_READBACK_FAIL: a readback has disagreed with the command for the SO_RB of the set in force. Without a set
there is no SO_RB, and nothing is raised (log entry 60). -/
def soReadback (t : Nat) (o : Fin 2) (s : State) : State :=
  let s := s.upto t
  match s.lk.inForce with
  | none => s
  | some x =>
    let rb := if o = 0 then s.bw.so0rb else s.bw.so1rb
    if rb != s.soOn o && ranFor s.lk.soDiff[o] t (beAt x.data 26 2) then s.soFailed t o else s

def execSoReadbackFail (t : Nat) (o : Fin 2) (s : State) : Res := .next (soReadback t o s)

/-- The pair of a safe input, or the STO pair (4), is in its demand state. -/
def State.inDemand (s : State) (i : Fin 5) : Bool :=
  let p := if i = 4 then s.lk.sto else s.lk.si[Fin.ofNat 4 i.val]
  !(p.a && p.b)

/-- TEST_DUE_EXPIRY: a pair in use has not passed through its demand state within 24 h (R367). -/
def testDue (t : Nat) (i : Fin 5) (s : State) : State :=
  let s := s.upto t
  let used := match s.lk.inForce with
    | none => false
    | some x => i == 4 || beAt x.data (18 + i.val) 1 != 0
  if used && !s.inDemand i && decide (s.lk.tested[i] + 86400 * Config.sec ≤ t) then s.raise .lkTestDue 2 0 t else s

def execTestDueExpiry (t : Nat) (i : Fin 5) (s : State) : Res := .next (testDue t i s)

end Sys2Proof.Machine
end

