-- ==== Sys2Proof/Machine/LookoutComm.lean ====
section
/-! DEFINITION. Safe communication (R359-R365): arrival of frames, dual connections, resynchronisation,
loss. -/

namespace Sys2Proof.Machine

def State.conn (s : State) (j : Fin 8) : LkConn := s.lk.conn[j]
def State.updConn (s : State) (j : Fin 8) (f : LkConn → LkConn) : State :=
  { s with lk := { s.lk with conn := s.lk.conn.set j (f (s.conn j)) } }

/-! ### High half by the linear system of R362 -/

/-- Reduce a vector with its tag by a basis in which each vector lacks the leading bits of those before
it. -/
def gfReduce (basis : List (Word × Nat)) (v : Word × Nat) : Word × Nat :=
  basis.foldl (fun (v b : Word × Nat) =>
    if v.1.getLsbD (Nat.log2 b.1.toNat) then (v.1 ^^^ b.1, v.2 ^^^ b.2) else v) v

/-- A basis of a list of vectors, and the tags of the dependencies found. -/
def gfBasis (l : List (Word × Nat)) : List (Word × Nat) × List Nat :=
  l.foldl (fun (p : List (Word × Nat) × List Nat) (v : Word × Nat) =>
    let r := gfReduce p.1 v
    if r.1 = 0 then (p.1, p.2 ++ [r.2]) else (p.1 ++ [r], p.2)) ([], [])

/-- The one high half for which the CRC passes; none where no half or more than one does (R362). -/
def highHalf (sig : Nat) (body : List Byte) (crc : Word) : Option Nat :=
  let c (h : Nat) : Word := crcLookout (virtHeader sig h ++ body)
  let z := c 0
  let cols := (List.range 16).map fun b => (c (2 ^ b) ^^^ z, 2 ^ b)
  let (basis, deps) := gfBasis cols
  let r := gfReduce basis (crc ^^^ z, 0)
  if r.1 = 0 ∧ deps.isEmpty then some r.2 else none

/-! ### Checks (R362) -/

/-- Fields of a frame. -/
structure LkFrameIn where
  ident : Nat
  low : Nat
  stamp : Nat
  len : Nat
  body : List Byte
  payload : List Byte
  crc : Word
  deriving DecidableEq, Repr

/-- A frame as its bytes give it; none where the length and byte 10 do not agree (R359). -/
def readFrame (b : List Byte) : Option LkFrameIn :=
  let l := beAt b 10 1
  if b.length = 16 + l ∧ l ≤ 32 then
    some { ident := beAt b 0 4, low := beAt b 4 2, stamp := beAt b 6 4, len := l, body := b.take (12 + l),
           payload := (b.drop 12).take l, crc := BitVec.ofNat 32 (beAt b (12 + l) 4) }
  else none

/-- The receive connection a frame on `path` belongs to. -/
def connOf (d : List Byte) (path : Nat) (ident : Nat) : Option (Fin 8) :=
  (connsOf d).find? fun j => receives d j && cnAt d j 0 4 == ident &&
    (cnAt d j 6 1 == path || (isDual d j && cnAt d j 7 1 == path))

/-- Age of a frame in half nanoseconds, in its timebase (R362). -/
def State.frameAge (s : State) (d : List Byte) (j : Fin 8) (t : Nat) (stamp : Nat) : Int :=
  let m : Int := 2000 * 2 ^ 32
  let a := (s.halfNs d j t - 2000 * stamp) % m
  if a < m / 2 then a else a - m

/-- The age lies in −10 µs to WD_AGE; under timebase 1 only while ASLOCK is 1 (R362). -/
def State.ageOk (s : State) (d : List Byte) (j : Fin 8) (age : Int) : Bool :=
  (cnAt d j 29 1 == 0 || s.bit Reg.TIDE_STATUS_ASLOCK) &&
    decide (-20000 ≤ age ∧ age ≤ 2000 * (cnAt d j 16 4 : Int))

/-- The extended sequence of a frame after `e` (R360). -/
def extOf (e low : Nat) : Nat :=
  ((e / 65536 + (if low < e % 65536 then 1 else 0)) % 65536) * 65536 + low

/-- The frame passes with base sequence `e` (R362); its extended sequence. -/
def passes (d : List Byte) (j : Fin 8) (f : LkFrameIn) (e : Nat) : Option Nat :=
  let x := extOf e f.low
  let gap := (x + 2 ^ 32 - e) % 2 ^ 32
  if 1 ≤ gap ∧ gap ≤ cnAt d j 27 1 ∧ crcLookout (virtHeader (cnAt d j 12 4) (x / 65536) ++ f.body) = f.crc
  then some x else none

/-- The frame repeats one already decided on (R364). -/
def repeats (d : List Byte) (j : Fin 8) (f : LkFrameIn) (l : List Nat) : Bool :=
  l.any fun e => e % 65536 == f.low &&
    crcLookout (virtHeader (cnAt d j 12 4) (e / 65536) ++ f.body) == f.crc

/-! ### Acceptance -/

/-- An age in µs, 0 for a negative one, saturating in 16 bits. -/
def ageUs (a : Int) : Nat := min 65535 (a / 2000).toNat

/-- A frame is discarded and counted (R362). -/
def State.rejectFrame (s : State) (j : Fin 8) : State := s.incHold (Reg.LOOKOUT_CRX_REJECTED j)

/-- A frame is accepted at `t`: its payload waits for the next cycle (R362, R365). -/
def State.acceptFrame (s : State) (t : Nat) (j : Fin 8) (ext : Nat) (pay : List Byte) (age : Int)
    (single : Nat) : State :=
  let s := s.updConn j fun c =>
    { c with ext := some ext, cand := none, lastAt := some t, lost := false, next := some pay
             single := single, decided := (ext :: c.decided).take 256 }
  let a := ageUs age
  let s := s.incHold (Reg.LOOKOUT_CRX_ACCEPTED j)
  s.sets [(Reg.LOOKOUT_CONN_OK j, 1), (Reg.LOOKOUT_CONN_LOST j, 0),
    (Reg.LOOKOUT_CONN_DEGRADED j, if single = 0 then 0 else 1), (Reg.LOOKOUT_CONN_SINGLE j, min 255 single),
    (Reg.LOOKOUT_CONN_SEQ j, ext % 65536), (Reg.LOOKOUT_CAGE_LAST j, a),
    (Reg.LOOKOUT_CAGE_PEAK j, max a (s.get (Reg.LOOKOUT_CAGE_PEAK j)))]

/-- Reasons of LK_COMM (R363, R364). -/
inductive CommReason where
  | lost | differ | single
  deriving DecidableEq, Repr

/-- The reason as the detail of LK_COMM codes it; the spec gives no code (log entry 60). -/
def CommReason.code : CommReason → Nat
  | .lost => 1
  | .differ => 2
  | .single => 3

/-- LK_COMM on the axes of a connection, with the connection and the reason as detail (R363, R364). -/
def State.lkComm (s : State) (t : Nat) (d : List Byte) (j : Fin 8) (why : CommReason) : State :=
  let mask := cnAt d j 30 1
  let s := s.raise .lkComm 2 (j + 256 * why.code) t (axes := BitVec.ofNat 4 mask)
  (fin4.filter fun (n : Fin 4) => mask.testBit n.val).foldl
    (fun (s : State) (n : Fin 4) => s.lkHold n .lkComm) s

/-- A frame of a dual connection is discarded: both copies, or a single one (R364). -/
def State.dropDual (s : State) (t : Nat) (d : List Byte) (j : Fin 8) (ext : Nat) (why : CommReason) : State :=
  ((s.updConn j fun c => { c with decided := (ext :: c.decided).take 256 }).rejectFrame j).lkComm t d j why

/-- A held copy stays single (R364): accepted under DUAL_TOLERANT up to DUAL_MAXSINGLE in a row, else discarded. -/
def State.lateSingle (s : State) (t : Nat) (d : List Byte) (j : Fin 8) (h : LkHold) : State :=
  let n := (s.conn j).single
  if cnAt d j 5 1 = 2 ∧ n ≤ cnAt d j 26 1 then
    (s.acceptFrame t j h.ext ((h.bytes.drop 12).take (cnAt d j 28 1)) h.age (n + 1)).raise
      .lkCommDegraded 2 0 t (axes := BitVec.ofNat 4 (cnAt d j 30 1))
  else s.dropDual t d j h.ext .single

/-- The window of a held copy is over (R361, R364). -/
def LkHold.over (h : LkHold) (d : List Byte) (j : Fin 8) (t : Nat) : Bool :=
  decide (h.at_ + cnAt d j 24 2 * Config.us ≤ t)

/-- Held copies of connection `j` whose window is over are decided, in the order of their arrival (R364). -/
def State.expireHolds (s : State) (t : Nat) (d : List Byte) (j : Fin 8) : State :=
  ((s.conn j).hold.filter fun h => h.over d j t).foldl (fun (s : State) (h : LkHold) =>
    (s.updConn j fun c => { c with hold := c.hold.filter fun x => x.ext != h.ext }).lateSingle t d j h) s

/-- A copy that passes R362 on a dual connection (R364): held, compared with the copy of the other path,
or dropped as a repeat on its own path. -/
def State.dualCopy (s : State) (t : Nat) (d : List Byte) (j : Fin 8) (path ext : Nat) (b pay : List Byte)
    (age : Int) : State :=
  match (s.conn j).hold.find? fun h => h.ext == ext with
  | none => s.updConn j fun c =>
      { c with hold := c.hold ++ [{ ext := ext, path := path, bytes := b, at_ := t, age := age }] }
  | some h =>
    if h.path = path then s
    else
      let s := s.updConn j fun c => { c with hold := c.hold.filter fun x => x.ext != ext }
      if h.bytes = b then s.acceptFrame t j ext pay h.age 0 else s.dropDual t d j ext .differ

/-- LOOKOUT_FRAME_ARRIVAL: a frame arrives on `path` (R362-R364). -/
def frameArrival (t : Nat) (path : Fin 8) (b : List Byte) (s : State) : State :=
  let s := s.upto t
  match s.lk.inForce with
  | none => s
  | some x =>
    let d := x.data
    match connOf d path (beAt b 0 4) with
    | none => s
    | some j =>
      let s := s.expireHolds t d j
      match readFrame b with
      | none => s.rejectFrame j
      | some f =>
        let c := s.conn j
        let age := s.frameAge d j t f.stamp
        if isDual d j && repeats d j f c.decided then s
        else if f.len ≠ cnAt d j 28 1 || !s.ageOk d j age then s.rejectFrame j
        else
          match (c.ext.orElse fun _ => c.cand).bind (passes d j f) with
          | some e =>
            if isDual d j then s.dualCopy t d j path e b f.payload age
            else s.acceptFrame t j e f.payload age 0
          | none =>
            if c.ext.isSome then s.rejectFrame j
            else
              match highHalf (cnAt d j 12 4) f.body f.crc with
              | some h => s.updConn j fun c => { c with cand := some (h * 65536 + f.low) }
              | none => s.rejectFrame j

def execLookoutFrameArrival (t : Nat) (path : Fin 8) (b : List Byte) (s : State) : Res :=
  .next (frameArrival t path b s)

/-- DUAL_WINDOW_EXPIRY: the held copies of connection `j` whose DUAL_WINDOW is over stay single (R364). -/
def dualExpiry (t : Nat) (j : Fin 8) (s : State) : State :=
  let s := s.upto t
  match s.lk.inForce with
  | some x => s.expireHolds t x.data j
  | none => s

def execDualWindowExpiry (t : Nat) (j : Fin 8) (s : State) : Res := .next (dualExpiry t j s)

/-- The first instant at which an axis of connection `j` left OFF (R363). -/
def State.firstLeft (s : State) (d : List Byte) (j : Fin 8) : Option Nat :=
  (fin4.filterMap fun (n : Fin 4) => if (cnAt d j 30 1).testBit n then s.lk.left[n] else none).min?

/-- WD_TIMEOUT is exceeded since the last accepted frame, or where there is none is over since an axis of the
connection first left OFF (R363). -/
def State.connLate (s : State) (t : Nat) (d : List Byte) (j : Fin 8) : Bool :=
  let wd := cnAt d j 20 4 * Config.us
  match (s.conn j).lastAt with
  | some u => decide (u + wd < t)
  | none => (s.firstLeft d j).any fun u => decide (u + wd ≤ t)

/-- CONNECTION_LOSS: no frame of a receive connection has been accepted within WD_TIMEOUT (R363). Frames decided on
before the loss are tested anew (R362). -/
def connectionLoss (t : Nat) (j : Fin 8) (s : State) : State :=
  let s := s.upto t
  match s.lk.inForce with
  | none => s
  | some x =>
    let d := x.data
    if (connsOf d).contains j && receives d j && !(s.conn j).lost && s.connLate t d j then
      let s := s.updConn j fun c =>
        { c with lost := true, ext := none, cand := none, bits := [], next := none, decided := [] }
      (s.sets [(Reg.LOOKOUT_CONN_OK j, 0), (Reg.LOOKOUT_CONN_LOST j, 1)]).lkComm t d j .lost
    else s

def execConnectionLoss (t : Nat) (j : Fin 8) (s : State) : Res := .next (connectionLoss t j s)

end Sys2Proof.Machine
end

