-- ==== Sys2Proof/Machine/Can.lean ====
section
/-! DEFINITION. The CAN controllers (R384-R391): reception, transmit buffers, error states. -/

namespace Sys2Proof.Machine

/-! ### Reception (R387, R388) -/

/-- A receive entry of 20 words (R388). -/
def rxEntry (f : CanFrame) (filt : Nat) : List Word :=
  let b (v : Bool) (k : Nat) : Nat := if v then 2 ^ k else 0
  let data := f.data ++ List.replicate (64 - f.data.length) 0
  [BitVec.ofNat 32 (f.id % 2 ^ 29 + b f.ide 29 + b f.fdf 30 + b f.brs 31),
   BitVec.ofNat 32 (f.data.length + b f.esi 7 + filt * 256 + b f.rtr 16),
   BitVec.ofNat 32 f.sof, BitVec.ofNat 32 (f.sof / 2 ^ 32)] ++
  (List.range 16).map fun w => BitVec.ofNat 32 (leNat ((data.drop (4 * w)).take 4))

/-- A frame for RXQ `q`: stored, or lost with the queue full (R388). -/
def State.rxPut (s : State) (t : Nat) (c : Fin 4) (q : Fin 2) (e : List Word) : State :=
  if ((s.canCtl c).rx[q]).length < 64 then
    (s.updCan c fun x => { x with rx := x.rx.set q (x.rx[q] ++ [e]) }).set
      (if q = 0 then Reg.CAN_IRQ_RX0 c else Reg.CAN_IRQ_RX1 c) 1
  else
    (((s.set (Reg.CAN_RXSTAT_OVF c q) 1).incHold (Reg.CAN_RXSTAT_LOST c q)).set (Reg.CAN_IRQ_OVF c) 1).raiseOnce
      .canRxqOvf 53 c t

/-- Act on an action code: 1 RXQ0, 2 RXQ1, else reject. -/
def State.rxAct (s : State) (t : Nat) (c : Fin 4) (act : Nat) (e : List Word) : State :=
  match act with
  | 1 => s.rxPut t c 0 e
  | 2 => s.rxPut t c 1 e
  | _ => s

/-- Filter `f` takes a frame (R387). -/
def State.filterTakes (s : State) (c : Fin 4) (fr : CanFrame) (f : Nat) : Bool :=
  let m := s.reg (Reg.CAN_FMASK c f) &&& 0x1FFFFFFF
  s.bit (Reg.CAN_FMATCH_EN c f) && s.bit (Reg.CAN_FMATCH_IDE c f) == fr.ide &&
    (s.reg (Reg.CAN_FMATCH c f) &&& m) == (BitVec.ofNat 32 fr.id &&& m)

/-- A receive connection of the set in force takes the frame (R387). -/
def State.lkTakes (s : State) (c : Fin 4) (fr : CanFrame) : Bool :=
  match s.lk.inForce with
  | none => false
  | some x => fr.ide && (connsOf x.data).any fun j =>
      receives x.data j && cnAt x.data j 8 4 % 2 ^ 29 == fr.id &&
        (cnAt x.data j 6 1 == 4 + c.val || (isDual x.data j && cnAt x.data j 7 1 == 4 + c.val))

/-- A frame that has passed its checks goes to exactly one place (R387). -/
def State.canRoute (s : State) (t : Nat) (c : Fin 4) (fr : CanFrame) : State :=
  if fr.fdf && s.bit (Reg.CAN_CMDID_EN c) && s.bit (Reg.CAN_CMDID_IDE c) == fr.ide &&
      s.get (Reg.CAN_CMDID_ID c) == fr.id then s.canFragment c fr.data
  else if s.lkTakes c fr then frameArrival (min fr.sof t) ⟨c.val + 4, by omega⟩ fr.data s
  else
    match (List.range 32).find? (s.filterTakes c fr) with
    | some f => s.rxAct t c (s.get (Reg.CAN_FMASK_ACT c f)) (rxEntry fr f)
    | none => s.rxAct t c (s.get (Reg.CAN_DEFACT_ACT c)) (rxEntry fr 32)

/-! ### Error states (R391) -/

/-- A request ends aborted (R390). -/
def State.txAborted (s : State) (c : Fin 4) (b : Fin 16) : State :=
  s.sets [(Reg.CAN_TXCTL_STATE c b, 3), (Reg.CAN_IRQ_TXDONE c, 1)]

/-- The registers follow the error counters and the error state. -/
def State.canCounters (s : State) (c : Fin 4) : State :=
  let x := s.canCtl c
  s.sets [(Reg.CAN_STATUS_TEC c, min 255 x.tec), (Reg.CAN_STATUS_REC c, min 127 x.rec_)]

/-- Error active or passive by the counters (ISO 11898-1): passive from 128 on, active again below. -/
def State.canErrState (s : State) (t : Nat) (c : Fin 4) : State :=
  let x := s.canCtl c
  let s := s.canCounters c
  let st := s.get (Reg.CAN_STATUS_STATE c)
  if st = 2 then s
  else if 255 < x.tec then
    let s := match x.cur with
      | some b => if x.abort then s.txAborted c b else s
      | none => s
    let s := s.updCan c fun x => { x with cur := none, abort := false }
    ((s.sets [(Reg.CAN_STATUS_STATE c, 2), (Reg.CAN_IRQ_BUSOFF c, 1)]).incHold (Reg.CAN_BUSOFF_COUNT c)).raise
      .canBusOff 53 c t
  else if 128 ≤ x.tec ∨ 128 ≤ x.rec_ then
    if st = 1 then s
    else (s.sets [(Reg.CAN_STATUS_STATE c, 1), (Reg.CAN_IRQ_PASSIVE c, 1)]).raise .canErrPassive 53 c t
  else s.set (Reg.CAN_STATUS_STATE c) 0

/-- A frame received without error lowers REC (ISO 11898-1). -/
def recAfter (r : Nat) : Nat := if 127 < r then 127 else r - 1

/-- A form error of a receiver: LASTERR 2, and REC one higher (R391, ISO 11898-1). -/
def State.canForm (s : State) (t : Nat) (c : Fin 4) : State :=
  ((s.set (Reg.CAN_STATUS_LASTERR c) 2).updCan c fun x => { x with rec_ := min 255 (x.rec_ + 1) }).canErrState t c

/-- CAN_FRAME_RECEIVED (R387): nothing is received off the bus, or in loopback from outside; with FDEN = 0 an FD frame
is a form error (R384). -/
def canReceived (t : Nat) (c : Fin 4) (fr : CanFrame) (s : State) : State :=
  let s := s.upto t
  if !s.bit (Reg.CAN_CTL_EN c) || s.get (Reg.CAN_STATUS_STATE c) == 2 || s.get (Reg.CAN_CTL_MODE c) == 2 then s
  else if fr.fdf && !s.bit (Reg.CAN_CTL_FDEN c) then s.canForm t c
  else ((s.updCan c fun x => { x with rec_ := recAfter x.rec_ }).canErrState t c).canRoute t c fr

def execCanFrameReceived (t : Nat) (c : Fin 4) (fr : CanFrame) (s : State) : Res :=
  .next (canReceived t c fr s)

/-! ### Transmission (R389, R390) -/

def buffers16 : List (Fin 16) := [0, 1, 2, 3, 4, 5, 6, 7, 8, 9, 10, 11, 12, 13, 14, 15]

/-- Place of an identifier in arbitration: base identifier, then IDE, then the extension; lower wins. -/
def arbKey (w : Word) : Nat :=
  if w.getLsbD 29 then (w.toNat % 2 ^ 29) / 2 ^ 18 * 2 ^ 19 + 2 ^ 18 + w.toNat % 2 ^ 18
  else w.toNat % 2 ^ 11 * 2 ^ 19

/-- The pending buffer that goes next: lowest identifier, then lowest number (R389). -/
def State.txPick (s : State) (c : Fin 4) : Option (Fin 16) :=
  (buffers16.filter (s.txPending c)).foldl (fun best b =>
    match best with
    | none => some b
    | some x => if arbKey (s.reg (Reg.CAN_TXID c b)) < arbKey (s.reg (Reg.CAN_TXID c x)) then some b else best) none

/-- CAN_TX_START: a start of frame (R389). -/
def canStart (t : Nat) (c : Fin 4) (s : State) : State :=
  let s := s.upto t
  if s.bit (Reg.CAN_CTL_EN c) && s.get (Reg.CAN_STATUS_STATE c) != 2 && s.get (Reg.CAN_CTL_MODE c) != 1 &&
      (s.canCtl c).cur.isNone then
    match s.txPick c with
    | none => s
    | some b => s.updCan c fun x => { x with cur := some b, sof := s.tide, abort := false }
  else s

def execCanTxStart (t : Nat) (c : Fin 4) (s : State) : Res := .next (canStart t c s)

/-- The frame a buffer holds. -/
def State.txFrame (s : State) (c : Fin 4) (b : Fin 16) : CanFrame :=
  let w := s.reg (Reg.CAN_TXID c b)
  let data := (List.range 16).flatMap fun k => leBytes 4 (s.reg (Reg.CAN_TXDATA c b k)).toNat
  { sof := (s.canCtl c).sof, ide := w.getLsbD 29, id := w.toNat % (if w.getLsbD 29 then 2 ^ 29 else 2 ^ 11)
    fdf := w.getLsbD 30, brs := w.getLsbD 31, rtr := s.bit (Reg.CAN_TXCTL_RTR c b), esi := false
    data := data.take (s.get (Reg.CAN_TXCTL_LEN c b)) }

/-- The transmitter delay measured in the data phase of a frame shows in TDCV; its value is a free one (R385, log entry
63). -/
def State.measureDelay (s : State) (c : Fin 4) (fr : CanFrame) : State :=
  if fr.fdf && fr.brs && s.bit (Reg.CAN_TDC_EN c) then
    let (v, s) := s.freeNat
    s.set (Reg.CAN_TDC_TDCV c) v
  else s

/-- CAN_TX_COMPLETE: the frame in transmission is sent, or lost arbitration or met an error (R390). In
loopback the controller receives its own frame, and nothing leaves it (R384). -/
def canComplete (t : Nat) (c : Fin 4) (sent : Bool) (s : State) : State :=
  let s := s.upto t
  let x := s.canCtl c
  match x.cur with
  | none => s
  | some b =>
    let s := s.updCan c fun x => { x with cur := none, abort := false }
    if sent then
      let fr := { s.txFrame c b with sof := x.sof }
      let s := s.sets [(Reg.CAN_TXCTL_STATE c b, 2), (Reg.CAN_TXSTL_STAMP c b, x.sof),
        (Reg.CAN_TXSTH_STAMP c b, x.sof / 2 ^ 32), (Reg.CAN_IRQ_TXDONE c, 1)]
      let s := (s.updCan c fun x => { x with tec := x.tec - 1 }).canErrState t c
      let s := s.measureDelay c fr
      let s := if s.get (Reg.CAN_CTL_MODE c) = 2 then s.canRoute t c fr else s.emit (.can c b)
      s.canFeed c
    else if x.abort then (s.txAborted c b).canFeed c
    else s

def execCanTxComplete (t : Nat) (c : Fin 4) (sent : Bool) (s : State) : Res := .next (canComplete t c sent s)

/-- CAN_BUS_ERROR of the kind LASTERR shows, with the steps that ISO 11898-1 gives the counters
(R391). -/
def canError (t : Nat) (c : Fin 4) (kind : Fin 7) (tecUp recUp : Nat) (s : State) : State :=
  let s := s.upto t
  if s.bit (Reg.CAN_CTL_EN c) && s.get (Reg.CAN_STATUS_STATE c) != 2 then
    ((s.set (Reg.CAN_STATUS_LASTERR c) kind).updCan c fun x =>
      { x with tec := x.tec + tecUp, rec_ := min 255 (x.rec_ + recUp) }).canErrState t c
  else s

def execCanBusError (t : Nat) (c : Fin 4) (kind : Fin 7) (tecUp recUp : Nat) (s : State) : Res :=
  .next (canError t c kind tecUp recUp s)

/-- CAN_BUS_OFF_RECOVERY: 128 occurrences of 11 recessive bits (R391). -/
def canRecovered (t : Nat) (c : Fin 4) (s : State) : State :=
  let s := s.upto t
  if s.get (Reg.CAN_STATUS_STATE c) = 2 then
    ((s.updCan c fun x => { x with tec := 0, rec_ := 0 }).set (Reg.CAN_STATUS_STATE c) 0).canCounters c
  else s

def execCanBusOffRecovery (t : Nat) (c : Fin 4) (s : State) : Res := .next (canRecovered t c s)

/-! ### Register writes (R388-R391) -/

/-- ARM and ABORT bits of an accepted write of `CAN_TXCTLc_b` (R389, R390). -/
def State.txctlWritten (s : State) (c : Fin 4) (b : Fin 16) (w : Word) : State :=
  let len := s.get (Reg.CAN_TXCTL_LEN c b)
  let ok := dlcLengths.contains len && (s.bit (Reg.CAN_TXID_FDF c b) || decide (len ≤ 8))
  let s := if w.getLsbD 8 && ok && !s.txPending c b then s.set (Reg.CAN_TXCTL_STATE c b) 1 else s
  if w.getLsbD 9 && s.txPending c b then
    if (s.canCtl c).cur = some b then s.updCan c fun x => { x with abort := true }
    else s.txAborted c b
  else s

/-- POP of a receive queue (R388). -/
def State.rxPop (s : State) (c : Fin 4) (q : Fin 2) : State :=
  s.updCan c fun x => { x with rx := x.rx.set q (x.rx[q].drop 1) }

/-- EN of a controller is written (R391). -/
def State.canEnWritten (s : State) (c : Fin 4) (was : Bool) : State :=
  if s.bit (Reg.CAN_CTL_EN c) then s.canFeed c
  else if was then
    let s := (buffers16.filter (s.txPending c)).foldl (State.txAborted · c ·) s
    let s := s.updHm fun h => { h with canTx := h.canTx.set c [] }
    s.updCan c fun x => { x with rx := Vector.replicate 2 [], cur := none, abort := false, lkTx := [] }
  else s

end Sys2Proof.Machine
end

