-- ==== Sys2Proof/Machine/Engine.lean ====
section
/-! DEFINITION. The instructions of the loop engine (R205-R221): each executes where a pass of the
engine has reached a program word of its opcode. -/

namespace Sys2Proof.Machine

/-- The program word the pass has reached. -/
def State.progWord (s : State) (n : Fin 4) : Word64 := stoGet (s.engine n).prog (s.engine n).pc 0

/-- A pass is executing instructions: a pilot pass before SETTLE, a hit path, a full pass or a GO
pass, with no COMMIT crossing under way. -/
def State.passRuns (s : State) (n : Fin 4) : Bool :=
  let ph := s.phase n
  (ph == 1 || ph == 3 || ph == 4 || ph == 5) && !(s.engine n).crossing

/-- Address of an engine's memory at an offset (R222). -/
def engineAddr (n : Fin 4) (off : Nat) : Nat := 0x20000000 + n.val * 0x100000 + off

/-- The word the pass has reached has an uncorrectable error (R401). -/
def State.badWord (s : State) (n : Fin 4) : Bool :=
  s.passRuns n && decide ((s.engine n).pc < 8192) && s.eccAt (engineAddr n (8 * (s.engine n).pc))

/-- Address of an entry of a space in the engine's memory; the port window is no memory (R215, R222). -/
def entryAddr (n : Fin 4) (sp i : Nat) : Option Nat :=
  match sp with
  | 0 => some (engineAddr n (0x10000 + 4 * i))
  | 1 => some (engineAddr n (0x20000 + 4 * i))
  | 3 => some (engineAddr n (0x40000 + 4 * i))
  | _ => none

/-- The pass has reached a defined word of opcode `op`. -/
def State.reached (s : State) (n : Fin 4) (op : Nat) : Bool :=
  !s.badWord n && s.passRuns n && decide ((s.engine n).pc < 8192) && wOp (s.progWord n) == op && !wUndefined (s.progWord n)

/-- Register `k` of the engine. -/
def State.vreg (s : State) (n : Fin 4) (k : Fin 32) : VReg := (s.engine n).v[k]

def State.setVreg (s : State) (n : Fin 4) (k : Fin 32) (x : VReg) : State :=
  s.updEng n fun e => { e with v := e.v.set k x }

/-- Set PRED (R217). -/
def State.setPred (s : State) (n : Fin 4) (p : BitVec 8) : State :=
  (s.updEng n fun e => { e with pred := p }).set (Reg.LE_STATUS_PRED n) p.toNat

/-- The instruction has completed: it is sampled and counted (R424, R426), `LE_STATUSn` shows it, and
the pass goes on with the next word. -/
def State.advance (s : State) (t : Nat) (n : Fin 4) : State :=
  let pc := (s.engine n).pc
  let s := (s.leSample t n (s.progWord n) pc).leCount n 1 1
  (s.set (Reg.LE_STATUS_PC n) pc).updEng n fun e => { e with pc := pc + 1 }

/-- Lanes enabled for the word reached. -/
def State.enable (s : State) (n : Fin 4) : Fin 8 → Bool := wEnable (s.progWord n) (s.engine n).pred

/-- Lanes of SRCA, of SRCB with BCAST, and of DST (R213). -/
def State.lanesA (s : State) (n : Fin 4) : Lanes := (s.vreg n (wA (s.progWord n))).lanes
def State.lanesB (s : State) (n : Fin 4) : Lanes :=
  let v := s.vreg n (wB (s.progWord n))
  if wBcast (s.progWord n) then Vector.ofFn fun _ => v.lane 0 else v.lanes
def State.lanesD (s : State) (n : Fin 4) : Lanes := (s.vreg n (wDst (s.progWord n))).lanes

/-- Write exact lane results `r` to DST by the result rule, with the flags it sets (R205-R207).
`fixe` and `rtz` are the MODE bits in force. -/
def State.writeDst (s : State) (t : Nat) (n : Fin 4) (fixe rtz : Bool) (en : Fin 8 → Bool)
    (r : Fin 8 → Q) : State :=
  let k := wDst (s.progWord n)
  let old := s.vreg n k
  let (new, f) := resultReg old fixe rtz (gateLanes en old r)
  (s.writeFlags t n f).setVreg n k new

/-- Write the results of an arithmetic instruction. -/
def State.writeArith (s : State) (t : Nat) (n : Fin 4) (r : Fin 8 → Q) : State :=
  let w := s.progWord n
  s.writeDst t n (wFixe w) (wRtz w) (s.enable n) r

/-- A lane-wise instruction of opcode `op` with results `f A B D` (R217). -/
def State.laneOp (s : State) (t : Nat) (n : Fin 4) (op : Nat) (f : Lanes → Lanes → Lanes → Fin 8 → Q) :
    State :=
  let s := s.upto t
  if s.reached n op then
    (s.writeArith t n (f (s.lanesA n) (s.lanesB n) (s.lanesD n))).advance t n
  else s

/-! ### HALT and undefined encodings (R219, R221) -/

/-- HALT (R219); a word with an uncorrectable error ends the pass in the same way (R401). -/
def halt (t : Nat) (n : Fin 4) (s : State) : State :=
  let s := s.upto t
  if s.badWord n then (s.endUncommitted t n).eccFatal t (engineAddr n (8 * (s.engine n).pc))
  else if s.reached n opHalt then (s.advance t n).endUncommitted t n else s

def execHalt (t : Nat) (n : Fin 4) (s : State) : Res := .next (halt t n s)

/-- UNDEFINED_ENCODING: ILLOP, LE_ILLOP, and the end of the pass (R221). -/
def undefinedEnc (t : Nat) (n : Fin 4) (s : State) : State :=
  let s := s.upto t
  let pc := (s.engine n).pc
  if s.passRuns n && !s.badWord n && (decide (8192 ≤ pc) || wUndefined (s.progWord n)) then
    let s := s.setFlag t n fIllop
    let s := s.set (Reg.LE_STATUS_PC n) (min 8191 pc)
    let s := s.endUncommitted t n
    s.raise .leIllop (leSource n) (min 8192 pc) t
  else s

def execUndefinedEncoding (t : Nat) (n : Fin 4) (s : State) : Res := .next (undefinedEnc t n s)

/-! ### Moves, loads and stores -/

def mov (t : Nat) (n : Fin 4) (s : State) : State :=
  let s := s.upto t
  if s.reached n opMov then
    let w := s.progWord n
    let a := s.lanesA n
    (s.writeArith t n fun i => if wBcast w then wConst w else a[i]).advance t n
  else s

def execMov (t : Nat) (n : Fin 4) (s : State) : Res := .next (mov t n s)

/-- Entries of a space (R215). -/
def spaceSize (sp : Nat) : Nat := if sp < 2 then 4096 else if sp = 2 then 256 else 196608

/-- Word of an entry as the pass reads it. -/
def State.readEntry (s : State) (n : Fin 4) (sp i : Nat) : Word :=
  match sp with
  | 0 => s.coefEntry n i
  | 1 => s.readState n i
  | 2 => s.readPort n i
  | _ => s.readBuf n i

/-- Value of an entry word: BF32, or a two's complement integer with INT (R215). -/
def entryValue (int : Bool) (w : Word) : Q := if int then qInt w.toInt else bfVal w

/-- Code of a port error (R209): entry, space, ST. -/
def portCode (sp i : Nat) (write : Bool) : Nat :=
  i % 2 ^ 18 + sp * 2 ^ 18 + (if write then 2 ^ 20 else 0)

/-- Entry number of lane `i`. -/
def laneEntry (w : Word64) (i : Nat) : Nat := if wLdBcast w then wEntry w else wEntry w + i

/-- Enabled lanes of an LD or ST: MASK alone (R213). -/
def maskLanes (w : Word64) : List (Fin 8) :=
  [0, 1, 2, 3, 4, 5, 6, 7].filter fun (i : Fin 8) => (wMask w).getLsbD i

/-- An entry that an LD reads has an uncorrectable error (R401): its address. -/
def State.badEntry (s : State) (n : Fin 4) : Option Nat :=
  let w := s.progWord n
  ((maskLanes w).filterMap fun (i : Fin 8) =>
    if laneEntry w i < spaceSize (wSpace w) then entryAddr n (wSpace w) (laneEntry w i) else none).find? s.eccAt

/-- LD (R215); an entry with an uncorrectable error ends the pass as HALT does (R401). -/
def ld (t : Nat) (n : Fin 4) (s : State) : State :=
  let s := s.upto t
  if s.reached n opLd && (s.badEntry n).isSome then
    (s.endUncommitted t n).eccFatal t ((s.badEntry n).getD 0)
  else if s.reached n opLd then
    let w := s.progWord n
    let sp := wSpace w
    let bad := (maskLanes w).find? fun (i : Fin 8) => decide (spaceSize sp ≤ laneEntry w i)
    let s0 := s
    let s := match bad with
      | some i => s.portErr t n (portCode sp (laneEntry w i) false)
      | none => s
    let s := s.leCount n 2 1
    (s.writeDst t n false false (fun i => (wMask w).getLsbD i) fun i =>
      if laneEntry w i < spaceSize sp then entryValue (wInt w) (s0.readEntry n sp (laneEntry w i))
      else qZero).advance t n
  else s

def execLd (t : Nat) (n : Fin 4) (s : State) : Res := .next (ld t n s)

/-- The word an ST writes for a lane value, with the flags it sets (R215): SAT, EXOV, EXUF. -/
def storeWord (int : Bool) (v : Q) : Word × WFlags :=
  if int then
    let x := qRound v
    let y := max (-(2 ^ 31)) (min (2 ^ 31 - 1) x)
    (BitVec.ofInt 32 y, { sat := decide (x ≠ y) })
  else
    let (w, ov, uf) := bfRoundFull false v
    (w, { exov := ov, exuf := uf })

/-- An ST in space 3 before a hit is decided sets no flag (R220). -/
def State.stSilent (s : State) (n : Fin 4) (sp : Nat) : Bool :=
  sp == 3 && (s.phase n == 1 || s.phase n == 2)

/-- One lane of ST. -/
def State.storeLane (s : State) (t : Nat) (n : Fin 4) (w : Word64) (i : Fin 8) : State :=
  let sp := wSpace w
  let x := laneEntry w i
  let ok := decide (x < spaceSize sp) && (sp == 1 || sp == 3 || (sp == 2 && portWritable x))
  if s.stSilent n sp then s
  else
    let (v, f) := storeWord (wInt w) ((s.vreg n (wA w)).lane i)
    let s := s.writeFlags t n f
    if ok then
      match sp with
      | 1 => s.writeState n x v
      | 2 => s.writePort n x v
      | _ => s.writeBuf n x v
    else s.portErr t n (portCode sp x true)

def st (t : Nat) (n : Fin 4) (s : State) : State :=
  let s := s.upto t
  if s.reached n opSt then
    let w := s.progWord n
    (((maskLanes w).foldl (fun s i => s.storeLane t n w i) s).leCount n 3 1).advance t n
  else s

def execSt (t : Nat) (n : Fin 4) (s : State) : Res := .next (st t n s)

/-! ### Arithmetic -/

def execAdd (t : Nat) (n : Fin 4) (s : State) : Res :=
  .next (s.laneOp t n opAdd fun a b _ i => qAdd a[i] b[i])

def execSub (t : Nat) (n : Fin 4) (s : State) : Res :=
  .next (s.laneOp t n opSub fun a b _ i => qSub a[i] b[i])

def execMul (t : Nat) (n : Fin 4) (s : State) : Res :=
  .next (s.laneOp t n opMul fun a b _ i => qMul a[i] b[i])

def execMac (t : Nat) (n : Fin 4) (s : State) : Res :=
  .next (s.laneOp t n opMac fun a b d i => qAdd d[i] (qMul a[i] b[i]))

def execNeg (t : Nat) (n : Fin 4) (s : State) : Res :=
  .next (s.laneOp t n opNeg fun a _ _ i => qNeg a[i])

def execAbs (t : Nat) (n : Fin 4) (s : State) : Res :=
  .next (s.laneOp t n opAbs fun a _ _ i => qAbs a[i])

def execMin (t : Nat) (n : Fin 4) (s : State) : Res :=
  .next (s.laneOp t n opMin fun a b _ i => qMin a[i] b[i])

def execMax (t : Nat) (n : Fin 4) (s : State) : Res :=
  .next (s.laneOp t n opMax fun a b _ i => qMax a[i] b[i])

/-- PRED with the bits of enabled lanes replaced (R217). -/
def predWith (old : BitVec 8) (en : Fin 8 → Bool) (f : Fin 8 → Bool) : BitVec 8 :=
  BitVec.ofNat 8 ([0, 1, 2, 3, 4, 5, 6, 7].foldl (fun (v : Nat) (i : Fin 8) =>
    v + (if (if en i then f i else old.getLsbD i) then 2 ^ i.val else 0)) 0)

/-- A lane-wise instruction that also writes PRED. -/
def State.predOp (s : State) (t : Nat) (n : Fin 4) (r : Fin 8 → Q) (p : Fin 8 → Bool) : State :=
  let pred := predWith (s.engine n).pred (s.enable n) p
  ((s.writeArith t n r).setPred n pred).advance t n

/-- Coefficient `c + i` of the word reached, exact value. -/
def State.coef (s : State) (n : Fin 4) (c i : Nat) : Q := bfVal (s.coefEntry n (c + i))

def clamp (t : Nat) (n : Fin 4) (s : State) : State :=
  let s := s.upto t
  if s.reached n opClamp then
    let c := wIndex (s.progWord n)
    let a := s.lanesA n
    let r (i : Fin 8) := qMax (s.coef n c i) (qMin a[i] (s.coef n c (8 + i)))
    s.predOp t n r fun i => !qEq (r i) a[i]
  else s

def execClamp (t : Nat) (n : Fin 4) (s : State) : Res := .next (clamp t n s)

/-- Conditions of CMP (R214). -/
def cmpHolds (k : Nat) (a b : Q) : Bool :=
  match k with
  | 0 => qEq a b
  | 1 => !qEq a b
  | 2 => qLt a b
  | 3 => qLe a b
  | 4 => qLt b a
  | _ => qLe b a

def cmp (t : Nat) (n : Fin 4) (s : State) : State :=
  let s := s.upto t
  if s.reached n opCmp then
    let k := wBits (s.progWord n) 0 3
    let a := s.lanesA n
    let b := s.lanesB n
    s.predOp t n (fun i => if cmpHolds k a[i] b[i] then qOne else qZero) fun i => cmpHolds k a[i] b[i]
  else s

def execCmp (t : Nat) (n : Fin 4) (s : State) : Res := .next (cmp t n s)

def sel (t : Nat) (n : Fin 4) (s : State) : State :=
  let p := (s.engine n).pred
  s.laneOp t n opSel fun a b _ i => if p.getLsbD i then a[i] else b[i]

def execSel (t : Nat) (n : Fin 4) (s : State) : Res := .next (sel t n s)

def scale (t : Nat) (n : Fin 4) (s : State) : State :=
  let k := wSigned (s.progWord n) 0 8
  s.laneOp t n opScale fun a _ _ i => qMul a[i] (qPow2 k)

def execScale (t : Nat) (n : Fin 4) (s : State) : Res := .next (scale t n s)

def execNorm (t : Nat) (n : Fin 4) (s : State) : Res :=
  .next (s.laneOp t n opNorm fun a _ _ i => a[i])

/-! ### Functions (R217) -/

/-- Lane `2 (i div 2)` and its partner. -/
def evenLane (i : Fin 8) : Fin 8 := Fin.ofNat 8 (2 * (i.val / 2))
def oddLane (i : Fin 8) : Fin 8 := Fin.ofNat 8 (2 * (i.val / 2) + 1)

def execSincos (t : Nat) (n : Fin 4) (s : State) : Res :=
  .next (s.laneOp t n opSincos fun a _ _ i =>
    let cs := cosSin a[evenLane i]
    if i.val % 2 = 0 then cs.1 else cs.2)

/-- Some enabled lane meets a condition (R217). -/
def State.anyLane (s : State) (n : Fin 4) (p : Fin 8 → Bool) : Bool :=
  decide (∃ i : Fin 8, s.enable n i = true ∧ p i = true)

def atan2 (t : Nat) (n : Fin 4) (s : State) : State :=
  let s := s.upto t
  if s.reached n opAtan2 then
    let a := s.lanesA n
    let b := s.lanesB n
    let dom := s.anyLane n fun i => qIsZero a[i] && qIsZero b[i]
    ((s.flagIf t n fDom dom).writeArith t n fun i => atan2Turns a[i] b[i]).advance t n
  else s

def execAtan2 (t : Nat) (n : Fin 4) (s : State) : Res := .next (atan2 t n s)

def recip (t : Nat) (n : Fin 4) (s : State) : State :=
  let s := s.upto t
  if s.reached n opRecip then
    let a := s.lanesA n
    let z := s.anyLane n fun i => qIsZero a[i]
    ((s.flagIf t n fDivz z).writeArith t n fun i => if qIsZero a[i] then qZero else qInv a[i]).advance t n
  else s

def execRecip (t : Nat) (n : Fin 4) (s : State) : Res := .next (recip t n s)

def rsqrt (t : Nat) (n : Fin 4) (s : State) : State :=
  let s := s.upto t
  if s.reached n opRsqrt then
    let a := s.lanesA n
    let z := s.anyLane n fun i => qIsZero a[i]
    let d := s.anyLane n fun i => decide (a[i].num < 0)
    (((s.flagIf t n fDivz z).flagIf t n fDom d).writeArith t n fun i =>
      if a[i].num ≤ 0 then qZero else invRoot a[i]).advance t n
  else s

def execRsqrt (t : Nat) (n : Fin 4) (s : State) : Res := .next (rsqrt t n s)

/-- `a / 3` and `a / √3`. -/
def qThird (a : Q) : Q := qDiv a (qInt 3)
def qRoot3 (a : Q) : Q := qDiv (qMul a qSqrt3) (qInt 3)

/-- One triplet of CLARKE: α, β, γ. -/
def clarkeOf (a b c : Q) : Q × Q × Q :=
  (qThird (qSub (qSub (qMul (qInt 2) a) b) c), qRoot3 (qSub b c), qThird (qAdd (qAdd a b) c))

def execClarke (t : Nat) (n : Fin 4) (s : State) : Res :=
  .next (s.laneOp t n opClarke fun a _ _ i =>
    let p := clarkeOf a[0] a[1] a[2]
    let q := clarkeOf a[3] a[4] a[5]
    match i with
    | 0 => p.1
    | 1 => p.2.1
    | 2 => q.1
    | 3 => q.2.1
    | 4 => p.2.2
    | 5 => q.2.2
    | 6 => a[6]
    | 7 => a[7])

/-- `(√3/2) a`. -/
def qHalfRoot3 (a : Q) : Q := qMul a (qMul qSqrt3 ⟨1, 2⟩)

/-- One set of ICLARKE: phases a, b, c. -/
def iclarkeOf (al be ga : Q) : Q × Q × Q :=
  let h := qNeg (qMul al ⟨1, 2⟩)
  (qAdd al ga, qAdd (qAdd h (qHalfRoot3 be)) ga, qAdd (qSub h (qHalfRoot3 be)) ga)

def execIclarke (t : Nat) (n : Fin 4) (s : State) : Res :=
  .next (s.laneOp t n opIclarke fun a _ _ i =>
    let p := iclarkeOf a[0] a[1] a[4]
    let q := iclarkeOf a[2] a[3] a[5]
    match i with
    | 0 => p.1
    | 1 => p.2.1
    | 2 => p.2.2
    | 3 => q.1
    | 4 => q.2.1
    | 5 => q.2.2
    | 6 => a[6]
    | 7 => a[7])

def execPark (t : Nat) (n : Fin 4) (s : State) : Res :=
  .next (s.laneOp t n opPark fun a b _ i =>
    let al := a[evenLane i]
    let be := a[oddLane i]
    let c := b[evenLane i]
    let sn := b[oddLane i]
    if i.val % 2 = 0 then qAdd (qMul al c) (qMul be sn) else qSub (qMul be c) (qMul al sn))

def execIpark (t : Nat) (n : Fin 4) (s : State) : Res :=
  .next (s.laneOp t n opIpark fun a b _ i =>
    let d := a[evenLane i]
    let q := a[oddLane i]
    let c := b[evenLane i]
    let sn := b[oddLane i]
    if i.val % 2 = 0 then qSub (qMul d c) (qMul q sn) else qAdd (qMul d sn) (qMul q c))

/-! ### SVM, PI, LPF, RAMP (R218) -/

/-- One set of SVM: the three duties before and after the clamp, for a DC link above 0. -/
def svmSet (al be vdc : Q) : Vector Q 3 :=
  let (va, vb, vc) := iclarkeOf al be qZero
  let v0 := qNeg (qMul (qAdd (qMax va (qMax vb vc)) (qMin va (qMin vb vc))) ⟨1, 2⟩)
  let d (v : Q) : Q := qAdd ⟨1, 2⟩ (qDiv (qAdd v v0) vdc)
  #v[d va, d vb, d vc]

def unitClamp (d : Q) : Q := qMax qZero (qMin qOne d)

/-- Duty of lane `i` before its clamp: lanes 0-2 of the first set, 3-5 of the second. -/
def svmRaw (a : Lanes) (vdc : Q) (i : Fin 8) : Q :=
  let p := svmSet a[0] a[1] vdc
  let q := svmSet a[2] a[3] vdc
  match i with
  | 0 => p[0]
  | 1 => p[1]
  | 2 => p[2]
  | 3 => q[0]
  | 4 => q[1]
  | 5 => q[2]
  | _ => qZero

def svm (t : Nat) (n : Fin 4) (s : State) : State :=
  let s := s.upto t
  if s.reached n opSvm then
    let raw := svmRaw (s.lanesA n) (s.lanesB n)[0]
    let d := s.lanesD n
    let dead := decide ((s.lanesB n)[0].num ≤ 0)
    let duty (i : Fin 8) : Bool := decide (i.val < 6)
    let dom := s.anyLane n fun i => duty i && dead
    let ovm := s.anyLane n fun i => duty i && !dead && !qEq (unitClamp (raw i)) (raw i)
    (((s.flagIf t n fDom dom).flagIf t n fOvm ovm).writeArith t n fun i =>
      if duty i then (if dead then ⟨1, 2⟩ else unitClamp (raw i)) else d[i]).advance t n
  else s

def execSvm (t : Nat) (n : Fin 4) (s : State) : Res := .next (svm t n s)

/-- `bf32()` of R218: bf32_round with the instruction's RTZ bit, and the flags it sets (R202). -/
def bf (v : Q) (rtz : Bool := false) : Word × WFlags :=
  let (w, ov, uf) := bfRoundFull rtz v
  (w, { exov := ov, exuf := uf })

/-- A BF32 word as the module writes it: zero is written as 0x0000_0000 (R201). -/
def bfCanon (w : Word) : Word := if qIsZero (bfVal w) then 0 else w

/-- One lane of PI: new state, flags of its rounding, PRED bit, result. -/
def piLane (kp ki lo hi e : Q) (integ : Word) (rtz : Bool) : (Word × WFlags) × Bool × Q :=
  let x := bf (qAdd (bfVal integ) (qMul ki e)) rtz
  let y := qAdd (qMul kp e) (bfVal x.1)
  let up := qMul ki e
  let hold := (qLt hi y && decide (0 < up.num)) || (qLt y lo && decide (up.num < 0))
  let x := if hold then (bfCanon integ, x.2) else x
  let y := if hold then qAdd (qMul kp e) (bfVal integ) else y
  (x, qLt hi y || qLt y lo, qMax lo (qMin y hi))

/-- Write the state words of enabled lanes, with the flags of their rounding. -/
def State.stateLanes (s : State) (t : Nat) (n : Fin 4) (base : Nat) (en : Fin 8 → Bool)
    (f : Fin 8 → Word × WFlags) : State :=
  [0, 1, 2, 3, 4, 5, 6, 7].foldl (fun (s : State) (i : Fin 8) =>
    if en i ∧ base + i.val < 4096 then
      (s.writeFlags t n (f i).2).writeState n (base + i.val) (f i).1
    else s) s

def pi (t : Nat) (n : Fin 4) (s : State) : State :=
  let s := s.upto t
  if s.reached n opPi then
    let w := s.progWord n
    let c := wIndex w
    let b := wState w
    let a := s.lanesA n
    let en := s.enable n
    let l (i : Fin 8) := piLane (s.coef n c i) (s.coef n c (8 + i)) (s.coef n c (16 + i))
      (s.coef n c (24 + i)) a[i] (s.readState n (b + i)) (wRtz w)
    (s.stateLanes t n b en fun i => (l i).1).predOp t n (fun i => (l i).2.2) fun i => (l i).2.1
  else s

def execPi (t : Nat) (n : Fin 4) (s : State) : Res := .next (pi t n s)

def lpf (t : Nat) (n : Fin 4) (s : State) : State :=
  let s := s.upto t
  if s.reached n opLpf then
    let w := s.progWord n
    let c := wIndex w
    let b := wState w
    let a := s.lanesA n
    let en := s.enable n
    let l (i : Fin 8) :=
      let y := bfVal (s.readState n (b + i))
      bf (qAdd y (qMul (s.coef n c i) (qSub a[i] y))) (wRtz w)
    ((s.stateLanes t n b en l).writeArith t n fun i => bfVal (l i).1).advance t n
  else s

def execLpf (t : Nat) (n : Fin 4) (s : State) : Res := .next (lpf t n s)

def ramp (t : Nat) (n : Fin 4) (s : State) : State :=
  let s := s.upto t
  if s.reached n opRamp then
    let w := s.progWord n
    let c := wIndex w
    let b := wState w
    let a := s.lanesA n
    let en := s.enable n
    let up (i : Fin 8) := s.coef n c i
    let down (i : Fin 8) := s.coef n c (8 + i)
    let y (i : Fin 8) := bfVal (s.readState n (b + i))
    let dom := s.anyLane n fun i => decide ((up i).num < 0 ∨ (down i).num < 0)
    let want (i : Fin 8) := qSub a[i] (y i)
    let dlt (i : Fin 8) := qMax (qNeg (qMax (down i) qZero)) (qMin (want i) (qMax (up i) qZero))
    let l (i : Fin 8) := bf (qAdd (y i) (dlt i)) (wRtz w)
    let s := s.flagIf t n fDom dom
    (s.stateLanes t n b en l).predOp t n (fun i => bfVal (l i).1) fun i => !qEq (dlt i) (want i)
  else s

def execRamp (t : Nat) (n : Fin 4) (s : State) : Res := .next (ramp t n s)

/-! ### SETTLE and COMMIT (R219, R233) -/

/-- Differences measured - forecast of a SETTLE word (R219). -/
def State.settleDiff (s : State) (n : Fin 4) (i : Fin 8) : Q :=
  let b := (wA (s.progWord n)).val
  qSub (bfVal (stoGet (s.engine n).view (32 + b + i) 0)) (bfVal (s.readPort n (96 + b + i)))

/-- Every enabled lane lies within PILOT_TOL. -/
def State.settleHit (s : State) (n : Fin 4) : Bool :=
  let c := wIndex (s.progWord n)
  !s.anyLane n fun i => qLt (s.coef n c i) (qAbs (s.settleDiff n i))

/-- A SETTLE word of a released run compares (R233): a miss squashes, a hit goes on, and the last
SETTLE of the run decides the hit. -/
def State.settleWord (s : State) (t : Nat) (n : Fin 4) : State :=
  if s.settleHit n then
    let s := (s.writeArith t n (s.settleDiff n)).advance t n
    let s := s.updEng n fun e => { e with settles := e.settles + 1 }
    let more := decide ((s.engine n).pc < 8192) && wOp (s.progWord n) == opSettle
    s.set (Reg.LE_STATUS_PHASE n) (if more then 2 else 3)
  else (((s.set (Reg.LE_STATUS_PC n) (s.engine n).pc).incHold (Reg.LE_MISS_COUNT n)).squash t n).startFull t n

/-- SETTLE: a pilot pass stops at its first one until the results arrive; a released run compares;
any other pass writes the zero register (R219, R233). -/
def settle (t : Nat) (n : Fin 4) (s : State) : State :=
  let s := s.upto t
  if s.phase n = 2 then
    if (s.engine n).settles ≠ 0 then s.settleWord t n else s
  else if s.reached n opSettle then
    if s.phase n = 1 then
      let pc := (s.engine n).pc
      let s := s.sets [(Reg.LE_STATUS_PHASE n, 2), (Reg.LE_STATUS_PC n, pc),
        (Reg.LE_PASS_PILOT n, min 65535 (t - (s.engine n).started))]
      s.updEng n fun e => { e with settledAt := t }
    else (s.setVreg n (wDst (s.progWord n)) zeroReg).advance t n
  else s

def execSettle (t : Nat) (n : Fin 4) (s : State) : Res := .next (settle t n s)

/-- SETTLE_RELEASE: the results of the sample have arrived for a waiting run (R231, R233); P / Bp of
the sample is known (R54). -/
def settleRelease (t : Nat) (n : Fin 4) (s : State) : State :=
  let s := s.upto t
  let e := s.engine n
  if s.phase n = 2 ∧ e.settles = 0 ∧ e.arrived.isSome then
    let p : Q := ⟨(e.settledAt - e.lastCommit : Nat), e.arrivedAt - e.lastCommit⟩
    let s := s.leCount n 6 (t - e.settledAt)
    let s := s.updEng n fun e =>
      { e with view := e.newest, serving := e.arrived, arrived := none, pRatio := some p }
    s.settleWord t n
  else s

def execSettleRelease (t : Nat) (n : Fin 4) (s : State) : Res := .next (settleRelease t n s)

def commit (t : Nat) (n : Fin 4) (s : State) : State :=
  let s := s.upto t
  if s.reached n opCommit then
    let pc := (s.engine n).pc
    ((s.leSample t n (s.progWord n) pc).leCount n 1 1).set (Reg.LE_STATUS_PC n) pc |>.commitPass t n
  else s

def execCommit (t : Nat) (n : Fin 4) (s : State) : Res := .next (commit t n s)

end Sys2Proof.Machine
end

