-- ==== Sys2Proof/Machine/Programs.lean ====
section
/-! DEFINITION. Program validation (R260), the relay auto-tune (R257-R259), and the end of the held
reaction of OBS_LOST (R254). -/

namespace Sys2Proof.Machine

/-! ### Validation (R260) -/

/-- What the walk along a path has seen of SETTLE: none yet, `k` in the present run, a run that has
ended. -/
inductive SettleRun where
  | none
  | run (k : Nat)
  | over
  deriving DecidableEq, Repr

/-- Walk from word `pc` to the first COMMIT or HALT; the first failing word. `fuel` words of the store
remain. -/
def walkPath (prog : List (Nat × Word64)) (pilot : Bool) : Nat → Nat → SettleRun → Option Nat
  | 0, _, _ => some 8191
  | fuel + 1, pc, seen =>
    let w := stoGet prog pc 0
    if !(wFieldsOk w && wIndexOk w) then some pc
    else if wOp w = opHalt then some pc
    else if wOp w = opCommit then
      if pilot && seen == .none then some pc else none
    else if pilot ∧ wOp w = opSettle then
      match seen with
      | .none => walkPath prog pilot fuel (pc + 1) (.run 1)
      | .run k => if k < 4 then walkPath prog pilot fuel (pc + 1) (.run (k + 1)) else some pc
      | .over => some pc
    else
      walkPath prog pilot fuel (pc + 1) (match seen with
        | .none => .none
        | _ => .over)

/-- The path from an entry point. -/
def checkPath (prog : List (Nat × Word64)) (pilot : Bool) (entry : Nat) : Option Nat :=
  walkPath prog pilot (8192 - entry) entry .none

/-- Validation of the program store: the lowest failing word, none where the program is sound. -/
def State.validate (s : State) (n : Fin 4) : Option Nat :=
  let prog := (s.engine n).prog
  let full := checkPath prog false (s.get (Reg.LE_ENTRY_FULL n))
  let pilot := if s.bit (Reg.LE_CTL_PILOTEN n) then checkPath prog true (s.get (Reg.LE_ENTRY_PILOT n)) else none
  match full, pilot with
  | some a, some b => some (min a b)
  | some a, none => some a
  | none, b => b

/-- The axis loses its loaded program (R260). -/
def State.unloadProgram (s : State) (n : Fin 4) : State := s.updAxis n fun a => { a with prog := false }

/-- Validate and load (R120, R260). -/
def State.loadProgram (s : State) (n : Fin 4) : State × Option Nat :=
  let bad := s.validate n
  (s.updAxis n fun a => { a with prog := bad.isNone }, bad)

/-! ### Tune (R257-R259) -/

/-- A number the program left in an entry of the last committed set. -/
def State.handedNat (s : State) (n : Fin 4) (i : Nat) : Nat := (qFloor (bfVal (s.handed n i))).toNat

/-- TUNE_START moves the axis to TUNE and writes entries 201-204 (R257). -/
def State.tuneBegin (s : State) (t : Nat) (n : Fin 4) (loop rule maxMs : Nat) (d hyst : Word) : State :=
  let s := s.setPort n 201 (BitVec.ofNat 32 (loop + 256 * rule))
  let s := ((s.setPort n 202 d).setPort n 203 hyst).setPort n 204 (bfInt maxMs)
  let s := s.updAxis n fun a =>
    { a with
      tune := { loop := loop, rule := rule, maxMs := maxMs, d := d, hyst := hyst, startAt := t } }
  (s.enterClosed n .tune).settle t

/-- The end of a tune: the program reports the end of its tune in entries 176 and 177, or the maximum duration is
over; the axis returns to READY (R101, R259). A result 3 is the module's own; a result 1 or 2 stands in entry 177
(log entry 50). -/
def State.endTune (s : State) (t : Nat) (n : Fin 4) : State :=
  ((s.moveAxis n .ready).updAxis n fun a =>
    { a with tune := { a.tune with ended := if s.handedNat n 176 = 2 then none else some 3 } }).settle t

/-- The tune of an axis is over: by its program, or after its maximum duration. -/
def State.tuneOver (s : State) (t : Nat) (n : Fin 4) : Bool :=
  s.handedNat n 176 == 2 || decide ((s.axis n).tune.startAt + (s.axis n).tune.maxMs * Config.ms ≤ t)

/-! ### Held reaction (R254) -/

/-- OBS_LOST_HOLD_EXPIRY: 200 ms after OBS_LOST was raised, the held reaction is carried out (R254). -/
def obsHoldExpiry (t : Nat) (n : Fin 4) (s : State) : State :=
  let s := s.upto t
  if (s.fbk[n]).obsHold.any fun r => decide (r + 200 * Config.ms ≤ t) then s.obsReact n else s

def execObsLostHoldExpiry (t : Nat) (n : Fin 4) (s : State) : Res := .next (obsHoldExpiry t n s)

end Sys2Proof.Machine
end

