-- ==== Sys2Proof/Machine/Convert.lean ====
section
/-! DEFINITION. Conversion (R139-R169): the clusters and their result words, calibration to BF32, the
fallow rotation, retired slices, VHV, and the housekeeping round. -/

namespace Sys2Proof.Machine

def State.cluster (s : State) (c : Fin 4) : Cluster := s.adc[c]
def State.updCluster (s : State) (c : Fin 4) (f : Cluster → Cluster) : State :=
  { s with adc := s.adc.set c (f (s.cluster c)) }

/-- Source number of a cluster (R62). -/
def adcSource (c : Fin 4) : Nat := 42 + c.val

/-- Inputs of a cluster. -/
def inputs : List (Fin 8) := [0, 1, 2, 3, 4, 5, 6, 7]

/-! ### From code to BF32 (R148, R149) -/

/-- geff of R149. -/
def geff (gf : Nat) (gd gu : Int) : Int :=
  qRound ⟨gf * (2 ^ 20 + gd) * (2 ^ 20 + gu), 2 ^ 40⟩

/-- The exact value of a corrected conversion: `x * g * 2^-k` codes times the scale (R148). -/
def corrected (x g : Int) (k : Nat) (scale : Word) : Q := qMul ⟨x * g, 2 ^ k⟩ (bfVal scale)

/-- BF32 value of a code of slice `sl` on input `k` of cluster `c` (R148). -/
def State.adcValue (s : State) (c : Fin 4) (k : Fin 8) (sl : Nat) (code : Int) : Word :=
  let od := s.getI (Reg.ADC_DRIFT_OD c sl)
  let gd := s.getI (Reg.ADC_DRIFT_GD c sl)
  let x := 32 * code - (Config.sliceOffset c sl + od + s.getI (Reg.ADC_OTRIM_OU c k))
  bfRound (corrected x (geff (Config.sliceGain c sl) gd (s.getI (Reg.ADC_GTRIM_GU c k))) 25
    (s.reg (Reg.ADC_SCALE c k)))

/-! ### Slices, hand-over and retirement (R151-R154, R167) -/

/-- Slice that serves an input. -/
def State.sliceOf (s : State) (c : Fin 4) (k : Nat) : Nat := s.get (Reg.ADC_MAP_SL c k)
def State.setSlice (s : State) (c : Fin 4) (k sl : Nat) : State := s.set (Reg.ADC_MAP_SL c k) sl

/-- Input that a slice serves. -/
def State.inputOf (s : State) (c : Fin 4) (sl : Nat) : Option Nat :=
  (List.range 8).find? fun k => s.sliceOf c k == sl

def State.rotStopped (s : State) (c : Fin 4) : Bool := s.bit (Reg.ADC_STATUS_ROTSTOP c)

/-- The outgoing slice leaves the input: it is fallow and its measurement starts (R153 step 4). -/
def State.startMeasure (s : State) (c : Fin 4) (sl : Nat) : State :=
  (s.set (Reg.ADC_STATUS_FALLOW c) sl).updCluster c fun k => { k with meas := some sl }

/-- The outgoing slice is disconnected: the incoming one holds the input, and the measurement starts unless the
rotation has stopped (R153, R167). -/
def State.leaveInput (s : State) (c : Fin 4) (h : HandOver) : State :=
  let s := s.setSlice c h.input h.inc
  if s.rotStopped c then s else s.startMeasure c h.out

/-- Without a sample by C + 4000 ticks the outgoing slice is disconnected, and the input's next sample is
taken by the incoming one (R153). -/
def State.advanceCluster (s : State) (t : Nat) (c : Fin 4) : State :=
  match (s.cluster c).hand with
  | none => s
  | some h =>
    if h.adv ∨ 32 * t < h.c + 128000 then s
    else (s.updCluster c fun k => { k with hand := some { h with adv := true } }).leaveInput c h

/-- SLICE_RETIRE (R167). A step is in progress from C to its hand-over sample. -/
def State.retireSlice (s : State) (t : Nat) (c : Fin 4) (sl : Nat) : State :=
  let bits := s.get (Reg.ADC_STATUS_RETIRED c)
  if bits.testBit sl then s
  else if s.rotStopped c then s.raiseNew .adcClusterFail (adcSource c) sl t
  else
    let s := s.advanceCluster t c
    let k := s.cluster c
    let spare := s.get (Reg.ADC_STATUS_FALLOW c)
    let s := s.sets [(Reg.ADC_STATUS_RETIRED c, bits ||| 2 ^ sl), (Reg.ADC_STATUS_ROTSTOP c, 1),
      (Reg.ADC_STATUS_FALLOW c, 15)]
    let s := s.updCluster c fun k => { k with meas := none }
    let s := match k.hand with
      | some h =>
        if sl = h.inc then (s.updCluster c fun x => { x with hand := none }).setSlice c h.input h.out
        else if sl = h.out then
          s.updCluster c fun x => { x with hand := none, repl := (h.input, h.inc) :: x.repl }
        else s.updCluster c fun x => { x with chain := (s.inputOf c sl).map fun i => (i, h.out) }
      | none =>
        if sl = spare then s
        else match s.inputOf c sl with
          | some i => s.updCluster c fun x => { x with repl := (i, spare) :: x.repl }
          | none => s
    s.raise .adcSliceRetired (adcSource c) sl t

/-- Input `k` at the sample instant `x`: the slice that takes it and FALLOW. The hand-over of a step in progress comes
before one still owed (R153, R167). -/
def State.takeInput (x : Nat) (c : Fin 4) (p : State × BitVec 8) (k : Fin 8) : State × BitVec 8 :=
  let s := p.1
  let mark := p.2 ||| BitVec.ofNat 8 (2 ^ k.val)
  let drop (s : State) : State := s.updCluster c fun x => { x with repl := x.repl.filter fun r => r.1 != k.val }
  match (s.cluster c).hand.filter fun h => h.input == k.val && decide (h.c + 256 ≤ x) with
  | some h =>
    let s := (drop s).updCluster c fun x => { x with hand := none }
    (if h.adv then s else s.leaveInput c h, mark)
  | none =>
    match (s.cluster c).repl.find? fun r => r.1 == k.val with
    | some r => ((drop s).setSlice c k r.2, mark)
    | none => p

/-- TEST of an input at a sample instant (R157). -/
def State.testBitOf (s : State) (t : Nat) (c : Fin 4) (k : Fin 8) : Bool :=
  (s.bit (Reg.ADC_TEST_CONNECT c) && s.get (Reg.ADC_TEST_IN c) == k.val) ||
    (s.cluster c).testOff[k].any fun o => decide (t < o + 200)

/-- What an accepted write of `ADC_TESTn` does to the DAC's connection, given CONNECT and IN before it
(R157). -/
def State.testWritten (s : State) (t : Nat) (c : Fin 4) (was : Bool) (wasIn : Nat) : State :=
  let on := s.bit (Reg.ADC_TEST_CONNECT c)
  let moved := !on || s.get (Reg.ADC_TEST_IN c) != wasIn
  let s := if was && moved then
      s.updCluster c fun x => { x with testOff := x.testOff.set (Fin.ofNat 8 wasIn) (some t) }
    else s
  if on && (!was || moved) then s.updCluster c fun x => { x with testOn := t } else s

/-- What the test DAC of a cluster drives, in V: `CODE` at 5 V for 2048 codes, the factory calibration making that
ideal, with the user trims on its output (R157). -/
def State.dacOut (s : State) (c : Fin 4) : Q :=
  let v : Q := ⟨5 * s.getI (Reg.ADC_TEST_CODE c), 2048⟩
  qAdd (qMul v (qAdd qOne ⟨s.getI (Reg.ADC_DACGT_GU c), 2 ^ 20⟩)) ⟨5 * s.getI (Reg.ADC_DACOT_OU c), 2 ^ 20⟩

/-- The input that the test DAC has driven for its settling time of 200 ticks, and the DAC's output (R157). -/
def State.dacInput (s : State) (t : Nat) (c : Fin 4) : Option (Nat × Q) :=
  if s.bit (Reg.ADC_TEST_CONNECT c) && decide ((s.cluster c).testOn + 200 ≤ t) then
    some (s.get (Reg.ADC_TEST_IN c), s.dacOut c)
  else none

/-! ### Sampling (R141-R145) -/

/-- Delay line of a cluster (R49). -/
def clusterLine (c : Fin 4) : Fin 28 := ⟨24 + c.val, by omega⟩

/-- The event of instant `x` at a cluster, in fine steps: at the nearest tick while its line is coarse (R142). -/
def State.sampleInst (s : State) (c : Fin 4) (x : Nat) : Nat :=
  if s.coarse (clusterLine c) then 32 * ((x + 16) / 32) else x

/-- The inputs of a cluster take their samples; the event enters the cluster's queue (R141-R143, R153). A slice that
waits for the hand-over sample of a step replaces a retired one from the next sample on (R167). -/
def State.takeSample (x : Nat) (rec_ : List Word) (s : State) (c : Fin 4) : State :=
  let inst := s.sampleInst c x
  let t := inst / 32
  let p := inputs.foldl (State.takeInput inst c) (s, (0 : BitVec 8))
  let s := match (p.1.cluster c).chain, (p.1.cluster c).hand with
    | some r, none => p.1.updCluster c fun k => { k with chain := none, repl := r :: k.repl }
    | _, _ => p.1
  let test := inputs.foldl (fun (b : BitVec 8) (k : Fin 8) =>
    if s.testBitOf t c k then b ||| BitVec.ofNat 8 (2 ^ k.val) else b) 0
  let seq := ((s.cluster c).seq + 1) % 256
  let place := s.placed (clusterLine c) x
  (s.noteLine (clusterLine c) place.1).updCluster c fun k =>
    { k with
      last := some inst, seq := seq
      pend := k.pend ++ [{ stamp := x / 32, placed := place, dac := s.dacInput t c, seq := seq
                           map := s.reg (Reg.ADC_MAP c), test := test, fallow := p.2, record := rec_ }] }

/-- A SAMPLE event of instant `x` at a cluster: converted, or ADC_OVERRUN (R143, R144). While the cluster's line is
coarse the 80 ticks count between the instants at which it samples, the nearest ticks (DESIGN CHOICE, log entry
58). -/
def State.sampleCluster (x : Nat) (rec_ : List Word) (s : State) (c : Fin 4) : State :=
  let t := x / 32
  let s := s.advanceCluster t c
  if (s.cluster c).last.any fun l => decide (s.sampleInst c x < l + 2560) then
    let s := (s.incHold (Reg.ADC_OVRUN_COUNT c)).set (Reg.ADC_STATUS_OVERRUN c) 1
    let s := s.logClose (adcSource c) t fun k => (k.kind == 1 || k.kind == 2) && k.b1 == c.val
    s.raiseOnce .adcOverrun (adcSource c) 0 t
  else s.takeSample x rec_ c

/-- Breakwater's speed of an axis, taken from its feedback record (R314). -/
def State.takeSpeed (s : State) (n : Fin 4) (w : Word) : State :=
  let v := s.bit (Reg.FBK_STATUS_VALID n)
  s.updAxis n fun a => { a with spd := if v then some (bfRound (qAbs (bfVal w))) else none }

/-- Two instants in their order. -/
def ordered : List Nat → List Nat
  | [a, b] => if b < a then [b, a] else if a = b then [a] else [a, b]
  | l => l

/-- Instants of the SAMPLE events of axis `n` in tick `t`, in fine steps: each enabled offset after the zero point,
equal offsets giving one event (R141, R272). -/
def State.sampleInsts (s : State) (n : Fin 4) (t : Nat) : List Nat :=
  ordered (((s.sampleOffs n).map fun o => (s.carrier n).zero + o).filter fun x => x / 32 == t)

/-- A SAMPLE event of axis `n` at the instant `x`: its clusters take their samples and its feedback port latches a
record (R141, R173, R272); Breakwater updates its speed (R314). -/
def State.sampleAt (n : Fin 4) (r : ResIn) (s : State) (x : Nat) : State :=
  let t := x / 32
  let (s, rec_) := s.latchRecord t n r
  let before := (s.clustersOf n).map fun c => (s.cluster c).last
  let s := (s.clustersOf n).foldl (State.sampleCluster x (rec_ ++ [s.reg Reg.ADC_VHVVAL])) s
  let converted := decide ((s.clustersOf n).map (fun c => (s.cluster c).last) ≠ before)
  let s := if converted && (s.axis n).st.closed then
      s.updEng n fun e => { e with samples := e.samples ++ [(t, none)] }
    else s
  (s.takeSpeed n (s.reg (Reg.FBK_SPEED n))).settle t

/-- SAMPLE_EVENT of axis `n` in tick `t`; SAMPLE events stop on the backup oscillator (R21). Events of one tick come
in the order of their instants, a zero point before a SAMPLE event at its own (log entry 52). -/
def sampleEvent (t : Nat) (n : Fin 4) (r : ResIn) (s : State) : State :=
  let s := s.upto t
  if s.running n && !s.idle n && !s.backup then (s.sampleInsts n t).foldl (State.sampleAt n r) s else s

def execSampleEvent (t : Nat) (n : Fin 4) (r : ResIn) (s : State) : Res := .next (sampleEvent t n r s)

/-- BREAKWATER_SPEED_UPDATE: while the carrier is stopped the speed is formed afresh, from what the resolver
delivers in mode 3 (R314); not on the backup oscillator (R21). -/
def bwSpeed (t : Nat) (n : Fin 4) (r : ResIn) (s : State) : State :=
  let s := s.upto t
  if s.running n || s.backup then s
  else
    let s := s.resolverSample n r
    let (fw, s) := s.freeWord
    let (w, ok) := s.speedAt t n fw
    let s := (s.setB (Reg.FBK_STATUS_SPD_VALID n) ok).portBits n
    (s.takeSpeed n w).settle t

def execBreakwaterSpeedUpdate (t : Nat) (a : AxisRes) (s : State) : Res := .next (bwSpeed t a.n a.r s)

/-! ### Results (R145-R148) -/

/-- The result word of R146. -/
def resultWord (code : Int) (ovr clip test fallow : Bool) (slice seq : Nat) : Word :=
  BitVec.ofNat 32 (ofSigned 16 code + (if ovr then 2 ^ 16 else 0) + (if clip then 2 ^ 17 else 0) +
    (if test then 2 ^ 18 else 0) + (if fallow then 2 ^ 19 else 0) + slice % 16 * 2 ^ 20 +
    seq % 256 * 2 ^ 24)

/-- A code held within 16 bits (R139). -/
def holdCode (c : Int) : Int := max (-32768) (min 32767 c)

/-- The ideal code of an input voltage (R139). -/
def codeOf (v : Q) : Int := qRoundUp (qMul v ⟨6400, 1⟩)

/-- Raw code of an input: as the slice gives it, or for an input that the settled test DAC drives, the ideal code of
the DAC's output with the slice's deviation from it (R157). -/
def Sample.code (p : Sample) (k : Nat) (x : Int) : Int :=
  holdCode (match p.dac with
    | some d => if d.1 = k then codeOf d.2 + x else x
    | none => x)

/-- One input of a converted event (R145-R148, R167). -/
def State.resultOf (t : Nat) (c : Fin 4) (p : Sample) (codes : List Int) (ovr : Nat) (s : State)
    (k : Fin 8) : State :=
  let code := p.code k ((codes[k.val]?).getD 0)
  let o := ovr.testBit k.val
  let clip := decide (code = 32767 ∨ code = -32768)
  let fal := p.fallow.getLsbD k.val
  let sl := wordGet p.map (4 * k.val) 4
  let w := resultWord code o clip (p.test.getLsbD k.val) fal sl p.seq
  let s := (s.setReg (Reg.ADC_RES c k) w).setReg (Reg.ADC_VAL c k) (s.adcValue c k sl code)
  let orBit (f : Fld) (b : Bool) (s : State) : State :=
    if b then s.set f (s.get f ||| 2 ^ k.val) else s
  let s := orBit (Reg.ADC_FLAGS_OVR c) o (orBit (Reg.ADC_FLAGS_CLIP c) clip
    (orBit (Reg.ADC_FLAGS_HANDOVER c) fal s))
  if clip && !o then
    let n := (s.cluster c).stuck[k] + 1
    let s := s.set (Reg.ADC_STATUS_STUCK c) 1
    let s := s.updCluster c fun x => { x with stuck := x.stuck.set k (if n = 3 then 0 else n) }
    if n = 3 then s.retireSlice t c sl else s
  else s.updCluster c fun x => { x with stuck := x.stuck.set k 0 }

/-- Result words, and packed codes, of the inputs a Logbook channel selects (R418). -/
def adcItem (kind mask : Nat) (ws : List Word) : List Byte :=
  let sel := (ws.zipIdx.filter fun p => mask.testBit p.2).map Prod.fst
  if kind = 1 then sel.flatMap fun w => leBytes 4 w.toNat
  else
    let b := sel.flatMap fun w => leBytes 2 (w.toNat % 65536)
    b ++ List.replicate ((4 - b.length % 4) % 4) 0

/-- The Logbook takes the result words of an event (R145, R418). -/
def State.logResults (s : State) (c : Fin 4) (st : Nat) : State :=
  let ws := inputs.map fun (k : Fin 8) => s.reg (Reg.ADC_RES c k)
  s.logEvent s.epoch (adcSource c) st fun k =>
    if (k.kind = 1 ∨ k.kind = 2) ∧ k.b1 = c.val then some (adcItem k.kind k.b2 ws) else none

/-- Entries 0-71 of an axis for the event of a sample (R224). -/
def State.eventEntries (s : State) (n : Fin 4) (p : Sample) : List (Nat × Word) :=
  ((s.clustersOf n).zipIdx.flatMap fun (x : Fin 4 × Nat) =>
    inputs.flatMap fun (k : Fin 8) =>
      [(8 * x.2 + k.val, s.reg (Reg.ADC_RES x.1 k)), (32 + 8 * x.2 + k.val, s.reg (Reg.ADC_VAL x.1 k))]) ++
  p.record.zipIdx.map (fun (x : Word × Nat) => (64 + x.2, x.1)) ++
  [(70, BitVec.ofNat 32 p.stamp), (71, BitVec.ofNat 32 (p.stamp / 2 ^ 32))]

/-- Write entries into a list of words that differ from 0. -/
def putAll (m l : List (Nat × Word)) : List (Nat × Word) := l.foldl (fun m p => stoPut m p.1 p.2 0) m

/-- CONVERSION_COMPLETE of cluster `c`: what the slices of IN0-IN7 give and the window comparators' OVR bits
(R145, R157). The entries of an axis become visible when the last of its clusters has converted the
event. -/
def conversionComplete (t : Nat) (c : Fin 4) (codes : List Int) (ovr : Nat) (s : State) : State :=
  let s := s.upto t
  match (s.cluster c).pend with
  | [] => s
  | p :: rest =>
    let s := s.updCluster c fun x => { x with pend := rest }
    let s := inputs.foldl (State.resultOf t c p codes ovr) s
    let s := s.set (Reg.ADC_STATUS_SEQ c) p.seq
    let s := if ovr % 256 ≠ 0 then s.raiseOnce .adcOvr (adcSource c) 0 t else s
    let s := s.logResults c p.stamp
    let n := s.axisOfCluster c
    if (s.clustersOf n).any fun d => (s.cluster d).pend.any fun q => q.stamp == p.stamp then s
    else
      let s := s.updEng n fun e => { e with newest := putAll e.newest (s.eventEntries n p) }
      s.resultsArrive t n p.stamp

def execConversionComplete (t : Nat) (c : Fin 4) (codes : List Int) (ovr : Nat) (s : State) : Res :=
  .next (conversionComplete t c codes ovr s)

/-! ### The fallow rotation (R151-R156) -/

/-- A fallow measurement is rejected (R156, R167). -/
def State.rejectMeasure (s : State) (t : Nat) (c : Fin 4) (sl : Fin 9) : State :=
  let n := (s.cluster c).rej[sl] + 1
  let s := (s.set (Reg.ADC_STATUS_REJ c) 1).updCluster c fun x => { x with rej := x.rej.set sl n }
  if n = 3 then s.retireSlice t c sl else s

/-- The step before ends with its hand-over sample still owed: the input's next sample is taken by its incoming
slice and carries FALLOW (R153). -/
def State.oweHand (s : State) (c : Fin 4) : State :=
  match (s.cluster c).hand with
  | some h =>
    if h.adv then s.updCluster c fun k => { k with hand := none, repl := (h.input, h.inc) :: k.repl } else s
  | none => s

/-- FALLOW_ROTATION_STEP at a due count, a multiple of 400 000 ticks (R152, R153): a measurement still running has
missed its window (R156). -/
def fallowStep (t : Nat) (c : Fin 4) (s : State) : State :=
  let s := s.upto t
  if t % Config.ms ≠ 0 then s
  else
  let s := s.advanceCluster t c
  let s := match (s.cluster c).meas with
    | some sl => (s.updCluster c fun x => { x with meas := none }).rejectMeasure t c (Fin.ofNat 9 sl)
    | none => s
  let s := if s.rotStopped c then s else s.oweHand c
  if s.rotStopped c || decide (s.modState < 2) || (s.cluster c).hand.isSome then s
  else
    let inc := s.get (Reg.ADC_STATUS_FALLOW c)
    let out := (inc + 1) % 9
    let at_ := ((s.cluster c).last.map fun l => max (32 * t) (l + 2304)).getD (32 * t)
    match s.inputOf c out with
    | some k => s.updCluster c fun x => { x with hand := some { input := k, out := out, inc := inc, c := at_ } }
    | none => s

def execFallowRotationStep (t : Nat) (c : Fin 4) (s : State) : Res := .next (fallowStep t c s)

/-- od and gd of R155 from the sums of 1024 codes at 0 V, +4 V and -4 V. -/
def driftOf (c sl : Nat) (sum0 sumP sumN : Int) : Int × Option Int :=
  let od := qRound ⟨32 * (sum0 - Config.sliceZero c sl), 1024⟩
  let sm := sumP - sumN
  (od, if 0 < sm then some (qRound ⟨2 ^ 20 * Config.sliceSpan c sl, sm.toNat⟩ - 2 ^ 20) else none)

/-- Drift within the limits of R156. -/
def driftOk (od : Int) (gd : Option Int) : Bool :=
  decide (od.natAbs ≤ 2621) && gd.any fun g => decide (g.natAbs ≤ 5243)

/-- Take an accepted measurement into the drift registers, or reject it (R155, R156). -/
def State.judgeMeasure (s : State) (t : Nat) (c : Fin 4) (sl : Fin 9) (sum0 sumP sumN : Int) : State :=
  let (od, gd) := driftOf c sl sum0 sumP sumN
  if driftOk od gd then
    let was := (s.getI (Reg.ADC_DRIFT_OD c sl), s.getI (Reg.ADC_DRIFT_GD c sl))
    let s := (s.setI (Reg.ADC_DRIFT_OD c sl) od).setI (Reg.ADC_DRIFT_GD c sl) (gd.getD 0)
    s.updCluster c fun x => { x with rej := x.rej.set sl 0, before := x.before.set sl was }
  else s.rejectMeasure t c sl

/-- FALLOW_MEASUREMENT_END of the fallow slice (R155, R156). -/
def fallowEnd (t : Nat) (c : Fin 4) (sum0 sumP sumN : Int) (s : State) : State :=
  let s := (s.upto t).advanceCluster t c
  match (s.cluster c).meas with
  | some sl =>
    (s.updCluster c fun x => { x with meas := none }).judgeMeasure t c (Fin.ofNat 9 sl) sum0 sumP sumN
  | none => s

def execFallowMeasurementEnd (t : Nat) (c : Fin 4) (sum0 sumP sumN : Int) (s : State) : Res :=
  .next (fallowEnd t c sum0 sumP sumN s)

/-! ### VHV (R159-R161) -/

/-- Corrected value of a VHV code, in V (R148, R160). -/
def State.vhvVolts (s : State) (code : Int) : Q :=
  let x := 32 * code - (Config.vhvOffset + s.getI Reg.ADC_VHVOT_OU)
  let g := geff Config.vhvGain 0 (s.getI Reg.ADC_VHVGT_GU)
  qMul ⟨x * g, 2 ^ 25⟩ ⟨s.get Reg.ADC_VHVCTL_FS, 2 ^ 15⟩

/-- A result of VHV reaches the registers and Breakwater (R159, R160, R316). `change`: the bitstream has changed
level since the result before; such results without a gap for 8000 ticks end the cause of VHV_FAIL (R161). A gap is
an interval of 8000 ticks or more between two results (DESIGN CHOICE, log entry 58). -/
def State.takeVhv (s : State) (t : Nat) (code : Int) (change : Bool) : State :=
  let code := holdCode code
  let sat := decide (code = 32767 ∨ code = -32768)
  let seq := s.get Reg.ADC_VHVRES_SEQ + 1
  let s := s.sets [(Reg.ADC_VHVRES_CODE, ofSigned 16 code), (Reg.ADC_VHVRES_SAT, if sat then 1 else 0),
    (Reg.ADC_VHVRES_SEQ, seq), (Reg.ADC_VHVSTAT_VALID, 1)]
  let v := s.vhvVolts code
  let s := s.setReg Reg.ADC_VHVVAL (bfRound v)
  let run := if s.bw.vhvLast.any fun l => decide (t < l + 8000) then s.bw.vhvRun.getD t else t
  let s := s.updBw fun b => { b with vhvLast := some t, vhvRun := if change then some run else none }
  let s := if change ∧ run + 8000 ≤ t then s.causeGone .vhvFail 3 0 else s
  s.bwResult t (t - 3000) v

/-- VHV_RESULT (R159-R161). A first valid result that SELFTEST did not see lets the gate rails of the X domain come on
(DEDUCED, log entry 58). -/
def vhvResult (t : Nat) (code : Int) (change : Bool) (s : State) : State :=
  let s := (s.upto t).takeVhv t code change
  if s.pwr.up then s.enableX t else s

def execVhvResult (t : Nat) (v : VhvIn) (s : State) : Res := .next (vhvResult t v.code v.change s)

/-- VHV_FAIL_TIMEOUT: no result, or a constant level of the bitstream, for 8000 ticks (R161). -/
def vhvFail (t : Nat) (s : State) : State :=
  let s := (s.upto t).updBw fun b => { b with vhvRun := none, vhvLast := none }
  (s.set Reg.ADC_VHVSTAT_VALID 0).raise .vhvFail 3 0 t

def execVhvFailTimeout (t : Nat) (s : State) : Res := .next (vhvFail t s)

/-! ### Housekeeping (R162-R165, R309) -/

/-- HK_ROUND_START: at a multiple of PERIOD ms, PERIOD as it stands then (R162). -/
def hkStart (t : Nat) (s : State) : State :=
  let s := s.upto t
  if t % (s.get Reg.HK_CTL_PERIOD * Config.ms) = 0 then s.set Reg.HK_STATUS_BUSY 1 else s

def execHkRoundStart (t : Nat) (s : State) : Res := .next (hkStart t s)

/-- The sum of 8 codes of 12 bits (R162). -/
def hkSum (sum : Int) : Int := max (-16384) (min 16376 sum)

/-- Corrected value of the sum of 8 codes of a channel (R163); an uncalibrated channel has gain 1 and offset 0
(R135). -/
def State.hkExact (s : State) (c : Nat) (sum : Int) : Q :=
  let raw := s.hkUncal.contains c
  let gf := if raw then 2 ^ 20 else Config.hkGain c
  let x := 64 * sum - ((if raw then 0 else Config.hkOffset c) + s.hkOd + s.getI (Reg.HK_OT_OU c))
  corrected x (geff gf s.hkGd (s.getI (Reg.HK_GT_GU c))) 29 (Config.hkScale c)

/-- BF32 value of the sum of 8 codes of a channel (R163). -/
def State.hkValue (s : State) (c : Nat) (sum : Int) : Word := bfRound (s.hkExact c sum)

/-- Kelvin of 0 °C and of 25 °C. -/
def kelvin0 : Q := ⟨27315, 100⟩
def kelvin25 : Q := ⟨29815, 100⟩

/-- NTC equation of R165; none where it has no value. -/
def ntcTemp (r rnom b : Q) : Option Q :=
  if r.num ≤ 0 ∨ rnom.num ≤ 0 ∨ qIsZero b then none
  else
    let d := qAdd (qInv kelvin25) (qDiv (lnQ (qDiv r rnom)) b)
    if qIsZero d then none else some (qSub (qInv d) kelvin0)

/-- Silicon PTC equation of R165 solved for T; none where it has no solution. Of the two roots it takes the one with
the positive square root, whose T is 25 °C at RNOM for a positive α (DEDUCED, log entry 58). -/
def ptcTemp (r rnom al be : Q) : Option Q :=
  if qIsZero rnom then none
  else
    let y := qSub (qDiv r rnom) qOne
    if qIsZero be then
      if qIsZero al then none else some (qAdd (qInt 25) (qDiv y al))
    else
      let disc := qAdd (qMul al al) (qMul (qInt 4) (qMul be y))
      if disc.num < 0 then none
      else some (qAdd (qInt 25) (qDiv (qSub (qSqrt 600 disc) al) (qMul (qInt 2) be)))

/-- Resistance of a PT1000 at `T` / 1024 °C by the IEC 60751 equation (log entry 8). -/
def ptOhms (x : Int) : Q :=
  let t : Q := ⟨x, 1024⟩
  let t2 := qMul t t
  let a : Q := ⟨39083, 10 ^ 7⟩
  let b : Q := ⟨-5775, 10 ^ 10⟩
  let c : Q := ⟨-4183, 10 ^ 15⟩
  let lin := qAdd qOne (qAdd (qMul a t) (qMul b t2))
  let cub := if x < 0 then qMul c (qMul (qSub t (qInt 100)) (qMul t2 t)) else qZero
  qMul (qInt 1000) (qAdd lin cub)

/-- Bisection for the inverse of `ptOhms` between -50 and +250 °C. A resistance outside that range gives its end
(DESIGN CHOICE, log entry 58). -/
def ptSearch (r : Q) : Nat → Int → Int → Int
  | 0, lo, _ => lo
  | k + 1, lo, hi =>
    let mid := (lo + hi) / 2
    if qLe (ptOhms mid) r then ptSearch r k mid hi else ptSearch r k lo mid

/-- A PT1000 reading: the inverse of the equation, with a free error within ±0.05 K (R165). -/
def ptTemp (r : Q) (free : Nat) : Q :=
  qAdd ⟨ptSearch r 20 (-51200) 256000, 1024⟩ ⟨(free % 99 : Nat) - 49, 1000⟩

/-- A temperature from a formula, or a free value where it has none. -/
def tempWord (q : Option Q) (free : Word) : Word := (q.map bfRound).getD free

/-- A valid or held reading of a temperature input reaches its HK channel and its governing value. -/
def State.putTemp (s : State) (c : Fin 44) (w : Word) : State :=
  ({ s with temps := s.temps.set c w }).setReg (Reg.HK_VAL c) w

/-- A temperature port at the end of a round: its resistance is the corrected value of its channel (R163,
R165). -/
def State.tpRound (t : Nat) (sums : List Int) (s : State) (p : Fin 8) : State :=
  let c : Fin 44 := Fin.ofNat 44 (36 + p.val)
  let q := s.hkExact c ((sums[c.val]?).getD 0)
  let ty := s.get (Reg.HK_TPCFG_TYPE p)
  if ty = 0 then
    (s.setReg (Reg.HK_VAL c) 0).sets [(Reg.HK_TPCFG_OPEN p, 0), (Reg.HK_TPCFG_SHORT p, 0)]
  else
    let s := s.setReg (Reg.HK_TPOHM p) (bfRound q)
    let open_ := qLt (qInt 50000) q
    let short := qLt q (qInt 10)
    let wasO := s.bit (Reg.HK_TPCFG_OPEN p)
    let wasS := s.bit (Reg.HK_TPCFG_SHORT p)
    let s := (s.setB (Reg.HK_TPCFG_OPEN p) open_).setB (Reg.HK_TPCFG_SHORT p) short
    if open_ then
      let s := s.setReg (Reg.HK_VAL c) s.temps[c]
      if wasO then s else s.raise .tpOpen 51 p t
    else if short then
      let s := s.setReg (Reg.HK_VAL c) s.temps[c]
      if wasS then s else s.raise .tpShort 51 p t
    else
      let (fn, s) := s.freeNat
      let (fw, s) := s.freeWord
      let rn := bfVal (s.reg (Reg.HK_TPRNOM p))
      let p1 := bfVal (s.reg (Reg.HK_TPP1 p))
      let v := match ty with
        | 1 => some (ptTemp q fn)
        | 2 => ptcTemp q rn p1 (bfVal (s.reg (Reg.HK_TPP2 p)))
        | _ => ntcTemp q rn p1
      s.putTemp c (tempWord v fw)

/-- The NTC of a gate channel at the end of a round (R309). -/
def State.ntcRound (t : Nat) (ohms : List Word) (s : State) (g : Fin 24) : State :=
  let c : Fin 44 := Fin.ofNat 44 (12 + g.val)
  let r := (ohms[g.val]?).getD 0
  let b := bfVal (s.reg (Reg.GATE_NTCB g))
  if qIsZero b then s.setReg (Reg.HK_VAL c) 0
  else
    let s := s.setReg (Reg.GATE_NTCOHM g) r
    let q := bfVal r
    let open_ := qLt (qInt 1000000) q
    let short := qLt q (qInt 20)
    let wasO := s.bit (Reg.GATE_STAT_NTCOPEN g)
    let wasS := s.bit (Reg.GATE_STAT_NTCSHORT g)
    let s := (s.setB (Reg.GATE_STAT_NTCOPEN g) open_).setB (Reg.GATE_STAT_NTCSHORT g) short
    if open_ then
      let s := s.setReg (Reg.HK_VAL c) s.temps[c]
      if wasO then s else s.raise .ntcOpen (16 + g.val) 0 t
    else if short then
      let s := s.setReg (Reg.HK_VAL c) s.temps[c]
      if wasS then s else s.raise .ntcShort (16 + g.val) 0 t
    else
      let (fw, s) := s.freeWord
      s.putTemp c (tempWord (ntcTemp q (bfVal (s.reg (Reg.GATE_NTCRNOM g))) b) fw)

/-- A channel of a round: its sum, and its value where it is no temperature input (R162, R163). -/
def State.hkChannel (sums : List Int) (round : Nat) (s : State) (c : Fin 64) : State :=
  let sum := (sums[c.val]?).getD 0
  let s := (s.setI (Reg.HK_RES_SUM c) sum).set (Reg.HK_RES_ROUND c) round
  if h : c.val < 12 then s.putTemp ⟨c.val, by omega⟩ (s.hkValue c sum)
  else if c.val < 44 then s
  else s.setReg (Reg.HK_VAL c) (s.hkValue c sum)

/-- The reference check of channels 62 and 63, and the drift for the next round: od is 64 times the sum of channel 62,
whose ideal is 0, and gd the ratio of the factory sum to that of channel 63 less channel 62, as in R155 (R163;
DEDUCED, log entry 9). -/
def State.hkReference (s : State) (t : Nat) (s62 s63 : Int) : State :=
  let bad := decide (128 < s62.natAbs ∨ Config.hkRefSum.natAbs < 200 * (s63 - Config.hkRefSum).natAbs)
  let s := s.setB Reg.HK_STATUS_REFFAIL bad
  if bad then s.raise .hkFail 46 0 t
  else
    let span := s63 - s62
    { s with
      hkOd := 64 * s62
      hkGd := if 0 < span then qRound ⟨2 ^ 20 * Config.hkRefSum, span.toNat⟩ - 2 ^ 20 else s.hkGd }

/-- The reference of a cluster against HK (R164). -/
def State.clusterReference (t : Nat) (s : State) (c : Fin 4) : State :=
  let v := bfVal (s.reg (Reg.HK_VAL (54 + c.val)))
  let r := bfVal (Config.clusterRef c)
  let bad := qLt (qAbs r) (qMul (qInt 1000) (qAbs (qSub v r)))
  let s := s.setB (Reg.ADC_STATUS_REFFAIL c) bad
  if bad then s.raiseNew .adcRefFail (adcSource c) 0 t else s.causeGone .adcRefFail (adcSource c) 0

/-- HK_ROUND_END: the values of the round, the reference checks and the thermal manager (R163-R165,
R309, R326-R328). `HK_RES.ROUND` is the count of rounds completed before this one, 0 in the first (DESIGN CHOICE, log
entry 58). -/
def hkEnd (t : Nat) (r : HkReadings) (s : State) : State :=
  let s := s.upto t
  let round := s.get Reg.HK_STATUS_ROUNDS
  let sums := r.sums.map hkSum
  let s := (List.ofFn (id : Fin 64 → Fin 64)).foldl (State.hkChannel sums round) s
  let s := (List.ofFn (id : Fin 24 → Fin 24)).foldl (State.ntcRound t r.ohms) s
  let s := (List.ofFn (id : Fin 8 → Fin 8)).foldl (State.tpRound t sums) s
  let s := s.sets [(Reg.HK_STATUS_BUSY, 0), (Reg.HK_STATUS_ROUNDS, round + 1)]
  let s := s.hkReference t ((sums[62]?).getD 0) ((sums[63]?).getD 0)
  let s := s.eachAxis (State.clusterReference t)
  s.thermalRound t

def execHkRoundEnd (t : Nat) (r : HkReadings) (s : State) : Res := .next (hkEnd t r s)

end Sys2Proof.Machine
end

