-- ==== Sys2Proof/Machine/Eth.lean ====
section
/-! DEFINITION. The Ethernet switch (R370-R383): reception, transmission through the gates, the consumers behind the
internal port, rings, gate lists and IEEE 802.1AS. -/

namespace Sys2Proof.Machine

/-! ### Ingress (R370, R374) -/

/-- ETH_FRAME_RECEIVED: the reception of a frame on port `p` is complete (R370, R374). A PAUSE frame, MAC
control with opcode 1, is discarded. -/
def ethReceived (t : Nat) (p : Fin 5) (f : EthFrame) (s : State) : State :=
  let s := s.upto t
  if !s.bit (Reg.ETH_PCFG_EN p) then s
  else
  let s := s.countRx p (ethLen f f.tag.isSome)
  if 1522 < ethLen f f.tag.isSome then s.incHold (Reg.ETH_ERR_OVERSIZE p)
  else if !f.fcsOk then s.incHold (Reg.ETH_ERR_FCS p)
  else
    let s := s.incHold (Reg.ETH_RXFRM_COUNT p)
    if f.etype = 0x8808 ∧ beAt f.payload 0 2 = 1 then s else s.switchIn t p { f with sfd := min f.sfd t }

def execEthFrameReceived (t : Nat) (p : Fin 5) (f : EthFrame) (s : State) : Res := .next (ethReceived t p f s)

/-! ### ARP and ICMP echo (R372) -/

/-- ARP holds an address for 300 s, 64 entries; the oldest gives way. -/
def State.arpLearn (s : State) (t ip mac : Nat) : State :=
  s.updEth fun e =>
    let l := e.arp.filter fun x => x.ip != ip
    let l := if 64 ≤ l.length then l.drop 1 else l
    { e with arp := l ++ [{ ip := ip, mac := mac, seen := t }] }

/-- An ARP packet for the module in a VLAN: its sender is learned, and a request is answered there (R372). -/
def State.arpIn (s : State) (t vid : Nat) (b : List Byte) : State :=
  let ip := (s.reg Reg.ETH_IPADDR).toNat
  if beAt b 24 4 = ip then
    let mac := beAt b 8 6
    let s := s.arpLearn t (beAt b 14 4) mac
    if beAt b 6 2 = 1 then
      s.ownFrame t (some vid) mac 0x0806 (arpBytes 2 s.ownMac ip mac (beAt b 14 4))
    else s
  else s

/-- An ICMP echo request is answered in its VLAN with its own header and data (R372). -/
def State.echoIn (s : State) (t vid src : Nat) (b : List Byte) (hl tot : Nat) : State :=
  let m := (b.take tot).drop hl
  if beAt m 0 1 = 8 then
    let body := ([0, 0, 0, 0] : List Byte) ++ m.drop 4
    let m := ([0, 0] : List Byte) ++ beBytes 2 (inetCheck body) ++ m.drop 4
    s.ownFrame t (some vid) src 0x0800 (b.take 12 ++ (b.drop 16).take 4 ++ (b.drop 12).take 4 ++ (b.drop 20).take (hl - 20) ++ m)
  else s

/-! ### Behind the internal port (R377, R378) -/

/-- Entries of ring `r`. -/
def State.ringSize (s : State) (r : Nat) : Nat := 16 * 2 ^ s.get (Reg.ETH_RINGBASE_SIZE r)

/-- Address of the descriptor at a ring's HEAD. -/
def State.ringDesc (s : State) (r : Nat) : Nat :=
  s.get (Reg.ETH_RINGBASE_BASE r) * 4096 + 32 * s.get (Reg.ETH_RINGPTR_HEAD r)

def State.advanceHead (s : State) (r : Nat) : State :=
  s.set (Reg.ETH_RINGPTR_HEAD r) ((s.get (Reg.ETH_RINGPTR_HEAD r) + 1) % s.ringSize r)

/-- The bytes of a frame without its FCS. -/
def frameBytes (x : QFrame) (untag : Bool) : List Byte :=
  beBytes 6 x.f.dst ++ beBytes 6 x.f.src ++
    (if untag then []
     else beBytes 2 0x8100 ++ beBytes 2 ((x.f.tag.map (·.2)).getD 0 * 8192 + x.vid)) ++
    beBytes 2 x.f.etype ++ x.f.payload

/-- A frame for the receive ring of core `r` (R378). -/
def State.ringPut (s : State) (r : Fin 4) (x : QFrame) : State :=
  if !s.bit (Reg.ETH_RINGBASE_EN r) ∨
      (s.get (Reg.ETH_RINGPTR_HEAD r) + 1) % s.ringSize r = s.get (Reg.ETH_RINGPTR_TAIL r) then
    s.incHold (Reg.ETH_DROP_BUF 4)
  else
    let a := s.ringDesc r
    let (d, s) := s.dmaBytes s.tide a 32
    let b := frameBytes x (s.untags x.vid 4)
    let size := leAt d 12 2
    let s := if s.writableMem (leAt d 0 8) (min size b.length) then s.setBytes (leAt d 0 8) (b.take size) else s
    let s := s.setBytes (a + 8) (leBytes 2 b.length)
    let s := s.setBytes (a + 10) (leBytes 2 (leAt d 10 2 / 2 * 2 + (if size < b.length then 1 else 0)))
    let s := s.setBytes (a + 16) (leBytes 8 x.arr)
    (s.advanceHead r).set Reg.ETH_IRQ_RX (s.get Reg.ETH_IRQ_RX ||| 2 ^ r.val)

/-- The first valid classification entry that matches (R377). -/
def State.classOf (s : State) (etype : Nat) (udp : Option Nat) : Option (Fin 4) :=
  ((List.range 16).find? fun k =>
    (s.get (Reg.ETH_CLASS_KIND k) == 1 && s.get (Reg.ETH_CLASS_VALUE k) == etype) ||
    (s.get (Reg.ETH_CLASS_KIND k) == 2 && udp == some (s.get (Reg.ETH_CLASS_VALUE k)))).map fun k =>
      Fin.ofNat 4 (s.get (Reg.ETH_CLASS_CORE k))

/-- A receive connection with an Ethernet path listens on a UDP port (R377). -/
def State.lkPort (s : State) (port : Nat) : Bool :=
  match s.lk.inForce with
  | none => false
  | some x => (connsOf x.data).any fun j =>
      receives x.data j && cnAt x.data j 8 4 == port &&
        (decide (cnAt x.data j 6 1 < 4) || (isDual x.data j && decide (cnAt x.data j 7 1 < 4)))

/-- A frame that no earlier rule of R377 takes. -/
def State.classify (s : State) (x : QFrame) (udp : Option Nat) : State :=
  match s.classOf x.f.etype udp with
  | some r => s.ringPut r x
  | none => s.incHold (Reg.ETH_DROP_VLAN 4)

/-- The lead passes a command packet to member `k`, or discards it (R450). -/
def State.relay (s : State) (k : Nat) (ip port : Nat) (b : List Byte) : State :=
  if (s.get Reg.MOOR_GSTAT_MASK).testBit k then s.sendTo (Fin.ofNat 8 k) 6 ([ip, port] ++ b.map BitVec.toNat) else s

/-- A port takes part in 802.1AS: enabled there, and its link up. -/
def State.asPort (s : State) (p : Nat) : Bool :=
  decide (p < 4) && (s.get Reg.ETH_ASCFG_PORTEN).testBit p && s.portUp (Fin.ofNat 5 p)

/-- A frame of 802.1AS: a peer-delay request is answered on its port, in every role, with the stamp of the request (R382). -/
def State.asIn (s : State) (x : QFrame) : State :=
  if s.asPort x.ing && beAt x.f.payload 0 1 % 16 == 2 then
    s.emit (.pdelayResp x.ing (s.asMac x.ing) (beAt x.f.payload 30 2) x.arr)
  else s

/-- A frame leaves the switch at the internal port, to exactly one consumer (R377), or
as a relayed command (R450). Fragments of IPv4 datagrams to the module are discarded (R372). -/
def State.deliver (s : State) (t : Nat) (x : QFrame) : State :=
  let b := x.f.payload
  if x.f.etype = 0x0806 then s.arpIn t x.vid b
  else if x.f.etype = 0x88F7 then s.asIn x
  else if x.f.etype = 0x0800 then
    let hl := beAt b 0 1 % 16 * 4
    let tot := beAt b 2 2
    let mine := beAt b 16 4 == (s.reg Reg.ETH_IPADDR).toNat
    let u := b.drop hl
    if mine && beAt b 6 2 % 0x4000 != 0 then s
    else if beAt b 9 1 = 1 then (if mine then s.echoIn t x.vid x.f.src b hl tot else s)
    else if beAt b 9 1 = 17 then
      let dport := beAt u 2 2
      let data := (u.drop 8).take (beAt u 4 2 - 8)
      if dport = s.get Reg.ETH_UDPPORT_PORT then
        (if mine then s.arrive (.udp (beAt b 12 4) (beAt u 0 2)) data none else s)
      else if s.bit Reg.MOOR_CTL_EN && s.mid == 0 && s.bit Reg.MOOR_CTL_RELAY && mine &&
          decide (s.get Reg.ETH_UDPPORT_PORT < dport ∧ dport ≤ s.get Reg.ETH_UDPPORT_PORT + 7) then
        s.relay (dport - s.get Reg.ETH_UDPPORT_PORT) (beAt b 12 4) (beAt u 0 2) data
      else if s.lkPort dport then
        (if h : x.ing < 4 then frameArrival x.arr ⟨x.ing, by omega⟩ data s else s)
      else s.classify x (some dport)
    else s.classify x none
  else s.classify x none

/-! ### Egress and gates (R380) -/

/-- The entries of the operational list of a port: gates and ticks. -/
def State.operList (s : State) (p : Fin 4) : List (Nat × Nat) :=
  let l := s.eth.oper[p]
  l.entries.take (l.len + 1)

/-- Ticks that queue `q` stays open from the start of the first of the entries on; all of them open: none. -/
def openRun (q : Nat) : List (Nat × Nat) → Option Nat
  | [] => none
  | (g, k) :: r => if g.testBit q then (openRun q r).map (k + ·) else some 0

/-- The list turned so that the entry at position `pos` of the cycle comes first, less what has gone by of
it; a full further turn follows. -/
def turned (l : List (Nat × Nat)) : Nat → List (Nat × Nat) → List (Nat × Nat)
  | _, [] => l
  | pos, (g, k) :: r => if pos < k then (g, k - pos) :: (r ++ l) else turned l (pos - k) r

/-- Ticks that queue `q` of a port stays open from `t` on (none: without end). A list whose cycle is 0, as
after reset, holds its first entry (log entry 21). -/
def State.openFor (s : State) (p : Fin 4) (t : Nat) (q : Fin 8) : Option Nat :=
  let l := s.operList p
  let cycle := (l.map (·.2)).sum
  if cycle = 0 then (if ((l.head?.map Prod.fst).getD 255).testBit q then none else some 0)
  else openRun q (turned l (((t : Int) - (s.eth.oper[p]).base) % cycle).toNat l)

/-- Duration of a frame with preamble and gap, in hundredths of a tick: 0.32 ticks a byte
on E0 and E1, 3.2 on E2 and E3 (R370, R380). -/
def wireTime (p : Fin 4) (len : Nat) : Nat := (20 + len) * (if p.val < 2 then 32 else 320)

/-- A frame fits an opening. -/
def fits (p : Fin 4) (len : Nat) (o : Option Nat) : Bool :=
  match o with
  | none => true
  | some k => decide (wireTime p len ≤ 100 * k)

/-- The frame is longer than every open interval of its queue (R380). -/
def State.neverFits (s : State) (p : Fin 4) (q : Fin 8) (len : Nat) : Bool :=
  let l := s.operList p
  decide ((l.map (·.2)).sum ≠ 0) &&
    (List.range l.length).all fun i => !fits p len (openRun q (l.drop i ++ l ++ l))

def extPort (p : Fin 5) : Option (Fin 4) := if h : p.val < 4 then some ⟨p.val, h⟩ else none

/-- The head of queue `q` of port `p` may start at `t` (R376, R380). -/
def State.mayStart (s : State) (t : Nat) (p : Fin 5) (q : Fin 8) : Bool :=
  match ((s.eth.q[p])[q]).head? with
  | none => false
  | some x =>
    match extPort p with
    | none => true
    | some e => !s.bit (Reg.ETH_PCFG_GEN p) || fits e x.len (s.openFor e t q)

def State.popQueue (s : State) (p : Fin 5) (q : Fin 8) : State :=
  s.updEth fun e => { e with q := e.q.set p (e.q[p].set q (e.q[p][q].drop 1)) }

/-- ETH_FRAME_TRANSMIT: the head of queue `q` of port `p` comes up (R376, R380): dropped where it fits no open
interval, sent where its gate is open long enough and no higher queue can send, held otherwise. -/
def ethTransmit (t : Nat) (p : Fin 5) (q : Fin 8) (s : State) : State :=
  let s := s.upto t
  match ((s.eth.q[p])[q]).head? with
  | none => s
  | some x =>
    let gated := s.bit (Reg.ETH_PCFG_GEN p)
    if (extPort p).any fun e => gated && s.neverFits e q x.len then
      (s.popQueue p q).incHold (Reg.ETH_GATEDROP_COUNT p)
    else if s.portUp p && s.mayStart s.tide p q &&
        slots8.all fun k => decide (k ≤ q) || !s.mayStart s.tide p k then
      let s := (((s.popQueue p q).incHold (Reg.ETH_TXFRM_COUNT p)).countTx p x.len).emit (.frame p q x.len)
      if p = 4 then s.deliver s.tide x else s
    else s

def execEthFrameTransmit (t : Nat) (p : Fin 5) (q : Fin 8) (s : State) : Res := .next (ethTransmit t p q s)

/-- GATE_LIST_INTERVAL_END: the next entry of the operational list governs from `t` on; the gates follow the
Tide count (R380). -/
def execGateListIntervalEnd (t : Nat) (_p : Fin 4) (s : State) : Res := .next (s.upto t)

/-! ### Gate lists (R381) -/

/-- The administrative list of a port. -/
def State.adminList (s : State) (p : Fin 4) : GateList :=
  { entries := (List.range 128).map fun e => (s.get (Reg.ETH_GCL_GATES p e), s.get (Reg.ETH_GCL_TICKS p e))
    len := s.get (Reg.ETH_GCTL_LEN p)
    base := (s.reg (Reg.ETH_GBASEH p)).toNat * 2 ^ 32 + (s.reg (Reg.ETH_GBASEL p)).toNat }

/-- Instant of an exchange: the base, or base + k x cycle at least 400 ticks ahead. -/
def swapInstant (t base cycle : Nat) : Nat :=
  if t ≤ base then base else base + (t + 400 - base + cycle - 1) / cycle * cycle

/-- SWAP is written 1 (R381). -/
def State.swapWritten (s : State) (t : Nat) (p : Fin 4) : State :=
  let l := s.adminList p
  let cycle := ((l.entries.take (l.len + 1)).map Prod.snd).sum
  if 127 < l.len ∨ cycle < 4 ∨ 400000000 < cycle then s.raise .ethGclErr 52 p t
  else
    (s.updEth fun e => { e with swapAt := e.swapAt.set p (some (swapInstant t l.base cycle)) }).set
      (Reg.ETH_PSTAT_SWAPPEND p) 1

/-- Put a list into the administrative registers. -/
def State.putAdmin (s : State) (p : Fin 4) (l : GateList) : State :=
  let s := l.entries.zipIdx.foldl (fun s x =>
    s.sets [(Reg.ETH_GCL_GATES p x.2, x.1.1), (Reg.ETH_GCL_TICKS p x.2, x.1.2)]) s
  s.sets [(Reg.ETH_GCTL_LEN p, l.len), (Reg.ETH_GBASEL_BASE p, l.base), (Reg.ETH_GBASEH_BASE p, l.base / 2 ^ 32)]

/-- GATE_LIST_SWAP: the instant of the exchange is reached (R381). -/
def gateSwap (t : Nat) (p : Fin 4) (s : State) : State :=
  let s := s.upto t
  match s.eth.swapAt[p] with
  | none => s
  | some k =>
    if k ≤ s.tide then
      let old := s.eth.oper[p]
      let new := s.adminList p
      let s := s.updEth fun e => { e with swapAt := e.swapAt.set p none, oper := e.oper.set p new }
      (s.putAdmin p old).set (Reg.ETH_PSTAT_SWAPPEND p) 0
    else s

def execGateListSwap (t : Nat) (p : Fin 4) (s : State) : Res := .next (gateSwap t p s)

/-! ### Links, tables (R372, R373, R383) -/

def port5 (p : Fin 4) : Fin 5 := ⟨p.val, by omega⟩

/-- ETH_LINK_DOWN (R373, R383). Whether the SFP+ module has gone with the link is not told: a free value (log entry
63). -/
def linkDown (t : Nat) (p : Fin 4) (s : State) : State :=
  let s := s.upto t
  if s.bit (Reg.ETH_PSTAT_LINK p) then
    let s := s.sets [(Reg.ETH_PSTAT_LINK p, 0), (Reg.ETH_IRQ_LINK, s.get Reg.ETH_IRQ_LINK ||| 2 ^ p.val)]
    let s := s.updEth fun e => { e with macs := e.macs.filter fun x => x.port != p.val }
    let (v, s) := s.freeNat
    let s := if p.val < 2 then s.set (Reg.ETH_PSTAT_SFPPRES p) (v % 2) else s
    s.raise .ethLinkDown 52 p t
  else s

def execEthLinkDown (t : Nat) (p : Fin 4) (s : State) : Res := .next (linkDown t p s)

/-- ETH_LINK_UP: the link of an enabled port comes up; on E0 and E1 an SFP+ module is present (R383). -/
def linkUp (t : Nat) (p : Fin 4) (s : State) : State :=
  let s := s.upto t
  if s.bit (Reg.ETH_PCFG_EN p) && !s.bit (Reg.ETH_PSTAT_LINK p) then
    s.sets [(Reg.ETH_PSTAT_LINK p, 1), (Reg.ETH_PSTAT_SFPPRES p, if p.val < 2 then 1 else 0),
      (Reg.ETH_IRQ_LINK, s.get Reg.ETH_IRQ_LINK ||| 2 ^ p.val)]
  else s

def execEthLinkUp (t : Nat) (p : Fin 4) (s : State) : Res := .next (linkUp t p s)

/-- MAC_TABLE_AGE_OUT (R373). -/
def macAgeOut (t vid mac : Nat) (s : State) : State :=
  let s := s.upto t
  let lim := s.get Reg.ETH_AGE_AGE * Config.sec
  s.updEth fun e =>
    { e with macs := e.macs.filter fun x => !(x.vid == vid && x.mac == mac && decide (x.seen + lim ≤ s.tide)) }

def execMacTableAgeOut (t vid mac : Nat) (s : State) : Res := .next (macAgeOut t vid mac s)

/-- ARP_ENTRY_EXPIRY (R372). -/
def arpExpiry (t ip : Nat) (s : State) : State :=
  let s := s.upto t
  s.updEth fun e =>
    { e with arp := e.arp.filter fun x => !(x.ip == ip && decide (x.seen + 300 * Config.sec ≤ s.tide)) }

def execArpEntryExpiry (t ip : Nat) (s : State) : Res := .next (arpExpiry t ip s)

/-! ### IEEE 802.1AS (R382) -/

/-- Role of a port: 0 off, 1 master, 2 slave. -/
def State.asRole (s : State) (p : Fin 4) : Nat :=
  if !(s.get Reg.ETH_ASCFG_PORTEN).testBit p then 0
  else if s.bit Reg.ETH_ASCFG_GM then 1
  else if s.bit Reg.TIDE_CTL_ASEN then (if s.get Reg.TIDE_CTL_ASPORT = p.val then 2 else 1)
  else 0

/-- AS_SYNC_SEND: a master port that is asCapable sends the AS time of the count (R382). -/
def asSyncSend (t : Nat) (p : Fin 4) (s : State) : State :=
  let s := s.upto t
  if s.asRole p == 1 && s.bit (Reg.ETH_PSTAT_ASCAP p) && s.portUp (port5 p) then
    s.emit (.sync p (s.asMac p) (2 * s.asBase + (5 * s.tide : Nat)))
  else s

def execAsSyncSend (t : Nat) (p : Fin 4) (s : State) : Res := .next (asSyncSend t p s)

/-- PEER_DELAY_MEASUREMENT: the mean link delay of an enabled port (R382). -/
def peerDelay (t : Nat) (p : Fin 4) (ns : Nat) (s : State) : State :=
  let s := s.upto t
  if (s.get Reg.ETH_ASCFG_PORTEN).testBit p && s.portUp (port5 p) then
    s.sets [(Reg.ETH_PDELAY_NS p, min 65535 ns),
      (Reg.ETH_PSTAT_ASCAP p, if ns ≤ s.get Reg.ETH_ASCFG_PDTHR then 1 else 0)]
  else s

def execPeerDelayMeasurement (t : Nat) (p : Fin 4) (ns : Nat) (s : State) : Res := .next (peerDelay t p ns s)

/-- `ETH_ASGMSEC` has been written: a grandmaster's base takes that many seconds (R382). -/
def State.gmSecWritten (s : State) (t : Nat) : State :=
  if s.bit Reg.ETH_ASCFG_GM then
    (s.sets [(Reg.TIDE_ASBASE_NS_NS, 0), (Reg.TIDE_ASBASE_SL_SEC, s.get Reg.ETH_ASGMSEC_SEC),
      (Reg.TIDE_ASBASE_SH_SEC, 0)]).raise .tideAsStep 0 0 t
  else s

/-! ### Transmit rings (R378) -/

/-- Read a frame of a transmit ring, sent at `t`. -/
def readFrameBytes (t : Nat) (b : List Byte) : EthFrame :=
  let tagged := beAt b 12 2 == 0x8100
  let o := if tagged then 16 else 12
  { dst := beAt b 0 6, src := beAt b 6 6
    tag := if tagged then some (beAt b 14 2 % 4096, beAt b 14 2 / 8192) else none
    etype := beAt b o 2, payload := b.drop (o + 2), fcsOk := true, sfd := t }

/-- One descriptor of transmit ring `r + 4` (R378). -/
def State.ringSend (s : State) (t : Nat) (r : Fin 4) : State :=
  let a := s.ringDesc (r + 4)
  let (d, s) := s.dmaBytes t a 32
  let len := leAt d 8 2
  let bad := decide (len < 60) || decide (1518 < len)
  let s := if bad then s
    else
      let (b, s) := s.dmaBytes t (leAt d 0 8) len
      s.ownIn t none (readFrameBytes t b)
  let s := s.setBytes (a + 10) (leBytes 2 (leAt d 10 2 / 2 * 2 + (if bad then 1 else 0)))
  let s := s.setBytes (a + 16) (leBytes 8 t)
  let s := s.advanceHead (r + 4)
  if bad then s else s.set Reg.ETH_IRQ_TX (s.get Reg.ETH_IRQ_TX ||| 2 ^ r.val)

/-- The switch sends from HEAD until HEAD = TAIL, at most once round the ring. -/
def State.ringDrain (t : Nat) (r : Fin 4) : Nat → State → State
  | 0, s => s
  | k + 1, s =>
    if s.get (Reg.ETH_RINGPTR_HEAD (r + 4)) = s.get (Reg.ETH_RINGPTR_TAIL (r + 4)) then s
    else State.ringDrain t r k (s.ringSend t r)

/-- TAIL of a ring has been written (R378). -/
def State.tailWritten (s : State) (t : Nat) (r : Fin 4) : State :=
  if s.bit (Reg.ETH_RINGBASE_EN (r + 4)) then State.ringDrain t r 1024 s else s

end Sys2Proof.Machine
end

