-- ==== Sys2Proof/Machine/Rebase.lean ====
section
/-! DEFINITION. A load of the Tide count (R70) changes the name of every instant, and no duration: the instants from
which the module measures one move with the count (log entry 61). The stamps of records stay (R70), and so do the
instants of the lead's count. -/

namespace Sys2Proof.Machine

/-- The instant `x` under a count that is `d` larger; one from before the new count's 0 stands at 0. -/
def later (d : Int) (x : Nat) : Nat := ((x : Int) + d).toNat

/-- The same of an instant that may be absent, and of a list. -/
def laterO (d : Int) (o : Option Nat) : Option Nat := o.map (later d)
def laterL (d : Int) (l : List Nat) : List Nat := l.map (later d)

def DLines.rebase (x : DLines) (d : Int) : DLines :=
  { x with since := later d x.since, edges := x.edges.map fun p => (p.1, later d p.2) }

def Rail.rebase (x : Rail) (d : Int) : Rail := { x with boostAt := later d x.boostAt }

def AsDisc.rebase (x : AsDisc) (d : Int) : AsDisc :=
  { x with lastSync := later d x.lastSync, okSince := laterO d x.okSince }

def Axis.rebase (x : Axis) (d : Int) : Axis :=
  { x with expiry := laterO d x.expiry, tune := { x.tune with startAt := later d x.tune.startAt } }

/-- Instants of a leg are in fine steps. -/
def Leg.rebase (x : Leg) (d : Int) : Leg :=
  { x with
    lowSince := laterO (32 * d) x.lowSince, holdFrom := later (32 * d) x.holdFrom
    refreshAt := laterO (32 * d) x.refreshAt }

/-- Zero points are in fine steps. -/
def Carrier.rebase (x : Carrier) (d : Int) : Carrier :=
  { x with
    zero := later (32 * d) x.zero, startAt := laterO (32 * d) x.startAt
    shadowReq := later d x.shadowReq, shadowAt := later d x.shadowAt
    eff := x.eff.map fun e => (e.1, { e.2 with writes := e.2.writes.map fun w => (later d w.1, w.2) }) }

def Gate.rebase (x : Gate) (d : Int) : Gate :=
  { x with
    hist := x.hist.map (laterL d), due := x.due.map (laterO d), enAt := later d x.enAt, onAt := later d x.onAt }

def Bw.rebase (x : Bw) (d : Int) : Bw :=
  { x with
    trips := x.trips.map fun k => { k with wins := laterL d k.wins }
    edgesTo := later (32 * d) x.edgesTo
    uv1Since := laterO d x.uv1Since, uv2Since := laterO d x.uv2Since
    vhvLast := laterO d x.vhvLast, vhvRun := laterO d x.vhvRun
    brkSince := later d x.brkSince, brkConf := laterO d x.brkConf, trgAt := laterO d x.trgAt
    gtAt := later d x.gtAt, restarts := laterL d x.restarts
    thrAt := x.thrAt.map (later d), thrCool := x.thrCool.map (laterO d) }

def Hm.rebase (x : Hm) (d : Int) : Hm :=
  { x with
    feq := x.feq.map fun p => { p with at_ := later d p.at_ }
    chans := x.chans.map fun c => { c with barred := laterO d c.barred, usedAt := later d c.usedAt }
    sess := x.sess.map fun c => { c with lastAt := later d c.lastAt }
    canRx := x.canRx.map fun o => o.map fun c => { c with lastAt := later d c.lastAt }
    waits := x.waits.map fun w => { w with since := later d w.since }
    pend := x.pend.map fun p => { p with at_ := later d p.at_ }
    upd := x.upd.map fun u => { u with lastAt := later d u.lastAt } }

def Eng.rebase (x : Eng) (d : Int) : Eng :=
  { x with
    arrivedAt := later d x.arrivedAt, started := later d x.started, lastCommit := later d x.lastCommit
    settledAt := later d x.settledAt }

/-- The ring is placed by its instants of closing until a trigger has come (R421). -/
def Logb.rebase (x : Logb) (d : Int) : Logb :=
  if x.trigAt.isSome then x else { x with ring := x.ring.map fun p => (p.1, later d p.2) }

def Cluster.rebase (x : Cluster) (d : Int) : Cluster :=
  { x with
    last := laterO (32 * d) x.last, hand := x.hand.map fun h => { h with c := later (32 * d) h.c }
    testOn := later d x.testOn, testOff := x.testOff.map (laterO d) }

def Port.rebase (x : Port) (d : Int) : Port :=
  { x with
    edges := laterL d x.edges, ills := laterL d x.ills, hallAt := laterO d x.hallAt, ssiStart := laterO d x.ssiStart
    frames := x.frames.map fun f => (later d f.1, f.2), obsAbove := laterO d x.obsAbove
    obsHold := laterO d x.obsHold }

def LkPair.rebase (x : LkPair) (d : Int) : LkPair :=
  { x with riseA := later d x.riseA, riseB := later d x.riseB, diff := laterO d x.diff }

def LkAx.rebase (x : LkAx) (d : Int) : LkAx :=
  { x with
    ss1 := x.ss1.map fun p => (later d p.1, p.2), sls := laterO d x.sls, cur := laterO d x.cur
    spd := laterO d x.spd, slip := laterO d x.slip, tq1 := laterO d x.tq1, tq2 := laterO d x.tq2 }

def LkConn.rebase (x : LkConn) (d : Int) : LkConn :=
  { x with lastAt := laterO d x.lastAt, hold := x.hold.map fun h => { h with at_ := later d h.at_ } }

def Lk.rebase (x : Lk) (d : Int) : Lk :=
  { x with
    sto := x.sto.rebase d, si := x.si.map (LkPair.rebase · d), ax := x.ax.map (LkAx.rebase · d)
    conn := x.conn.map (LkConn.rebase · d), dcv := laterO d x.dcv, tested := x.tested.map (later d)
    soSince := x.soSince.map (laterO d), soDiff := x.soDiff.map (laterO d), left := x.left.map (laterO d) }

def Eth.rebase (x : Eth) (d : Int) : Eth :=
  { x with
    q := x.q.map fun v => v.map fun l => l.map fun f => { f with arr := later d f.arr, done := later d f.done }
    macs := x.macs.map fun m => { m with seen := later d m.seen }
    arp := x.arp.map fun m => { m with seen := later d m.seen } }

def Moor.rebase (x : Moor) (d : Int) : Moor :=
  { x with formFrom := laterO d x.formFrom, retx := x.retx.map (laterL d) }

/-- Every instant from which a duration is measured, under a count that is `d` larger. -/
def State.rebase (s : State) (d : Int) : State :=
  { s with
    dl := s.dl.rebase d, rail := s.rail.rebase d, asd := s.asd.rebase d, hm := s.hm.rebase d
    axes := s.axes.map (Axis.rebase · d), pwm := s.pwm.map (Carrier.rebase · d), legs := s.legs.map (Leg.rebase · d)
    gates := s.gates.map (Gate.rebase · d), bw := s.bw.rebase d, eng := s.eng.map (Eng.rebase · d)
    logb := s.logb.rebase d, adc := s.adc.map (Cluster.rebase · d), fbk := s.fbk.map (Port.rebase · d)
    lk := s.lk.rebase d, eth := s.eth.rebase d
    can := s.can.map fun c => { c with sof := later d c.sof }
    cores := s.cores.map fun c => { c with since := laterO d c.since }
    arb := s.arb.map fun a => { a with off := a.off.map (laterO d) }
    moor := s.moor.rebase d, pwr := { s.pwr with slotAt := laterO d s.pwr.slotAt, offAt := laterO d s.pwr.offAt } }

end Sys2Proof.Machine
end

