-- ==== Sys2Proof/Machine/Mooring.lean ====
section
/-! DEFINITION. Mooring groups (R433-R454): ports, Tide alignment, membership, group carriers and GSYNC,
and the traffic across the group. -/

namespace Sys2Proof.Machine

/-! ### Membership (R441, R442, R444, R454) -/

/-- A source of group carriers is lost: carriers locked to it lose their lock (R281, R445). -/
def State.groupLost (s : State) (t : Nat) (g : Fin 4) : State :=
  let s := { s with gcZero := s.gcZero.set g none }
  s.eachAxis fun s n => if s.get (Reg.PWM_CTL_SRC n) = g.val + 5 then s.lockEnds t n else s

/-- ALIGNED clears: the module is no longer joined (R456), and the group carriers no longer run for it (R439, R445). -/
def State.unalign (s : State) (t : Nat) : State :=
  let s := s.set Reg.TIDE_STATUS_ALIGNED 0
  let s := s.updMoor fun m =>
    { m with joined := false, good := 0, bad := 0, badMark := Vector.replicate 4 0 }
  [0, 1, 2, 3].foldl (fun s g => s.groupLost t g) s.remask

/-- A member loses its path to the lead: it is no longer aligned, and with USE follows GSYNC where it has an offset
(R446, R454). -/
def State.losePath (s : State) (t : Nat) : State :=
  let gs := s.bit Reg.MOOR_GSYNC_USE && s.bit Reg.TIDE_STATUS_ALIGNED && s.moor.gsN != 0
  (s.unalign t).updMoor fun m => { m with gsFollow := m.gsFollow || gs }

/-- A module leaves the membership: MOOR_PEER_LOST, and the bollards of its requesters are freed
(R412, R454). -/
def State.loseModule (s : State) (t : Nat) (m : Fin 8) : State :=
  if m ≠ s.mid ∧ s.bit (Reg.MOOR_MEMBER_PRESENT m) then
    let s := s.sets [(Reg.MOOR_MEMBER_PRESENT m, 0), (Reg.MOOR_MEMBER_ALIGNED m, 0), (Reg.MOOR_IRQ_PEER, 1)]
    let s := s.freeBollards t fun o => reqModule o == some m.val
    let s := if m = 0 then s.losePath t else s
    (s.raise .moorPeerLost 54 m t (sev := s.get Reg.MOOR_CTL_LOSSSEV) (inst := m)).remask.reForm
  else s

/-- A module is (again) a member (R441, R453, R454). -/
def State.gainModule (s : State) (m : MemberIn) : State :=
  let new := !s.bit (Reg.MOOR_MEMBER_PRESENT m.mid)
  let s := s.sets [(Reg.MOOR_MEMBER_PRESENT m.mid, 1), (Reg.MOOR_MEMBER_HOPS m.mid, m.hops),
    (Reg.MOOR_MEMBER_PORT m.mid, m.port), (Reg.MOOR_MEMBER_ALIGNED m.mid, 1),
    (Reg.MOOR_MEMBER_EPOCH m.mid, m.epoch), (Reg.MOOR_MEMBER_MSTATE m.mid, m.mstate)]
  let s := s.updMoor fun x =>
    { x with serials := x.serials.filter (fun p => p.1 != m.mid.val) ++ [(m.mid.val, m.serial)] }
  if new ∧ m.mid ≠ s.mid then
    let s := (s.set Reg.MOOR_IRQ_PEER 1).updFm fun f =>
      { f with group := f.group.filter fun e => e.mid != m.mid.val }
    s.causeGone .moorPeerLost 54 m.mid
  else s

/-- M-IDs that two modules carry (R435). -/
def dupMids (ms : List MemberIn) : List (Fin 8) :=
  mids8.filter fun (i : Fin 8) => 2 ≤ (ms.filter fun m => m.mid == i).length

/-- The topology found is a ring where the other members report both their ports UP to members and this module's ports
are, and a chain otherwise (R441). -/
def State.ringFound (s : State) (ring : Bool) : Bool :=
  ring && moorPorts.all fun (p : Fin 2) =>
    s.bit (Reg.MOOR_PSTAT_UP p) && s.bit (Reg.MOOR_PSTAT_PEERVALID p) &&
      s.bit (Reg.MOOR_MEMBER_PRESENT (s.get (Reg.MOOR_PSTAT_PEER p)))

/-- MOOR_RING_BROKEN: one link of a ring is down, and traffic takes the other path (R454). -/
def State.ringBroken (s : State) (t : Nat) : State := (s.set Reg.MOOR_IRQ_RING 1).raise .moorRingBroken 54 0 t

/-- MEMBERSHIP_UPDATE: the other modules found are `ms`; `ring`: both ports of every other member are UP to members;
`forming` tells a member that a GROUP_FORM is pending on the lead (R440, R441). A module whose M-ID another one carries
is in no membership; MOOR_ID_DUP is raised on the duplicates and on the lead (R435). A ring that is one no more while no
module is lost has a link down elsewhere (R454). -/
def membershipUpdate (t : Nat) (ms : List MemberIn) (ring forming : Bool) (s : State) : State :=
  let s := s.upto t
  if !s.moorOn then s
  else
    let dups := dupMids ms
    let own := ms.any fun m => m.mid == s.mid && m.serial != s.serialNat
    let s := s.updMoor fun m => { m with dup := own }
    let told := if s.isLead then dups ++ (if own then [s.mid] else [])
      else if own || dups.contains s.mid then [s.mid] else []
    let s := told.eraseDups.foldl (fun s d => s.raise .moorIdDup 54 d t (inst := d.val)) s
    let ok := if s.ownDup then [] else ms.filter fun m => !dups.contains m.mid && m.mid != s.mid
    let was := s.bit Reg.MOOR_GSTAT_TOPO
    let lost := s.others.filter fun (m : Fin 8) => !(ok.any fun x => x.mid == m)
    let s := lost.foldl (fun (s : State) (m : Fin 8) => s.loseModule t m) s
    let s := ok.foldl State.gainModule s
    let s := s.setB Reg.MOOR_GSTAT_TOPO (s.ringFound ring)
    let s := if was && lost.isEmpty && !s.bit Reg.MOOR_GSTAT_TOPO then s.ringBroken t else s
    let s := if s.isLead then s else s.setB Reg.MOOR_GSTAT_FORMING forming
    s.remask.reForm.announce

def execMembershipUpdate (t : Nat) (ms : List MemberIn) (ring forming : Bool) (s : State) : Res :=
  .next (membershipUpdate t ms ring forming s)

/-- FORMWAIT_EXPIRY: the lead has waited FORMWAIT (R442). -/
def formwaitExpiry (t : Nat) (s : State) : State :=
  let s := s.upto t
  let due := s.moor.formFrom.any fun f => decide (f + s.get Reg.MOOR_GCFG_FORMWAIT * Config.sec ≤ s.tide)
  if s.isLead && due && !s.bit Reg.MOOR_GSTAT_FORMED then
    (s.sets [(Reg.MOOR_GSTAT_FORMED, 1), (Reg.MOOR_IRQ_FORMED, 1)]).raise .moorIncomplete 54 0 t
  else s

def execFormwaitExpiry (t : Nat) (s : State) : Res := .next (formwaitExpiry t s)

/-! ### Ports (R436-R438, R447) -/

/-- The hop delay from the sum of 16 round trips in fine steps: half their mean (R438). A part of a fine step is dropped,
and a delay that does not fit the field holds at its maximum (log entry 62). -/
def hopDelay (trips : Nat) : Nat := min 0xFFFF (trips / 32)

/-- PORT_UP: training of port `p` is complete, with the sum of its first 16 round trips (R437, R438). A port joined to
the module itself stays down (R434); a peer with the module's own M-ID is a duplicate, and neither joins (R435). -/
def portUp (t : Nat) (p : Fin 2) (peer : Fin 8) (pp : Fin 2) (serial polinv trips : Nat) (s : State) : State :=
  let s := s.upto t
  if !s.moorOn || serial == s.serialNat then s
  else
    let s := s.sets [(Reg.MOOR_PSTAT_UP p, 1), (Reg.MOOR_PSTAT_TRAIN p, 0), (Reg.MOOR_PSTAT_PEER p, peer),
      (Reg.MOOR_PSTAT_PEERPORT p, pp), (Reg.MOOR_PSTAT_PEERVALID p, 1), (Reg.MOOR_PSTAT_POLINV p, polinv),
      (Reg.MOOR_HOPDLY_DELAY p, hopDelay trips)]
    let s := (s.incWrap (Reg.MOOR_HOPDLY_CALS p)).updMoor fun m => { m with heard := m.heard.set p false }
    if peer = s.mid then s.raise .moorIdDup 54 peer t (inst := peer) else s

def execPortUp (t : Nat) (p : Fin 2) (peer : Fin 8) (pp : Fin 2) (serial polinv trips : Nat) (s : State) : Res :=
  .next (portUp t p peer pp serial polinv trips s)

/-- Traffic of a ring that left by port `p` takes the other way round (R454). -/
def State.reroute (s : State) (p : Fin 2) : State :=
  let n := s.get Reg.MOOR_GSTAT_COUNT
  s.others.foldl (fun (s : State) (m : Fin 8) =>
    if s.get (Reg.MOOR_MEMBER_PORT m) = p.val then
      s.sets [(Reg.MOOR_MEMBER_PORT m, 1 - p.val), (Reg.MOOR_MEMBER_HOPS m, n - s.get (Reg.MOOR_MEMBER_HOPS m))]
    else s) s

/-- PORT_DOWN: a port is lost and retrains; `lost` are the M-IDs cut off by it (R437, R454). With none cut
off in a ring, traffic is rerouted. A member that no longer has a path to the lead abandons a join and is aligned no
more (R440). -/
def portDown (t : Nat) (p : Fin 2) (lost : Nat) (s : State) : State :=
  let s := s.upto t
  if s.moorOn && s.bit (Reg.MOOR_PSTAT_UP p) then
    let s := (s.sets [(Reg.MOOR_PSTAT_UP p, 0), (Reg.MOOR_PSTAT_TRAIN p, 1), (Reg.MOOR_PSTAT_PEERVALID p, 0)]).incHold
      (Reg.MOOR_ERR_DOWN p)
    let s := s.updMoor fun m => { m with heard := m.heard.set p false }
    let cut := mids8.filter fun (m : Fin 8) => lost.testBit m && m != s.mid && s.bit (Reg.MOOR_MEMBER_PRESENT m)
    let ring := s.bit Reg.MOOR_GSTAT_TOPO
    let s := cut.foldl (fun (s : State) (m : Fin 8) => s.loseModule t m) s
    let s := if cut.isEmpty && ring then (s.reroute p).ringBroken t else s
    let s := if s.following && !s.leadPath then s.losePath t else s
    (s.set Reg.MOOR_GSTAT_TOPO 0).reForm.announce
  else s

def execPortDown (t : Nat) (p : Fin 2) (lost : Nat) (s : State) : Res := .next (portDown t p lost s)

/-- HOP_DELAY_CALIBRATION: an UP port has measured 16 round trips, whose sum in fine steps is `trips` (R438). -/
def hopCal (t : Nat) (p : Fin 2) (trips : Nat) (s : State) : State :=
  let s := s.upto t
  if s.bit (Reg.MOOR_PSTAT_UP p) then
    (s.set (Reg.MOOR_HOPDLY_DELAY p) (hopDelay trips)).incWrap (Reg.MOOR_HOPDLY_CALS p)
  else s

def execHopDelayCalibration (t : Nat) (p : Fin 2) (trips : Nat) (s : State) : Res := .next (hopCal t p trips s)

/-- FLIT_RETRANSMISSION on a port (R447): more than 16 within 1 ms raise MOOR_LINK_ERR. -/
def flitRetx (t : Nat) (p : Fin 2) (s : State) : State :=
  let s := s.upto t
  if s.bit (Reg.MOOR_PSTAT_UP p) then
    let l := s.tide :: s.moor.retx[p].filter fun u => decide (s.tide < u + Config.ms)
    let s := (s.incHold (Reg.MOOR_ERR_RETX p)).updMoor fun m => { m with retx := m.retx.set p l }
    if l.length = 17 then s.raise .moorLinkErr 54 p t (inst := p) else s
  else s

def execFlitRetransmission (t : Nat) (p : Fin 2) (s : State) : Res := .next (flitRetx t p s)

/-- EN of `MOOR_CTL` has been written (R436): the ports train or are off; a lead and a single module are
aligned, a member is not yet. The link no longer delivers group carriers (R281). -/
def State.moorWritten (s : State) (t : Nat) (was : Bool) : State :=
  let on := s.moorOn
  if on == was then s
  else
    let s := [0, 1].foldl (fun (s : State) (p : Fin 2) =>
      s.sets [(Reg.MOOR_PSTAT_UP p, 0), (Reg.MOOR_PSTAT_TRAIN p, if on then 1 else 0),
        (Reg.MOOR_PSTAT_PEERVALID p, 0)]) s
    let s := mids8.foldl (fun (s : State) (m : Fin 8) =>
      s.sets [(Reg.MOOR_MEMBER_PRESENT m, 0), (Reg.MOOR_MEMBER_ALIGNED m, 0)]) s
    let s := s.sets [(Reg.MOOR_GSTAT_FORMED, 0), (Reg.MOOR_GSTAT_COMPLETE, 0),
      (Reg.MOOR_GSTAT_TOPO, 0)]
    let s := s.updMoor fun m =>
      { m with formFrom := none, heard := Vector.replicate 2 false, dup := false, gsFollow := false, gsRate := 0 }
    let s := if on && s.mid != 0 then s.unalign t
      else ([0, 1, 2, 3].foldl (fun (s : State) (g : Fin 4) => s.groupLost t g) s).set Reg.TIDE_STATUS_ALIGNED 1
    s.remask.startForm.reForm

/-! ### Tide alignment (R439, R440) -/

/-- The conditions under which a member loads its count and joins, but for the path (R440). -/
def State.joinOk (s : State) : Bool :=
  s.modState == 2 && (s.axes.toList.all fun a => a.st != .diag && !a.st.closed) &&
    (s.bit Reg.MOOR_CTL_AUTOJOIN || s.bit Reg.MOOR_GSTAT_FORMING)

/-- `MOOR_GSTAT.JOINPEND`: a member waits for the conditions of R440. -/
def State.joinPend (s : State) : Bool :=
  s.isMember && !s.bit Reg.TIDE_STATUS_ALIGNED && !(s.joinOk && s.leadPath)

/-- BEACON_SEND: the lead sends its count from an UP port (R439). -/
def beaconSend (t : Nat) (p : Fin 2) (s : State) : State :=
  let s := s.upto t
  if s.isLead && s.bit (Reg.MOOR_PSTAT_UP p) then s.emit (.moor p 0 [s.tide, 0]) else s

def execBeaconSend (t : Nat) (p : Fin 2) (s : State) : Res := .next (beaconSend t p s)

/-- Each running carrier restarts at its first zero point under the new count (R263): locked carriers
first, so that none loses its source. -/
def State.restartCarriers (s : State) (t : Nat) : State :=
  let run := [0, 1, 2, 3].filter fun (n : Fin 4) => s.bit (Reg.PWM_CTL_EN n) && !s.idle n
  let locked := run.filter fun (n : Fin 4) => s.get (Reg.PWM_CTL_SRC n) != 0
  let free := run.filter fun (n : Fin 4) => s.get (Reg.PWM_CTL_SRC n) == 0
  let s := (locked ++ free).foldl (fun (s : State) (n : Fin 4) => s.stopCarrier t n) s
  (free ++ locked).foldl (fun (s : State) (n : Fin 4) => s.schedCarrier t n) s

/-- The member loads its count (R70, R439): `own` and `new` in fine steps; the offset is that of the counts. Edges of
the old count are placed first, and durations go on under the new one. -/
def State.loadTide (s : State) (own new : Nat) : State :=
  let ofs : Int := ((new / 32 : Nat) : Int) - (own / 32 : Nat)
  let s := { (s.drive own).rebase ofs with tide := new / 32 }
  let s := s.sets [(Reg.TIDE_STATUS_EPOCH, (s.epoch + 1) % 256), (Reg.TIDE_JOINOFS_L_OFS, ofSigned 64 ofs),
    (Reg.TIDE_JOINOFS_H_OFS, ofSigned 64 ofs / 2 ^ 32)]
  let s := s.updMoor fun m =>
    { m with joined := true, good := 0, bad := 0, fine := new % 32, gsN := 0, gsSum := 0 }
  s.restartCarriers s.tide

/-- The registers of the Tide error (R439). -/
def State.noteTideErr (s : State) (err : Int) : State :=
  s.sets [(Reg.MOOR_TIDEERR_LAST, ofSigned 16 (max (-32768) (min 32767 err))),
    (Reg.MOOR_TIDEERR_PEAK, max (s.get Reg.MOOR_TIDEERR_PEAK) (min 65535 err.natAbs))]

/-- The zero point that a descriptor gives, in fine steps: its Tide count, with the fine part of PHASE that every zero
point of the carrier has (R262, R445). -/
def descZero (d : CarrierDesc) : Nat := 32 * d.zero + d.phase % 32

/-- Group carrier `g` runs for this module: carriers that are locked to it and wait for it are scheduled (R280, R445). A
source lost by MOOR_SYNC_ERR stays lost until a marker agrees again, or the module aligns anew (log entry 62). -/
def State.groupRuns (s : State) (t : Nat) (g : Fin 4) : State :=
  match s.moor.desc[g] with
  | some d =>
    if d.running && s.bit Reg.TIDE_STATUS_ALIGNED && decide (s.moor.badMark[g] < 3) then
      let s := { s with gcZero := s.gcZero.set g (some (descZero d)) }
      s.eachAxis fun s n =>
        if s.get (Reg.PWM_CTL_SRC n) = g.val + 5 ∧ s.bit (Reg.PWM_STATUS_WAIT n) then s.schedCarrier t n else s
    else s
  | none => s

/-- On alignment the lead takes the member's present queue: its entries of earlier epochs, and the counts (R452,
R453). -/
def State.tellQueue (s : State) : State :=
  ((s.fm.queue.filter fun e => e.epoch != s.epoch).foldl (fun (s : State) e => s.tellEntry 0 e) s).tellLead

/-- ALIGNED sets: the module is a member, and group carriers whose descriptors are held run for it (R439, R445). -/
def State.align (s : State) (t : Nat) : State :=
  if s.bit Reg.TIDE_STATUS_ALIGNED then s
  else
    let s := (s.set Reg.TIDE_STATUS_ALIGNED 1).set Reg.MOOR_GSYNC_GSLOCK 0
    let s := s.updMoor fun m => { m with alignedAt := s.tide, gsFollow := false, gsRate := 0 }
    [0, 1, 2, 3].foldl (fun (s : State) (g : Fin 4) => s.groupRuns t g) s.remask.tellQueue

/-- The count stands at `x` fine steps. -/
def State.moveCount (s : State) (x : Nat) : State :=
  { s with tide := x / 32, moor := { s.moor with fine := x % 32 } }

/-- A joined member at `own` fine steps follows a beacon that is `err` fine steps off: its count moves by one fine step
towards it; aligned after three good ones where the conditions of R440 still hold, no longer aligned after three bad
ones (R439). -/
def State.followBeacon (s : State) (t own : Nat) (err : Int) : State :=
  let s := s.moveCount (if err < 0 then own - 1 else if 0 < err then own + 1 else own)
  let good := if err.natAbs ≤ 12 then s.moor.good + 1 else 0
  let bad := if 256 < 5 * err.natAbs then s.moor.bad + 1 else 0
  let s := s.updMoor fun m => { m with good := good, bad := bad }
  if bad = 3 then
    let was := s.bit Reg.TIDE_STATUS_ALIGNED
    let s := s.unalign t
    if was then (s.set Reg.MOOR_IRQ_SYNC 1).raise .moorTideErr 54 0 t else s
  else if 3 ≤ good ∧ s.joinOk then s.align t
  else s

/-- A member passes a beacon on from the other port, with the delay of the path up to there: that up to here, and its own
residence time of at most 300 ns, a free value (R438, R447; log entry 62). -/
def State.passBeacon (s : State) (p : Fin 2) (beacon path : Nat) : State :=
  let o : Fin 2 := 1 - p
  let (v, s) := s.freeNat
  if s.bit (Reg.MOOR_PSTAT_UP o) then s.emit (.moor o 0 [beacon, path + v % 3841]) else s

/-- BEACON_ARRIVAL on port `p` at own count `t`:`fine`, with the lead's count and the delay of the path, in fine steps,
up to the port that sent it: the hop delay of `p` is added (R438, R439). The beacon goes on from the other port. A module
whose M-ID another one carries does not join (R435). -/
def beaconArrival (t : Nat) (p : Fin 2) (beacon path : Nat) (fine : Fin 32) (s : State) : State :=
  let s := s.upto t
  if !(s.isMember && s.bit (Reg.MOOR_PSTAT_UP p)) then s
  else
    let s := s.updMoor fun m => { m with heard := m.heard.set p true }
    let path := path + s.get (Reg.MOOR_HOPDLY_DELAY p)
    let s := s.passBeacon p beacon path
    let own := 32 * s.tide + fine.val
    let new := 32 * beacon + path
    let err : Int := (new : Int) - own
    let s := s.noteTideErr err
    if s.ownDup then s
    else if s.moor.joined then s.followBeacon t own err
    else if s.joinOk && s.bit Reg.TIDE_STATUS_LOCK then s.loadTide own new
    else s

def execBeaconArrival (t : Nat) (p : Fin 2) (beacon path : Nat) (fine : Fin 32) (s : State) : Res :=
  .next (beaconArrival t p beacon path fine s)

/-! ### Group carriers (R445) -/

/-- The lead's descriptor of a carrier goes out on its UP ports. -/
def descSend (t : Nat) (g : Fin 4) (s : State) : State :=
  let s := s.upto t
  if s.isLead && s.get (Reg.PWM_CTL_SRC g) == 0 && s.running g then
    s.sendPorts 2 [g, s.period g, s.get (Reg.PWM_CTL_MODE g), (s.reg (Reg.PWM_PHASE g)).toNat, (s.carrier g).zero / 32]
  else s

def execCarrierDescriptorSend (t : Nat) (g : Fin 4) (s : State) : Res := .next (descSend t g s)

/-- CARRIER_DESCRIPTOR_ARRIVAL on a member (R445): a carrier that stops, restarts, with a new PHASE among others, or
changes PERIOD or MODE is lost as a source (R281). -/
def descArrival (t : Nat) (g : Fin 4) (d : CarrierDesc) (s : State) : State :=
  let s := s.upto t
  if s.isMember then
    let s := match s.moor.desc[g] with
      | some o =>
        let same := d.running && o.running && o.period == d.period && o.mode == d.mode &&
          o.phase == d.phase && o.zero % max 1 d.period == d.zero % max 1 d.period
        if o.running && !same then s.groupLost t g else s
      | none => s
    (s.updMoor fun m => { m with desc := m.desc.set g (some d) }).groupRuns t g
  else s

def execCarrierDescriptorArrival (t : Nat) (g : Fin 4) (d : CarrierDesc) (s : State) : Res :=
  .next (descArrival t g d s)

/-- Distance of an instant from the nearest zero point of a period, fine steps. -/
def zeroDiff (stamp : Int) (z period : Nat) : Int :=
  let p : Int := 32 * period
  let d := (stamp - z) % p
  if p < 2 * d then d - p else d

/-- ZERO_POINT_MARKER_ARRIVAL: `stamp` in fine steps against the member's own source zero point (R445). -/
def markerArrival (t : Nat) (g : Fin 4) (stamp : Int) (s : State) : State :=
  let s := s.upto t
  match s.moor.desc[g], s.isMember && s.bit Reg.TIDE_STATUS_ALIGNED with
  | some d, true =>
    let n := if 256 < 5 * (zeroDiff stamp (descZero d) d.period).natAbs then s.moor.badMark[g] + 1 else 0
    let was := s.moor.badMark[g]
    let s := s.updMoor fun m => { m with badMark := m.badMark.set g n }
    if n = 3 then ((s.set Reg.MOOR_IRQ_SYNC 1).raise .moorSyncErr 54 g t (inst := g)).groupLost t g
    else if n = 0 ∧ 3 ≤ was then s.groupRuns t g
    else s
  | _, _ => s

def execZeroPointMarkerArrival (t : Nat) (g : Fin 4) (stamp : Int) (s : State) : Res :=
  .next (markerArrival t g stamp s)

/-! ### GSYNC (R446) -/

/-- The rate trim by which a member keeps the edges at the expected instant plus GSOFS: a value the manual does not
state, within ±100 ppm; the count is not stepped (R446, log entry 6). -/
def State.gsTrim (s : State) : State :=
  let (v, s) := s.freeInt
  s.updMoor fun m => { m with gsRate := max (-100000) (min 100000 v) }

/-- GSYNC_EDGE at `t`, with the instant at which the member expects it in fine steps: while aligned it enters the
mean offset; once the path to the lead is lost the rate follows it, and the lock is judged against it (R446). -/
def gsyncEdge (t : Nat) (expected : Int) (s : State) : State :=
  let s := s.upto t
  if s.isMember && s.bit Reg.MOOR_GSYNC_USE then
    let ofs : Int := (32 * s.tide : Nat) - expected
    if s.bit Reg.TIDE_STATUS_ALIGNED then
      let s := s.updMoor fun m => { m with gsN := m.gsN + 1, gsSum := m.gsSum + ofs }
      s.setI Reg.MOOR_GSOFS_OFS (qRound ⟨s.moor.gsSum, s.moor.gsN⟩)
    else if s.moor.gsFollow then
      let s := s.gsTrim
      if (ofs - s.getI Reg.MOOR_GSOFS_OFS).natAbs ≤ 256 then s.set Reg.MOOR_GSYNC_GSLOCK 1 else s
    else s
  else s

def execGsyncEdge (t : Nat) (expected : Int) (s : State) : Res := .next (gsyncEdge t expected s)

/-- GSYNC_LOSS: no edge for four expected intervals; the member runs on its own reference (R446). -/
def gsyncLoss (t : Nat) (s : State) : State :=
  ((s.upto t).set Reg.MOOR_GSYNC_GSLOCK 0).updMoor fun m => { m with gsRate := 0 }

def execGsyncLoss (t : Nat) (s : State) : Res := .next (gsyncLoss t s)

/-! ### Traffic (R449-R453) -/

/-- REMOTE_DOORBELL: berth `b` of module `m` rang for a receiver here (R449). -/
def remoteDoorbell (t : Nat) (m : Fin 8) (b : Fin 32) (s : State) : State :=
  let s := s.upto t
  if s.moorOn then
    s.sets [(Reg.MOOR_RDB_BERTH m, s.get (Reg.MOOR_RDB_BERTH m) ||| 2 ^ b.val), (Reg.MOOR_IRQ_DOORBELL, 1)]
  else s

def execRemoteDoorbell (t : Nat) (m : Fin 8) (b : Fin 32) (s : State) : Res := .next (remoteDoorbell t m b s)

/-- RELAYED_COMMAND (R450): on the lead the packet goes to member `k`; on that member it arrives on a UDP
channel keyed by the original source. On the lead `k` = 8 + j is what member j sends back, a reply or a bulk datagram
(R451): it leaves from port `ETH_UDPPORT` + j. -/
def relayedCommand (t k ip port : Nat) (b : List Byte) (s : State) : State :=
  let s := s.upto t
  if s.isLead && decide (8 ≤ k) then
    (if (s.get Reg.MOOR_GSTAT_MASK).testBit (k - 8) then
       s.emit (.udpFrom (s.get Reg.ETH_UDPPORT_PORT + (k - 8)) ip port b)
     else s)
  else if s.isLead && s.bit Reg.MOOR_CTL_RELAY then s.relay k ip port b
  else if s.isMember && s.mid.val == k then s.arrive (.udpRelay ip port) b none
  else s

def execRelayedCommand (t k ip port : Nat) (b : List Byte) (s : State) : Res := .next (relayedCommand t k ip port b s)

/-- GROUP_LOGBOOK_TRIGGER: an armed Logbook of the group takes T from the trigger's origin (R451), while the lead is
reached (R454). -/
def groupTrigger (t trig : Nat) (s : State) : State :=
  let s := s.upto t
  if s.moorOn && (s.isLead || s.bit (Reg.MOOR_MEMBER_PRESENT 0)) then s.logTriggerAt trig else s

def execGroupLogbookTrigger (t trig : Nat) (s : State) : Res := .next (groupTrigger t trig s)

/-- The entry that a forwarded record makes in the group view. -/
def forwardEntry (f : ForwardIn) : Entry :=
  { name := f.fault.name, src := f.fault.src, inst := f.fault.inst, sev := faultSev f.fault
    cause := f.cause, latched := f.latched, retry := f.retry, mid := f.mid, epoch := f.fault.epoch, req := 0
    stamp := f.fault.stamp, detail := f.fault.detail % 2 ^ 32, axes := f.fault.axes, modScope := false }

/-- The same entry of the same member. -/
def sameForward (f : ForwardIn) (e : Entry) : Bool :=
  e.mid == f.mid.val && e.name == f.fault.name && e.src == f.fault.src && e.inst == f.fault.inst &&
    e.stamp == f.fault.stamp

/-- FAULT_FORWARD: a record of a member reaches the lead, which merges it into the group view in the order of
R63; a record whose slot the view has released raises ORDER_LATE (R66, R452, R453). -/
def faultForward (t : Nat) (f : ForwardIn) (s : State) : State :=
  let s := s.upto t
  if !s.isLead then s
  else
    let s := s.sets [(Reg.MOOR_MEMBER_EPOCH f.mid, f.epoch), (Reg.MOOR_MEMBER_MSTATE f.mid, f.mstate)]
    let s := s.updFm fun m =>
      { m with groupLost := m.groupLost.filter (fun p => p.1 != f.mid.val) ++
          (if f.ovfl then [(f.mid.val, f.lost)] else []) }
    match f.what with
    | 0 =>
      let s := s.updFm fun m => { m with group := insertEntry (forwardEntry f) m.group }
      if f.fault.epoch == f.epoch && slotReleased Config.releaseGroup s.tide f.fault.stamp then
        s.enterQueue { name := .orderLate, src := 0, detail := f.fault.src, stamp := s.tide, sev := 0, inst := 0
                       axes := 0, epoch := s.epoch } 0 0 false false
      else s
    | 1 => s.updFm fun m =>
        { m with group := m.group.map fun e =>
            if sameForward f e then
              { e with
                sev := faultSev f.fault, cause := f.cause, latched := f.latched, retry := f.retry
                detail := f.fault.detail % 2 ^ 32 }
            else e }
    | 2 => s.updFm fun m => { m with group := m.group.filter fun e => !sameForward f e }
    | 3 => s

def execFaultForward (t : Nat) (f : ForwardIn) (s : State) : Res := .next (faultForward t f s)

end Sys2Proof.Machine
end

