-- ==== Sys2Proof/Machine/Power.lean ====
section
/-! DEFINITION. Power entry and the budget manager (R457-R462), loss of power and its return (R469-R472),
failure of an internal rail (R473). -/

namespace Sys2Proof.Machine

/-! ### Demand (R308, R459) -/

/-- VP − VN of a channel's settings, in half volts (R287). -/
def State.swing (s : State) (g : Fin 26) : Nat := 34 + s.get (Reg.GATE_CFG_VP g) + s.get (Reg.GATE_CFG_VN g)

/-- P of a channel's own converter in W, on a carrier of axis `n` (R308). -/
def State.ownLoad (s : State) (n : Fin 4) (g : Fin 26) : Q :=
  ⟨s.get (Reg.GATE_QG_QG g) * s.swing g, 5 * s.get (Reg.PWM_PERIOD_PERIOD n)⟩

/-- P that a bootstrap high side adds to the converter of its low side (R308). -/
def State.bootLoad (s : State) (n : Fin 4) (l : Fin 12) : Q :=
  ⟨s.get (Reg.GATE_QG_QG (hiCh l)) * (142 + 5 * s.get (Reg.GATE_CFG_VP (loCh l))),
    25 * s.get (Reg.PWM_PERIOD_PERIOD n)⟩

/-- The high side of a leg is a bootstrap one. -/
def State.boots (s : State) (l : Fin 12) : Bool := s.bit (Reg.GATE_CFG_BOOT (hiCh l))

/-- The converters of an axis in ascending channel number (R461). -/
def State.convertersOf (s : State) (n : Fin 4) : List (Fin 26) :=
  (s.legsOf n).flatMap fun l => if s.boots l then [loCh l] else [hiCh l, loCh l]

/-- P of every converter of an axis. -/
def State.loadsOf (s : State) (n : Fin 4) : List Q :=
  (s.legsOf n).flatMap fun l =>
    if s.boots l then [qAdd (s.ownLoad n (loCh l)) (s.bootLoad n l)]
    else [s.ownLoad n (hiCh l), s.ownLoad n (loCh l)]

/-- What an axis counts under a reservation, W (R459). -/
def State.resLoad (s : State) (n : Fin 4) : Resv → Q
  | .none => qZero
  | .full => (s.loadsOf n).foldl (fun a p => qAdd a (qAdd ⟨1, 4⟩ (qMul p ⟨20, 17⟩))) qZero
  | .standby => ⟨(s.loadsOf n).length, 4⟩

/-- Tenths of a watt, rounded up. -/
def tenths (w : Q) : Nat := (-(qFloor (qNeg (qMul w (qInt 10))))).toNat

/-- The demand under given reservations, 0.1 W (R459). -/
def State.demandWith (s : State) (res : Vector Resv 4) : Nat :=
  tenths (([0, 1, 2, 3] : List (Fin 4)).foldl (fun a n => qAdd a (s.resLoad n res[n])) (qInt 48))

/-- A converter of an axis that holds a reservation would load more than 6 W (R308, R460). -/
def State.overSix (s : State) (res : Vector Resv 4) : Bool :=
  ([0, 1, 2, 3] : List (Fin 4)).any fun n =>
    res[n] != .none && (s.loadsOf n).any fun p => qLt (qInt 6) p

/-- The check of R460 of given reservations: the shortfall in 0.1 W where they are refused. -/
def State.shortfall (s : State) (res : Vector Resv 4) : Option Nat :=
  let d := s.demandWith res
  let b := s.get Reg.PWR_BUDGET_BUDGET
  if b < d ∨ s.overSix res then some (d - b) else none

/-- Bring the registers of the budget manager in line, and note where the budget covers the full reservation
of an axis again, which ends the cause of PWR_SHED (R462). -/
def State.reBudget (s : State) : State :=
  let d := s.demandWith s.pwr.res
  let s := s.sets [(Reg.PWR_BUDGET_DEMAND, d), (Reg.PWR_STATUS_QBUSY, if s.pwr.queue.isEmpty then 0 else 1),
    (Reg.PWR_SLOT_QLEN, s.pwr.queue.length)]
  s.eachAxis fun (s : State) (n : Fin 4) =>
    let s := s.sets [(Reg.PWR_AXRES_RES n, tenths (s.resLoad n s.pwr.res[n])),
      (Reg.PWR_AXRES_QUEUED n, if (s.convertersOf n).any s.pwr.queue.contains then 1 else 0),
      (Reg.PWR_AXRES_SHED n, if s.pwr.res[n] == .standby then 1 else 0)]
    if (s.shortfall (s.pwr.res.set n .full)).isNone then
      s.causeGone .pwrShed (12 + n) 0
    else s

def State.updPwr (s : State) (f : Pwr → Pwr) : State := { s with pwr := f s.pwr }

/-! ### Rail enables (R460, R461) -/

/-- A converter of the axis waits for its slot, or rises: it has 5 ms to set RAILOK before GATE_SUPPLY ends its rise
(R288, R461). -/
def State.enabling (s : State) (n : Fin 4) : Bool :=
  (s.convertersOf n).any fun g =>
    let x := s.gate g
    s.pwr.queue.contains g ||
      (x.en && !x.seenOk && !x.holds.supply && decide (s.tide < x.enAt + 5 * Config.ms))

/-- Every converter of the axis has been switched on. -/
def State.railsRisen (s : State) (n : Fin 4) : Bool := (s.convertersOf n).all fun g => (s.gate g).en

/-- A granted rail enable: the axis holds full reservation and its converters that are off wait for their slots. -/
def State.enableRails (s : State) (n : Fin 4) : State :=
  let empty := s.pwr.queue.isEmpty
  let s := if empty then s.set Reg.PWR_SLOT_SLOT 0 else s
  (s.updPwr fun p =>
    { p with
      queue := p.queue ++ (s.convertersOf n).filter fun g => !(s.gate g).en && !p.queue.contains g
      slotAt := if empty then none else p.slotAt
      accepted := p.accepted.filter (· != n) ++ [n]
      res := p.res.set n .full }).reBudget

/-- RAIL_ENABLE_SLOT: a slot starts, and at most four converters are switched on. -/
def railSlot (t : Nat) (s : State) : State :=
  let s := s.upto t
  let due := s.pwr.slotAt.all fun a => decide (a + 5 * Config.ms ≤ s.tide)
  if s.pwr.queue.isEmpty || !due then s
  else
    let now := s.pwr.queue.take 4
    let rest := s.pwr.queue.drop 4
    let s := now.foldl (fun (s : State) g => s.railOn s.tide g) s
    let s := s.set Reg.PWR_SLOT_SLOT (if rest.isEmpty then 7 else min 6 (s.get Reg.PWR_SLOT_SLOT + 1))
    (s.updPwr fun p => { p with queue := rest, slotAt := some s.tide }).reBudget

def execRailEnableSlot (t : Nat) (s : State) : Res := .next (railSlot t s)

/-- The rails of an axis go off at once and all together, its channels leave the queue, and its reservation
ends (R461). -/
def State.railsDown (s : State) (n : Fin 4) : State :=
  let chans := s.channelsOf n
  let s := chans.foldl State.railOff s
  let s := s.updPwr fun p =>
    { p with
      queue := p.queue.filter fun g => !chans.contains g
      accepted := p.accepted.filter (· != n)
      res := p.res.set n .none }
  let s := if s.pwr.queue.isEmpty then s.set Reg.PWR_SLOT_SLOT 7 else s
  (s.updAxis n fun a => { a with pendTo := none }).reBudget.settle s.tide

/-- The enable of an axis ends without its target: its pending AXIS_STATE completes with ERR_STATE and the
state of the axis (R80, R461). Its channels keep their places in the queue, which only OFF or a fall in budget takes
from them, and its reservation stands. -/
def State.dropEnable (s : State) (n : Fin 4) : State :=
  (s.updAxis n fun a => { a with pendTo := none }).supersede 0x30 n (some n)

/-! ### Inputs (R457, R458) -/

/-- Budget of an input condition, 0.1 W. -/
def condBudget : Nat → Nat
  | 3 => 2200
  | 2 => 1500
  | 1 => 1200
  | _ => 0

/-- The input condition of the present inputs. -/
def State.inputCond (s : State) : Nat :=
  if s.bit Reg.PWR_STATUS_ACVALID then (if s.bit Reg.PWR_STATUS_ACHIGH then 3 else 2)
  else if s.bit Reg.PWR_STATUS_KAVALID then 1 else 0

/-- The input condition follows the inputs: its budget, and `PWR_IRQ.COND` where it changes. -/
def State.reCond (s : State) : State :=
  let c := s.inputCond
  let s := if c = s.get Reg.PWR_STATUS_COND then s else s.set Reg.PWR_IRQ_COND 1
  (s.sets [(Reg.PWR_STATUS_COND, c), (Reg.PWR_BUDGET_BUDGET, condBudget c)]).reBudget

/-- INPUT_VALIDITY_CHANGE of the AC or the KA input. -/
def inputValidity (t : Nat) (ka valid : Bool) (s : State) : State :=
  let s := s.upto t
  let own := if ka then Reg.PWR_STATUS_KAVALID else Reg.PWR_STATUS_ACVALID
  let other := if ka then Reg.PWR_STATUS_ACVALID else Reg.PWR_STATUS_KAVALID
  let was := s.bit own
  let s := s.setB own valid
  let s := if ka || valid then s else s.set Reg.PWR_STATUS_ACHIGH 0
  let s := s.reCond
  if was && !valid && s.bit other then s.raise .pwrSrcLost 7 (if ka then 1 else 0) s.tide else s

def execInputValidityChange (t : Nat) (ka valid : Bool) (s : State) : Res :=
  .next (inputValidity t ka valid s)

/-- INPUT_CONDITION_CHANGE: a valid AC input becomes high or is no longer high. -/
def inputCondition (t : Nat) (high : Bool) (s : State) : State :=
  let s := s.upto t
  if s.bit Reg.PWR_STATUS_ACVALID then
    let old := s.get Reg.PWR_BUDGET_BUDGET
    let s := (s.setB Reg.PWR_STATUS_ACHIGH high).reCond
    if s.get Reg.PWR_BUDGET_BUDGET < old then s.raise .pwrLowLine 7 0 s.tide else s
  else s

def execInputConditionChange (t : Nat) (high : Bool) (s : State) : Res :=
  .next (inputCondition t high s)

/-! ### A fall in budget (R462) -/

/-- The demand exceeds the budget. -/
def State.overBudget (s : State) : Bool :=
  decide (s.get Reg.PWR_BUDGET_BUDGET < s.get Reg.PWR_BUDGET_DEMAND)

/-- A queued axis is removed: its pending AXIS_STATE completes with ERR_BUDGET. -/
def State.unqueue (s : State) (n : Fin 4) : State :=
  let short := s.get Reg.PWR_BUDGET_DEMAND - s.get Reg.PWR_BUDGET_BUDGET
  let s := (s.railsDown n).set Reg.PWR_IRQ_SHED 1
  s.completeOp 0x30 n { status := errBudget, detail := short, stamp := s.tide }

/-- The axis in full reservation that is shed next. -/
def State.shedNext (s : State) : Option (Fin 4) :=
  let key (n : Fin 4) : Nat := 4 * s.get (Reg.PWR_SHEDCFG_PRIO n) + (3 - n.val)
  let full := ([0, 1, 2, 3] : List (Fin 4)).filter fun n => s.pwr.res[n] == .full
  match full with
  | [] => none
  | n :: r => some (r.foldl (fun a b => if key b < key a then b else a) n)

/-- The axis is shed: standby reservation, and PWR_SHED. -/
def State.shed (s : State) (n : Fin 4) : State :=
  let s := (s.updPwr fun p => { p with res := p.res.set n .standby }).reBudget
  (s.set Reg.PWR_IRQ_SHED 1).raise .pwrShed (12 + n) 0 s.tide

/-! ### Step 7 of a start (R463, R464) -/

/-- The last-words slot that takes the next summary is erased (R423). -/
def State.eraseLw (s : State) : State :=
  s.eraseMem (lwBase + 4096 * s.lwNext) 4096

/-- The start ends once no axis waits for its rails: READY, or MODULE_SAFE where a severity-5 fault is
active; a lead in READY begins to wait for its group (R442). -/
def State.finishStart (s : State) : State :=
  if s.pwr.starting && !(s.axes.toList.any fun a => a.pendTo.isSome) then
    let s := s.updPwr fun p => { p with starting := false }
    let s :=
      if s.modState = 1 then
        let s := s.seqFresh
        if s.fm.active.any fun a => a.sev == 5 then (s.moduleSafe s.tide).settle s.tide
        else s.setModState 2
      else s
    s.startForm.eraseLw
  else s

/-- A queued enable leaves the queue while the demand exceeds the budget. -/
def State.unqueueOver (s : State) (n : Fin 4) : State :=
  if s.overBudget && s.bit (Reg.PWR_AXRES_QUEUED n.val) then s.unqueue n else s

/-- The next axis in the order of the budget manager is shed while the demand exceeds the budget. -/
def State.shedOver (s : State) : State :=
  if s.overBudget then
    match s.shedNext with
    | some n => s.shed n
    | none => s
  else s

/-- BUDGET_GRACE_EXPIRY: the budget manager frees power until the demand fits. -/
def budgetGrace (t : Nat) (s : State) : State :=
  let s := s.upto t
  let s := s.pwr.accepted.reverse.foldl State.unqueueOver s
  (([0, 1, 2, 3] : List (Fin 4)).foldl (fun (s : State) _ => s.shedOver) s).finishStart

def execBudgetGraceExpiry (t : Nat) (s : State) : Res := .next (budgetGrace t s)

/-! ### Loss of power (R469-R472) -/

/-- POWER_LOSS_SIGNAL: the storage bus falls to 360 V while no input is valid. -/
def powerLoss (t : Nat) (s : State) : State :=
  let s := s.upto t
  if s.pwr.off || s.bit Reg.PWR_STATUS_LOSS || s.get Reg.PWR_STATUS_COND != 0 then s
  else
    let s := s.sets [(Reg.PWR_STATUS_LOSS, 1), (Reg.PWR_IRQ_LOSS, 1)]
    let s := s.updPwr fun p => { p with lwDue := if p.up then some t else p.lwDue }
    let s := if s.bit Reg.BW_DSCCFG_ONLOSS then
        s.updBw fun b => b.trigger t b.trgLoss fun b => { b with trgLoss := true }
      else s
    s.raise .pwrLoss 7 0 t

def execPowerLossSignal (t : Nat) (s : State) : Res := .next (powerLoss t s)

/-- STORAGE_BUS_COLLAPSE: the storage bus reaches 250 V and the supply stops. Each driver die turns its
switch off by itself; DSC goes on from the X domain (R470, R471). -/
def busCollapse (t : Nat) (s : State) : State :=
  let s := s.upto t
  if s.bit Reg.PWR_STATUS_LOSS then
    let s := (List.finRange 24).foldl (fun (s : State) (g : Fin 24) =>
      let g : Fin 26 := ⟨g.val, by omega⟩
      let s := if s.chOn s.tide g then s.softOff s.tide g else s
      (s.updGate g fun x => { x with holds := { x.holds with die := true } }).railOff g) s
    let s := s.eachAxis fun (s : State) (n : Fin 4) => s.setMode s.tide n .off
    let s := (s.setB Reg.BW_STATUS_BRKON false).updBw fun b =>
      { b with so0Open := true, so1Open := true, so0rb := false, so1rb := false, brkConf := none }
    s.updPwr fun p =>
      { p with
        queue := [], accepted := [], up := false, off := true, xDsc := s.dscOn, offAt := some t, lwDue := none }
  else s

def execStorageBusCollapse (t : Nat) (s : State) : Res := .next (busCollapse t s)

/-- The X domain's own end of DSC: VHV at DONE, its copy of the energy model at EMAX, or 500 ms since the collapse
(R471). -/
def State.xDscOver (s : State) (t : Nat) : Bool :=
  decide (s.volts ≤ s.get Reg.BW_DSCCFG_DONE) || decide (1000 * s.get Reg.BW_DSCEMAX_EMAX ≤ s.bw.dscE) ||
    s.pwr.offAt.any fun a => decide (a + 500 * Config.ms ≤ t)

/-- X_DOMAIN_DSC_END: the X domain stops DSC (R471). -/
def xDomainEnd (t : Nat) (s : State) : State :=
  let s := s.upto t
  if s.pwr.xDsc && (!s.dscOn || s.xDscOver t) then ((s.updPwr fun p => { p with xDsc := false }).set Reg.BW_STATUS_DSCON 0).updBw
    fun b => { b with dscDone := true }
  else s

def execXDomainDscEnd (t : Nat) (s : State) : Res := .next (xDomainEnd t s)

/-- POWER_LOSS_CLEAR: an input is valid again and the storage bus has returned to 400 V (R472). -/
def powerLossClear (t : Nat) (s : State) : State :=
  let s := s.upto t
  if s.bit Reg.PWR_STATUS_LOSS && !s.pwr.off && s.get Reg.PWR_STATUS_COND != 0 then
    let s := ((s.set Reg.PWR_STATUS_LOSS 0).causeGone .pwrLoss 7 0).updBw fun b => { b with trgLoss := false }
    s.updPwr fun p => { p with resume := p.resume || p.starting }
  else s

def execPowerLossClear (t : Nat) (s : State) : Res := .next (powerLossClear t s)

/-- RAIL_FAILURE of the rail that HK channel `ch` measures (R473). -/
def railFailure (t ch : Nat) (s : State) : State :=
  let s := s.upto t
  if 47 ≤ ch ∧ ch ≤ 53 then s.raise .pwrRail 7 ch t else s

def execRailFailure (t ch : Nat) (s : State) : Res := .next (railFailure t ch s)

end Sys2Proof.Machine
end

