-- ==== Sys2Proof/Machine/Ranges.lean ====
section
/-! DEFINITION. Which register writes a register's own chapter refuses (R128): values outside the stated
ranges and combinations that break a stated order. Every check is made on the state the write would
leave. -/

namespace Sys2Proof.Machine

def within (lo hi v : Nat) : Bool := decide (lo ≤ v ∧ v ≤ hi)

/-- All of a list of conditions. -/
def allOk (l : List Bool) : Bool := l.all id

/-! ### SYS and TIDE (R44, R74) -/

def State.sysOk (s : State) (base : Nat) : Bool :=
  if base = Reg.SYS_AXCFG then
    allOk [s.get Reg.SYS_AXCFG_PAIR01 != 3, s.get Reg.SYS_AXCFG_PAIR23 != 3, s.axType 0 != 3, s.axType 1 != 3,
      s.axType 2 != 3, s.axType 3 != 3]
  else if base = Reg.TIDE_RAIL then
    decide (s.get Reg.TIDE_RAIL_VMIN ≤ s.get Reg.TIDE_RAIL_VMAX ∧ s.get Reg.TIDE_RAIL_VMAX ≤ 25)
  else true

/-! ### PWM (R261-R285) -/

/-- A register of tick:fine lies below PERIOD. -/
def State.belowPeriod (s : State) (n : Fin 4) (tick : Nat) : Bool :=
  decide (tick < s.get (Reg.PWM_PERIOD_PERIOD n))

/-- T of every leg of an axis, in fine steps, against PERIOD (R267). -/
def State.tOk (s : State) (n : Fin 4) : Bool :=
  let p := s.get (Reg.PWM_PERIOD_PERIOD n)
  let k := if s.bit (Reg.PWM_CTL_MODE n) then 2 else 4
  (s.legsOf n).all fun l =>
    let t := s.get (Reg.PWM_DT_FINE l) + 32 * s.get (Reg.PWM_DT_TICK l) + s.get (Reg.PWM_MINP_FINE l) +
      32 * s.get (Reg.PWM_MINP_TICK l)
    decide (k * t ≤ 32 * p ∧ t ≤ 32 * (p - 1))

/-- What a carrier is locked to is a free carrier with the same PERIOD and MODE (R280). -/
def State.lockOk (s : State) (n : Fin 4) : Bool :=
  let src := s.get (Reg.PWM_CTL_SRC n)
  let p := s.get (Reg.PWM_PERIOD_PERIOD n)
  let m := s.get (Reg.PWM_CTL_MODE n)
  if src = 0 then true
  else if src ≤ 4 then
    let k : Fin 4 := Fin.ofNat 4 (src - 1)
    k != n && s.get (Reg.PWM_CTL_SRC k) == 0 && s.get (Reg.PWM_PERIOD_PERIOD k) == p &&
      s.get (Reg.PWM_CTL_MODE k) == m
  else if src ≤ 8 then
    s.isMember && ((s.moor.desc[Fin.ofNat 4 (src - 5)]).all fun d => d.period == p && d.mode == m)
  else false

/-- Everything on axis `n` that must lie within PERIOD (R285). -/
def State.insidePeriod (s : State) (n : Fin 4) : Bool :=
  allOk [s.belowPeriod n (s.get (Reg.PWM_PHASE_TICK n)), s.belowPeriod n (s.get (Reg.PWM_SOFS0_TICK n)),
    s.belowPeriod n (s.get (Reg.PWM_SOFS1_TICK n)), s.belowPeriod n (s.get (Reg.PWM_ICMP0_POS n)),
    s.belowPeriod n (s.get (Reg.PWM_ICMP1_POS n)), s.tOk n]

/-- CTL and PERIOD of a carrier (R261-R265, R280). -/
def State.carrierOk (s : State) (n : Fin 4) : Bool :=
  let p := s.get (Reg.PWM_PERIOD_PERIOD n)
  let saw := s.bit (Reg.PWM_CTL_MODE n)
  let r := s.get (Reg.PWM_CTL_RELOAD n)
  allOk [within 4000 400000 p, saw || p % 2 == 0, r != 0, !saw || r == 1, s.lockOk n, s.insidePeriod n,
    !(s.idle n && s.bit (Reg.PWM_CTL_EN n))]

def State.pwmOk (s : State) (a base i : Nat) : Bool :=
  let off := a % 0x10000
  if off < 0x800 then
    let n : Fin 4 := Fin.ofNat 4 (off / 0x100)
    if base = Reg.PWM_CTL 0 ∨ base = Reg.PWM_PERIOD 0 then s.carrierOk n
    else if base = Reg.PWM_SWIN 0 then within 0 4000 (s.get (Reg.PWM_SWIN_WIN n))
    else s.insidePeriod n
  else if off < 0xC00 then
    let l : Fin 12 := Fin.ofNat 12 i
    let n := s.axisOfLeg l
    if base = Reg.PWM_DT 0 then within 0 6400 (s.get (Reg.PWM_DT_TICK l)) && s.tOk n
    else if base = Reg.PWM_MINP 0 then within 0 800 (s.get (Reg.PWM_MINP_TICK l)) && s.tOk n
    else if base = Reg.PWM_BOOT 0 then
      within 10 65535 (s.get (Reg.PWM_BOOT_MAXON l)) && within 40 4000 (s.get (Reg.PWM_BOOT_REFRESH l))
    else true
  else if base = Reg.PWM_TRIP 0 then within 0 800 (s.get (Reg.PWM_TRIP_BLANK i))
  else true

/-! ### Gate channels (R288-R311) -/

/-- SRC and SNK lie within their adaptive limits while MODE = 1 (R292). -/
def State.adaptOk (s : State) (g : Nat) : Bool :=
  !s.bit (Reg.GATE_CFG_MODE g) ||
    (within (s.get (Reg.GATE_ADAPT_SRCMIN g)) (s.get (Reg.GATE_ADAPT_SRCMAX g)) (s.get (Reg.GATE_DRV_SRC g)) &&
     within (s.get (Reg.GATE_ADAPT_SNKMIN g)) (s.get (Reg.GATE_ADAPT_SNKMAX g)) (s.get (Reg.GATE_DRV_SNK g)))

def State.gateOk (s : State) (base g : Nat) : Bool :=
  if base = Reg.GATE_CFG 0 then
    allOk [within 0 14 (s.get (Reg.GATE_CFG_VP g)), within 0 12 (s.get (Reg.GATE_CFG_VN g)),
      s.adaptOk g]
  else if base = Reg.GATE_DRV 0 then
    allOk [within 0 23 (s.get (Reg.GATE_DRV_SRC g)), within 0 8 (s.get (Reg.GATE_DRV_SOFTT g)), s.adaptOk g]
  else if base = Reg.GATE_ADAPT 0 then
    allOk [decide (s.get (Reg.GATE_ADAPT_SRCMIN g) ≤ s.get (Reg.GATE_ADAPT_SRCMAX g)),
      within 0 23 (s.get (Reg.GATE_ADAPT_SRCMAX g)),
      decide (s.get (Reg.GATE_ADAPT_SNKMIN g) ≤ s.get (Reg.GATE_ADAPT_SNKMAX g)), s.adaptOk g]
  else if base = Reg.GATE_TGT 0 then
    (decide (24 ≤ g) || within 20 500 (s.get (Reg.GATE_TGT_TON g))) && within 20 500 (s.get (Reg.GATE_TGT_TOFF g))
  else if base = Reg.GATE_DESAT 0 then
    within 0 20 (s.get (Reg.GATE_DESAT_THR g)) && within 10 240 (s.get (Reg.GATE_DESAT_BLANK g))
  else if base = Reg.GATE_QG 0 then decide (1 ≤ s.get (Reg.GATE_QG_QG g))
  else if base = Reg.GATE_NTCB 0 then qLe qZero (bfVal (s.reg (Reg.GATE_NTCB g)))
  else if base = Reg.GATE_RETRY 0 then
    within 1 60000 (s.get (Reg.GATE_RETRY_WAIT g)) && within 1 3600 (s.get (Reg.GATE_RETRY_WINDOW g))
  else true

/-! ### Conversion and housekeeping (R133, R150, R162) -/

/-- Units per code are accepted normalised with an exponent of -96 to +96 (R150). -/
def scaleOk (w : Word) : Bool :=
  let m := ((w.setWidth 24).toInt).natAbs
  let e : Int := ((w >>> 24).setWidth 8).toInt
  decide (2 ^ 22 ≤ m ∧ m < 2 ^ 23 ∧ -96 ≤ e ∧ e ≤ 96)

/-- The thresholds of Breakwater stand in their order (R316). -/
def State.thresholdsOk (s : State) : Bool :=
  let uv1 := s.get Reg.BW_UV_UV1
  let uv2 := s.get Reg.BW_UV_UV2
  let off := s.get Reg.BW_OV1_OFF
  let on := s.get Reg.BW_OV1_ON
  let ov2 := s.get Reg.BW_OV23_OV2
  let ov3 := s.get Reg.BW_OV23_OV3
  allOk [uv1 == 0 || decide (uv2 ≤ uv1), decide (uv1 < off ∨ uv1 = 0), decide (uv2 < off ∨ uv2 = 0), decide (off < on),
    decide (on < ov2), decide (ov2 < ov3), decide (ov3 ≤ s.get Reg.ADC_VHVCTL_FS)]

def State.adcOk (s : State) (a base : Nat) : Bool :=
  if base = Reg.ADC_SCALE 0 0 then scaleOk (s.reg a)
  else if base = Reg.ADC_VHVCTL then within 100 2000 (s.get Reg.ADC_VHVCTL_FS) && s.thresholdsOk
  else if base = Reg.HK_CTL then within 1 100 (s.get Reg.HK_CTL_PERIOD)
  else true

/-- A user trim lies beyond its limit (R133): gain trims ±52428, offset trims ±20971. -/
def State.trimBad (s : State) (a base : Nat) : Bool :=
  let v := toSigned 18 (s.reg a).toNat
  if base = Reg.ADC_GTRIM 0 0 ∨ base = Reg.ADC_DACGT 0 ∨ base = Reg.ADC_VHVGT ∨ base = Reg.HK_GT 0 then
    decide (52428 < v.natAbs)
  else if base = Reg.ADC_OTRIM 0 0 ∨ base = Reg.ADC_DACOT 0 ∨ base = Reg.ADC_VHVOT ∨ base = Reg.HK_OT 0 then
    decide (20971 < v.natAbs)
  else false

/-- A safety-relevant trim (R134). -/
def safetyTrim (base k : Nat) : Bool :=
  base == Reg.ADC_VHVGT || base == Reg.ADC_VHVOT ||
    ((base == Reg.ADC_GTRIM 0 0 || base == Reg.ADC_OTRIM 0 0) && within 3 6 k)

/-! ### Feedback (R172-R200) -/

/-- Mode 4: CPR is a power of two of at most 2^BITS (R196). -/
def State.ssiCprOk (s : State) (n : Nat) : Bool :=
  let c := (s.reg (Reg.FBK_CPR n)).toNat
  s.get (Reg.FBK_MODE_MODE n) != 4 ||
    (c == 2 ^ Nat.log2 c && decide (c ≤ 2 ^ s.get (Reg.FBK_SSICFG_BITS n)))

def State.fbkOk (s : State) (base n : Nat) : Bool :=
  if base = Reg.FBK_MODE 0 then
    let m := s.get (Reg.FBK_MODE_MODE n)
    let r := s.get (Reg.FBK_MODE_SPDR n)
    let p := s.get (Reg.FBK_MODE_PP n)
    allOk [within 0 4 m, within 1 8 r, within 1 32 p, p % r == 0, r == 1 || !(m == 1 || m == 2 || m == 4),
      s.ssiCprOk n]
  else if base = Reg.FBK_CPR 0 then within 4 0x80000000 (s.reg (Reg.FBK_CPR n)).toNat && s.ssiCprOk n
  else if base = Reg.FBK_FILT 0 then within 4 1000 (s.get (Reg.FBK_FILT_FILT n))
  else if base = Reg.FBK_SPDCFG 0 then
    within 1 1000 (s.get (Reg.FBK_SPDCFG_WIN n)) && within 1 1000 (s.get (Reg.FBK_SPDCFG_TIMEOUT n))
  else if base = Reg.FBK_RESCFG 0 then
    within 20000 80000 (s.get (Reg.FBK_RESCFG_EXCPER n)) && within 10 40 (s.get (Reg.FBK_RESCFG_AMP n))
  else if base = Reg.FBK_RESANOM 0 then
    let v := s.get (Reg.FBK_RESANOM_ANOM n)
    v == 0 || within 5852 25205 v
  else if base = Reg.FBK_SSICFG 0 then
    allOk [within 10 32 (s.get (Reg.FBK_SSICFG_BITS n)), within 100 4000 (s.get (Reg.FBK_SSICFG_CLKPER n)),
      within 1 63 (s.get (Reg.FBK_SSICFG_TM n)), s.ssiCprOk n]
  else if base = Reg.FBK_SSIDLY 0 then within 0 4000 (s.get (Reg.FBK_SSIDLY_DELAY n))
  else if base = Reg.FBK_OBSLOSS 0 then qLt qZero (bfVal (s.reg (Reg.FBK_OBSLOSS n)))
  else if base = Reg.FBK_OBSCFG 0 then within 1 1000 (s.get (Reg.FBK_OBSCFG_TIME n))
  else true

/-! ### Breakwater (R316-R330, R338) -/

/-- A threshold register of temperatures: WARN < FAULT <= limit, HYST 1-50 (R326). -/
def thOk (w : Word) (limit : Nat) : Bool :=
  allOk [decide (wordGet w 0 8 < wordGet w 8 8), decide (wordGet w 8 8 ≤ limit), within 1 50 (wordGet w 16 8)]

def State.bwOk (s : State) (a base : Nat) : Bool :=
  if base = Reg.BW_OV1 ∨ base = Reg.BW_OV23 ∨ base = Reg.BW_UV then
    allOk [s.thresholdsOk, within 0 2000 (s.get Reg.BW_OV1_ON), within 0 2000 (s.get Reg.BW_OV1_OFF),
      within 0 2000 (s.get Reg.BW_OV23_OV3), within 0 2000 (s.get Reg.BW_UV_UV1), within 0 2000 (s.get Reg.BW_UV_UV2)]
  else if base = Reg.BW_UVTIME then decide (1 ≤ s.get Reg.BW_UVTIME_TIME)
  else if base = Reg.BW_BRKCFG then within 5 255 (s.get Reg.BW_BRKCFG_MIN) && within 1 2000 (s.get Reg.BW_BRKCFG_DV)
  else if base = Reg.BW_BRKCONF ∨ base = Reg.BW_BRKRES ∨ base = Reg.BW_BRKEMAX ∨ base = Reg.BW_BRKTAU ∨
      base = Reg.BW_DSCRES ∨ base = Reg.BW_DSCTAU then s.reg a != 0
  else if base = Reg.BW_DSCCFG then
    within 1 255 (s.get Reg.BW_DSCCFG_WAIT) && within 1 2000 (s.get Reg.BW_DSCCFG_DONE)
  else if base = Reg.BW_TRIPR 0 then within 1 5 (wordGet (s.reg a) 4 3)
  else if base = Reg.BW_GTRIP then within 3 5 (s.get Reg.BW_GTRIP_INSEV)
  else if base = Reg.BW_LKDEMAND then ([0, 1, 2, 3] : List Nat).all fun n => s.get (Reg.BW_LKDEMAND_AX n) != 3
  else if base = Reg.BW_THCFG then within 10 1000 (s.get Reg.BW_THCFG_DWELL)
  else if base = Reg.BW_THDIE then thOk (s.reg a) 145
  else if base = Reg.BW_THMOD then thOk (s.reg a) 120
  else if base = Reg.BW_THNTC ∨ base = Reg.BW_THTP 0 then thOk (s.reg a) 200
  else true

/-! ### Networks (R378-R394) -/

/-- Contiguous ones from the top. -/
def maskOk (w : Word) : Bool := (~~~w &&& (~~~w + 1)) == 0

def State.ethOk (s : State) (a base i : Nat) : Bool :=
  let w := s.reg a
  if base = Reg.ETH_IPMASK then maskOk w
  else if base = Reg.ETH_AGE then within 10 1000 (s.get Reg.ETH_AGE_AGE)
  else if base = Reg.ETH_ASCFG then within 0 5 (s.get Reg.ETH_ASCFG_SYNC)
  else if base = Reg.ETH_QLIM 0 then decide (16 ≤ s.get (Reg.ETH_QLIM_KIB i))
  else if base = Reg.ETH_PCFG 0 then
    allOk [within 1 4094 (s.get (Reg.ETH_PCFG_PVID i)), decide (i < 4) || !s.bit (Reg.ETH_PCFG_GEN i),
      (decide (i = 2) || decide (i = 3)) || !s.bit (Reg.ETH_PCFG_T1MASTER i)]
  else if base = Reg.ETH_VLAN 0 then !w.getLsbD 31 || within 1 4094 (wordGet w 0 12)
  else if base = Reg.ETH_CLASS 0 then wordGet w 16 2 != 3
  else if base = Reg.ETH_RINGBASE 0 then wordGet w 28 3 != 7
  else if base = Reg.ETH_GCL 0 0 then decide (4 ≤ wordGet w 8 24)
  else true

/-- Bit timing of a controller (R385): quanta per bit times BRP of the nominal and of the data phase. -/
def State.bitTimingOk (s : State) (c : Nat) : Bool :=
  let n1 := s.get (Reg.CAN_NBT_TSEG1 c) + 1
  let n2 := s.get (Reg.CAN_NBT_TSEG2 c) + 1
  let np := (s.get (Reg.CAN_NBT_BRP c) + 1) * (1 + n1 + n2)
  let d1 := s.get (Reg.CAN_DBT_TSEG1 c) + 1
  let d2 := s.get (Reg.CAN_DBT_TSEG2 c) + 1
  let dp := (s.get (Reg.CAN_DBT_BRP c) + 1) * (1 + d1 + d2)
  allOk [within 2 256 n1, within 2 128 n2, decide (s.get (Reg.CAN_NBT_SJW c) + 1 ≤ n2), within 80 8000 np,
    within 1 32 d1, within 1 16 d2, decide (s.get (Reg.CAN_DBT_SJW c) + 1 ≤ d2), decide (10 ≤ dp ∧ dp ≤ np)]

/-- An identifier equals one of a connection on the controller (R387, log entry 31). -/
def State.connId (s : State) (c id : Nat) (ide : Bool) : Bool :=
  match s.lk.inForce with
  | none => false
  | some x => ide && (connsOf x.data).any fun j =>
      cnAt x.data j 8 4 == id &&
        (cnAt x.data j 6 1 == c + 4 || (isDual x.data j && cnAt x.data j 7 1 == c + 4))

def State.canOk (s : State) (a base c : Nat) : Bool :=
  let w := s.reg a
  if base = Reg.CAN_CTL 0 then s.get (Reg.CAN_CTL_MODE c) != 3
  else if base = Reg.CAN_NBT 0 ∨ base = Reg.CAN_DBT 0 then s.bitTimingOk c
  else if base = Reg.CAN_CMDID 0 ∨ base = Reg.CAN_RPLID 0 then !s.connId c (wordGet w 0 29) (w.getLsbD 29)
  else if base = Reg.CAN_DEFACT 0 then wordGet w 0 2 != 3
  else if base = Reg.CAN_FMASK 0 0 then wordGet w 29 2 != 3
  else true

/-! ### Berths, Logbook, arbiters, counters, Mooring (R404, R414, R417, R427, R456) -/

/-- A requester number that a berth may have as its sender (R404). -/
def senderOk (r : Nat) : Bool :=
  let l := if r < 16 then r else (r - 16) % 12
  r == 0 || ((within 1 5 l || l == 11) && decide (r < 112))

def State.memOk (s : State) (a base i : Nat) : Bool :=
  let w := s.reg a
  if base = Reg.BERTH_CFG 0 then
    senderOk (s.get (Reg.BERTH_CFG_SENDER i)) &&
      (senderOk (s.get (Reg.BERTH_CFG_RECEIVER i)) || s.get (Reg.BERTH_CFG_RECEIVER i) == 6)
  else if base = Reg.LOGB_BASE ∨ base = Reg.LOGB_SIZE then
    let b := s.get Reg.LOGB_BASE_BASE * 2 ^ 20
    let n := s.get Reg.LOGB_SIZE_MIB
    within 16 6144 n && decide (0x80000000 ≤ b ∧ b + n * 2 ^ 20 ≤ 0x25C000000)
  else if base = Reg.ARB_SEED then s.get Reg.ARB_SEED_SEED != 0
  else if base = Reg.PERF_BWWIN then within 1 1000000 (s.get Reg.PERF_BWWIN_US)
  else if base = Reg.MOOR_CTL then within 1 5 (wordGet w 8 3)
  else if base = Reg.MOOR_GCFG then
    within 1 8 (s.get Reg.MOOR_GCFG_EXPECT) && within 1 255 (s.get Reg.MOOR_GCFG_FORMWAIT)
  else true

/-- The state that a write of the register at `a` would leave keeps every stated range. -/
def State.valuesOk (s : State) (a base : Nat) (ix : List Nat) : Bool :=
  let i := ix.headD 0
  match a / 0x10000 with
  | 0x00 | 0x01 => s.sysOk base
  | 0x02 => s.pwmOk a base i
  | 0x03 => s.gateOk base i
  | 0x04 | 0x0E => s.adcOk a base
  | 0x05 => s.fbkOk base i
  | 0x07 => s.bwOk a base
  | 0x0A => s.ethOk a base i
  | 0x0B => s.canOk a base i
  | 0x09 | 0x0C | 0x0D | 0x10 | 0x11 => s.memOk a base i
  | _ => true

end Sys2Proof.Machine
end

