-- ==== Sys2Proof/Machine/View.lean ====
section
/-! DEFINITION. What a read of a register returns (R13, R42-R475): the stored word, or for a register that
shows state held elsewhere the view of that state. -/

namespace Sys2Proof.Machine

/-- A field of a word replaced. -/
def withBits (w : Word) (l : List (Nat × Nat × Nat)) : Word :=
  l.foldl (fun w f => wordSet w f.1 f.2.1 f.2.2) w

def flag (b : Bool) : Nat := if b then 1 else 0

/-- `TIDE_DLDATA` shows the line of `TIDE_DLSEL`; 28-31 show 0. -/
def State.viewLine (s : State) : Word :=
  let k := s.get Reg.TIDE_DLSEL_LINE
  if h : k < 28 then BitVec.ofNat 32 ((s.dl.line[k]).taps + 256 * (s.dl.line[k]).rejects) else 0

/-- The present carrier count (R261). -/
def State.viewCount (s : State) (n : Fin 4) : Nat :=
  if s.bit (Reg.PWM_STATUS_RUNNING n) then
    let p := s.get (Reg.PWM_PERIOD_PERIOD n)
    let pos := s.tide - (s.carrier n).zero / 32
    if s.bit (Reg.PWM_CTL_MODE n) then pos else min pos (p - pos)
  else 0

def State.viewPwm (s : State) (req a base i : Nat) : Word :=
  let n : Fin 4 := Fin.ofNat 4 i
  if base = Reg.PWM_COUNT 0 then BitVec.ofNat 32 (s.viewCount n)
  else if base = Reg.PWM_ZEROL 0 then BitVec.ofNat 32 ((s.carrier n).zero / 32)
  else if base = Reg.PWM_ZEROH 0 then BitVec.ofNat 32 (capGet s.zcaps (4 * req + n) / 2 ^ 32)
  else s.reg a

/-- Gate channels 0-25 for which `p` holds, as bits. -/
def gateMask (p : Fin 26 → Bool) : Word :=
  (List.finRange 26).foldl (fun w g => if p g then w ||| (1#32 <<< g.val) else w) 0

/-- A register all of which only G0-G23 have (R311). -/
def legOnly (base i : Nat) : Bool := decide (24 ≤ i) && base == Reg.GATE_NTCRNOM 0

def State.viewGate (s : State) (a base i : Nat) : Word :=
  let g : Fin 26 := Fin.ofNat 26 i
  let w := s.reg a
  if legOnly base i then 0
  else if base = Reg.GATE_CFG 0 ∧ g = gDsc then
    withBits w [(0, 4, s.get (Reg.GATE_CFG_VP 24)), (4, 4, s.get (Reg.GATE_CFG_VN 24))]
  else if base = Reg.GATE_STAT 0 then
    withBits w ([(10, 1, flag (s.chOn s.tide g)), (11, 1, flag (s.clampOn g))] ++
      if 24 ≤ i ∧ !s.offUp g then [(13, 1, 0)] else [])
  else if base = Reg.GATE_STEP 0 ∧ !s.bit (Reg.GATE_CFG_MODE g) then
    withBits w [(0, 5, s.get (Reg.GATE_DRV_SRC g)), (8, 5, s.get (Reg.GATE_DRV_SNK g))]
  else if base = Reg.GATE_HOLD then gateMask fun g => (s.gate g).held
  else if base = Reg.GATE_LATCH then
    gateMask fun g => s.fm.active.any fun f => f.src == 16 + g.val && (fnCodes f.name).1 == 7 && f.latched
  else w

def State.viewAdc (s : State) (a base i : Nat) : Word :=
  if base = Reg.ADC_MAP 0 ∨ base = Reg.ADC_STATUS 0 then (s.advanceCluster s.tide (Fin.ofNat 4 i)).reg a
  else if base = Reg.ADC_VHVSTAT then withBits (s.reg a) [(1, 1, flag (s.isActive .vhvFail 3))]
  else s.reg a

/-- The entry that `BW_FQSEL` selects, in the order of R63. -/
def State.viewEntry (s : State) (base : Nat) : Word :=
  match s.fqView[s.get Reg.BW_FQSEL_INDEX]? with
  | none => 0
  | some e =>
    if base = Reg.BW_FQE0 then
      withBits 0 [(0, 16, faultCode e.name e.src), (16, 3, e.sev), (24, 1, flag e.cause), (25, 1, flag e.latched),
        (26, 1, flag e.retry)]
    else if base = Reg.BW_FQE1 then withBits 0 [(0, 3, e.mid), (8, 8, e.epoch), (16, 7, e.req)]
    else if base = Reg.BW_FQE2 then BitVec.ofNat 32 e.stamp
    else if base = Reg.BW_FQE3 then BitVec.ofNat 32 (e.stamp / 2 ^ 32)
    else BitVec.ofNat 32 e.detail

def State.viewBw (s : State) (a base : Nat) : Word :=
  let w := s.reg a
  if base = Reg.BW_STATUS then
    withBits w [(5, 1, flag s.uvArmed), (6, 1, flag s.bw.brkFailed), (9, 1, s.get Reg.PWR_STATUS_LOSS)]
  else if base = Reg.BW_BRKE then BitVec.ofNat 32 (s.bw.brkE / 1000)
  else if base = Reg.BW_DSCE then BitVec.ofNat 32 (s.bw.dscE / 1000)
  else if base = Reg.BW_THSTAT then
    withBits w [(0, 1, flag (s.isActive .thShutdown 4)), (3, 1, flag (s.isActive .thLatched 4)),
      (4, 2, min 3 (s.recentRestarts s.tide).length)]
  else if base = Reg.BW_FQSTAT then withBits w [(0, 7, s.fqView.length)]
  else if Reg.BW_FQE0 ≤ base ∧ base ≤ Reg.BW_FQE4 then s.viewEntry base
  else w

def State.viewLookout (s : State) (a base : Nat) : Word :=
  if base = Reg.LOOKOUT_STAGECRC then crc32c s.lk.staged
  else if base = Reg.LOOKOUT_SOUT then withBits (s.reg a) [(0, 1, flag s.so0On), (2, 1, flag s.so1On)]
  else if base = Reg.LOOKOUT_SIN then
    withBits (s.reg a) ((fin4.map fun (i : Fin 4) => (12 + i.val, 1, flag (s.isActive .lkSiDisc 2 i))) ++
      [(16, 1, flag (s.isActive .lkStoDisc 6))])
  else s.reg a

def State.viewBerth (s : State) (a base i : Nat) : Word :=
  if base = Reg.BERTH_IPENDL 0 then s.ipend i 0
  else if base = Reg.BERTH_IPENDH 0 then s.ipend i 32
  else if base = Reg.BERTH_K 0 then BitVec.ofNat 32 (s.get (Reg.BERTH_KOWN_OWNER i))
  else s.reg a

def State.viewEth (s : State) (a base i : Nat) : Word :=
  if base = Reg.ETH_PSTAT 0 ∧ i < 4 then withBits (s.reg a) [(3, 2, s.asRole (Fin.ofNat 4 i))]
  else if base = Reg.ETH_RINGPTR 0 ∧ !s.bit (Reg.ETH_RINGBASE_EN i) then 0
  else s.reg a

/-- Triple sampling is active (R386). -/
def State.tripAct (s : State) (c : Nat) : Bool :=
  s.bit (Reg.CAN_CTL_TRIPLE c) && decide (320 ≤ (s.get (Reg.CAN_NBT_BRP c) + 1) *
    (3 + s.get (Reg.CAN_NBT_TSEG1 c) + s.get (Reg.CAN_NBT_TSEG2 c)))

def State.viewCan (s : State) (a base : Nat) (ix : List Nat) : Word :=
  let c : Fin 4 := Fin.ofNat 4 (ix.headD 0)
  let q : Fin 2 := Fin.ofNat 2 (ix.getD 1 0)
  if base = Reg.CAN_STATUS 0 then withBits (s.reg a) [(24, 1, flag (s.tripAct c))]
  else if base = Reg.CAN_RXSTAT 0 0 then withBits (s.reg a) [(0, 7, ((s.canCtl c).rx[q]).length)]
  else if base = Reg.CAN_RXHEAD 0 0 0 then ((((s.canCtl c).rx[q]).headD []).getD (ix.getD 2 0) 0)
  else s.reg a

/-- The module's own entry shows it as a member while it is one (R441, R456). -/
def State.viewMoor (s : State) (a base i : Nat) : Word :=
  if base = Reg.MOOR_GSTAT then withBits (s.reg a) [(4, 1, flag s.joinPend)]
  else if base = Reg.MOOR_MEMBER 0 ∧ i = s.mid.val ∧ s.moorOn then
    let al := s.bit Reg.TIDE_STATUS_ALIGNED
    withBits 0 [(0, 1, flag (al && !s.ownDup && (s.isLead || s.bit (Reg.MOOR_MEMBER_PRESENT 0)))), (5, 1, flag al),
      (8, 8, s.epoch), (16, 3, s.modState)]
  else s.reg a

def State.viewPerf (s : State) (a base : Nat) (ix : List Nat) : Word :=
  let u : Fin 8 := Fin.ofNat 8 (ix.headD 0)
  let w := ix.getD 1 0
  let shown := (s.perf[u]).buf.filter fun r => s.released r.1 (perfStamp r.2)
  if base = Reg.PERF_SCTL 0 then withBits (s.reg a) [(24, 7, shown.length)]
  else if base = Reg.PERF_SBUF 0 0 then ((shown[w / 8]?).map fun r => r.2.getD (w % 8) 0).getD 0
  else s.reg a

/-- What a read of the register at local address `a` by `req` returns, for a register of the map with
first address `base` and indices `ix`. -/
def State.viewReg (s : State) (req a base : Nat) (ix : List Nat) : Word :=
  let i := ix.headD 0
  match a / 0x10000 with
  | 0x00 =>
    if base = Reg.SYS_MODID then BitVec.ofNat 32 (s.mid + 8 * flag (s.mid == 0))
    else if base = Reg.SYS_WHOAMI then BitVec.ofNat 32 req
    else s.reg a
  | 0x01 =>
    if base = Reg.TIDE_NOW_L then BitVec.ofNat 32 s.tide
    else if base = Reg.TIDE_NOW_H then BitVec.ofNat 32 (capGet s.caps req / 2 ^ 32)
    else if base = Reg.TIDE_DLDATA then s.viewLine
    else if base = Reg.TIDE_STATUS ∧ s.following then withBits (s.reg a) [(1, 1, 0)]
    else s.reg a
  | 0x02 => s.viewPwm req a base i
  | 0x03 => s.viewGate a base i
  | 0x04 => s.viewAdc a base i
  | 0x07 => s.viewBw a base
  | 0x08 => s.viewLookout a base
  | 0x09 => s.viewBerth a base i
  | 0x0A => s.viewEth a base i
  | 0x0B => s.viewCan a base ix
  | 0x0C => s.viewMoor a base i
  | 0x10 => s.viewPerf a base ix
  | _ => s.reg a

/-- The RC fields of a register are cleared by its read (R13). -/
def clearRc (fs : List FDesc) (w : Word) : Word :=
  fs.foldl (fun w f => if f.acc = .rc then wordSet w f.lo f.len 0 else w) w

/-- What a read of a register does beside returning its value: RC fields clear, captures are taken (R48,
R286), a free bollard is claimed (R408), the receiver's read of a message's last word empties the berth
(R406). -/
def State.readEffect (s : State) (req a : Nat) (d : RDesc) (ix : List Nat) : State :=
  let i := ix.headD 0
  let s := if d.fields.any fun f => f.acc = .rc then s.setReg a (clearRc d.fields (s.reg a)) else s
  if d.base = Reg.TIDE_NOW_L then s.tideCapture req
  else if d.base = Reg.PWM_ZEROL 0 then s.zeroCapture req (Fin.ofNat 4 i)
  else if d.base = Reg.BERTH_K 0 then (s.claimBollard req (Fin.ofNat 16 i)).1
  else if d.base = Reg.BERTH_MSG 0 0 ∧ ix.getD 1 0 = 15 ∧ s.get (Reg.BERTH_CFG_RECEIVER i) = req ∧ req ≠ 0 then
    s.berthTake (Fin.ofNat 32 i)
  else s

/-- Read a register of an implemented block (R41): an offset not listed reads as 0. -/
def State.readReg (s : State) (req a : Nat) : State × Word :=
  match findReg a with
  | none => (s, 0)
  | some (d, ix) => (s.readEffect req a d ix, s.viewReg req a d.base ix)

end Sys2Proof.Machine
end

