-- ==== Sys2Proof/Machine/Bus.lean ====
section
/-! DEFINITION. Accesses on the handshake fabric: the address map (R39-R41), access rights (R37, R38), access
errors (R13, R25, R26, R43), and writes to registers and memories with everything they do (R13-R15,
R125-R131). -/

namespace Sys2Proof.Machine

/-! ### Address map (R39, R40, R222) -/

/-- Where an address leads. -/
inductive Place where
  | reg (a : Nat)
  | noBlock
  | engine (n : Fin 4) (off : Nat)
  | sram (a : Nat)
  | dram (a : Nat)
  | supervisor (a : Nat)
  | rom (a : Nat)
  | flash (a : Nat)
  | ecc
  | remote (k : Fin 8) (off : Nat)
  | nowhere
  deriving DecidableEq, Repr

/-- The module's own addresses below the group windows. -/
def localPlace (a : Nat) : Place :=
  if a < 0x20000 then .rom a
  else if 0x10000000 ≤ a ∧ a < 0x10400000 then .sram a
  else if 0x20000000 ≤ a ∧ a < 0x20400000 then
    .engine (Fin.ofNat 4 ((a - 0x20000000) / 0x100000)) (a % 0x100000)
  else if 0x40000000 ≤ a ∧ a < 0x41000000 then
    (if a < 0x40120000 then .reg (a - 0x40000000) else .noBlock)
  else if 0x60000000 ≤ a ∧ a < 0x64000000 then .flash a
  else if 0x80000000 ≤ a ∧ a < 0x25C000000 then .dram a
  else if 0x25C000000 ≤ a ∧ a < 0x260000000 then .supervisor a
  else if 0x260000000 ≤ a ∧ a < 0x280000000 then .ecc
  else .nowhere

/-- What the window of a module reaches (R40): not its boot ROM, flash or DRAM. -/
def windowPlace (off : Nat) : Place :=
  match localPlace off with
  | .rom _ | .flash _ | .dram _ | .supervisor _ | .ecc => .nowhere
  | p => p

/-- Decode a 40-bit address. -/
def State.place (s : State) (a : Nat) : Place :=
  if 0x800000000 ≤ a ∧ a < 0xC00000000 then
    let k : Fin 8 := Fin.ofNat 8 ((a - 0x800000000) / 0x80000000)
    let off := a % 0x80000000
    if k = s.mid then windowPlace off
    else if s.bit Reg.MOOR_CTL_EN && (s.get Reg.MOOR_GSTAT_MASK).testBit k.val then
      match windowPlace off with
      | .nowhere => .nowhere
      | .noBlock => .noBlock
      | _ => .remote k off
    else .nowhere
  else localPlace a

/-! ### Access errors (R25, R26, R43) -/

/-- Code of a port error for an address of engine memory, laid out as `LE_PORTERRn` without VALID (R209, R222): the
space and entry at its offset. -/
def portCodeAt (addr : Nat) (write : Bool) : Nat :=
  let off := addr % 0x100000
  if off < 0x20000 then portCode 0 (off % 0x10000 / 4) write
  else if off < 0x30000 then portCode 1 (off % 0x10000 / 4) write
  else if off < 0x40000 then portCode 2 (off % 0x10000 / 4) write
  else portCode 3 ((off - 0x40000) / 4) write

/-- A loop engine receives the error as its sticky port-error flag, and continues (R26, R226). The entry and space
of its capture are those of the address (log entry 24). -/
def State.engineError (s : State) (req addr : Nat) (write : Bool) : State :=
  if 7 ≤ req ∧ req ≤ 10 then s.portErr s.tide (Fin.ofNat 4 (req - 7)) (portCodeAt addr write) else s

/-- An access error of a kind: counted, and the first one captured; an engine's requester sets its flag. -/
def State.accessError (s : State) (req addr kind : Nat) (write : Bool) : State :=
  let s := (s.engineError req addr write).incHold Reg.SYS_ACCERR_CNT_COUNT
  if s.bit Reg.SYS_ACCERR_VALID then s
  else s.sets [(Reg.SYS_ACCERR_REQ, req), (Reg.SYS_ACCERR_WRITE, flag write), (Reg.SYS_ACCERR_KIND, kind),
    (Reg.SYS_ACCERR_VALID, 1), (Reg.SYS_ACCERR_ADDL_ADDR, addr), (Reg.SYS_ACCERR_ADDH_ADDR, addr / 2 ^ 32)]

/-- How a write ends: taken, refused with an access error of a kind, or refused under R128 with a REASON,
by the budget manager (R460). -/
inductive WRes where
  | ok
  | err (kind : Nat)
  | refused (reason : Nat) (budget : Bool)
  deriving DecidableEq, Repr

def WRes.isRefused : WRes → Bool
  | .refused _ _ => true
  | _ => false

/-! ### Rights (R37, R38) -/

/-- The local number whose rights a requester has (R37, R38). -/
def role (req : Nat) : Nat := if req < 16 then req else (req - 16) % 12

/-- The module of a remote requester (R37). -/
def remoteOf (req : Nat) : Option Nat := if req < 16 then none else some ((req - 16) / 12)

/-- A requester number that is assigned (R37). -/
def assigned (req : Nat) : Bool :=
  let l := role req
  within 1 11 l && decide (req < 112)

/-- A remote requester's write is permitted by `MOOR_WEN` (R448). -/
def State.remoteOk (s : State) (req : Nat) : Bool :=
  match remoteOf req with
  | none => true
  | some k => (s.get Reg.MOOR_WEN_EN).testBit k && role req != 6

/-- Register blocks a requester may write (R38). -/
def State.mayWrite (s : State) (req code : Nat) : Bool :=
  let l := role req
  assigned req && s.remoteOk req &&
    (if l = 5 ∨ l = 11 then code != 8
     else if l = 6 then code == 8 || code == 7 || code == 4
     else if 1 ≤ l ∧ l ≤ 4 then (s.get Reg.SYS_ACWPERM_EN).testBit code
     else false)

/-- Registers that limit their writers further than the block table (R38, R134, R338, R389, R397, R399, R405,
R412, R467); `new` is the word the write would leave. -/
def State.mayWriteReg (s : State) (req a : Nat) (d : RDesc) (ix : List Nat) (new : Word) : Bool :=
  let l := role req
  let i := ix.headD 0
  let b := ix.getD 1 0
  let axcfg : Bool := d.base == Reg.BW_AXCFG 0
  let stosafe : Word := 0x20000
  if l = 6 then
    a / 0x10000 == 8 || d.base == Reg.BW_LKDEMAND || safetyTrim d.base b ||
      (axcfg && (new &&& ~~~stosafe) == (s.reg a &&& ~~~stosafe))
  else if d.base = Reg.BW_LKDEMAND then false
  else if axcfg then (new &&& stosafe) == (s.reg a &&& stosafe)
  else if d.base = Reg.CAN_TXID 0 0 ∨ d.base = Reg.CAN_TXCTL 0 0 ∨ d.base = Reg.CAN_TXDATA 0 0 0 then
    (if b = 14 then req == 5 else b != 15) &&
      (d.base == Reg.CAN_TXCTL 0 0 || !s.txPending (Fin.ofNat 4 i) (Fin.ofNat 16 b))
  else if d.base = Reg.BERTH_ACCTL 0 ∨ d.base = Reg.BERTH_ACBOOT 0 ∨ d.base = Reg.BERTH_KFREE ∨
      d.base = Reg.PWR_RESET then l == 5 || l == 11
  else if d.base = Reg.BERTH_ACFLT then within 1 4 l
  else if d.base = Reg.BERTH_MSG 0 0 then
    s.bit (Reg.BERTH_CFG_EN i) && s.get (Reg.BERTH_CFG_SENDER i) == req
  else true

/-! ### What a write leaves (R13, R14) -/

/-- The word after a write, field by field: RW fields take it, W1C bits clear, all others keep theirs. -/
def mergeWord (fs : List FDesc) (old w : Word) : Word :=
  fs.foldl (fun acc f =>
    match f.acc with
    | .rw => wordSet acc f.lo f.len (wordGet w f.lo f.len)
    | .w1c => wordSet acc f.lo f.len (wordGet (old &&& ~~~w) f.lo f.len)
    | _ => acc) old

/-- Bits of single registers that writes do not reach: fixed zeros of `SYS_ACWPERM`, the fixed
configuration of B0-B8 (R404), the mirrored rail setting of G25 (R287), MODE, BOOT, SRCMIN and TON where a channel has none (R311). -/
def fixedBits (base i : Nat) : Word :=
  if base = Reg.SYS_ACWPERM then 0x0000818F
  else if base = Reg.BERTH_CFG 0 then (if i < 8 then 0x00017F7F else if i = 8 then 0x00007F00 else 0)
  else if base = Reg.GATE_CFG 0 then
    (if i = 25 then 0x000003FF else if i = 24 then 0x00000300 else if i % 2 = 1 then 0x00000200 else 0)
  else if base = Reg.GATE_ADAPT 0 ∧ 24 ≤ i then 0x0000001F
  else if base = Reg.GATE_TGT 0 ∧ 24 ≤ i then 0x000001FF
  else 0

def newWord (d : RDesc) (ix : List Nat) (old w : Word) : Word :=
  let keep := fixedBits d.base (ix.headD 0)
  (mergeWord d.fields old w &&& ~~~keep) ||| (old &&& keep)

/-! ### Refusals (R125-R128) -/

/-- The owner of a Stopped field of the register at `a` is stopped (R127). -/
def State.ownerStopped (s : State) (ap : Applies) (a : Nat) (ix : List Nat) : Bool :=
  let i := ix.headD 0
  let off := a % 0x10000
  match ap with
  | .stoppedAxis =>
    let n : Fin 4 :=
      match a / 0x10000 with
      | 0x02 => if off < 0x800 then Fin.ofNat 4 (off / 0x100) else s.axisOfLeg (Fin.ofNat 12 i)
      | 0x04 => s.axisOfCluster (Fin.ofNat 4 i)
      | _ => Fin.ofNat 4 i
    (s.axis n).st.stopped
  | .stoppedOwner => if i < 24 then (s.axis (s.axisOfLeg (Fin.ofNat 12 (i / 2)))).st.stopped else s.modStopped
  | .stoppedModule => s.modStopped
  | .stoppedPort => !s.bit (Reg.ETH_PCFG_EN i)
  | .stoppedRing => !s.bit (Reg.ETH_RINGBASE_EN i)
  | .stoppedLogbook => !s.bit Reg.LOGB_CTL_EN
  | .stoppedCtrl => !s.bit (Reg.CAN_CTL_EN i)
  | .boot => false
  | .none | .live | .reload => true

/-- A field whose value a write would change against its Applies attribute (R128): 2 for a Boot field, 1
for a Stopped field. -/
def State.appliesBad (s : State) (a : Nat) (d : RDesc) (ix : List Nat) (new : Word) : Option Nat :=
  let old := s.reg a
  d.fields.findSome? fun f =>
    if f.acc = .rw ∧ wordGet old f.lo f.len ≠ wordGet new f.lo f.len then
      match f.applies with
      | .none | .live | .reload => none
      | .boot => some 2
      | ap => if s.ownerStopped ap a ix then none else some 1
    else none

/-- Writes that a rule refuses by the state of the axis (R157, R227, R279). -/
def State.stateBad (s : State) (base i : Nat) (old w : Word) : Bool :=
  let n : Fin 4 := Fin.ofNat 4 i
  if base = Reg.PWM_FORCE 0 then (s.axis n).st != .diag
  else if base = Reg.LE_CTL 0 then w.getLsbD 1 && (s.axis n).st.closed
  else if base = Reg.ADC_TEST 0 then
    (s.axis (s.axisOfCluster n)).st == .hold && !old.getLsbD 15 && w.getLsbD 15
  else false

/-- Axis whose reservation a write of a register changes, from the word `old` to `new`: PERIOD, VP, VN, BOOT or QG gets
another value (R460). -/
def State.budgetAxis (s : State) (base i : Nat) (old new : Word) : Option (Fin 4) :=
  let mask : Word := if base = Reg.GATE_CFG 0 then 0x2FF else 0xFFFFFFFF
  if old &&& mask = new &&& mask then none
  else if base = Reg.PWM_PERIOD 0 then some (Fin.ofNat 4 i)
  else if (base = Reg.GATE_CFG 0 ∨ base = Reg.GATE_QG 0) ∧ i < 24 then
    some (s.axisOfLeg (Fin.ofNat 12 (i / 2)))
  else none

/-- The refusal of a write under R128, with its REASON, and whether it comes from the budget manager.
`start`: the write is a record of the Manifest applied at start, which no Applies attribute limits
(R120); a record for `PWM_FORCEn` is refused all the same, since no axis is in DIAG then (R279). -/
def State.refusal (s : State) (start : Bool) (req a : Nat) (d : RDesc) (ix : List Nat) (w new : Word) :
    Option (Nat × Bool) :=
  let i := ix.headD 0
  let s' := s.setReg a new
  if safetyTrim d.base (ix.getD 1 0) && role req != 6 then some (8, false)
  else if (!start || d.base == Reg.PWM_FORCE 0) && s.stateBad d.base i (s.reg a) w then some (1, false)
  else
    match (if start ∨ role req = 6 then none else s.appliesBad a d ix new) with
    | some r => some (r, false)
    | none =>
      if s'.trimBad a d.base then some (4, false)
      else if !s'.valuesOk a d.base ix then some (3, false)
      else
        match s.budgetAxis d.base i (s.reg a) new with
        | some n =>
          if s.pwr.res[n] != .none && (s'.shortfall s.pwr.res).isSome then some (3, true)
          else none
        | none => none

/-- CFG_REJECT of a register (R129). -/
def State.cfgReject (s : State) (req reason a : Nat) : State :=
  s.raise .cfgReject 58 (reason * 2 ^ 24 + a / 0x10000 * 2 ^ 16 + a % 0x10000) s.tide (req := req)

/-! ### What an accepted write does beside storing its word -/

def State.wrotePwm (s : State) (base i : Nat) (old : Word) : State :=
  let t := s.tide
  let n : Fin 4 := Fin.ofNat 4 i
  if base = Reg.PWM_CTL 0 then
    s.carrierWritten t n (old.getLsbD 0) ((old &&& 0xF2) != (s.reg (Reg.PWM_CTL n) &&& 0xF2))
  else if base = Reg.PWM_PERIOD 0 then
    (s.carrierWritten t n (s.bit (Reg.PWM_CTL_EN n)) (old != s.reg (Reg.PWM_PERIOD n))).reBudget
  else if base = Reg.PWM_PHASE 0 then
    s.carrierWritten t n (s.bit (Reg.PWM_CTL_EN n)) (old != s.reg (Reg.PWM_PHASE n))
  else if base = Reg.PWM_FORCE 0 then s.forceWritten t n
  else if base = Reg.PWM_TRIP 0 then s.tripWritten t (Fin.ofNat 8 i) (old.getLsbD 0)
  else s

/-- The present steps are those of `GATE_DRVg` (R291, R292). -/
def State.stepsFromDrv (s : State) (i : Nat) : State :=
  s.sets [(Reg.GATE_STEP_SRC i, s.get (Reg.GATE_DRV_SRC i)), (Reg.GATE_STEP_SNK i, s.get (Reg.GATE_DRV_SNK i))]

def State.wroteGate (s : State) (base i : Nat) (old : Word) : State :=
  if base = Reg.GATE_DRV 0 then s.stepsFromDrv i
  else if base = Reg.GATE_CFG 0 then
    let s := if s.bit (Reg.GATE_CFG_MODE i) then s else s.stepsFromDrv i
    (s.bootWritten (Fin.ofNat 26 i) (old.getLsbD 9)).reBudget
  else if base = Reg.GATE_QG 0 then s.reBudget
  else s

def State.wroteBw (s : State) (base : Nat) (w : Word) : State :=
  let t := s.tide
  if base = Reg.BW_DSCCTL then s.dscWritten t w
  else if base = Reg.BW_BRKCFG then s.brkStep t false
  else if base = Reg.BW_AXCFG 0 then s.settle t
  else if base = Reg.BW_LKDEMAND then s.putLkDemand t (s.reg Reg.BW_LKDEMAND)
  else if base = Reg.BW_GTRIP then (if s.bit Reg.BW_GTRIP_EN then s else s.set Reg.BW_GTRIP_DRIVE 0)
  else if base = Reg.BW_FQSTAT then (if w.getLsbD 7 then s.set Reg.BW_FQSTAT_LOST 0 else s)
  else if base = Reg.BW_FQCLR then
    (if s.clearWaits then s else (s.findGone.faultClear none (wordGet w 0 16)).1.leaveSafe)
  else s

def State.wroteEth (s : State) (base i : Nat) (w : Word) : State :=
  let t := s.tide
  if base = Reg.ETH_GCTL 0 then (if w.getLsbD 31 ∧ i < 4 then s.swapWritten t (Fin.ofNat 4 i) else s)
  else if base = Reg.ETH_ASGMSEC then s.gmSecWritten t
  else if base = Reg.ETH_RINGPTR 0 then (if 4 ≤ i then s.tailWritten t (Fin.ofNat 4 (i - 4)) else s)
  else if base = Reg.ETH_RINGBASE 0 then
    (if s.bit (Reg.ETH_RINGBASE_EN i) then (if 4 ≤ i then s.tailWritten t (Fin.ofNat 4 (i - 4)) else s)
     else s.sets [(Reg.ETH_RINGPTR_HEAD i, 0), (Reg.ETH_RINGPTR_TAIL i, 0)])
  else s

def State.wroteCan (s : State) (base : Nat) (ix : List Nat) (old w : Word) : State :=
  let c : Fin 4 := Fin.ofNat 4 (ix.headD 0)
  let b := ix.getD 1 0
  if base = Reg.CAN_CTL 0 then s.canEnWritten c (old.getLsbD 0)
  else if base = Reg.CAN_TXCTL 0 0 then s.txctlWritten c (Fin.ofNat 16 b) w
  else if base = Reg.CAN_RXPOP 0 0 then (if w.getLsbD 0 then s.rxPop c (Fin.ofNat 2 b) else s)
  else if base = Reg.CAN_RXSTAT 0 0 then (if w.getLsbD 7 then s.set (Reg.CAN_RXSTAT_LOST c b) 0 else s)
  else s

/-- Words of a berth by its sender (R405); the doorbell of a receiver on another module (R449). -/
def State.wroteMessage (s : State) (b : Fin 32) (i : Fin 16) (w : Word) : State :=
  let full := s.bit (Reg.BERTH_STAT_FULL b)
  let s := s.berthSend b i w
  let r := s.get (Reg.BERTH_CFG_RECEIVER b)
  match reqModule r with
  | some m => if i = 15 ∧ !full then s.sendTo (Fin.ofNat 8 m) 4 [b, r] else s
  | none => s

def State.wroteBerth (s : State) (req base : Nat) (ix : List Nat) (old w : Word) : State :=
  let t := s.tide
  let i := ix.headD 0
  if base = Reg.BERTH_CFG 0 then s.berthConfigured i old
  else if base = Reg.BERTH_KFREE then s.kfreeWritten t w
  else if base = Reg.BERTH_ACFLT then s.acFault t w req
  else if base = Reg.BERTH_TCMPL 0 ∨ base = Reg.BERTH_TCMPH 0 then
    (if i < 4 then s.timerLevel (Fin.ofNat 4 i) else s)
  else if base = Reg.BERTH_ACCTL 0 then s.runWritten t (Fin.ofNat 4 i) (old.getLsbD 0)
  else s

def State.wroteLogb (s : State) (base : Nat) (old w : Word) : State :=
  if base = Reg.LOGB_CTL then
    if s.bit Reg.LOGB_CTL_EN then (if w.getLsbD 1 then s.logTriggerNow s.tide else s)
    else if old.getLsbD 0 then s.logIdle
    else s
  else s

def State.wroteMoor (s : State) (base : Nat) (old : Word) : State :=
  if base = Reg.MOOR_CTL then s.moorWritten s.tide (old.getLsbD 0)
  else if base = Reg.MOOR_GCFG then s.reForm
  else if base = Reg.MOOR_RDB 0 then
    s.set Reg.MOOR_IRQ_DOORBELL (flag ((List.range 8).any fun m => s.reg (Reg.MOOR_RDB m) != 0))
  else s

/-- TRIMEN cleared puts the core rail at VMAX (R57). Clearing ASEN is not in R72: ASLOCK and ASHOLD go, and the next
start captures the base anew (DESIGN CHOICE, log entry 56). -/
def State.wroteTide (s : State) (base : Nat) : State :=
  if base = Reg.TIDE_CTL then
    let s := if s.bit Reg.TIDE_CTL_TRIMEN then s
      else s.set Reg.TIDE_RAIL_VCODE (s.get Reg.TIDE_RAIL_VMAX)
    if s.bit Reg.TIDE_CTL_ASEN then s
    else { s with asd := {} }.sets [(Reg.TIDE_STATUS_ASLOCK, 0), (Reg.TIDE_STATUS_ASHOLD, 0)]
  else s

def State.wroteFbk (s : State) (base i : Nat) (old : Word) : State :=
  let n : Fin 4 := Fin.ofNat 4 i
  let m := wordGet old 0 3
  if base = Reg.FBK_MODE 0 then
    s.fbModeWritten n (old.getLsbD 4 && (m == 1 || m == 2 || m == 4)) m
  else if base = Reg.FBK_CPR 0 then s.cprWritten n
  else if base = Reg.FBK_EOFS 0 then s.eofsWritten n
  else s

def State.wroteLe (s : State) (base i : Nat) (old w : Word) : State :=
  let n : Fin 4 := Fin.ofNat 4 i
  if base = Reg.LE_CTL 0 then
    let s := if old.getLsbD 0 != s.bit (Reg.LE_CTL_PILOTEN n) then s.unloadProgram n else s
    if w.getLsbD 1 then s.goWritten s.tide n else s
  else if base = Reg.LE_ENTRY 0 then s.unloadProgram n
  else s

/-- Everything an accepted write of `w` over `old` does beside storing its word. -/
def State.wrote (s : State) (req a : Nat) (d : RDesc) (ix : List Nat) (old w : Word) : State :=
  let i := ix.headD 0
  match a / 0x10000 with
  | 0x01 => s.wroteTide d.base
  | 0x02 => s.wrotePwm d.base i old
  | 0x03 => s.wroteGate d.base i old
  | 0x04 =>
    if d.base = Reg.ADC_TEST 0 then
      s.testWritten s.tide (Fin.ofNat 4 i) (old.getLsbD 15) (wordGet old 12 3)
    else s
  | 0x05 => s.wroteFbk d.base i old
  | 0x06 => s.wroteLe d.base i old w
  | 0x07 => s.wroteBw d.base w
  | 0x09 => s.wroteBerth req d.base ix old w
  | 0x0A => s.wroteEth d.base i w
  | 0x0B => s.wroteCan d.base ix old w
  | 0x0C => s.wroteMoor d.base old
  | 0x0D => s.wroteLogb d.base old w
  | 0x0F =>
    if d.base = Reg.PWR_RESET ∧ wordGet w 0 16 = 0xB007 then s.updPwr fun p => { p with restart := true } else s
  | 0x10 => if d.base = Reg.PERF_SCTL 0 ∧ w.getLsbD 18 then s.perfClear (Fin.ofNat 8 i) else s
  | 0x11 => if d.base = Reg.ARB_SEED then s.seedArbiters else s
  | _ => s

/-- Reload fields keep their value in force until the next reload of a running carrier (R125, R126). -/
def State.keepInForce (s : State) (a : Nat) (d : RDesc) (i : Nat) (new : Word) : State :=
  if d.fields.any fun f => f.applies = .reload then
    let off := a % 0x10000
    let n : Fin 4 := if off < 0x800 then Fin.ofNat 4 (off / 0x100) else s.axisOfLeg (Fin.ofNat 12 i)
    if s.running n then
      s.updCarrier n fun c =>
        let old := (c.eff.find? fun e => e.1 == a).map Prod.snd
        { c with eff := (a, EffWord.write old (s.reg a) s.tide new) :: c.eff.filter fun e => e.1 != a }
    else s
  else s

/-- A write of the PWM or GATE block acts on edges after it alone: those before it leave first (R291). -/
def State.placeFirst (s : State) (a : Nat) : State :=
  if a / 0x10000 = 2 ∨ a / 0x10000 = 3 then s.driveNow else s

/-- The address of a register. -/
def regAddr (a : Nat) : Nat := 0x40000000 + a

/-- Write a register that is in the map, accessed at `addr`. -/
def State.writeListed (s : State) (start : Bool) (req a : Nat) (d : RDesc) (ix : List Nat) (w : Word)
    (addr : Nat := regAddr a) : State × WRes :=
  let old := s.reg a
  let i := ix.headD 0
  let new := newWord d ix old w
  let bad := s.accessError req addr 2 true
  if !s.mayWriteReg req a d ix new then (bad, .err 2)
  else if legOnly d.base i then (s, .ok)
  else if d.base = Reg.BERTH_K 0 then (s.putBollard req (Fin.ofNat 16 i) w, .ok)
  else if d.base = Reg.BERTH_MSG 0 0 then
    (s.wroteMessage (Fin.ofNat 32 i) (Fin.ofNat 16 (ix.getD 1 0)) w, .ok)
  else
    match s.refusal start req a d ix w new with
    | some (r, b) => (s.cfgReject req r a, .refused r b)
    | none => ((((s.placeFirst a).keepInForce a d i new).setReg a new).wrote req a d ix old w, .ok)

/-- Write a register by a requester, accessed at `addr` (R13, R38, R41, R128). Outside its own block Lookout may
write the registers of R38 alone. -/
def State.writeReg (s : State) (req a : Nat) (w : Word) (addr : Nat := regAddr a) : State × WRes :=
  if !s.mayWrite req (a / 0x10000) then (s.accessError req addr 2 true, .err 2)
  else
    match findReg a with
    | none =>
      if role req = 6 ∧ a / 0x10000 ≠ 8 then (s.accessError req addr 2 true, .err 2) else (s, .ok)
    | some (d, ix) => s.writeListed false req a d ix w addr

/-! ### Engine memories (R131, R222-R224) -/

/-- Half `hi` of a program word. -/
def half (w : Word64) (hi : Bool) : Word := if hi then (w >>> 32).setWidth 32 else w.setWidth 32

def setHalf (w : Word64) (hi : Bool) (x : Word) : Word64 :=
  if hi then x ++ w.setWidth 32 else (w >>> 32).setWidth 32 ++ x

/-- The word at an offset of engine memory `n`. -/
def State.readEngine (s : State) (n : Fin 4) (off : Nat) : Word :=
  if off < 0x10000 then half (stoGet (s.engine n).prog (off / 8) 0) (off / 4 % 2 == 1)
  else if off < 0x14000 then s.coefEntry n ((off - 0x10000) / 4)
  else if 0x20000 ≤ off ∧ off < 0x24000 then s.stateEntry n ((off - 0x20000) / 4)
  else if 0x30000 ≤ off ∧ off < 0x30400 then s.portEntry n ((off - 0x30000) / 4)
  else if 0x40000 ≤ off then s.bufEntry n ((off - 0x40000) / 4)
  else 0

/-- A write into engine memory `n` by a requester other than LEn: none where it is not permitted (R131,
R224). A changed program store is no longer loaded (R260). -/
def State.writeEngine (s : State) (n : Fin 4) (off : Nat) (w : Word) : Option State :=
  let closed := (s.axis n).st.closed
  if off < 0x10000 then
    if closed then none
    else some ((s.updEng n fun e =>
      { e with prog := stoPut e.prog (off / 8) (setHalf (stoGet e.prog (off / 8) 0) (off / 4 % 2 == 1) w) 0
        }).unloadProgram n)
  else if off < 0x14000 then if closed then none else some (s.setCoef n ((off - 0x10000) / 4) w)
  else if 0x20000 ≤ off ∧ off < 0x24000 then if closed then none else some (s.setState n ((off - 0x20000) / 4) w)
  else if 0x30000 ≤ off ∧ off < 0x30400 then
    let x := (off - 0x30000) / 4
    if 192 ≤ x ∧ x < 224 then some (s.setPort n x w) else none
  else if 0x40000 ≤ off then some (s.setBuf n ((off - 0x40000) / 4) w)
  else some s

/-! ### Accesses (R13, R26, R38) -/

/-- Little-endian word of memory. -/
def State.memWord (s : State) (a : Nat) : Word := BitVec.ofNat 32 (leNat (s.bytes a 4))

/-- A read of memory. On an uncorrectable error the Mooring link carries zeros, and a core takes an access fault, which
is no access error (R401): 5 stands for it. -/
def State.memRead (s : State) (req a : Nat) : State × Except Nat Word :=
  match s.eccIn a 4 with
  | none => (s, .ok (s.memWord a))
  | some x => (s.eccFatal s.tide x, if (reqModule req).isSome then .ok 0 else .error 5)

/-- A requester may write plain memory (R38). -/
def State.mayWriteMem (s : State) (req : Nat) : Bool :=
  let l := role req
  assigned req && s.remoteOk req && (within 1 5 l || l == 11)

/-- How another module answers a remote access: an access error of a kind, or none (R26, R448). The answer is free, as
that module gives it (log entry 7). -/
def remoteKind (v : Nat) : Option Nat :=
  match v % 5 with
  | 0 => some 0
  | 1 => some 1
  | 2 => some 2
  | 3 => some 4
  | _ => none

/-- Write a word at an address. -/
def State.busWrite (s : State) (req addr width : Nat) (w : Word) : State × WRes :=
  let err (k : Nat) : State × WRes := (s.accessError req addr k true, .err k)
  match s.place addr with
  | .reg a => if width ≠ 4 ∨ addr % 4 ≠ 0 then err 1 else s.writeReg req a w addr
  | .noBlock => err 4
  | .engine n off =>
    if !(assigned req && s.remoteOk req) || within 7 10 (role req) then err 2
    else match s.writeEngine n off w with
      | some s' => (s', .ok)
      | none => err 2
  | .sram a | .dram a =>
    if s.mayWriteMem req && s.writableMem a 4 then (s.setBytes a (leBytes 4 w.toNat), .ok) else err 2
  | .supervisor a => if req = 5 then (s.setBytes a (leBytes 4 w.toNat), .ok) else err 2
  | .rom _ | .flash _ | .ecc => err 2
  | .remote k off =>
    if role req = 6 ∨ within 7 10 (role req) then err 2
    else
      let (v, s) := (s.sendTo k 7 [off, width, w.toNat, s.groupReq req]).freeNat
      match remoteKind v with
      | some e => (s.accessError req addr e true, .err e)
      | none => (s, .ok)
  | .nowhere => err 0

/-- Read a word at an address: the error kind where the access fails. What another module answers is a
free value (log entry 7). -/
def State.busRead (s : State) (req addr width : Nat) : State × Except Nat Word :=
  let err (k : Nat) : State × Except Nat Word := (s.accessError req addr k false, .error k)
  match s.place addr with
  | .reg a =>
    if width ≠ 4 ∨ addr % 4 ≠ 0 then err 1 else let (s, w) := s.readReg req a; (s, .ok w)
  | .noBlock => err 4
  | .engine n off => (s, .ok (s.readEngine n off))
  | .sram a | .dram a | .flash a => s.memRead req a
  | .rom a => (s, .ok (BitVec.ofNat 32 (leNat ((List.range 4).map fun i => Config.romByte (a + i)))))
  | .supervisor a => if req = 5 then s.memRead req a else err 2
  | .remote k off =>
    if within 7 10 (role req) then err 2
    else
      let (v, s) := (s.sendTo k 8 [off, width, s.groupReq req]).freeNat
      let (w, s) := s.freeWord
      match remoteKind v with
      | some e => (s.accessError req addr e false, .error e)
      | none => (s, .ok w)
  | .ecc | .nowhere => err 0

/-! ### Commands that are accesses -/

/-- An access by a requester begins at `t`. -/
def State.busAt (s : State) (t req : Nat) (store : Bool) : State := (s.upto t).coreAccess t req store

/-- A write of a register by a requester, at `t`. -/
def regWriteAt (t req a : Nat) (w : Word) (s : State) : State := ((s.busAt t req true).busWrite req (regAddr a) 4 w).1

/-- A read of a register by a requester, at `t`. -/
def regReadAt (t req a : Nat) (s : State) : State := ((s.busAt t req false).busRead req (regAddr a) 4).1

def execTideNowLRead (t req : Nat) (s : State) : Res := .next ((s.busAt t req false).tideCapture req)
def execPwmZerolRead (t req : Nat) (n : Fin 4) (s : State) : Res := .next ((s.busAt t req false).zeroCapture req n)
def execReadClearAccess (t req addr : Nat) (s : State) : Res := .next ((s.busAt t req false).busRead req addr 4).1
def execEngineMemoryWrite (t req addr : Nat) (w : Word) (s : State) : Res :=
  .next ((s.busAt t req true).busWrite req addr 4 w).1
def execAccessErrorRead (t req addr width : Nat) (s : State) : Res :=
  .next ((s.busAt t req false).busRead req addr width).1

/-- The address of an offset of this module's group window (R40). -/
def State.ownWindow (s : State) (off : Nat) : Nat := 0x800000000 + s.mid.val * 0x80000000 + off % 0x80000000

/-- The answer to a remote access: the kind of an access error or 255, and the word read (R448). -/
def State.remoteAnswer (s : State) (back : Fin 8) (req : Nat) : Except Nat Word → State
  | .ok v => s.sendTo back 11 [req, 255, v.toNat]
  | .error k => s.sendTo back 11 [req, k, 0]

/-- What a write answers: the kind of its access error, or nothing read. -/
def WRes.toAnswer : WRes → Except Nat Word
  | .err k => .error k
  | _ => .ok 0

/-- The access that a request of another module makes here, and its answer (R448). -/
def State.remoteServe (s : State) (back : Fin 8) (req a : Nat) (write : Bool) (w : Word) : State :=
  if write then
    let x := s.busWrite req a 4 w
    x.1.remoteAnswer back req x.2.toAnswer
  else
    let x := s.busRead req a 4
    x.1.remoteAnswer back req x.2

/-- REMOTE_ACCESS: an access from a requester of another module through this module's group window (R448). The loop
engines of other modules make none. -/
def remoteAccess (t req addr : Nat) (write : Bool) (w : Word) (s : State) : State :=
  let s := s.upto t
  if within 7 10 (role req) then s
  else s.remoteServe (Fin.ofNat 8 ((reqModule req).getD 0)) req (s.ownWindow addr) write w

/-- An access that Harbourmaster made for the host has ended: its command replies ERR_RANGE (R26). -/
def State.hostError (s : State) (req addr : Nat) (write : Bool) : State :=
  if role req = 11 then s.updHm fun h => { h with timedOut := some (req, addr, write) } else s

/-- FABRIC_WATCHDOG_EXPIRY: a target has not acknowledged within 4096 ticks (R25, R26). -/
def fabricWatchdog (t req addr : Nat) (write : Bool) (s : State) : State :=
  (((s.upto t).accessError req addr 3 write).hostError req addr write).raise .fabricTimeout 56 0 t

def execFabricWatchdogExpiry (t req addr : Nat) (write : Bool) (s : State) : Res :=
  .next (fabricWatchdog t req addr write s)

def execCarrierEnable (t req : Nat) (n : Fin 4) (w : Word) (s : State) : Res :=
  .next (regWriteAt t req (Reg.PWM_CTL n) w s)
def execCarrierDisable (t req : Nat) (n : Fin 4) (w : Word) (s : State) : Res :=
  .next (regWriteAt t req (Reg.PWM_CTL n) w s)
def execGoPass (t req : Nat) (n : Fin 4) (w : Word) (s : State) : Res :=
  .next (regWriteAt t req (Reg.LE_CTL n) w s)
def execPwmForceWrite (t req : Nat) (n : Fin 4) (w : Word) (s : State) : Res :=
  .next (regWriteAt t req (Reg.PWM_FORCE n) w s)
def execDscRequest (t req : Nat) (w : Word) (s : State) : Res := .next (regWriteAt t req Reg.BW_DSCCTL w s)
def execDscStopWrite (t req : Nat) (w : Word) (s : State) : Res := .next (regWriteAt t req Reg.BW_DSCCTL w s)
def execBwLkdemandWrite (t req : Nat) (w : Word) (s : State) : Res :=
  .next (regWriteAt t req Reg.BW_LKDEMAND w s)

/-- BW_FQCLR_WRITE: as FAULT_CLEAR on the module, with the causes it finds gone (R107, R338). -/
def bwFqclr (t req : Nat) (w : Word) (gone : List (FName × Nat × Nat)) (s : State) : State :=
  (regWriteAt t req Reg.BW_FQCLR w (s.updFm fun m => { m with found := some gone })).updFm fun m => { m with found := none }

def execBwFqclrWrite (t req : Nat) (c : ClearIn) (s : State) : Res := .next (bwFqclr t req c.w c.gone s)
def execGateListSwapRequest (t req : Nat) (p : Fin 4) (w : Word) (s : State) : Res :=
  .next (regWriteAt t req (Reg.ETH_GCTL p) w s)
def execEthAsgmsecWrite (t req : Nat) (w : Word) (s : State) : Res :=
  .next (regWriteAt t req Reg.ETH_ASGMSEC w s)
def execTxRingTailWrite (t req : Nat) (r : Fin 4) (w : Word) (s : State) : Res :=
  .next (regWriteAt t req (Reg.ETH_RINGPTR (r + 4)) w s)
def execCanTxArm (t req : Nat) (c : Fin 4) (b : Fin 16) (w : Word) (s : State) : Res :=
  .next (regWriteAt t req (Reg.CAN_TXCTL c b) w s)
def execCanTxAbort (t req : Nat) (c : Fin 4) (b : Fin 16) (w : Word) (s : State) : Res :=
  .next (regWriteAt t req (Reg.CAN_TXCTL c b) w s)
def execCanRxPop (t req : Nat) (c : Fin 4) (q : Fin 2) (w : Word) (s : State) : Res :=
  .next (regWriteAt t req (Reg.CAN_RXPOP c q) w s)
def execCanDisable (t req : Nat) (c : Fin 4) (w : Word) (s : State) : Res :=
  .next (regWriteAt t req (Reg.CAN_CTL c) w s)
def execCoreStart (t req : Nat) (r : Fin 4) (w : Word) (s : State) : Res :=
  .next (regWriteAt t req (Reg.BERTH_ACCTL r) w s)
def execCoreReset (t req : Nat) (r : Fin 4) (w : Word) (s : State) : Res :=
  .next (regWriteAt t req (Reg.BERTH_ACCTL r) w s)
def execBerthAcfltWrite (t req : Nat) (w : Word) (s : State) : Res :=
  .next (regWriteAt t req Reg.BERTH_ACFLT w s)
def execBerthMessageWrite (t req : Nat) (b : Fin 32) (i : Fin 16) (w : Word) (s : State) : Res :=
  .next (regWriteAt t req (Reg.BERTH_MSG b i) w s)
def execBerthReceiveRead (t req : Nat) (b : Fin 32) (s : State) : Res :=
  .next (regReadAt t req (Reg.BERTH_MSG b 15) s)
def execBerthCfgWrite (t req : Nat) (b : Fin 32) (w : Word) (s : State) : Res :=
  .next (regWriteAt t req (Reg.BERTH_CFG b) w s)
def execBollardClaimRead (t req : Nat) (k : Fin 16) (s : State) : Res :=
  .next (regReadAt t req (Reg.BERTH_K k) s)
def execBollardWrite (t req : Nat) (k : Fin 16) (w : Word) (s : State) : Res :=
  .next (regWriteAt t req (Reg.BERTH_K k) w s)
def execBollardFreeWrite (t req : Nat) (w : Word) (s : State) : Res :=
  .next (regWriteAt t req Reg.BERTH_KFREE w s)
def execArbSeedWrite (t req : Nat) (w : Word) (s : State) : Res := .next (regWriteAt t req Reg.ARB_SEED w s)
def execLogbTrigWrite (t req : Nat) (w : Word) (s : State) : Res := .next (regWriteAt t req Reg.LOGB_CTL w s)
def execLogbDisable (t req : Nat) (w : Word) (s : State) : Res := .next (regWriteAt t req Reg.LOGB_CTL w s)
def execPerfSampleClear (t req : Nat) (u : Fin 8) (w : Word) (s : State) : Res :=
  .next (regWriteAt t req (Reg.PERF_SCTL u) w s)

end Sys2Proof.Machine
end

