-- ==== Sys2Proof/Machine/Manifest.lean ====
section
/-! DEFINITION. Applying a Manifest image (R115, R116, R119, R120, R130, R138), and building the image of a
commit (R122, R137). -/

namespace Sys2Proof.Machine

/-- CFG_REJECT of element `i` of an image (R129). -/
def State.elemReject (s : State) (reason i : Nat) : State :=
  s.raise .cfgReject 58 (reason * 2 ^ 24 + 0xFF * 2 ^ 16 + i % 2 ^ 16) s.tide (req := 5)

/-! ### Register records (R115) -/

/-- All bits of a field are set in a mask. -/
def coveredBy (mask : Word) (f : FDesc) : Bool := wordGet mask f.lo f.len == 2 ^ f.len - 1

/-- A field that no write reaches. -/
def FDesc.readOnly (f : FDesc) : Bool := f.acc == .ro || f.acc == .rc

/-- The record covers a field in part, or has another value for a read-only or fixed field. -/
def State.recordBad (s : State) (a : Nat) (d : RDesc) (ix : List Nat) (mask value : Word) : Bool :=
  let now := s.viewReg 5 a d.base ix
  d.fields.any fun f =>
    if coveredBy mask f then
      (f.readOnly || coveredBy (fixedBits d.base (ix.headD 0)) f) && wordGet value f.lo f.len != wordGet now f.lo f.len
    else wordGet mask f.lo f.len != 0

/-- The word that writes the covered fields and leaves the others. -/
def State.recordWord (s : State) (a : Nat) (d : RDesc) (mask value : Word) : Word :=
  d.fields.foldl (fun w f =>
    if coveredBy mask f then wordSet w f.lo f.len (wordGet value f.lo f.len)
    else if f.acc = .rw then wordSet w f.lo f.len (wordGet (s.reg a) f.lo f.len)
    else w) 0

/-- Write the word of a record, where the record covers a writable field (R115, R119). -/
def State.writeRecord (s : State) (start : Bool) (addr : Nat) (d : RDesc) (ix : List Nat) (mask value : Word) :
    State × WRes :=
  let a := addr - 0x40000000
  if d.fields.any (fun f => coveredBy mask f && !f.readOnly) then
    if s.mayWrite 5 (a / 0x10000) then s.writeListed start 5 a d ix (s.recordWord a d mask value)
    else (s.accessError 5 addr 2 true, .err 2)
  else (s, .ok)

/-- A register record. At `start` no Applies attribute limits it (R120); under APPLY a record that writes a
Boot field is skipped (R130). A record of a wrong length, or whose address is no register's, has no place in a block:
CFG_REJECT then shows BLOCK 0xFF and the element's index (DESIGN CHOICE, log entry 59). -/
def State.applyRecord (s : State) (start : Bool) (i : Nat) (b : List Byte) : State :=
  let addr := beAt b 0 8
  let mask := BitVec.ofNat 32 (beAt b 8 4)
  let value := BitVec.ofNat 32 (beAt b 12 4)
  let a := addr - 0x40000000
  if b.length ≠ 16 then s.elemReject 5 i
  else if addr < 0x40000000 ∨ 0x41000000 ≤ addr then s.elemReject 5 i
  else if addr % 4 ≠ 0 then s.cfgReject 5 5 a
  else
    match findReg a with
    | none => s.cfgReject 5 5 a
    | some (d, ix) =>
      if legOnly d.base (ix.headD 0) then s.cfgReject 5 5 a
      else if !start && d.fields.any (fun f => f.applies == .boot && coveredBy mask f) then s
      else
        let bad := s.recordBad a d ix mask value
        let r := s.writeRecord start addr d ix mask value
        if bad && !r.2.isRefused then r.1.cfgReject 5 5 a else r.1

/-- The register records of an image, in element order. -/
def State.applyRecords (s : State) (start : Bool) (els : List (Elem × Nat)) : State :=
  els.foldl (fun (s : State) e => if e.1.typ = 1 then s.applyRecord start e.2 e.1.body else s) s

/-! ### Blobs (R116) -/

/-- A blob of an image. -/
structure Blob where
  name : List Byte
  kind : Nat
  mask : Nat
  data : List Byte
  deriving DecidableEq, Repr

/-- The blob in the body of an element; none where its data do not fill the body. -/
def readBlob (b : List Byte) : Option Blob :=
  if b.length = 24 + beAt b 20 4 then
    some { name := b.take 16, kind := beAt b 16 1, mask := beAt b 17 1, data := b.drop 24 }
  else none

/-- Big-endian words of `k` bytes. -/
def beWords (k : Nat) (b : List Byte) : List Nat := (List.range (b.length / k)).map fun i => beAt b (k * i) k

/-- Words into the program store from `start` on. -/
def State.putProgram (s : State) (n : Fin 4) (start : Nat) (ws : List Nat) : State :=
  s.updEng n fun e =>
    { e with
      prog := ws.zipIdx.foldl (fun p w => stoPut p (start + w.2) (BitVec.ofNat 64 w.1) 0) e.prog }

/-- Entries into the coefficient store from `start` on. -/
def State.putCoefs (s : State) (n : Fin 4) (start : Nat) (ws : List Nat) : State :=
  ws.zipIdx.foldl (fun (s : State) w => s.setCoef n (start + w.2) (BitVec.ofNat 32 w.1)) s

/-- Axes named by a load mask. -/
def Blob.axes (b : Blob) : List (Fin 4) := maskAxes (BitVec.ofNat 4 b.mask)

/-- A channel entry of a plan is in range (R418). -/
def planEntryOk (b : List Byte) : Bool :=
  let b1 := beAt b 1 1
  let k := beAt b 4 2
  match beAt b 0 1 with
  | 1 | 2 => decide (b1 ≤ 3 ∧ 1 ≤ k ∧ k ≤ 256)
  | 3 =>
    let c := beAt b 3 1
    let sp := beAt b 2 1
    decide (b1 ≤ 3 ∧ 1 ≤ c ∧ c ≤ 8 ∧ 1 ≤ k) &&
      (if sp = 1 then decide (beAt b 6 2 + c ≤ 4096) else sp == 2 && decide (beAt b 6 2 + c ≤ 256))
  | 4 => decide (b1 ≤ 3 ∧ 1 ≤ k)
  | 5 => decide (b1 ≤ 4)
  | 6 => true
  | _ => false

/-- Plan data in the ranges of R418. -/
def planOk (b : List Byte) : Bool :=
  let n := beAt b 3 1
  beAt b 0 1 == 1 && decide (beAt b 1 1 ≤ 5 ∧ 1 ≤ n ∧ n ≤ 64 ∧ beAt b 4 4 ≤ 600000 ∧ 1 ≤ beAt b 8 4 ∧
    beAt b 8 4 ≤ 600000 ∧ b.length = 16 + 8 * n) &&
    (List.range n).all fun i => planEntryOk ((b.drop (16 + 8 * i)).take 8)

/-- A program blob into the axes of its mask, each where it validates (R120); whether all did. -/
def State.loadProgramBlob (s : State) (b : Blob) : State × Bool :=
  b.axes.foldl (fun (r : State × Bool) (n : Fin 4) =>
    let x := (r.1.putProgram n 0 (beWords 8 b.data)).loadProgram n
    match x.2 with
    | none => (x.1, r.2)
    | some _ => (r.1.unloadProgram n, false)) (s, true)

/-- Load a blob at start; whether it could be loaded. -/
def State.loadBlob (s : State) (b : Blob) : State × Bool :=
  match b.kind with
  | 1 =>
    if b.mask = 0 then (s, true)
    else if b.data.length % 8 ≠ 0 ∨ 65536 < b.data.length then (s, false)
    else s.loadProgramBlob b
  | 2 =>
    if b.mask = 0 then (s, true)
    else if b.data.length % 4 ≠ 0 ∨ 16384 < b.data.length then (s, false)
    else (b.axes.foldl (fun (s : State) (n : Fin 4) => s.putCoefs n 0 (beWords 4 b.data)) s, true)
  | 3 =>
    if 16 ≤ b.mask ∨ !planOk b.data then (s, false)
    else (s.updLogb fun k => { k with plans := stoInsert (stoErase k.plans b.mask) b.mask b.data }, true)
  | 4 => (s, true)
  | _ => (s, false)

/-- The blobs of an image, in element order (R120). -/
def State.applyBlobs (s : State) (els : List (Elem × Nat)) : State :=
  els.foldl (fun (s : State) e =>
    if e.1.typ = 2 then
      match readBlob e.1.body with
      | none => s.elemReject 7 e.2
      | some b =>
        let r := s.loadBlob b
        if r.2 then r.1 else r.1.elemReject 7 e.2
    else s) s

/-- The blob of a name in the newest valid image. -/
def State.namedBlob (s : State) (name : List Byte) : Option Blob :=
  s.newestBank.bind fun b =>
    ((s.bankElems b).filterMap fun e => if e.typ = 2 then readBlob e.body else none).find? fun x => x.name == name

/-! ### Safety set (R114, R138) -/

/-- The set in the body of a safety set element. -/
def readSet (b : List Byte) : SafetySet :=
  { ver := beAt b 0 4, code := beAt b 4 4, crc := beAt b 8 4, mac := (b.drop 12).take 16, data := b.drop 28 }

/-- The body of the element of a set. -/
def SafetySet.body (x : SafetySet) : List Byte :=
  beBytes 4 x.ver ++ beBytes 4 x.code ++ beBytes 4 x.crc ++ x.mac ++ x.data

/-- The element of a set, padded. -/
def SafetySet.element (x : SafetySet) : List Byte :=
  let b := x.body
  [4, 0, 0, 0] ++ beBytes 4 b.length ++ b ++ List.replicate ((4 - b.length % 4) % 4) 0

/-- Body of the safety set element of an image: the first one. -/
def safetyOf (els : List Elem) : Option (List Byte) := (els.find? fun e => e.typ == 4).map Elem.body

/-- What Lookout does at start with the set of the image (R138). -/
def State.startSet (s : State) (b : Option (List Byte)) : State :=
  match b with
  | some b =>
    let x := readSet b
    if 28 + 768 ≤ b.length ∧ (crc32c x.data).toNat = x.crc ∧ sealOf x.ver x.crc = x.mac then s.forceSet x true
    else s.raise .safetySetNone 2 0 s.tide
  | none => s.raise .safetySetNone 2 0 s.tide

/-! ### The image at start (R118-R120) -/

/-- Axes that start in READY, from the initial-state elements; the last element of an axis counts. -/
def State.initials (s : State) (els : List (Elem × Nat)) : State × List (Fin 4) :=
  els.foldl (fun (r : State × List (Fin 4)) e =>
    if e.1.typ = 3 then
      let st := beAt e.1.body 1 1
      if e.1.body.length ≠ 4 ∨ 3 < beAt e.1.body 0 1 ∨ (st ≠ 0 ∧ st ≠ 2) then (r.1.elemReject 3 e.2, r.2)
      else
        let n : Fin 4 := Fin.ofNat 4 (beAt e.1.body 0 1)
        let l := r.2.filter fun m => m != n
        (r.1, if st = 2 then l ++ [n] else l)
    else r) (s, [])

/-- Elements of an unknown type. -/
def State.rejectUnknown (s : State) (els : List (Elem × Nat)) : State :=
  els.foldl (fun (s : State) e => if 4 < e.1.typ then s.elemReject 6 e.2 else s) s

/-- MANIFEST_BANK_CHOICE and the application of the chosen image; the axes that start in READY. The failed bank's header
counts as readable where its magic, format and part are right (R119; DESIGN CHOICE, log entry 59). -/
def State.applyManifest (s : State) : State × List (Fin 4) :=
  match s.newestBank with
  | none => (((s.loadStage emptyImage).raise .manifestNone 58 0 s.tide).startSet none, [])
  | some b =>
    let o : Fin 2 := 1 - b
    let s :=
      if !s.bankValid o && headerOk (s.bankByte o) && decide (s.bankVersion b < s.bankVersion o) then
        s.raise .manifestBankBad 58 o s.tide
      else s
    let els := (s.bankElems b).zipIdx
    let s := ((s.loadStage (s.bankImage b)).rejectUnknown els).applyRecords true els
    let s := (s.applyBlobs els).startSet (safetyOf (els.map Prod.fst))
    s.initials els

/-! ### Commits (R122, R124, R137) -/

/-- The image with the element of a set in place of its safety set element, or just before End. -/
def putSafety (rd : Nat → Byte) (els : List Elem) (fin : Nat) (x : SafetySet) : List Byte :=
  match els.find? fun e => e.typ == 4 with
  | some e =>
    let next := elemEnd e.off e.body.length
    takeFrom rd 0 e.off ++ x.element ++ takeFrom rd next (fin - next)
  | none => takeFrom rd 0 (fin - 8) ++ x.element ++ takeFrom rd (fin - 8) 8

/-- The staging image with the element of a set in it, and the count of its bytes; an image without a
well-formed End is left as it is. -/
def State.stageSafety (s : State) (x : SafetySet) : State :=
  match elemsIn s.stageByte bankSize with
  | some (els, fin) => s.setStage 0 (putSafety s.stageByte els fin x)
  | none => s

/-- Step 7 of R122: the bank that does not hold the newest valid image. -/
def State.targetBank (s : State) : Fin 2 := match s.newestBank with | some b => 1 - b | none => 0

/-- Steps 6 and 7 of R122: the target bank, the new version, and the whole image with its CRC; none where the
version is exhausted. -/
def State.commitPlan (s : State) (img : List Byte) : Option (Fin 2 × Nat × List Byte) :=
  let v := s.newestVersion
  if v = 0xFFFFFFFF then none
  else
    let b := img.take 8 ++ beBytes 4 (v + 1) ++ beBytes 4 (img.length + 4) ++ img.drop 16
    some (s.targetBank, v + 1, b ++ beBytes 4 (crc32c b).toNat)

/-- A bank is erased. -/
def State.eraseBank (s : State) (b : Fin 2) : State :=
  s.eraseMem (bankBase b) bankSize

end Sys2Proof.Machine
end

