-- ==== Sys2Proof/Machine/Command.lean ====
section
/-! DEFINITION. Harbourmaster takes a command from the front-end queue (R82): channel, sequence and
authentication (R83-R85, R92-R95), target, length and module state (R81, R103, R104), and the answer. PING,
GET_INFO and the register commands (R90, R104). -/

namespace Sys2Proof.Machine

/-! ### What the opcodes ask (R91, R103, R104) -/

/-- The role a command's class names. -/
def roleOf (p : Pkt) : Option Nat :=
  if p.op = 0x30 ∨ p.op = 0x31 ∨ p.op = 0x32 ∨ p.op = 0x33 ∨ p.op = 0x51 then some 0
  else if p.op = 0x11 ∨ p.op = 0x12 ∨ p.op = 0x21 ∨ p.op = 0x22 ∨ p.op = 0x40 ∨ p.op = 0x41 ∨ p.op = 0x60 ∨
      p.op = 0x70 ∨ p.op = 0x80 ∨ p.op = 0xC0 then some 1
  else if p.op = 0xB0 ∨ p.op = 0xB1 then some 2
  else if p.op = 0x90 then some 3
  else if p.op = 0xA0 ∧ (beAt p.payload 0 1 = 1 ∨ beAt p.payload 0 1 = 2) then some 4
  else none

/-- A slot that is programmed. -/
def KeySlot.live (k : KeySlot) : Bool := k.st == .programmed

/-- A command of this role needs a session (R92). -/
def State.needsSession (s : State) (role : Nat) : Bool :=
  match role with
  | 2 => true
  | 0 => s.hm.slots.toList.any fun k => k.live && k.role.getLsbD 0
  | _ => s.hm.slots.toList.any KeySlot.live

/-- The axis a target names. -/
def Pkt.axis (p : Pkt) : Option (Fin 4) := if p.target < 4 then some (Fin.ofNat 4 p.target) else none

def toModule (p : Pkt) : Bool := p.target == 0xF0
def toGroup (p : Pkt) : Bool := p.target == 0xFF

/-- The target is allowed for the opcode (R103). -/
def State.targetOk (s : State) (p : Pkt) : Bool :=
  let ax := p.axis.isSome
  match p.op with
  | 0x01 => ax || toModule p || toGroup p
  | 0x02 | 0x50 => toModule p || toGroup p
  | 0x30 => ax || ((toModule p || toGroup p) && (beAt p.payload 0 1 == 0 || beAt p.payload 0 1 == 4))
  | 0x31 | 0x32 => p.axis.any fun n => !s.isLine n
  | 0x33 => p.axis.any s.isLine
  | 0x40 | 0x41 | 0x42 | 0x80 | 0x81 => ax
  | 0x51 => ax || toModule p
  | 0x70 =>
    let m := beAt p.payload 0 2
    (ax && !m.testBit 5) || (toModule p && m == 0x20)
  | 0xC0 => toGroup p
  | _ => toModule p

/-- The payload length is the one of the opcode (R104). -/
def lengthOk (p : Pkt) : Bool :=
  let n := p.payload.length
  let counted (base off k : Nat) : Bool := decide (base ≤ n) && n == base + k * beAt p.payload off 2
  match p.op with
  | 0x01 => decide (n ≤ 1024)
  | 0x02 | 0x81 | 0xA1 => n == 0
  | 0x10 | 0x20 | 0x22 | 0x33 | 0x80 => n == 12
  | 0x11 => counted 12 8 4
  | 0x12 | 0x32 => n == 16
  | 0x21 => counted 8 4 1
  | 0x30 | 0x50 | 0x51 | 0x60 | 0x70 | 0xC0 => n == 4
  | 0x31 => n == 6
  | 0x40 => if beAt p.payload 0 1 = 1 then n == 24 else counted 8 4 8
  | 0x41 => counted 4 2 4
  | 0x42 | 0xB1 => n == 8
  | 0x61 => n == 24
  | 0x90 =>
    match beAt p.payload 0 1 with
    | 0 => n == 8
    | 1 => decide (9 ≤ n)
    | 2 | 3 | 4 | 5 => n == 4
    | _ => decide (1 ≤ n)
  | 0xA0 =>
    match beAt p.payload 0 1 with
    | 0 => n == 20
    | 1 => n == 53
    | _ => n == 4
  | 0xB0 => counted 4 2 1
  | _ => false

/-- The opcode is refused in a module state: SELFTEST, MODULE_SAFE (R103). -/
def refusedIn (op ms : Nat) : Bool :=
  let driving := op == 0x30 || op == 0x31 || op == 0x32 || op == 0x33 || op == 0x70 || op == 0x80
  let open_ := op == 0x01 || op == 0x02 || op == 0x10 || op == 0x20 || op == 0x42 || op == 0x50 || op == 0x81 ||
    op == 0xA0 || op == 0xA1
  (ms == 1 && !open_) || (ms == 4 && driving)

/-! ### Answers -/

/-- How a command is answered: with a final reply (`done`: something was carried out, so that the reply may be
cached), with PENDING, or with OK after which its session closes. -/
inductive Ans where
  | final (r : Reply) (done : Bool)
  | pending (args : List Nat) (data : List Byte)
  | closing
  deriving DecidableEq, Repr

/-- A command as its meaning sees it. -/
structure Cmd where
  p : Pkt
  h : Head
  /-- Instant of its receipt (R78). -/
  at_ : Nat
  deriving DecidableEq, Repr

/-- Answer OK with data. -/
def State.ok (s : State) (data : List Byte := []) : State × Ans :=
  (s, .final { status := stOk, stamp := s.tide, data := data } true)

/-- Refuse. -/
def State.no (s : State) (status : Nat) (detail : Nat := 0) : State × Ans :=
  (s, .final { status := status, detail := detail, stamp := s.tide } false)

/-- Refuse with ERR_STATE: module state and the state of the axis of the target (R81). -/
def State.noState (s : State) (p : Pkt) : State × Ans := s.no errState (s.stateDetail p.axis)

/-- Enter a reply in the reply cache of a channel (R85). With 16 commands still PENDING a further reply is not kept
(DESIGN CHOICE, log entry 56). -/
def addCache (l : List Cached) (e : Cached) : List Cached :=
  if l.length < 16 then l ++ [e]
  else
    match l.find? fun x => !x.pending with
    | some o => l.erase o ++ [e]
    | none => l

/-- An ERR_AUTH on a channel; the fifth in a row closes its session and bars it for 10 s (R95). -/
def State.authFail (s : State) (ch : Chan) : State :=
  let c := s.channel ch
  if c.authErrs = 4 then
    ((s.closeSession ch).dropUpdateOf ch).updChannel ch fun c =>
      { c with authErrs := 0, barred := some (s.tide + 10 * Config.sec) }
  else s.updChannel ch fun c => { c with authErrs := c.authErrs + 1 }

/-- A command that is not answered ERR_AUTH ends the run (R95). -/
def State.authEnd (s : State) (ch : Chan) : State := s.updChannel ch fun c => { c with authErrs := 0 }

/-- Keep a reply for retransmission where ACK is set (R75, R85). -/
def State.keepReply (s : State) (c : Cmd) (b : List Byte) (pending : Bool) : State :=
  if c.h.ack then
    s.updChannel c.h.chan fun x =>
      { x with cache := addCache x.cache { seq := c.h.seq, crc := c.p.crc, reply := b, pending := pending } }
  else s

/-- Send the answer of a command that has passed check 8. A pendable command is answered PENDING once 1 ms has passed
(R78). -/
def State.conclude (s : State) (c : Cmd) (a : Ans) : State :=
  match a with
  | .final r done =>
    let (r, s) := s.dressed c.h r
    let b := s.fitted c.h r false
    let s := if r.status = errAuth then s.authFail c.h.chan else s.authEnd c.h.chan
    (if done then s.keepReply c b false else s).transmit c.h b
  | .pending args data =>
    let b := s.fitted c.h { status := stPending, stamp := s.tide } false
    let s := (s.authEnd c.h.chan).keepReply c b true
    let x : PendCmd :=
      { at_ := c.at_, hold := some b, chan := c.h.chan, op := c.h.op, target := c.h.target, seq := c.h.seq, flags := c.p.flags.toNat
        buf := c.h.buf, args := args, data := data }
    s.updHm fun h => { h with pend := h.pend ++ [x] }
  | .closing =>
    let b := s.fitted c.h { status := stOk, stamp := s.tide } false
    (((s.authEnd c.h.chan).keepReply c b false).transmit c.h b).closeSession c.h.chan

/-! ### Checks 7-11 (R81) -/

/-- The reason for which check 8 fails (R93, R95). -/
def State.authCheck (s : State) (ch : Chan) (p : Pkt) : Option Nat :=
  if (s.channel ch).barred.any (s.tide < ·) then some 4
  else
    match s.session ch, roleOf p with
    | some x, r =>
      if !p.auth || p.tag != mac16 x.key p.body then some 2
      else if r.any fun r => s.needsSession r && !(s.hm.slots[x.slot].role.getLsbD r) then some 3
      else none
    | none, some r => if s.needsSession r then some 1 else none
    | none, none => none

/-- A sequence number newer than the last (R84). -/
def newer (seq last : Nat) : Bool :=
  let d := (seq + 2 ^ 32 - last % 2 ^ 32) % 2 ^ 32
  decide (1 ≤ d ∧ d ≤ 0x7FFFFFFF)

/-- Checks 9-11 as far as they are common to all opcodes, then the command itself. -/
def State.judge (s : State) (c : Cmd) (body : State → Cmd → State × Ans) : State × Ans :=
  if !s.targetOk c.p then s.no errRange 0x7FFE
  else if !lengthOk c.p then s.no errLength
  else if refusedIn c.p.op s.modState || (toGroup c.p && s.mid != 0) || c.p.axis.any s.idle then
    s.noState c.p
  else body s c

/-- Check 8 and everything after it. A command that passes it inside a session keeps the session open for its 60 s,
whatever checks 9 to 12 say (R93; DESIGN CHOICE, log entry 56). -/
def State.authorize (s : State) (c : Cmd) (body : State → Cmd → State × Ans) : State :=
  match s.authCheck c.h.chan c.p with
  | some reason =>
    let s' := s.answer c.h { status := errAuth, detail := reason, stamp := s.tide }
    if reason = 4 then s' else s'.authFail c.h.chan
  | none =>
    let s := s.updHm fun h =>
      { h with sess := h.sess.map fun x => if x.chan = c.h.chan then { x with lastAt := s.tide } else x }
    let r := s.judge c body
    r.1.conclude c r.2

/-- A command of this channel and sequence still waits for its first reply: with nothing sent there is nothing to send
again, and its retransmission is answered with that reply (R78, R84; DEDUCED, log entry 56). -/
def State.unanswered (s : State) (ch : Chan) (seq : Nat) : Bool :=
  s.hm.pend.any fun p => p.chan == ch && p.seq == seq && p.hold.isSome

/-- Check 7 (R84, R94) on a channel that is held. -/
def State.sequence (s : State) (c : Cmd) (body : State → Cmd → State × Ans) : State :=
  let ch := s.channel c.h.chan
  let live := (s.session c.h.chan).isSome
  let bad := s.answer c.h { status := errSequence, detail := ch.last % 2 ^ 16, stamp := s.tide }
  let take (x : ChanSt) : State := (s.putChannel { x with usedAt := s.tide }).authorize c body
  if c.p.seq = 0 then (if live then bad else take { ch with last := 0, cache := [] })
  else if newer c.p.seq ch.last then take { ch with last := c.p.seq }
  else
    match ch.cache.find? fun e => e.seq == c.p.seq && e.crc == c.p.crc with
    | some e => if s.unanswered c.h.chan c.p.seq then s else s.transmit c.h (s.refitted c.h e.reply)
    | none => bad

/-- Take one packet. -/
def State.serve (s : State) (q : Packet) (body : State → Cmd → State × Ans) : State :=
  let p := readPkt q.bytes
  let c : Cmd := { p := p, h := p.head q.chan q.buf, at_ := q.at_ }
  match s.takeChannel q.chan with
  | none => s.answer c.h { status := errBusy, stamp := s.tide }
  | some s => s.sequence c body

/-- Commands pending on an axis that is no longer in TUNE are no longer valid and complete with ERR_STATE, the pending
TUNE_START of an axis that a fault or SAFE took out of it (R80). -/
def State.endStale (s : State) : State :=
  s.eachAxis fun (s : State) (n : Fin 4) => if (s.axis n).st == .tune then s else s.supersede 0x80 n (some n)

/-- A command row: where the packet at the head of the front-end queue is one of `sel`, Harbourmaster takes it
at `t`. -/
def State.command (s : State) (t : Nat) (sel : Pkt → Bool) (body : State → Cmd → State × Ans) : State :=
  let s := (s.upto t).sendDue.endStale
  match s.hm.feq with
  | [] => s
  | q :: r => if s.answers && sel (readPkt q.bytes) then (s.updHm fun h => { h with feq := r }).serve q body else s

/-- Packets of an opcode. -/
def isOp (op : Nat) (p : Pkt) : Bool := p.op == op

/-! ### PING, GET_INFO (R104) -/

/-- PING: the same bytes, as many as a reply can carry (R77; DESIGN CHOICE, log entry 56). -/
def execPing (t : Nat) (s : State) : Res := .next (s.command t (isOp 0x01) fun s c => s.ok (c.p.payload.take 1012))

/-- Mask of the key slots in a state. -/
def State.slotMask (s : State) (st : SlotState) : Nat :=
  (s.hm.slots.toList.zipIdx.filter fun k => k.1.st == st).foldl (fun m k => m + 2 ^ k.2) 0

/-- The running bank is trial (R109). -/
def Fw.runsTrial (f : Fw) : Bool := f.trial && f.running == f.preferred

/-- States of A0-A3. -/
def State.axisStates (s : State) : List Byte := s.axes.toList.map fun a => BitVec.ofNat 8 a.st.code

/-- The module's own 48 bytes of GET_INFO. -/
def State.ownInfo (s : State) : List Byte :=
  let b (v : Nat) : Byte := BitVec.ofNat 8 v
  beBytes 2 0x2460 ++
    [b (s.get Reg.SYS_ID_STEP), b (s.get Reg.SYS_ID_MINOR), b s.mid, b s.modState, b s.hm.fw.running,
     b (flag s.hm.fw.runsTrial)] ++
    beBytes 4 s.hm.fw.version ++ [b ((s.newestBank.map Fin.val).getD 0xFF), 0, 0, 0] ++
    beBytes 4 s.newestVersion ++ s.hm.serial ++ s.axisStates ++ beBytes 8 s.tide ++
    [b s.epoch, b (s.get Reg.MOOR_GSTAT_COUNT), b (s.slotMask .programmed), b (s.slotMask .revoked), 0, 0, 0, 0]

/-- 48 bytes of another member: what the lead holds of it, and free values for the rest (log entry 7). -/
def State.memberInfo (s : State) (m : Fin 8) : List Byte × State :=
  let (f, s) := s.freeBytes 48
  let serial := ((s.moor.serials.find? fun p => p.1 == m.val).map Prod.snd).getD 0
  (beBytes 2 0x2460 ++ (f.drop 2).take 2 ++
    [BitVec.ofNat 8 m, BitVec.ofNat 8 (s.get (Reg.MOOR_MEMBER_MSTATE m))] ++ (f.drop 6).take 7 ++ [0, 0, 0] ++
    (f.drop 16).take 4 ++ beBytes 8 serial ++ (f.drop 28).take 12 ++
    [BitVec.ofNat 8 (s.get (Reg.MOOR_MEMBER_EPOCH m)), BitVec.ofNat 8 (s.get Reg.MOOR_GSTAT_COUNT)] ++
    (f.drop 42).take 2 ++ [0, 0, 0, 0], s)

/-- Data of every member in M-ID order: `own` for this module. -/
def State.perMember (s : State) (own : List Byte) (other : State → Fin 8 → List Byte × State) :
    List Byte × State :=
  s.members.foldl (fun (r : List Byte × State) (m : Fin 8) =>
    if m = s.mid then (r.1 ++ own, r.2)
    else let x := other r.2 m; (r.1 ++ x.1, x.2)) ([], s)

def cmdInfo (s : State) (c : Cmd) : State × Ans :=
  if toGroup c.p then
    let r := s.perMember s.ownInfo State.memberInfo
    r.2.ok r.1
  else s.ok s.ownInfo

def execGetInfo (t : Nat) (s : State) : Res := .next (s.command t (isOp 0x02) cmdInfo)

/-! ### Register commands (R90, R104) -/

/-- The requester number of a channel's register accesses (R90). -/
def requesterOf : Chan → Nat
  | .berth n => n.val + 1
  | _ => 11

/-- An address of a register command: aligned, within 40 bits. -/
def addrOk (a : Nat) : Bool := a % 4 == 0 && decide (a < 2 ^ 40)

/-- The fabric watchdog has ended this access of the command (R25, R26, log entry 24). -/
def State.timedOut (s : State) (req a : Nat) (write : Bool) : Bool := s.hm.timedOut == some (req, a, write)

/-- A read and a write of a word for the host: an access that the watchdog has ended is not carried out again. -/
def State.hostRead (s : State) (req a : Nat) : State × Except Nat Word :=
  if s.timedOut req a false then (s.updHm fun h => { h with timedOut := none }, .error 3) else s.busRead req a 4

def State.hostWrite (s : State) (req a : Nat) (w : Word) : State × WRes :=
  if s.timedOut req a true then (s.updHm fun h => { h with timedOut := none }, .err 3) else s.busWrite req a 4 w

/-- Read `n` words from `a` on: the words, and whether the last read failed. -/
def State.readWords (req a : Nat) : Nat → State → List Byte → State × List Byte × Bool
  | 0, s, l => (s, l, true)
  | n + 1, s, l =>
    match s.hostRead req a with
    | (s, .ok w) => State.readWords req (a + 4) n s (l ++ beBytes 4 w.toNat)
    | (s, .error _) => (s, l, false)

def cmdRegRead (s : State) (c : Cmd) : State × Ans :=
  let a := beAt c.p.payload 0 8
  let n := beAt c.p.payload 8 2
  if !addrOk a then s.no errRange 0
  else if n = 0 ∨ 253 < n then s.no errRange 8
  else
    match State.readWords (requesterOf c.h.chan) a n s [] with
    | (s, l, true) => s.ok l
    | (s, l, false) =>
      (s, .final { status := errRange, detail := 0x8000 + l.length / 4, stamp := s.tide, data := l } true)

def execRegRead (t : Nat) (s : State) : Res := .next (s.command t (isOp 0x10) cmdRegRead)

/-- Status of a failed word: an access error, a refusal, a refusal by the budget manager (R26, R128, R460). -/
def wordStatus : WRes → Option Nat
  | .ok => none
  | .err _ => some errRange
  | .refused _ true => some errBudget
  | .refused _ false => some errState

/-- Write words from `a` on: status and index of the word that failed. -/
def State.writeWords (req a : Nat) : List Nat → Nat → State → State × Option (Nat × Nat)
  | [], _, s => (s, none)
  | w :: r, k, s =>
    let x := s.hostWrite req (a + 4 * k) (BitVec.ofNat 32 w)
    match wordStatus x.2 with
    | some st => (x.1, some (st, k))
    | none => State.writeWords req a r (k + 1) x.1

/-- REG_WRITE (R104). A failure at a word is answered once something may have been done: the reply is kept for
retransmission also where word 0 failed, as with REG_READ and REG_MODIFY (DESIGN CHOICE, log entry 59). -/
def cmdRegWrite (s : State) (c : Cmd) : State × Ans :=
  let a := beAt c.p.payload 0 8
  let n := beAt c.p.payload 8 2
  if !addrOk a then s.no errRange 0
  else if n = 0 ∨ 253 < n then s.no errRange 8
  else
    match State.writeWords (requesterOf c.h.chan) a (beWords 4 (c.p.payload.drop 12)) 0 s with
    | (s, none) => s.ok
    | (s, some (st, k)) => (s, .final { status := st, detail := 0x8000 + k, stamp := s.tide } true)

def cmdRegModify (s : State) (c : Cmd) : State × Ans :=
  let a := beAt c.p.payload 0 8
  let mask : Word := BitVec.ofNat 32 (beAt c.p.payload 8 4)
  let value : Word := BitVec.ofNat 32 (beAt c.p.payload 12 4)
  let req := requesterOf c.h.chan
  let fail (s : State) (st : Nat) : State × Ans :=
    (s, .final { status := st, detail := 0x8000, stamp := s.tide } true)
  if !addrOk a then s.no errRange 0
  else
    match s.hostRead req a with
    | (s, .error _) => fail s errRange
    | (s, .ok old) =>
      let new := (old &&& ~~~mask) ||| (value &&& mask)
      let x := s.hostWrite req a new
      match wordStatus x.2 with
      | some st => fail x.1 st
      | none => x.1.ok (beBytes 4 old.toNat ++ beBytes 4 new.toNat)

end Sys2Proof.Machine
end

