-- ==== Sys2Proof/Machine/CmdAxis.lean ====
section
/-! DEFINITION. AXIS_STATE and its completion (R98-R101, R263, R315, R440, R460, R461), the setpoint commands
and the end of a setpoint's validity (R101, R106, R356). -/

namespace Sys2Proof.Machine

/-! ### Transitions (R98) -/

/-- What the transition table says of a pair of states. -/
inductive Move where
  | same
  | yes
  | never
  deriving DecidableEq, Repr

/-- The transition table of R98. -/
def moveOf (cur dst : AxState) : Move :=
  match cur, dst with
  | .off, .off | .diag, .diag | .ready, .ready | .run, .run => .same
  | .off, .diag | .off, .ready => .yes
  | .diag, .off | .diag, .ready => .yes
  | .ready, .off | .ready, .diag | .ready, .run | .ready, .hold => .yes
  | .run, .off | .run, .ready | .run, .hold => .yes
  | .hold, .off | .hold, .ready | .hold, .run | .hold, .hold => .yes
  | .tune, .off | .tune, .ready | .tune, .hold => .yes
  | .fault, .off | .fault, .ready | .safe, .off | .safe, .ready => .yes
  | _, _ => .never

/-- States that AXIS_STATE can name. -/
def stateOf : Nat → Option AxState
  | 0 => some .off
  | 1 => some .diag
  | 2 => some .ready
  | 3 => some .run
  | 4 => some .hold
  | _ => none

/-- The transition would take a traction PMSM axis from ASC to gates off above ASC_SPD, or out of RUN to OFF
or READY there (R99). -/
def State.ascRefused (s : State) (n : Fin 4) (dst : AxState) (asc : Bool) : Bool :=
  let cur := (s.axis n).st
  let idle := dst == .off || dst == .ready
  s.axType n == 0 && s.isPmsm n && s.fast n &&
    ((cur == .run && idle) ||
      ((cur == .hold || cur == .fault || cur == .safe) && s.outMode n == .asc &&
        (idle || (dst == .hold && !asc))))

/-- An active fault of severity 3 or above acts on the axis. -/
def State.faulted (s : State) (n : Fin 4) : Bool := decide (3 ≤ s.reactionOf n)

/-- A member that is not aligned to the lead (R436). -/
def State.adrift (s : State) : Bool := s.moorOn && s.mid != 0 && !s.bit Reg.TIDE_STATUS_ALIGNED

/-- `BW_AXCFGn.ASCSPD` and entry 0x033 differ by at most 1 rpm (R315). -/
def State.ascSpdOk (s : State) (n : Fin 4) : Bool :=
  qLe (qAbs (qSub (qInt (s.get (Reg.BW_AXCFG_ASCSPD n))) (bfVal (s.coefEntry n 0x33)))) qOne

/-- The conditions of RUN (R98, R263, R315, R436). -/
def State.runOk (s : State) (n : Fin 4) : Bool :=
  (s.axis n).prog && s.lk.inForce.isSome && !s.faulted n && s.ascSpdOk n && s.bit (Reg.PWM_CTL_EN n) &&
    !s.adrift

/-- What became of a request. -/
inductive Req where
  | ok
  | pending
  | refused (status detail : Nat)
  deriving DecidableEq, Repr

/-- Status and Detail of a refused request. -/
def Req.refusal : Req → Option (Nat × Nat)
  | .refused st d => some (st, d)
  | _ => none

/-- The axis goes to OFF: pending commands on it end with ERR_STATE, and its rails go off (R80, R98, R100,
R461). -/
def State.axisOff (s : State) (n : Fin 4) : State :=
  let s := (s.moveAxis n .off).railsDown n
  let s := (s.supersede 0x30 n (some n)).supersede 0x70 n (some n)
  s.supersede 0x80 n (some n)

/-- The axis moves to a state other than OFF, at once. -/
def State.axisMove (s : State) (n : Fin 4) (dst : AxState) (asc : Bool) : State :=
  let tuning := (s.axis n).st == .tune
  let s := if dst = .run then s.enterClosed n .run else s.moveAxis n dst asc
  let s := (s.updAxis n fun a => { a with preTherm := none, expired := false }).settle s.tide
  if tuning then s.supersede 0x80 n (some n) else s

/-- The option field: for HOLD 0 or 1, else 0 (R104); HOLD with ASC is refused on a line axis (R98). -/
def State.optionOk (s : State) (n : Fin 4) (dst : AxState) (option : Nat) : Bool :=
  if dst = .hold then option ≤ 1 && !(option == 1 && s.isLine n) else option == 0

/-- Gate rails of the axis are to be brought up first (R98): all of them, or those that a module restart has kept from
rising (R468). -/
def State.needsRails (s : State) (n : Fin 4) (dst : AxState) : Bool :=
  (dst == .diag || dst == .ready) && (s.pwr.res[n] == .none || !s.railsRisen n)

/-- The move does not fit the module and axis state: an entry without "Yes", an active fault of the axis in
FAULT, SAFE held by Lookout, R99, the conditions of RUN (R81 check 11, R98, R99). -/
def State.moveBar (s : State) (n : Fin 4) (dst : AxState) (asc : Bool) : Option (Nat × Nat) :=
  let a := s.axis n
  let bad := some (errState, s.stateDetail (some n))
  match moveOf a.st dst with
  | .never => bad
  | .same => none
  | .yes =>
    if a.st == .fault && s.faulted n then bad
    else if a.safeHeld || (s.lk.fresh && dst != .off) then some (errSafety, 0)
    else if s.ascRefused n dst asc then some (errSafety, 0)
    else if s.needsRails n dst && a.calBad then bad
    else if dst = .run ∧ s.runOk n = false then bad
    else none

/-- A move that the table allows, after the checks of the state and of the fields: the budget, then the
move (R98, R460). -/
def State.axisGo (s : State) (n : Fin 4) (dst : AxState) (asc : Bool) : State × Req :=
  if dst = .off then (s.axisOff n, .ok)
  else if s.needsRails n dst then
    match s.shortfall (s.pwr.res.set n .full) with
    | some k => (s, .refused errBudget k)
    | none => ((s.enableRails n).updAxis n fun a => { a with pendTo := some dst }, .pending)
  else if dst = .run then
    if s.pwr.res[n] = .standby then
      match s.shortfall (s.pwr.res.set n .full) with
      | some k => (s, .refused errBudget k)
      | none => (((s.updPwr fun p => { p with res := p.res.set n .full }).reBudget).axisMove n .run false, .ok)
    else (s.axisMove n .run false, .ok)
  else (s.axisMove n dst asc, .ok)

/-- AXIS_STATE of one axis (R98-R100, R366, R461): the state, then the fields (R81). -/
def State.axisRequest (s : State) (n : Fin 4) (dst : AxState) (option : Nat) : State × Req :=
  let a := s.axis n
  if dst ≠ .off ∧ (a.pendTo.isSome ∨ s.enabling n ∨ a.diag.isSome) then (s, .refused errBusy 0)
  else
    match s.moveBar n dst (option == 1) with
    | some (st, d) => (s, .refused st d)
    | none =>
      if s.optionOk n dst option = false then (s, .refused errRange 1)
      else if moveOf a.st dst = .same then (if a.pendTo.isSome then s.axisOff n else s, .ok)
      else s.axisGo n dst (option == 1)

/-- AXIS_STATE to every axis that is not idle, A0 first: the first refusal decides the status, and nothing is then
carried out (R81). -/
def State.axisAll (s : State) (dst : AxState) (option : Nat) : State × Option (Nat × Nat) :=
  let r := ([0, 1, 2, 3] : List (Fin 4)).foldl (fun (r : State × Option (Nat × Nat)) (n : Fin 4) =>
    if r.1.idle n then r
    else
      let x := r.1.axisRequest n dst option
      (x.1, r.2.orElse fun _ => x.2.refusal)) (s, none)
  if r.2.isSome then (s, r.2) else r

/-- The lead passes the command on to the other members (R440). -/
def State.axisGroup (s : State) (dst : AxState) (option : Nat) : State :=
  s.sendAll 9 [dst.code, option]

def cmdAxisState (s : State) (c : Cmd) : State × Ans :=
  let option := beAt c.p.payload 1 1
  match stateOf (beAt c.p.payload 0 1), c.p.axis with
  | none, _ => s.no errRange 0
  | some dst, some n =>
    let prev := (s.axis n).st.code
    match s.axisRequest n dst option with
    | (s, .refused st d) => s.no st d
    | (s, .pending) => (s, .pending [prev] [])
    | (s, .ok) => s.ok [BitVec.ofNat 8 prev, BitVec.ofNat 8 (s.axis n).st.code, 0, 0]
  | some dst, none =>
    match s.axisAll dst option with
    | (s, none) => (if toGroup c.p then s.axisGroup dst option else s).ok
    | (s, some (st, k)) => s.no st k

def execAxisStateCmd (t : Nat) (s : State) : Res := .next (s.command t (isOp 0x30) cmdAxisState)

/-! ### AXIS_STATE_COMPLETE (R461, R465) -/

/-- The enable of an axis has found its target: RAILOK of every channel, the state, the completion. -/
def State.enableDone (s : State) (n : Fin 4) (dst : AxState) (prev : Nat) : State :=
  let s := (s.convertersOf n).foldl State.railsUp s
  let s := s.updPwr fun p => { p with accepted := p.accepted.filter (· != n) }
  let s := (s.updAxis n fun a => { a with pendTo := none }).moveAxis n dst
  let s := (s.updAxis n fun a => { a with preTherm := none, expired := false }).reBudget.settle s.tide
  s.completeOp 0x30 n
    { status := stOk, stamp := s.tide, data := [BitVec.ofNat 8 prev, BitVec.ofNat 8 dst.code, 0, 0] }

/-- AXIS_STATE_COMPLETE: every channel has RAILOK set, and a first cycle under the safety set has run (R366); or the
enable ends on GATE_SUPPLY or because the axis has left its state. -/
def axisComplete (t : Nat) (n : Fin 4) (s : State) : State :=
  let s := s.upto t
  match (s.axis n).pendTo with
  | none => s.supersede 0x30 n (some n)
  | some dst =>
    let prev := ((s.pendOf 0x30 n).map fun p => p.args.getD 0 0).getD 0
    let failed := (s.axis n).st.code != prev || (s.channelsOf n).any fun g => (s.gate g).holds.supply
    if failed then (s.dropEnable n).finishStart
    else if s.railsRisen n && !s.lk.fresh then (s.enableDone n dst prev).finishStart
    else s

def execAxisStateComplete (t : Nat) (n : Fin 4) (s : State) : Res := .next (axisComplete t n s)

/-! ### Setpoints (R106, R242, R356) -/

/-- A value held within ± a limit, and whether it was clamped. -/
def clampTo (w : Word) (lim : Q) : Word × Bool :=
  let v := bfVal w
  if qLt lim (qAbs v) then (bfRound (if v.num < 0 then qNeg lim else lim), true) else (w, false)

/-- The validity of an accepted setpoint starts (R101, R106). -/
def State.validFor (s : State) (n : Fin 4) (ms : Nat) : State :=
  s.updAxis n fun a => { a with expiry := if ms = 0 then none else some (s.tide + ms * Config.ms) }

/-- Reply data of TORQUE_CMD and SPEED_CMD: entries 165-167 of the last committed set. -/
def State.driveData (s : State) (n : Fin 4) : List Byte :=
  beBytes 4 (s.handed n 166).toNat ++ beBytes 4 (s.handed n 167).toNat ++
    beBytes 2 ((s.handed n 165).toNat % 8) ++ [0, 0]

/-- Accept a setpoint: entries of the port window, validity, reply. -/
def State.setpoint (s : State) (n : Fin 4) (l : List (Nat × Word)) (ms : Nat) (clamped : Bool)
    (data : List Byte) : State × Ans :=
  let s := (l.foldl (fun (s : State) e => s.setPort n e.1 e.2) s).validFor n ms
  (s, .final { status := stOk, detail := flag clamped, stamp := s.tide, data := data } true)

/-- Check 11 of a setpoint: RUN (R106). -/
def State.inRun (s : State) (c : Cmd) (f : Fin 4 → State × Ans) : State × Ans :=
  match c.p.axis with
  | none => s.noState c.p
  | some n =>
    if (s.axis n).st ≠ .run then s.noState c.p
    else f n

def payWord (c : Cmd) (o : Nat) : Word := BitVec.ofNat 32 (beAt c.p.payload o 4)

def cmdTorque (s : State) (c : Cmd) : State × Ans :=
  s.inRun c fun n =>
    let (w, k) := clampTo (payWord c 0) (qAbs (bfVal (s.coefEntry n 0x31)))
    s.setpoint n [(192, 0), (193, w)] (beAt c.p.payload 4 2) k (s.driveData n)

def execTorqueCmd (t : Nat) (s : State) : Res := .next (s.command t (isOp 0x31) cmdTorque)

/-- The highest speed reference: SPD_MAX, and 0.95 x SLS_LIM while SLS is selected. -/
def State.spdLimit (s : State) (n : Fin 4) : Q :=
  let m := qAbs (bfVal (s.coefEntry n 0x32))
  match (s.lkAx n).sls, s.lk.inForce with
  | some _, some x => qMin m (slsClamp x.data n)
  | _, _ => m

def cmdSpeed (s : State) (c : Cmd) : State × Ans :=
  s.inRun c fun n =>
    let (w, k) := clampTo (payWord c 0) (s.spdLimit n)
    s.setpoint n [(192, bfInt 1), (194, w), (195, payWord c 4), (196, payWord c 8)] (beAt c.p.payload 12 2) k
      (s.driveData n)

def execSpeedCmd (t : Nat) (s : State) : Res := .next (s.command t (isOp 0x32) cmdSpeed)

def cmdLine (s : State) (c : Cmd) : State × Ans :=
  s.inRun c fun n =>
    s.setpoint n [(192, bfInt 2), (197, payWord c 0), (198, payWord c 4)] (beAt c.p.payload 8 2) false
      (beBytes 4 (s.handed n 173).toNat ++ beBytes 4 (s.handed n 174).toNat ++
        beBytes 2 ((s.handed n 165).toNat / 2 % 2) ++ [0, 0])

def execLineCmd (t : Nat) (s : State) : Res := .next (s.command t (isOp 0x33) cmdLine)

/-- SETPOINT_EXPIRY: the axis goes to HOLD with CMD_TIMEOUT (R101); during a thermal shutdown the expiry is kept
for the restart (R330). -/
def setpointExpiry (t : Nat) (n : Fin 4) (s : State) : State :=
  let s := s.upto t
  let a := s.axis n
  if a.expiry.any fun e => decide (e ≤ s.tide) then
    if a.st = .run then ((s.expireToHold n).raise .cmdTimeout 1 n s.tide).settle s.tide
    else if a.st = .fault ∧ a.preTherm = some .run then
      s.updAxis n fun a => { a with expired := true, expiry := none }
    else s.updAxis n fun a => { a with expiry := none }
  else s

def execSetpointExpiry (t : Nat) (n : Fin 4) (s : State) : Res := .next (setpointExpiry t n s)

end Sys2Proof.Machine
end

