-- ==== Sys2Proof/Machine/CmdEngine.lean ====
section
/-! DEFINITION. The commands of the engines: programs (R260), coefficients (R107, R131), and the relay
auto-tune (R257-R259). -/

namespace Sys2Proof.Machine

/-- Check 11 of PROGRAM_LOAD and COEFF_WRITE: the loop is open (R107). -/
def State.loopOpen (s : State) (c : Cmd) (f : Fin 4 → State × Ans) : State × Ans :=
  match c.p.axis with
  | none => s.noState c.p
  | some n => if (s.axis n).st.closed then s.no errLoopClosed (s.axis n).st.code else f n

/-- A validation is pending on the axis. -/
def State.validating (s : State) (n : Fin 4) : Bool := (s.pendOf 0x40 n).isSome

/-- PROGRAM_LOAD in mode 0: words into the store, or validation of what it holds. -/
def State.loadWords (s : State) (c : Cmd) (n : Fin 4) : State × Ans :=
  let start := beAt c.p.payload 2 2
  let count := beAt c.p.payload 4 2
  if 8191 < start then s.no errRange 2
  else if 127 < count ∨ 8192 < start + count then s.no errRange 4
  else if count = 0 then (if s.validating n then s.no errBusy else (s, .pending [0] []))
  else
    ((s.putProgram n start (beWords 8 (c.p.payload.drop 8))).unloadProgram n).ok (beBytes 2 count ++ [0, 0])

/-- PROGRAM_LOAD in mode 1: a named program blob from word 0, then validation. -/
def State.loadNamed (s : State) (c : Cmd) (n : Fin 4) : State × Ans :=
  if s.validating n then s.no errBusy
  else
    match s.namedBlob (c.p.payload.drop 8) with
    | none => s.no errRange 8
    | some b =>
      if b.kind ≠ 1 ∨ b.data.length % 8 ≠ 0 ∨ 65536 < b.data.length then s.no errRange 8
      else
        ((s.putProgram n 0 (beWords 8 b.data)).unloadProgram n, .pending [b.data.length / 8] [])

def cmdProgramLoad (s : State) (c : Cmd) : State × Ans :=
  s.loopOpen c fun n =>
    match beAt c.p.payload 0 1 with
    | 0 => s.loadWords c n
    | 1 => s.loadNamed c n
    | _ => s.no errRange 0

def execProgramLoad (t : Nat) (s : State) : Res := .next (s.command t (isOp 0x40) cmdProgramLoad)

/-- PROGRAM_VALIDATION_COMPLETE: the program becomes loaded, or the command completes with the failing word
(R260). -/
def validationComplete (t : Nat) (n : Fin 4) (s : State) : State :=
  let s := s.upto t
  match s.pendOf 0x40 n with
  | none => s
  | some p =>
    let (s, bad) := s.loadProgram n
    match bad with
    | none =>
      s.complete p { status := stOk, stamp := s.tide, data := beBytes 2 (p.args.getD 0 0) ++ [0, 0] }
    | some w => s.complete p { status := errRange, detail := 0x4000 + w, stamp := s.tide }

def execProgramValidationComplete (t : Nat) (n : Fin 4) (s : State) : Res := .next (validationComplete t n s)

/-! ### Coefficients (R104, R107) -/

def cmdCoeffWrite (s : State) (c : Cmd) : State × Ans :=
  s.loopOpen c fun n =>
    let start := beAt c.p.payload 0 2
    let count := beAt c.p.payload 2 2
    if 4095 < start then s.no errRange 0
    else if count = 0 ∨ 255 < count ∨ 4096 < start + count then s.no errRange 2
    else (s.putCoefs n start (beWords 4 (c.p.payload.drop 4))).ok

def execCoeffWrite (t : Nat) (s : State) : Res := .next (s.command t (isOp 0x41) cmdCoeffWrite)

def cmdCoeffRead (s : State) (c : Cmd) : State × Ans :=
  let store := beAt c.p.payload 0 1
  let start := beAt c.p.payload 2 2
  let count := beAt c.p.payload 4 2
  match c.p.axis with
  | none => s.noState c.p
  | some n =>
    if 1 < store then s.no errRange 0
    else if 4095 < start then s.no errRange 2
    else if count = 0 ∨ 253 < count ∨ 4096 < start + count then s.no errRange 4
    else
      s.ok ((List.range count).flatMap fun i =>
        beBytes 4 (if store = 0 then s.coefEntry n (start + i) else s.stateEntry n (start + i)).toNat)

def execCoeffRead (t : Nat) (s : State) : Res := .next (s.command t (isOp 0x42) cmdCoeffRead)

/-! ### Tune (R257-R259) -/

/-- The largest relay amplitude of a loop (R257). -/
def State.relayMax (s : State) (n : Fin 4) (loop : Nat) : Q :=
  let co (i : Nat) : Q := bfVal (s.coefEntry n i)
  if loop = 2 then co 0x31 else qMul (co 0x30) (co 0x20)

/-- The axis may enter TUNE (R107, R257, R263, R436). -/
def State.tuneOk (s : State) (n : Fin 4) (loop : Nat) : Bool :=
  (s.axis n).st == .ready && s.bit (Reg.PWM_CTL_EN n) && !s.adrift &&
    (loop == 2 || (s.axis n).spd.any fun w => qLt (bfVal w) (qMul ⟨1, 100⟩ (bfVal (s.coefEntry n 0x32))))

def cmdTuneStart (s : State) (c : Cmd) : State × Ans :=
  let loop := beAt c.p.payload 0 1
  let rule := beAt c.p.payload 1 1
  let ms := beAt c.p.payload 2 2
  match c.p.axis with
  | none => s.noState c.p
  | some n =>
    if !s.tuneOk n loop then s.noState c.p
    else if s.lk.fresh then s.no errSafety
    else if 2 < loop then s.no errRange 0
    else if 1 < rule then s.no errRange 1
    else if ms < 100 ∨ 60000 < ms then s.no errRange 2
    else if qLt (s.relayMax n loop) (qAbs (bfVal (payWord c 4))) then s.no errRange 4
    else if s.pwr.res[n] = .standby then
      match s.shortfall (s.pwr.res.set n .full) with
      | some k => s.no errBudget k
      | none =>
        (((s.updPwr fun p => { p with res := p.res.set n .full }).reBudget).tuneBegin s.tide n loop rule ms
          (payWord c 4) (payWord c 8), .pending [] [])
    else (s.tuneBegin s.tide n loop rule ms (payWord c 4) (payWord c 8), .pending [] [])

def execTuneStart (t : Nat) (s : State) : Res := .next (s.command t (isOp 0x80) cmdTuneStart)

/-- TUNE_END: the pending TUNE_START completes with OK; with ERR_STATE where the axis has left TUNE before
(R80). -/
def tuneEndRow (t : Nat) (n : Fin 4) (s : State) : State :=
  let s := s.upto t
  if (s.axis n).st ≠ .tune then s.supersede 0x80 n (some n)
  else if s.tuneOver t n then (s.endTune t n).completeOp 0x80 n { status := stOk, stamp := s.tide }
  else s

def execTuneEnd (t : Nat) (n : Fin 4) (s : State) : Res := .next (tuneEndRow t n s)

/-- TUNE_RESULT: entries 177-183 of the last committed set; the result of a tune that ended without one of its
program is that of its end (R242, R259, log entry 50). -/
def cmdTuneResult (s : State) (c : Cmd) : State × Ans :=
  match c.p.axis with
  | none => s.noState c.p
  | some n =>
    let x := (s.axis n).tune
    s.ok ([BitVec.ofNat 8 (x.ended.getD (s.handedNat n 177)), BitVec.ofNat 8 x.loop] ++
      beBytes 2 (s.handedNat n 178) ++
      [179, 180, 181, 182, 183].flatMap fun i => beBytes 4 (s.handed n i).toNat)

def execTuneResult (t : Nat) (s : State) : Res := .next (s.command t (isOp 0x81) cmdTuneResult)

end Sys2Proof.Machine
end

