-- ==== Sys2Proof/Machine/CmdGroup.lean ====
section
/-! DEFINITION. GROUP_FORM and its completion (R104, R440, R443). -/

namespace Sys2Proof.Machine

def cmdGroupForm (s : State) (c : Cmd) : State × Ans :=
  let expect := beAt c.p.payload 0 1
  let topo := beAt c.p.payload 1 1
  if !s.isLead then s.noState c.p
  else if (s.pendOf 0xC0 0xFF).isSome then s.no errBusy
  else if expect = 0 ∨ 8 < expect then s.no errRange 0
  else if 1 < topo then s.no errRange 1
  else
    let s := s.sets [(Reg.MOOR_GCFG_EXPECT, expect), (Reg.MOOR_GCFG_TOPO, topo), (Reg.MOOR_GSTAT_FORMING, 1)]
    ((s.updMoor fun m => { m with formFrom := some (m.formFrom.getD s.tide) }).reForm.announce, .pending [s.tide] [])

def execGroupForm (t : Nat) (s : State) : Res := .next (s.command t (isOp 0xC0) cmdGroupForm)

/-- The serial number of a member as the lead knows it. -/
def State.serialOf (s : State) (m : Fin 8) : List Byte :=
  if m = s.mid then s.hm.serial
  else beBytes 8 (((s.moor.serials.find? fun p => p.1 == m.val).map Prod.snd).getD 0)

/-- The membership found, as the completion of GROUP_FORM gives it (R104). -/
def State.formData (s : State) : List Byte :=
  [BitVec.ofNat 8 (s.get Reg.MOOR_GSTAT_COUNT), BitVec.ofNat 8 (s.get Reg.MOOR_GSTAT_TOPO),
    BitVec.ofNat 8 (s.get Reg.MOOR_GSTAT_MASK), 0] ++ s.members.flatMap s.serialOf

/-- GROUP_FORM_COMPLETE: the membership matches, or FORMWAIT is over (R443). -/
def groupFormComplete (t : Nat) (s : State) : State :=
  let s := s.upto t
  match s.pendOf 0xC0 0xFF with
  | none => s
  | some p =>
    let timeUp := decide (p.args.getD 0 0 + s.get Reg.MOOR_GCFG_FORMWAIT * Config.sec ≤ s.tide)
    if !s.isLead then (s.set Reg.MOOR_GSTAT_FORMING 0).supersede 0xC0 0xFF none
    else if s.matchesCfg || timeUp then
      let s := (s.set Reg.MOOR_GSTAT_FORMING 0).announce
      s.complete p { status := stOk, stamp := s.tide, data := s.formData }
    else s

def execGroupFormComplete (t : Nat) (s : State) : Res := .next (groupFormComplete t s)

end Sys2Proof.Machine
end

