-- ==== Sys2Proof/Machine/CmdManifest.lean ====
section
/-! DEFINITION. The commands of the Manifest and of the safety set (R104, R107, R121-R124, R130, R136,
R137). -/

namespace Sys2Proof.Machine

/-- A MANIFEST_COMMIT or SAFETY_PARAM_VERIFY is pending (R123). -/
def State.flashBusy (s : State) : Bool := s.hm.pend.any fun p => p.op == 0x22 || p.op == 0xB1

/-! ### MANIFEST_READ, MANIFEST_WRITE (R121) -/

def cmdManifestRead (s : State) (c : Cmd) : State × Ans :=
  let src := beAt c.p.payload 0 1
  let o := beAt c.p.payload 4 4
  let n := beAt c.p.payload 8 2
  if 2 < src then s.no errRange 0
  else if n = 0 ∨ 1012 < n then s.no errRange 8
  else if bankSize < o + n then s.no errRange 4
  else s.ok (takeFrom (if src = 2 then s.stageByte else s.bankByte (Fin.ofNat 2 src)) o n)

def execManifestRead (t : Nat) (s : State) : Res := .next (s.command t (isOp 0x20) cmdManifestRead)

def cmdManifestWrite (s : State) (c : Cmd) : State × Ans :=
  let o := beAt c.p.payload 0 4
  let n := beAt c.p.payload 4 2
  if s.flashBusy then s.no errBusy
  else if n = 0 ∨ 1016 < n then s.no errRange 4
  else if bankSize < o + n then s.no errRange 0
  else (s.setStage o (c.p.payload.drop 8)).ok

def execManifestWrite (t : Nat) (s : State) : Res := .next (s.command t (isOp 0x21) cmdManifestWrite)

/-! ### MANIFEST_COMMIT (R122) -/

/-- No value twice. -/
def distinct (l : List (List Byte)) : Bool :=
  match l with
  | [] => true
  | x :: r => !r.contains x && distinct r

/-- Names of the blobs of an image. -/
def blobNames (els : List Elem) : List (List Byte) :=
  els.filterMap fun e => if e.typ = 2 then some (e.body.take 16) else none

/-- The safety set elements are the one of the set in force (R105). -/
def State.sameSafety (s : State) (els : List Elem) : Bool :=
  els.all fun e => e.typ != 4 || (s.lk.inForce.any fun x => x.body == e.body)

/-- The image that a commit of `n` staging bytes writes, without version, length and CRC (step 4). -/
def State.commitImage (s : State) (els : List Elem) (n : Nat) : List Byte :=
  match safetyOf els, s.lk.inForce with
  | none, some x => putSafety s.stageByte els n x
  | _, _ => takeFrom s.stageByte 0 n

/-- A checked image goes to the target bank, which is erased first (steps 6-8). An image that the set element of step 4
takes beyond 4 MiB is answered like one of step 2, ERR_RANGE Detail 0 (DESIGN CHOICE, log entry 59). -/
def State.startCommit (s : State) (els : List Elem) (n : Nat) (apply : Bool) : State × Ans :=
  let img := s.commitImage els n
  if bankSize < img.length + 4 then s.no errRange 0
  else
    match s.commitPlan img with
    | none => s.no errRange 8
    | some (b, v, full) =>
      let s := match safetyOf els, s.lk.inForce with
        | none, some x => s.stageSafety x
        | _, _ => s
      (s.eraseBank b, .pending [b.val, v, flag apply] full)

def cmdManifestCommit (s : State) (c : Cmd) : State × Ans :=
  let n := beAt c.p.payload 0 4
  if s.flashBusy then s.no errBusy
  else if bankSize < n then s.no errRange 0
  else if (crc32c (takeFrom s.stageByte 0 n)).toNat ≠ beAt c.p.payload 4 4 then s.no errCrc 1
  else if !structureOk s.stageByte n || decide (bankSize < n + 4) then s.no errRange 0
  else
    let els := ((elemsIn s.stageByte n).map Prod.fst).getD []
    if !distinct (blobNames els) || els.any (fun e => decide (4 < e.typ)) then s.no errRange 0
    else if !s.sameSafety els then s.no errSafety
    else s.startCommit els n (beAt c.p.payload 8 1 % 2 == 1)

def execManifestCommit (t : Nat) (s : State) : Res := .next (s.command t (isOp 0x22) cmdManifestCommit)

/-- The image of a pending commit is in flash. -/
def State.writeBank (s : State) (p : PendCmd) : State :=
  s.setBytes (bankBase (Fin.ofNat 2 (p.args.getD 0 0))) p.data

/-- The flash write of a commit failed. -/
def State.writeFailed (s : State) (p : PendCmd) : State :=
  let s := s.raise .manifestWriteFail 58 0 s.tide
  s.complete p { status := errState, detail := s.stateDetail none, stamp := s.tide }

/-- MANIFEST_APPLY: the register records of the new image as writes by requester 5 (R130). -/
def State.applyCommitted (s : State) (img : List Byte) : State :=
  let els := ((elemsIn (fun i => img.getD i 0) (img.length - 4)).map Prod.fst).getD []
  s.applyRecords false els.zipIdx

/-- MANIFEST_COMMIT_COMPLETE: the flash write and its read-back end, `ok` or not. -/
def manifestCommitComplete (t : Nat) (ok : Bool) (s : State) : State :=
  let s := s.upto t
  match s.pendOf 0x22 0xF0 with
  | none => s
  | some p =>
    if ok then
      let s := s.writeBank p
      let s := if p.args.getD 2 0 = 1 then s.applyCommitted p.data else s
      s.complete p
        { status := stOk, stamp := s.tide
          data := [BitVec.ofNat 8 (p.args.getD 0 0), 0, 0, 0] ++ beBytes 4 (p.args.getD 1 0) }
    else s.writeFailed p

def execManifestCommitComplete (t : Nat) (ok : Bool) (s : State) : Res := .next (manifestCommitComplete t ok s)

/-! ### SAFETY_PARAM_WRITE, SAFETY_PARAM_VERIFY (R107, R136, R137) -/

/-- Every axis is in OFF or SAFE. -/
def State.allSafe (s : State) : Bool := s.axes.toList.all fun a => a.st == .off || a.st == .safe

/-- Longest set data (R345). -/
def maxSet : Nat := 768 + 36 * 8

/-- Bytes written over a list from `o` on, with 0 in a gap before them. -/
def overwrite (l : List Byte) (o : Nat) (d : List Byte) : List Byte :=
  l.take o ++ List.replicate (o - l.length) 0 ++ d ++ l.drop (o + d.length)

def cmdSafetyWrite (s : State) (c : Cmd) : State × Ans :=
  let o := beAt c.p.payload 0 2
  let n := beAt c.p.payload 2 2
  if !s.allSafe then s.noState c.p
  else if n = 0 ∨ 1020 < n then s.no errRange 2
  else if maxSet < o + n then s.no errRange 0
  else State.ok { s with lk := { s.lk with staged := overwrite s.lk.staged o (c.p.payload.drop 4) } }

def execSafetyParamWrite (t : Nat) (s : State) : Res := .next (s.command t (isOp 0xB0) cmdSafetyWrite)

/-- The newest valid image, or the empty one, with the element of a set in it. -/
def State.safetyImage (s : State) (x : SafetySet) : List Byte :=
  match s.newestBank with
  | some b => putSafety (s.bankByte b) (s.bankElems b) (s.bankLen b - 4) x
  | none => putSafety (fun i => emptyImage.getD i 0) [] emptyImage.length x

/-- A verified set comes into force, and its commit to flash starts (R137). Where the image with the set does not fit a
bank nothing is erased, the set stays in force, and the completion is ERR_RANGE Detail 8, as with step 6 of R122 (DESIGN
CHOICE, log entry 59). -/
def State.startSafety (s : State) (x : SafetySet) : State × Ans :=
  let img := s.safetyImage x
  let plan := s.commitPlan img
  let s := (s.forceSet x true).stageSafety x
  match plan with
  | some (b, v, full) =>
    if full.length ≤ bankSize then (s.eraseBank b, .pending [b.val, v] full) else (s, .pending [] [])
  | none => (s, .pending [] [])

def cmdSafetyVerify (s : State) (c : Cmd) : State × Ans :=
  if !s.allSafe then s.noState c.p
  else if s.flashBusy then s.no errBusy
  else
    match s.verifySet (beAt c.p.payload 0 4) (beAt c.p.payload 4 4) with
    | .badCrc => s.no errCrc 1
    | .badCode => s.no errSafety
    | .badLength => s.no errLength
    | .badField o => s.no errRange o
    | .ok x => s.startSafety x

def execSafetyParamVerify (t : Nat) (s : State) : Res := .next (s.command t (isOp 0xB1) cmdSafetyVerify)

/-- SAFETY_PARAM_VERIFY_COMPLETE: the flash commit of the new set ends, `ok` or not. -/
def safetyVerifyComplete (t : Nat) (ok : Bool) (s : State) : State :=
  let s := s.upto t
  match s.pendOf 0xB1 0xF0 with
  | none => s
  | some p =>
    if p.data.isEmpty then s.complete p { status := errRange, detail := 8, stamp := s.tide }
    else if ok then
      (s.writeBank p).complete p
        { status := stOk, stamp := s.tide
          data := beBytes 4 ((s.lk.inForce.map SafetySet.crc).getD 0) ++
            beBytes 4 ((s.lk.inForce.map SafetySet.ver).getD 0) }
    else s.writeFailed p

def execSafetyParamVerifyComplete (t : Nat) (ok : Bool) (s : State) : Res :=
  .next (safetyVerifyComplete t ok s)

end Sys2Proof.Machine
end

