-- ==== Sys2Proof/Machine/CmdService.lean ====
section
/-! DEFINITION. The service commands: FAULT_READ and FAULT_CLEAR (R104, R107, R453), the Logbook (R418,
R421, R422, R451), DIAG_RUN (R158, R303-R307). -/

namespace Sys2Proof.Machine

/-! ### FAULT_READ (R65, R104, R453) -/

/-- The group view on the lead: the entries of every member and of the module itself, in the order of R63, as far
as they are released. -/
def State.groupView (s : State) : List Entry :=
  (s.fm.queue.foldl (fun l e => insertEntry e l) s.fm.group).filter s.groupReleased

/-- OVFL and the lost count of a view. -/
def State.viewLost (s : State) (group : Bool) : Bool × Nat :=
  let own := s.bit Reg.BW_FQSTAT_OVFL
  let lost := s.get Reg.BW_FQSTAT_LOST
  if group then (own || !s.fm.groupLost.isEmpty, min 0xFFFF (s.fm.groupLost.foldl (fun n p => n + p.2) lost))
  else (own, lost)

def cmdFaultRead (s : State) (c : Cmd) : State × Ans :=
  let first := beAt c.p.payload 0 2
  let count := beAt c.p.payload 2 1
  let view := beAt c.p.payload 3 1
  let group := view == 1
  if group && s.mid != 0 then s.noState c.p
  else if 1 < view then s.no errRange 3
  else if (if group then 511 else 63) < first then s.no errRange 0
  else if count = 0 ∨ 50 < count then s.no errRange 2
  else
    let l := if group then s.groupView else s.fqView
    let x := s.viewLost group
    s.ok (beBytes 2 l.length ++ [BitVec.ofNat 8 (flag x.1), 0] ++ beBytes 2 x.2 ++ [0, 0] ++
      ((l.drop first).take count).flatMap Entry.bytes)

def execFaultRead (t : Nat) (s : State) : Res := .next (s.command t (isOp 0x50) cmdFaultRead)

/-! ### FAULT_CLEAR (R107, R301, R335) -/

def cmdFaultClear (gone : List (FName × Nat × Nat)) (s : State) (c : Cmd) : State × Ans :=
  if s.clearWaits then s.noState c.p
  else
  match (s.foundGone gone).faultClear c.p.axis (beAt c.p.payload 0 2) with
  | (s, _, _, true) => s.noState c.p
  | (s, cleared, still, false) =>
    let s := if toModule c.p then s.leaveSafe else s
    s.ok [BitVec.ofNat 8 (min 255 cleared), BitVec.ofNat 8 (min 255 still)]

def execFaultClear (t : Nat) (gone : List (FName × Nat × Nat)) (s : State) : Res :=
  .next (s.command t (isOp 0x51) (cmdFaultClear gone))

/-! ### LOGBOOK_ARM (R418, R421) -/

/-- The channels of a plan. -/
def planChans (b : List Byte) : List LogChan :=
  (List.range (beAt b 3 1)).map fun i =>
    let e := (b.drop (16 + 8 * i)).take 8
    { kind := beAt e 0 1, b1 := beAt e 1 1, b2 := beAt e 2 1, b3 := beAt e 3 1, k := beAt e 4 2
      first := beAt e 6 2 }

/-- SAMPLE events in a period of a carrier at its present settings (R272). -/
def State.samplesPer (s : State) (n : Fin 4) : Nat :=
  let e0 := s.bit (Reg.PWM_SOFS0_EN n)
  let e1 := s.bit (Reg.PWM_SOFS1_EN n)
  let same := s.get (Reg.PWM_SOFS0_TICK n) == s.get (Reg.PWM_SOFS1_TICK n) &&
    s.get (Reg.PWM_SOFS0_FINE n) == s.get (Reg.PWM_SOFS1_FINE n)
  if e0 && e1 then (if same then 1 else 2) else if e0 || e1 then 1 else 0

/-- Bytes set in a mask of 8 inputs. -/
def inputCount (m : Nat) : Nat := ((List.range 8).filter fun i => m.testBit i).length

/-- Bytes of an item of a channel (R418). -/
def State.itemSize (s : State) (c : LogChan) : Nat :=
  let m := inputCount c.b2
  match c.kind with
  | 1 => 4 * m
  | 2 => (2 * m + 3) / 4 * 4
  | 3 => 8 + 4 * c.b3
  | 4 => 12 + 4 * s.slots (Fin.ofNat 4 c.b1)
  | 5 => 16
  | _ => 24

/-- Items per second of a channel at the present carrier settings (R421): converted events, COMMITs, reloads,
or two edges per channel and period. Channels of faults, of G24 and of G25 count as none. -/
def State.itemRate (s : State) (c : LogChan) : Q :=
  let n := Fin.ofNat 4 c.b1
  let ax := if c.kind = 1 ∨ c.kind = 2 then s.axisOfCluster n else n
  let per (v : Nat) : Q := ⟨v * Config.sec, s.get (Reg.PWM_PERIOD_PERIOD ax)⟩
  let every (q : Q) : Q := qDiv q (qInt (max 1 c.k))
  match c.kind with
  | 1 | 2 | 3 => every (per (s.samplesPer ax))
  | 4 => every (per (if s.get (Reg.PWM_CTL_RELOAD ax) = 3 then 2 else 1))
  | 5 => if c.b1 < 4 then per (2 * (s.channelsOf ax).length) else qZero
  | _ => qZero

/-- Blocks per second of a channel. -/
def State.blockRate (s : State) (c : LogChan) : Q :=
  qDiv (s.itemRate c) (qInt (4064 / max 1 (s.itemSize c)))

/-- The rate of a plan x (PRE + POST) exceeds the region (R421). -/
def State.planTooLong (s : State) (b : List Byte) : Bool :=
  let rate := (planChans b).foldl (fun q c => qAdd q (s.blockRate c)) qZero
  qLt (qInt (1000 * s.ringBlocks)) (qMul rate (qInt (beAt b 4 4 + beAt b 8 4)))

/-- The plan is armed, and recording starts. -/
def State.logArm (s : State) (k : Nat) (b : List Byte) : State :=
  let cs := planChans b
  let s := (s.drive (32 * s.tide)).updLogb fun l =>
    { l with
      sev := beAt b 1 1, pre := beAt b 4 4, post := beAt b 8 4, chans := cs, skips := cs.map fun _ => 0
      blocks := cs.zipIdx.map fun c => newBlock c.2 false s.epoch
      gaps := cs.map fun _ => false, evs := [], queue := [], ring := [], seq := 0, trigAt := none, frozen := none }
  s.sets [(Reg.LOGB_STAT_STATE, 1), (Reg.LOGB_STAT_PLAN, k), (Reg.LOGB_WPTR_BLOCK, 0), (Reg.LOGB_FRZBLK_BLOCKS, 0)]

/-- Reply of LOGBOOK_ARM: the state of the Logbook (R104). -/
def State.logState (s : State) : State × Ans := s.ok [BitVec.ofNat 8 (s.get Reg.LOGB_STAT_STATE)]

/-- Packets of LOGBOOK_ARM with an action. -/
def isArm (action : Nat) (p : Pkt) : Bool := p.op == 0x60 && beAt p.payload 0 1 == action

def cmdArm (s : State) (c : Cmd) : State × Ans :=
  let k := beAt c.p.payload 1 1
  if beAt c.p.payload 0 1 ≠ 0 then s.no errRange 0
  else if !s.bit Reg.LOGB_CTL_EN || s.get Reg.LOGB_STAT_STATE != 0 then s.noState c.p
  else
    match s.logb.plans.find? fun p => p.1 == k with
    | none => s.no errRange 1
    | some p => if s.planTooLong p.2 then s.no errRange 1 else (s.logArm k p.2).logState

def execLogbookArm (t : Nat) (s : State) : Res :=
  .next (s.command t (fun p => isOp 0x60 p && !isArm 1 p && !isArm 2 p) cmdArm)

def execLogbookDisarm (t : Nat) (s : State) : Res :=
  .next (s.command t (isArm 1) fun s _ => (s.logDisarm s.tide).logState)

def execLogbookTriggerNow (t : Nat) (s : State) : Res :=
  .next (s.command t (isArm 2) fun s _ => (s.logTriggerNow s.tide).logState)

/-! ### LOGBOOK_READ (R422, R451) -/

/-- Address of byte `k` of the frozen record. -/
def State.recordAddr (s : State) (first k : Nat) : Nat :=
  s.get Reg.LOGB_BASE_BASE * 2 ^ 20 + 4096 * ((first + k / 4096) % max 1 s.ringBlocks) + k % 4096

/-- Bytes of the frozen record, from `o` on; zeros in place of an uncorrectable error (R401). -/
def State.recordBytes (s : State) (first o n : Nat) : List Byte :=
  (List.range n).map fun i =>
    let k := o + i
    let a := s.recordAddr first k
    if s.eccAt a then 0 else s.byte a

/-- An uncorrectable error in the bytes that the Logbook reads is reported (R401). -/
def State.recordErrors (s : State) (first o n : Nat) : State :=
  if s.ecc.isEmpty then s
  else
    match ((List.range n).map fun i => s.recordAddr first (o + i)).find? s.eccAt with
    | some a => s.eccFatal s.tide a
    | none => s

/-- The frozen record, as start position and length in bytes. -/
def State.record (s : State) : Nat × Nat :=
  match s.logb.frozen with
  | some (p, n) => (p, 4096 * n)
  | none => (0, 0)

def cmdLogRead (s : State) (c : Cmd) : State × Ans :=
  let mode := beAt c.p.payload 0 1
  let o := beAt c.p.payload 4 8
  let n := beAt c.p.payload 12 4
  let r := s.record
  if s.get Reg.LOGB_STAT_STATE ≠ 3 then s.noState c.p
  else if 1 < mode then s.no errRange 0
  else if mode = 0 ∧ (n = 0 ∨ 1012 < n) then s.no errRange 12
  else if mode = 0 ∧ beAt c.p.payload 16 4 ≠ 0 then s.no errRange 16
  else if mode = 0 ∧ beAt c.p.payload 20 2 ≠ 0 then s.no errRange 20
  else if r.2 < o + n then s.no errRange 4
  else if mode = 0 then (s.recordErrors r.1 o n).ok (s.recordBytes r.1 o n)
  else (s, .pending [o, n, beAt c.p.payload 16 4, beAt c.p.payload 20 2] [])

def execLogbookRead (t : Nat) (s : State) : Res := .next (s.command t (isOp 0x61) cmdLogRead)

/-- A datagram of a bulk transfer: to the lead where LOGVIA is set (R451). -/
def State.sendBulk (s : State) (ch : Chan) (b : List Byte) : State :=
  match ch with
  | .udpRelay ip port => s.sendTo 0 13 ([ip, port] ++ b.map BitVec.toNat)
  | c => s.emit (.reply c b)

/-- Datagrams of a bulk transfer: record offset, bytes left, datagram number. -/
def State.sendRecord (ch : Chan) (first : Nat) : Nat → Nat → Nat → Nat → State → State
  | 0, _, _, _, s => s
  | fuel + 1, o, left, num, s =>
    let n := min 1024 left
    let s := s.sendBulk ch (beBytes 8 o ++ beBytes 4 n ++ beBytes 4 num ++ s.recordBytes first o n)
    State.sendRecord ch first fuel (o + n) (left - n) (num + 1) s

/-- Bulk datagrams of a member go to the lead (R451). -/
def State.logVia (s : State) : Bool := s.moorOn && s.mid != 0 && s.bit Reg.MOOR_CTL_LOGVIA

/-- LOGBOOK_BULK_COMPLETE: the last datagram is sent; or the record has gone, or the path to the lead. -/
def bulkComplete (t : Nat) (s : State) : State :=
  let s := s.upto t
  match s.pendOf 0x61 0xF0 with
  | none => s
  | some p =>
    let arg (i : Nat) : Nat := p.args.getD i 0
    let lost := s.logVia && !s.bit (Reg.MOOR_MEMBER_PRESENT 0)
    if s.get Reg.LOGB_STAT_STATE ≠ 3 ∨ lost ∨ s.record.2 < arg 0 + arg 1 then
      s.complete p { status := errState, detail := s.stateDetail none, stamp := s.tide }
    else
      let ch := if s.logVia then Chan.udpRelay (arg 2) (arg 3) else Chan.udp (arg 2) (arg 3)
      (State.sendRecord ch s.record.1 ((arg 1 + 1023) / 1024) (arg 0) (arg 1) 0
          (s.recordErrors s.record.1 (arg 0) (arg 1))).complete p
        { status := stOk, stamp := s.tide, data := beBytes 8 (arg 1) }

def execLogbookBulkComplete (t : Nat) (s : State) : Res := .next (bulkComplete t s)

/-! ### DIAG_RUN (R158, R303, R307) -/

/-- The DC link read by VHV is at least 50 V. -/
def State.linkUp (s : State) : Bool := qLe (qInt 50) s.bw.v

/-- The DC link of an axis does not exceed its voltage as precharged (R303). -/
def State.precharged (s : State) (n : Fin 4) : Bool := qLe s.bw.v (bfVal (Config.precharge n))

/-- Conditions of tests 0-3 and of test 4 on an axis (R158, R303). -/
def State.diagOk (s : State) (n : Fin 4) (mask : Nat) : Bool :=
  (s.axis n).st == .diag &&
    (mask % 16 == 0 || (s.channelsOf n).all fun g => !s.chOn s.tide g && s.bit (Reg.GATE_STAT_RAILOK g)) &&
    (mask % 8 == 0 || (s.linkUp && s.precharged n))

/-- Conditions of test 5 (R307). -/
def State.diagXOk (s : State) : Bool :=
  s.axes.toList.any (fun a => a.st == .diag) && !s.axes.toList.any (fun a => a.st.closed) && !s.brkOn &&
    !s.dscOn && s.linkUp && qLe s.bw.v (qInt 2000)

def cmdDiagRun (s : State) (c : Cmd) : State × Ans :=
  let mask := beAt c.p.payload 0 2
  if (s.pendOf 0x70 c.p.target).isSome then s.no errBusy
  else
    match c.p.axis with
    | none => if s.diagXOk then (s, .pending [mask] []) else s.noState c.p
    | some n =>
      if !s.diagOk n mask then s.noState c.p
      else if 64 ≤ mask then s.no errRange 0
      else (s.updAxis n fun a => { a with diag := some mask }, .pending [mask] [])

def execDiagRun (t : Nat) (s : State) : Res := .next (s.command t (isOp 0x70) cmdDiagRun)

/-! ### Results of DIAG_RUN (R158, R304-R307) -/

/-- The machine joins two legs of an axis through its windings (R305). -/
def State.joined (s : State) (n : Fin 4) (l m : Fin 12) : Bool :=
  let half (l : Fin 12) : Nat := l.val / 3 % 2
  match s.layout n with
  | 1 | 3 => half l == half m
  | _ => true

/-- The rest of a leg's follow set. -/
def State.followers (s : State) (n : Fin 4) (l : Fin 12) : List (Fin 12) :=
  (s.legsOf n).filter fun m => m != l && s.joined n l m

/-- The reading of leg `m` in the run of leg `l` of test 2; it followed where that is high (R305). -/
def openReading (r : DiagReadings) (l m : Fin 12) : Dsn := (r.t2.getD l []).getD m .low
def followed (r : DiagReadings) (l m : Fin 12) : Bool := openReading r l m == .high

/-- Leg `l` fails test 2: it is open, or one of its own readings lies between low and high (R304, R305). -/
def openFail (r : DiagReadings) (fs : List (Fin 12)) (l : Fin 12) : Bool :=
  (fs.any (fun p => !followed r p l) && fs.all fun m => !followed r l m) ||
    fs.any fun p => openReading r p l == .between

/-- Failures of a leg in the tests of `mask`, as the DIAG_RUN reply gives them (R304). -/
def State.legResult (s : State) (n : Fin 4) (mask : Nat) (r : DiagReadings) (l : Fin 12) : BitVec 8 :=
  let fs := s.followers n l
  let b (k v : Nat) (bad : Bool) : Nat := if mask.testBit k && bad then v else 0
  let g := r.t3.getD l (false, false)
  BitVec.ofNat 8 (b 0 1 (r.t0.getD l .low != .high) + b 1 2 (r.t1.getD l .low != .high) +
    b 2 4 (openFail r fs l) +
    b 3 8 (!g.1) + b 3 16 (!g.2))

/-- Reply bits that the tests of a mask decide. -/
def testedBits (mask : Nat) : BitVec 8 := BitVec.ofNat 8 (mask % 8 + (if mask.testBit 3 then 24 else 0))

/-- The detail of OFFSTATE_FAIL: the leg, and its failed tests as in the reply (R306, log entry 7). -/
def legDetail (l : Fin 12) (v : BitVec 8) : Nat := l.val + 256 * v.toNat

/-- The result of a leg is shown; OFFSTATE_FAIL is raised, or its cause is gone (R306). -/
def State.putLegResult (s : State) (n : Fin 4) (mask : Nat) (l : Fin 12) (v : BitVec 8) : State :=
  let old := (s.leg l).offFail
  let new := (old &&& ~~~(testedBits mask)) ||| v
  let s := (s.set (Reg.GATE_DIAGRES_LEG l) v.toNat).updLeg l fun g => { g with offFail := new }
  let s := if old != 0 && new == 0 then s.causeGone .offstateFail (12 + n) l else s
  if v != 0 then s.raise .offstateFail (12 + n) (legDetail l v) s.tide (axes := axisMask n) (inst := l.val) else s

/-- The mean of 64 codes of a slice after factory and drift correction, from their sum (R158). -/
def State.pathMean (s : State) (c : Fin 4) (l : List PathPart) : Q :=
  let part (p : PathPart) : Int :=
    let d := if p.old then (s.cluster c).before[p.slice]
      else (s.getI (Reg.ADC_DRIFT_OD c p.slice), s.getI (Reg.ADC_DRIFT_GD c p.slice))
    (32 * p.sum - p.n * (Config.sliceOffset c p.slice + d.1)) * geff (Config.sliceGain c p.slice) d.2 0
  ⟨(l.map part).sum, 2 ^ 31⟩

/-- The sums of an input at the three test codes pass the path check (R158). -/
def State.pathOk (s : State) (c : Fin 4) (l : List (List PathPart)) : Bool :=
  let near (i : Nat) (v : Int) : Bool :=
    l[i]?.any fun x => qLe (qAbs (qSub (s.pathMean c x) (qInt v))) (qInt 64)
  near 0 25000 && near 1 0 && near 2 (-25000)

/-- Failing inputs of a cluster, one bit each. -/
def State.pathMask (s : State) (r : DiagReadings) (c : Fin 4) : Nat :=
  ((List.range 8).filter fun k => !s.pathOk c (r.path.getD (8 * c.val + k) [])).foldl
    (fun m k => m + 2 ^ k) 0

/-- PATH_CHECK_FAIL of the inputs of a cluster. -/
def State.putPath (s : State) (n c : Fin 4) (m : Nat) : State :=
  (List.range 8).foldl (fun (s : State) k =>
    if m.testBit k then
      s.raise .pathCheckFail (42 + c) 0 s.tide (axes := axisMask n) (inst := k)
    else s.causeGone .pathCheckFail (42 + c) k) s

/-- Tests of a run that ended early whose results were taken (R303). -/
def takenTests (mask : Nat) (r : DiagReadings) : Nat :=
  let b (k : Nat) (none_ : Bool) : Nat := if mask.testBit k && !none_ then 2 ^ k else 0
  b 0 r.t0.isEmpty + b 1 r.t1.isEmpty + b 2 r.t2.isEmpty + b 3 r.t3.isEmpty + b 4 r.path.isEmpty

/-- Results of the tests of `mask` on an axis, and the reply bytes 0-23. -/
def State.axisResults (s : State) (n : Fin 4) (mask : Nat) (r : DiagReadings) : State × List Byte :=
  let legs := s.legsOf n
  let res (l : Fin 12) : BitVec 8 := s.legResult n mask r l
  let any (m : Nat) : Bool := legs.any fun l => decide ((res l).toNat &&& m ≠ 0)
  let pm (c : Fin 4) : Nat := if mask.testBit 4 && (s.clustersOf n).contains c then s.pathMask r c else 0
  let bad := flag (any 1) + 2 * flag (any 2) + 4 * flag (any 4) + 8 * flag (any 24) +
    16 * flag ((s.clustersOf n).any fun c => pm c != 0)
  let data := beBytes 2 mask ++ beBytes 2 bad ++
    ((List.finRange 12).map fun l => if legs.contains l then res l else 0xFF) ++
    (([0, 1, 2, 3] : List (Fin 4)).map fun c => BitVec.ofNat 8 (pm c)) ++ [0, 0, 0, 0]
  let s' := if mask % 16 ≠ 0 then
      legs.foldl (fun (s : State) (l : Fin 12) => s.putLegResult n mask l (res l)) s
    else s
  (if mask.testBit 4 then (s.clustersOf n).foldl (fun (s : State) (c : Fin 4) => s.putPath n c (pm c)) s' else s',
    data)

/-- Results of test 5 of one of the two channels: shorted, open, gate short. -/
def xResult (r : DiagReadings) (i : Nat) : Nat × Nat × Nat :=
  let (d, rose, gate) := r.x.getD i (.low, false, false)
  (flag (d != .high && !rose), flag (d != .high && rose), flag (!gate))

/-- Results of test 5, and the reply bytes. -/
def State.xResults (s : State) (mask : Nat) (r : DiagReadings) : State × List Byte :=
  let (bs, bo, bg) := xResult r 0
  let (ds, do_, dg) := xResult r 1
  let brk := bs + bo + bg
  let dsc := ds + do_ + dg
  let bad := if brk + dsc = 0 then 0 else 32
  (s.sets [(Reg.GATE_DIAGX_BRKSHORT, bs), (Reg.GATE_DIAGX_BRKOPEN, bo), (Reg.GATE_DIAGX_BRKGATE, bg),
    (Reg.GATE_DIAGX_DSCSHORT, ds), (Reg.GATE_DIAGX_DSCOPEN, do_), (Reg.GATE_DIAGX_DSCGATE, dg),
    (Reg.GATE_DIAGX_DONE, 1)],
    beBytes 2 mask ++ beBytes 2 bad ++ List.replicate 12 0xFF ++ [0, 0, 0, 0] ++
      [BitVec.ofNat 8 (flag (brk != 0) + 2 * flag (dsc != 0)), 0, 0, 0])

/-- DIAG_RUN_COMPLETE on an axis, or on the module (none). -/
def diagComplete (t : Nat) (n : Option (Fin 4)) (r : DiagReadings) (s : State) : State :=
  let s := s.upto t
  match s.pendOf 0x70 ((n.map Fin.val).getD 0xF0) with
  | none => s
  | some p =>
    let mask := p.args.getD 0 0
    let done (x : State × List Byte) : State :=
      x.1.complete p { status := stOk, stamp := x.1.tide, data := x.2 }
    match n with
    | none => done (s.xResults mask r)
    | some n =>
      if (s.axis n).diag.isNone then
        let s := (s.axisResults n (takenTests mask r) r).1
        s.complete p { status := errState, detail := s.stateDetail (some n), stamp := s.tide }
      else
        let s := s.updAxis n fun a => { a with diag := none }
        done (s.axisResults n mask r)

def execDiagRunComplete (t : Nat) (n : Option (Fin 4)) (r : DiagReadings) (s : State) : Res :=
  .next (diagComplete t n r s)

end Sys2Proof.Machine
end

