-- ==== Sys2Proof/Machine/Ecdsa.lean ====
section
/-! DEFINITION. Verification of an ECDSA signature on the curve P-256 over SHA-256, as FIPS 186 and SP 800-186 define
it (R19, R108; PRESUMED, log entry 11: the manual names the standard and does not restate it). Points are held in
Jacobian coordinates: (x, y, z) stands for (x / z^2, y / z^3), z = 0 for the neutral element. -/

namespace Sys2Proof.Machine

/-- The prime of the field, the order of the base point, and the constant term of the curve. -/
def curveP : Nat := 2 ^ 256 - 2 ^ 224 + 2 ^ 192 + 2 ^ 96 - 1
def curveN : Nat := 0xffffffff00000000ffffffffffffffffbce6faada7179e84f3b9cac2fc632551
def curveB : Nat := 0x5ac635d8aa3a93e7b3ebbd55769886bc651d06b0cc53b0f63bce3c3e27d2604b

/-- The base point. -/
def curveG : Nat × Nat :=
  (0x6b17d1f2e12c4247f8bce6e563a440f277037d812deb33a0f4a13945d898c296,
   0x4fe342e2fe1a7f9b8ee7eb4a7c0f9e162bce33576b315ececbb6406837bf51f5)

/-- Difference modulo the prime. -/
def fieldSub (a b : Nat) : Nat := (a + (curveP - b % curveP)) % curveP

structure Point where
  x : Nat
  y : Nat
  z : Nat
  deriving DecidableEq, Repr

def Point.none : Point := ⟨1, 1, 0⟩

/-- Twice a point. -/
def Point.double (a : Point) : Point :=
  if a.z = 0 ∨ a.y = 0 then Point.none
  else
    let yy := a.y * a.y % curveP
    let s := 4 * a.x * yy % curveP
    let zz := a.z * a.z % curveP
    let m := 3 * fieldSub a.x zz * (a.x + zz) % curveP
    let x := fieldSub (m * m) (2 * s)
    ⟨x, fieldSub (m * fieldSub s x) (8 * yy * yy), 2 * a.y * a.z % curveP⟩

/-- The sum of two points. -/
def Point.add (a b : Point) : Point :=
  if a.z = 0 then b
  else if b.z = 0 then a
  else
    let za := a.z * a.z % curveP
    let zb := b.z * b.z % curveP
    let u := a.x * zb % curveP
    let s := a.y * zb * b.z % curveP
    let h := fieldSub (b.x * za) u
    let r := fieldSub (b.y * za * a.z) s
    if h = 0 then (if r = 0 then a.double else Point.none)
    else
      let hh := h * h % curveP
      let hhh := hh * h % curveP
      let x := fieldSub (r * r) (hhh + 2 * u * hh)
      ⟨x, fieldSub (r * fieldSub (u * hh) x) (s * hhh), a.z * b.z * h % curveP⟩

/-- `u` times the base point and `v` times `q`, from bit `n - 1` of both on. -/
def twoMul (u v : Nat) (g q gq : Point) : Nat → Point → Point
  | 0, a => a
  | n + 1, a =>
    let d := a.double
    twoMul u v g q gq n (match u.testBit n, v.testBit n with
      | true, true => d.add gq
      | true, false => d.add g
      | false, true => d.add q
      | false, false => d)

/-- `b ^ e` modulo `m`, for an exponent of 256 bits, from bit `n - 1` on. -/
def powMod (m b e : Nat) : Nat → Nat → Nat
  | 0, a => a
  | n + 1, a =>
    let s := a * a % m
    powMod m b e n (if e.testBit n then s * b % m else s)

/-- The key is a point of the curve. -/
def onCurve (k : Nat × Nat) : Bool :=
  decide (k.1 < curveP ∧ k.2 < curveP) && k.2 * k.2 % curveP == (k.1 * k.1 * k.1 + (curveP - 3) * k.1 + curveB) % curveP

/-- `r` and `s` sign a message of hash `e` under a public key. -/
def ecdsaVerify (key : Nat × Nat) (e r s : Nat) : Bool :=
  if r = 0 ∨ curveN ≤ r ∨ s = 0 ∨ curveN ≤ s ∨ onCurve key = false then false
  else
    let w := powMod curveN s (curveN - 2) 256 1
    let g : Point := ⟨curveG.1, curveG.2, 1⟩
    let q : Point := ⟨key.1, key.2, 1⟩
    let a := twoMul (e * w % curveN) (r * w % curveN) g q (g.add q) 256 Point.none
    let zz := a.z * a.z % curveP
    a.z != 0 && (a.x == r * zz % curveP || (decide (r + curveN < curveP) && a.x == (r + curveN) * zz % curveP))

/-- `sig`, r followed by s, signs the bytes `b` under a public key (R108). -/
def signedBy (key : Nat × Nat) (b sig : List Byte) : Bool :=
  ecdsaVerify key (beNat (sha256 b)) (beAt sig 0 32) (beAt sig 32 32)

end Sys2Proof.Machine
end

