-- ==== Sys2Proof/Machine/CmdUpdate.lean ====
section
/-! DEFINITION. Sessions and key slots (R91-R96), firmware update (R108-R110). -/

namespace Sys2Proof.Machine

/-! ### Sessions (R91-R96) -/

/-- Packets of SESSION_OPEN with a mode. -/
def isSess (mode : Nat) (p : Pkt) : Bool := p.op == 0xA0 && beAt p.payload 0 1 == mode

/-- The label of R93: "LX2460-SESSION". -/
def sessionLabel : List Byte :=
  [0x4C, 0x58, 0x32, 0x34, 0x36, 0x30, 0x2D, 0x53, 0x45, 0x53, 0x53, 0x49, 0x4F, 0x4E]

/-- A key slot. -/
def State.slot (s : State) (i : Fin 8) : KeySlot := s.hm.slots[i]

def State.setSlot (s : State) (i : Fin 8) (k : KeySlot) : State :=
  s.updHm fun h => { h with slots := h.slots.set i k }

/-- A session starts: its key, the module's nonce and identity (free values), and the sequence from 1 on (R93,
R94). -/
def State.openSession (s : State) (ch : Chan) (i : Fin 8) (nh : List Byte) : State × List Byte :=
  let k := s.slot i
  let s := s.closeSession ch
  let (sid, s) := s.freeBytes 4
  let (nm, s) := s.freeBytes 16
  let x : Session :=
    { chan := ch, slot := i, sid := sid, key := hmac k.key (sessionLabel ++ nh ++ nm ++ sid), lastAt := s.tide }
  let s := (s.updHm fun h => { h with sess := h.sess ++ [x] }).updChannel ch fun c =>
    { c with last := 0, cache := [] }
  (s, sid ++ nm ++ [k.role])

/-- The slot that a command names. -/
def Cmd.slot (c : Cmd) : Option (Fin 8) :=
  let k := beAt c.p.payload 1 1
  if k < 8 then some (Fin.ofNat 8 k) else none

def cmdSessionOpen (s : State) (c : Cmd) : State × Ans :=
  if beAt c.p.payload 0 1 ≠ 0 then s.no errRange 0
  else
    match c.slot with
    | none => s.no errRange 1
    | some i =>
      if !(s.slot i).live then s.no errAuth 6
      else if 4 ≤ (s.hm.sess.filter fun x => x.chan != c.h.chan).length then s.no errBusy
      else
        let r := s.openSession c.h.chan i ((c.p.payload.drop 4).take 16)
        r.1.ok r.2

def execSessionOpen (t : Nat) (s : State) : Res :=
  .next (s.command t (fun p => isOp 0xA0 p && !isSess 1 p && !isSess 2 p) cmdSessionOpen)

/-- The session of the channel has the KEYS role. -/
def State.hasKeys (s : State) (ch : Chan) : Bool :=
  (s.session ch).any fun x => (s.slot x.slot).role.getLsbD 4

def cmdProgramSlot (s : State) (c : Cmd) : State × Ans :=
  let blank := s.hm.slots.toList.all fun k => k.st == .blank
  if c.h.chan ≠ .hspi ∨ (!s.hasKeys c.h.chan && !blank) then s.no errAuth 6
  else
    match c.slot with
    | none => s.no errRange 1
    | some i =>
      if (s.slot i).st ≠ .blank then s.no errAuth 6
      else
        (s.setSlot i
          { key := (c.p.payload.drop 20).take 32, role := BitVec.ofNat 8 (beAt c.p.payload 52 1), st := .programmed }).ok

def execSessionProgramSlot (t : Nat) (s : State) : Res := .next (s.command t (isSess 1) cmdProgramSlot)

/-- Close the sessions of a slot on other channels. -/
def State.closeSlot (s : State) (i : Fin 8) (ch : Chan) : State :=
  (s.hm.sess.filter fun x => x.slot == i && x.chan != ch).foldl (fun (s : State) x => s.closeSession x.chan) s

/-- The only unrevoked slot with the KEYS role. -/
def State.lastKeys (s : State) (i : Fin 8) : Bool :=
  let keys (j : Fin 8) : Bool := (s.slot j).live && (s.slot j).role.getLsbD 4
  keys i && (List.finRange 8).all fun j => j == i || !keys j

def cmdRevokeSlot (s : State) (c : Cmd) : State × Ans :=
  if c.h.chan ≠ .hspi ∨ !s.hasKeys c.h.chan then s.no errAuth 6
  else
    match c.slot with
    | none => s.no errRange 1
    | some i =>
      if !(s.slot i).live then s.no errAuth 6
      else if s.lastKeys i then s.noState c.p
      else
        let own := (s.session c.h.chan).any fun x => x.slot == i
        let s := (s.closeSlot i c.h.chan).setSlot i { s.slot i with st := .revoked }
        if own then (s, .closing) else s.ok

def execSessionRevokeSlot (t : Nat) (s : State) : Res := .next (s.command t (isSess 2) cmdRevokeSlot)

def execSessionClose (t : Nat) (s : State) : Res := .next (s.command t (isOp 0xA1) fun s _ => (s, .closing))

/-! ### Firmware images (R108, R402) -/

/-- Bytes of one firmware bank. -/
def fwSize : Nat := 0x800000

/-- Start of firmware bank 0 (A) or 1 (B). -/
def fwBase (b : Nat) : Nat := 0x60000000 + b * fwSize

/-- A big-endian field of the header of the image in a bank. -/
def State.fwField (s : State) (b o : Nat) : Nat := beNat (s.bytes (fwBase b + o) 4)

/-- Length of the image in a bank by its header. -/
def State.fwLen (s : State) (b : Nat) : Nat := 128 + s.fwField b 12

/-- The image that is not running. -/
def State.fwInactive (s : State) : Nat := if s.hm.fw.running = 0 then 1 else 0

/-- The bank holds an image of the form of R108: the ASCII bytes "LXFW", reserved bytes of 0, and a length that
fits. -/
def State.fwFormed (s : State) (b : Nat) : Bool :=
  s.bytes (fwBase b) 4 == [0x4C, 0x58, 0x46, 0x57] && (s.bytes (fwBase b + 16) 48).all (· == 0) &&
    decide (s.fwLen b ≤ fwSize)

/-- A key in an OTP slot verifies the signature at the end of the image over its header and body (R108). -/
def State.fwVerified (s : State) (b : Nat) : Bool :=
  let n := s.fwLen b - 64
  s.fwFormed b && s.hm.fw.keys.toList.any fun k =>
    k.any fun q => signedBy q (s.bytes (fwBase b) n) (s.bytes (fwBase b + n) 64)

/-- What the boot ROM's check of a bank gives (R110). DESIGN CHOICE (log entry 38): where neither OTP slot is
programmed there is no key to check with, and the result is what the start's operand says. -/
def State.fwSigned (s : State) (b : Nat) (found : Bool) : Bool :=
  if s.hm.fw.keys.toList.all (·.isNone) then found else s.fwVerified b

/-- The inactive bank holds an image of `size` bytes that passes the checks of FINISH (R109): size, signature,
rollback index. -/
def State.fwGood (s : State) (size : Nat) : Bool :=
  let b := s.fwInactive
  s.fwLen b == size && s.fwVerified b && decide (s.hm.fw.rollback ≤ s.fwField b 8)

/-! ### FW_UPDATE (R109) -/

/-- Packets of FW_UPDATE in a phase. -/
def isPhase (k : Nat) (p : Pkt) : Bool := p.op == 0x90 && beAt p.payload 0 1 == k

/-- The open update after one of its phases has ended. -/
def State.setUpdate (s : State) (u : Update) : State := s.updHm fun h => { h with upd := some u }

/-- The open update after an accepted FW_UPDATE of its channel, from which its 60 s run. -/
def State.putUpdate (s : State) (u : Update) : State := s.setUpdate { u with lastAt := s.tide }

/-- Phases 1-3: the channel's own open update, with no phase of it pending. -/
def State.ownUpdate (s : State) (c : Cmd) (f : Update → State × Ans) : State × Ans :=
  match s.hm.upd with
  | none => s.noState c.p
  | some u => if u.chan ≠ c.h.chan ∨ u.busy then s.no errBusy else f u

/-- START. DEDUCED (log entry 54): a START of the open update's own channel begins it anew; one of another channel is
answered ERR_BUSY. -/
def cmdFwStart (s : State) (c : Cmd) : State × Ans :=
  let size := beAt c.p.payload 4 4
  if beAt c.p.payload 0 1 ≠ 0 then s.no errRange 0
  else if s.hm.upd.any fun u => u.chan != c.h.chan || u.busy then s.no errBusy
  else if size < 128 ∨ fwSize < size then s.no errRange 4
  else
    let s := s.eraseMem (fwBase s.fwInactive) fwSize
    (s.putUpdate { chan := c.h.chan, size := size, next := 0, lastAt := s.tide, finished := false, busy := true },
      .pending [0] [])

def execFwUpdateStart (t : Nat) (s : State) : Res :=
  .next (s.command t (fun p => isOp 0x90 p && !(([1, 2, 3, 4, 5] : List Nat).any fun k => isPhase k p)) cmdFwStart)

/-- The pending phase of FW_UPDATE. -/
def State.pendPhase (s : State) (k : Nat) : Option PendCmd :=
  s.hm.pend.find? fun p => p.op == 0x90 && p.args == [k]

/-- FW_UPDATE_ERASE_COMPLETE. -/
def fwErased (t : Nat) (s : State) : State :=
  let s := s.upto t
  match s.pendPhase 0, s.hm.upd with
  | some p, some u => (s.setUpdate { u with busy := false }).complete p { status := stOk, stamp := s.tide }
  | _, _ => s

def execFwUpdateEraseComplete (t : Nat) (s : State) : Res := .next (fwErased t s)

def cmdFwData (s : State) (c : Cmd) : State × Ans :=
  s.ownUpdate c fun u =>
    let o := beAt c.p.payload 4 4
    let d := c.p.payload.drop 8
    if o ≠ u.next ∨ u.size < o + d.length then s.no errRange 4
    else ((s.setBytes (fwBase s.fwInactive + o) d).putUpdate { u with next := o + d.length, finished := false }).ok

def execFwUpdateData (t : Nat) (s : State) : Res := .next (s.command t (isPhase 1) cmdFwData)

def cmdFwFinish (s : State) (c : Cmd) : State × Ans :=
  s.ownUpdate c fun u => (s.putUpdate { u with busy := true }, .pending [2] [])

def execFwUpdateFinish (t : Nat) (s : State) : Res := .next (s.command t (isPhase 2) cmdFwFinish)

/-- FW_UPDATE_FINISH_COMPLETE: the checks of the image end. -/
def fwFinished (t : Nat) (s : State) : State :=
  let s := s.upto t
  match s.pendPhase 2, s.hm.upd with
  | some p, some u =>
    let good := u.next == u.size && s.fwGood u.size
    let s := s.setUpdate { u with busy := false, finished := good }
    if good then s.complete p { status := stOk, stamp := s.tide }
    else (s.complete p { status := errAuth, detail := 5, stamp := s.tide }).authFail p.chan
  | _, _ => s

def execFwUpdateFinishComplete (t : Nat) (s : State) : Res := .next (fwFinished t s)

/-- ACTIVATE: the inactive bank becomes the preferred one, on trial; the restart follows the reply. -/
def cmdFwActivate (s : State) (c : Cmd) : State × Ans :=
  s.ownUpdate c fun u =>
    let restart := (beAt c.p.payload 1 1).testBit 0
    if !u.finished || (restart && s.axes.toList.any fun a => a.st != .off) then s.noState c.p
    else
      let s := s.updHm fun h =>
        { h with upd := none, fw := { h.fw with preferred := s.fwInactive, trial := true, trialStarts := 0 } }
      State.ok { s with pwr := { s.pwr with fwact := restart } }

/-- ABORT. DEDUCED (log entry 54): with no open update there is nothing to discard, and the reply is OK. -/
def execFwUpdateAbort (t : Nat) (s : State) : Res :=
  .next (s.command t (isPhase 4) fun s _ => s.dropUpdate.ok)

def cmdFwConfirm (s : State) (c : Cmd) : State × Ans :=
  if !s.hm.fw.runsTrial then s.noState c.p
  else
    let i := s.fwField s.hm.fw.running 8
    let s := s.updHm fun h =>
      { h with
        upd := h.upd.map fun u => if u.chan = c.h.chan then { u with lastAt := s.tide } else u
        fw := { h.fw with trial := false, trialStarts := 0, rollback := max h.fw.rollback i } }
    s.ok

def execFwUpdateConfirm (t : Nat) (s : State) : Res := .next (s.command t (isPhase 5) cmdFwConfirm)

end Sys2Proof.Machine
end

