-- ==== Sys2Proof/Machine/Lines.lean ====
section
/-! DEFINITION. The delay lines and their calibrator (R49-R53). -/

namespace Sys2Proof.Machine

/-- A measurement of line `k` gives `n` taps per tick: accepted, or rejected, the eighth rejection in a row making
the line coarse (R52). -/
def State.measureLine (t : Nat) (k : Fin 28) (s : State) (n : Nat) : State :=
  let put (d : DLine) (s : State) : State := { s with dl := { s.dl with line := s.dl.line.set k d } }
  if 34 ≤ n ∧ n ≤ 63 then (put { taps := n, rejects := 0 } s).set (Reg.TIDE_DLCOARSE_BIT k) 0
  else
    let d := s.dl.line[k]
    let r := min 8 (d.rejects + 1)
    let s := (put { d with rejects := r } s).sets [(Reg.TIDE_DLCAL_REJ, 1), (Reg.TIDE_DLCAL_LINE, k)]
    if r = 8 ∧ d.rejects < 8 then (s.set (Reg.TIDE_DLCOARSE_BIT k) 1).raise .dlCalFail 0 k t else s

/-- Scheduled edges of line `k` in the ticks from `a` to `b`: those of its gate channel in the frame in force, or
the sample instants of its cluster (R49, R51). -/
def State.scheduled (s : State) (k : Fin 28) (a b : Nat) : Bool :=
  if h : k.val < 24 then
    let l : Fin 12 := ⟨k.val / 2, by omega⟩
    (s.chanEdges (32 * a) (32 * b + 32) l (decide (k.val % 2 = 0))).length != 0
  else
    let n := s.axisOfCluster (Fin.ofNat 4 (k.val - 24))
    let p := s.period n
    s.running n && (s.sampleOffs n).any fun o =>
      let z := ((s.carrier n).zero + o) / 32
      decide (nextPoint a (z % max 1 p) (max 1 p) ≤ b)

/-- Line `k` has placed an edge, or has one scheduled, in the ticks from `a` to `b`. -/
def State.busyLine (s : State) (k : Fin 28) (a b : Nat) : Bool :=
  s.dl.edges.any (fun e => e.1 == k.val && decide (a ≤ e.2 ∧ e.2 ≤ b)) || s.scheduled k a b

/-- The instant `p` lies in an idle window of line `k`: within the 65 536 ticks of its turn, and no edge of the line
within 8 ticks (R51). -/
def State.idleWindow (s : State) (k : Fin 28) (p : Nat) : Bool :=
  decide (s.dl.since ≤ p ∧ p ≤ min s.tide (s.dl.since + 65536)) && !s.busyLine k (p - 8) (p + 8)

/-- N of a measurement: the mean of 16 launches, each in an idle window; half a tap rounds up (R51, log entry 48).
None before 16 such launches. -/
def State.lineMean (s : State) (k : Fin 28) (launches : List (Nat × Nat)) : Option Nat :=
  let l := (launches.filter fun p => s.idleWindow k p.1).take 16
  if l.length = 16 then some ((2 * (l.map Prod.snd).sum + 16) / 32) else none

/-- The calibrator goes on to the next line; after line 27 a round is complete (R51). -/
def State.nextLine (s : State) (t : Nat) : State :=
  let k := s.dl.turn
  let edges := s.dl.edges.filter fun e => decide (t ≤ e.2 + 8)
  let s := { s with dl := { s.dl with turn := k + 1, since := t, edges := edges } }
  if k = 27 then s.incWrap Reg.TIDE_DLCAL_ROUNDS else s

/-- DELAY_LINE_MEASUREMENT of line `k`, with the launches made on it: instants and taps counted. The line in turn
takes its new table once 4096 ticks are over and it has no edge within 16 ticks, and is skipped for this round when
65 536 ticks have not given 16 idle windows (R51, R52). -/
def delayLine (t : Nat) (k : Fin 28) (launches : List (Nat × Nat)) (s : State) : State :=
  let s := (s.upto t).drive (32 * t)
  if k ≠ s.dl.turn then s
  else
    match s.lineMean k launches with
    | some n =>
      if s.dl.since + 4096 ≤ t ∧ !s.scheduled k t (t + 16) then (s.measureLine t k n).nextLine t else s
    | none => if s.dl.since + 65536 ≤ t then s.nextLine t else s

def execDelayLineMeasurement (t : Nat) (k : Fin 28) (launches : List (Nat × Nat)) (s : State) : Res :=
  .next (delayLine t k launches s)

/-- The start measurements of a line (R53): it measures until one is accepted; a line that fails begins service
coarse. -/
def State.startLine (t : Nat) (taps : List (List Nat)) (s : State) (k : Fin 28) : State :=
  let s := ((taps[k.val]?).getD []).foldl (fun (s : State) n =>
    if (s.dl.line[k]).taps = 0 then s.measureLine t k n else s) s
  if (s.dl.line[k]).taps = 0 && !s.coarse k then (s.set (Reg.TIDE_DLCOARSE_BIT k) 1).raise .dlCalFail 0 k t else s

end Sys2Proof.Machine
end

