-- ==== Sys2Proof/Machine/Start.lean ====
section
/-! DEFINITION. Start-up (R463-R466), the choice of the firmware bank (R110), power-on reset and module
restart (R467, R468, R472), and the commands that cause a restart. -/

namespace Sys2Proof.Machine

/-! ### Step 2: firmware (R110, R466) -/

/-- The boot ROM's choice: the firmware state after it, and whether it went back to the other bank; none where no
bank may start: a bank on trial starts three times at most (R110). -/
def fwChoose (f : Fw) (okA okB : Bool) : Option (Fw × Bool) :=
  let ok (b : Nat) : Bool := if b = 0 then okA else okB
  let other := if f.preferred = 0 then 1 else 0
  let may := ok f.preferred && (!f.trial || decide (f.trialStarts < 3))
  if may then
    some ({ f with running := f.preferred, trialStarts := if f.trial then f.trialStarts + 1 else 0 }, false)
  else if ok other then
    some ({ f with running := other, preferred := other, trial := false, trialStarts := 0 }, true)
  else none

/-- The boot ROM reads the two key slots of OTP, which keep what they hold once programmed (R108, R463). -/
def Fw.readKeys (f : Fw) (found : Vector (Option (Nat × Nat)) 2) : Fw :=
  { f with keys := Vector.ofFn fun (i : Fin 2) => (f.keys[i]).orElse fun _ => found[i] }

/-! ### OTP (R135) -/

/-- CAL_OTP for every converter whose factory words cannot be read. -/
def State.calFaults (s : State) (t : Nat) (r : StartIn) : State :=
  let s := ([0, 1, 2, 3] : List (Fin 4)).foldl (fun (s : State) (c : Fin 4) =>
    if r.calC.getLsbD c then
      (s.updAxis (s.axisOfCluster c) fun a => { a with calBad := true }).raise .calOtp (42 + c) 0 t (sev := 3)
    else s) s
  let s := if r.calVhv then s.raise .calOtp 3 0 t (sev := 5) else s
  if r.calHk.isEmpty then s else State.raise { s with hkUncal := r.calHk } .calOtp 46 0 t (sev := 1)

/-! ### Step 5: self-tests (R464) -/

/-- The measurements of a slice at start-up: an accepted one gives its drift; a rejected one shows REJ, is made once
more, and the second rejection retires the slice (R156, R166). A measurement that gives no sums is rejected. -/
def State.measureSlice (t : Nat) (c : Fin 4) (sl : Fin 9) : Nat → List (Int × Int × Int) → State → State
  | 0, _, s => s.retireSlice t c sl
  | left + 1, [], s => State.measureSlice t c sl left [] (s.set (Reg.ADC_STATUS_REJ c) 1)
  | left + 1, (z, p, n) :: l, s =>
    let (od, gd) := driftOf c sl z p n
    if driftOk od gd then (s.setI (Reg.ADC_DRIFT_OD c sl) od).setI (Reg.ADC_DRIFT_GD c sl) (gd.getD 0)
    else State.measureSlice t c sl left l (s.set (Reg.ADC_STATUS_REJ c) 1)

/-- A slice at start-up. -/
def State.startSlice (t : Nat) (l : List (List (Int × Int × Int))) (c : Fin 4) (s : State) (sl : Fin 9) : State :=
  State.measureSlice t c sl 2 ((l[9 * c.val + sl.val]?).getD []) s

/-- Lookout starts: instruction test, and an internal fault latched before stands again (R342, R343, R468). -/
def State.startLookout (s : State) (t : Nat) (ok : Bool) : State :=
  let s := { s with lk := { s.lk with tested := Vector.replicate 5 t } }
  if !ok then s.lkInternal t 4
  else s.set Reg.LOOKOUT_STATUS_STATE (if s.isActive .lkInternal 2 then 2 else 1)

/-- Step 5. Every delay line, slice and the first HK round are measured, and VHV is valid, before a gate rail comes
up; without a valid result the gate rails of the X domain stay off (R53, R161, R166). -/
def State.selfTests (s : State) (t : Nat) (r : StartIn) : State :=
  let s := match r.vhv with
    | some code => s.takeVhv t code true
    | none => s.raise .vhvFail 3 0 t
  let s := s.startLookout t r.lookoutOk
  let s := (List.finRange 28).foldl (State.startLine t r.taps) s
  let s := ([0, 1, 2, 3] : List (Fin 4)).foldl (fun (s : State) (c : Fin 4) =>
    (List.finRange 9).foldl (State.startSlice t r.slices c) s) s
  let s := hkEnd t r.hk s
  (if r.vhv.isSome then s.startX t r.xOk else s).eachAxis State.portStart

/-! ### Step 6 (R460, R465) -/

/-- Rails of an axis that the Manifest starts in READY. -/
def State.startAxis (s : State) (n : Fin 4) : State :=
  if (s.axis n).st != .off || (s.axis n).calBad || s.idle n then s
  else if (s.shortfall (s.pwr.res.set n .full)).isSome then s.raise .pwrStartRefused 7 n s.tide
  else (s.enableRails n).updAxis n fun a => { a with pendTo := some .ready }

/-- Step 6: skipped where a severity-5 fault is active. -/
def State.startRails (s : State) (ready : List (Fin 4)) : State :=
  if s.fm.active.any fun a => a.sev == 5 then s
  else (([0, 1, 2, 3] : List (Fin 4)).filter ready.contains).foldl State.startAxis s

/-! ### Steps 2-7 (R463) -/

/-- The legs of each axis as the image about to be applied gives them: no axis is held on the legs of another
while it is applied (R468). -/
def State.forecast (s : State) : State :=
  s.setReg Reg.SYS_AXCFG ((s.setReg Reg.SYS_AXCFG (resetWord Reg.SYS_AXCFG)).applyManifest.1.reg Reg.SYS_AXCFG)

/-- At power-on the energy models of BRK and DSC stand at half the EMAX in use (R318, R322). -/
def State.halfModels (s : State) : State :=
  s.updBw fun b => { b with brkE := 500 * s.get Reg.BW_BRKEMAX_EMAX, dscE := 500 * s.get Reg.BW_DSCEMAX_EMAX }

/-- Entry 205 of every engine is the throttle level of its axis, which Breakwater holds (R242, R327). -/
def State.startThrottle (s : State) : State :=
  s.eachAxis fun (s : State) (n : Fin 4) => s.setPort n 205 (bfRound ⟨s.get (Reg.BW_AXSTAT_THRLVL n), 16⟩)

/-- Steps 2-6 on a machine whose blocks have been reset, up to the wait for rails; step 7 where no axis waits.
`por`: after a power-on reset. `hold`: an axis was outside OFF before a module restart. -/
def State.bootSteps (s : State) (t : Nat) (r : StartIn) (por hold : Bool) : State :=
  let s := s.updHm fun h => { h with fw := h.fw.readKeys r.keys }
  match fwChoose s.hm.fw (s.fwSigned 0 r.fwA) (s.fwSigned 1 r.fwB) with
  | none => s
  | some (fw, reverted) =>
    let s := s.updHm fun h => { h with fw := fw }
    if !r.dramOk then s
    else
      let s := s.updHm fun h => { h with fw := { fw with version := s.fwField fw.running 4 } }
      let s := (({ s with mid := r.straps }).updPwr fun p => { p with up := true })
      let s := (s.sets [(Reg.MOOR_GSTAT_MASK, s.ownBit), (Reg.TIDE_STATUS_ALIGNED, 1)]).recount
      let s := if reverted then s.raise .fwRevert 1 0 t else s
      let s := (s.lwFound.forecast).calFaults t r
      let (s, ready) := s.applyManifest
      let s := if por then (s.set Reg.TIDE_STATUS_REFACT (s.get Reg.TIDE_CTL_REFSEL)).halfModels else s
      let s := (s.startThrottle.set Reg.SYS_MODSTATE_STATE 1).selfTests t r
      let s := s.updPwr fun p => { p with starting := true }
      let s := if hold then s.raise .pwrRestart 7 0 t else s.startRails ready
      (s.reBudget.settle t).finishStart

/-! ### Power-on reset (R46, R466, R467) -/

/-- Bytes of the flash. -/
def flashOnly (m : List Host.Cell) : List Host.Cell :=
  m.filter fun c => decide (0x60000000 ≤ c.1 ∧ c.1 < 0x64000000)

/-- Everything at its reset value but flash, OTP and what is the model's own (R16). -/
def State.porBlank (s : State) (t : Nat) (r : StartIn) : State :=
  { pending := s.pending, free := s.free, out := s.out, tide := t, mem := flashOnly s.mem, mid := r.straps
    hm := { slots := s.hm.slots, fw := s.hm.fw, serial := s.hm.serial }
    pwr := { off := false } }

/-- The machine as a power-on reset leaves it before step 2: the PLL is locked. -/
def State.powerUp (s : State) (t : Nat) (r : StartIn) : State :=
  let n := (s.porBlank t r).sets [(Reg.TIDE_STATUS_LOCK, 1), (Reg.PWR_STATUS_ACVALID, flag r.ac),
    (Reg.PWR_STATUS_ACHIGH, flag (r.ac && r.high)), (Reg.PWR_STATUS_KAVALID, flag r.ka)]
  n.reCond

/-- POWER_ON_RESET: steps 1-6; the Tide count stands at `t` by then. -/
def powerOnReset (t : Nat) (r : StartIn) (s : State) : State := (s.powerUp t r).bootSteps t r true false

def execPowerOnReset (t : Nat) (r : StartIn) (s : State) : Res := .next (powerOnReset t r s)

/-! ### Module restart (R467, R468) -/

/-- Registers that a module restart keeps: those of Breakwater, the gate channels and power entry. R467 names the
registers of Breakwater only; DEDUCED (log entry 54): what is kept of the gate channels and of power entry includes
their registers, service writes among them, against the loss of layer 4 of R111. -/
def keptReg (a : Nat) : Bool := a / 0x10000 == 3 || a / 0x10000 == 7 || a / 0x10000 == 15

/-- What an axis keeps: its state, the choice of its stop reaction, its speed. -/
def Axis.kept (a : Axis) : Axis := { st := a.st, stop := a.stop, spd := a.spd }

/-- What a leg keeps: a low side that ASC holds on, and the off-state tests that failed. -/
def Leg.kept (l : Leg) : Leg := { lowSince := l.lowSince, offFail := l.offFail }

/-- Before the blocks are reset: every axis outside OFF takes its stop reaction. Rails that are on stay on (R467,
R468). -/
def State.brace (s : State) (t : Nat) : State :=
  let s := s.eachAxis fun (s : State) (n : Fin 4) => if (s.axis n).st == .off then s else s.faultAxis n
  s.settle t

/-- The STO pair as Lookout finds it when it starts (R347): the levels that stand, and no cycle owed where both are
high. -/
def State.foundSto (s : State) : LkPair :=
  let a := s.bit Reg.BW_STATUS_STOA
  let b := s.bit Reg.BW_STATUS_STOB
  { a := a, b := b, diff := if a = b then none else some s.tide, bothLow := !a && !b, need := !a || !b }

/-- The reservation of an axis across a module restart: it stands until the rails are off (R459, R467). -/
def State.keptRes (s : State) (n : Fin 4) : Resv :=
  if (s.convertersOf n).any fun g => (s.gate g).en then
    (if s.pwr.res[n] == .standby then Resv.standby else Resv.full)
  else Resv.none

/-- The state with every block that a module restart resets at its reset value. -/
def State.restartBlank (s : State) : State :=
  { pending := s.pending, free := s.free, out := s.out, tide := s.tide, backup := s.backup
    regs := s.regs.filter fun x => keptReg x.1
    mem := flashOnly s.mem, mid := s.mid, fm := s.fm
    lk := { sto := s.foundSto, left := s.axes.map fun (a : Axis) => a.outside s.tide }
    axes := s.axes.map Axis.kept, legs := s.legs.map Leg.kept, gates := s.gates, bw := s.bw
    hm := { slots := s.hm.slots, fw := s.hm.fw, serial := s.hm.serial }
    pwr :=
      { res := Vector.ofFn s.keptRes
        xDsc := s.pwr.xDsc, off := s.pwr.off } }

/-- The blocks that a module restart resets are at their reset values; the rest stands. -/
def State.wipe (s : State) : State :=
  s.restartBlank.sets [(Reg.TIDE_STATUS_LOCK, s.get Reg.TIDE_STATUS_LOCK), (Reg.TIDE_STATUS_REFACT, s.get Reg.TIDE_STATUS_REFACT),
    (Reg.TIDE_STATUS_REFLOST, s.get Reg.TIDE_STATUS_REFLOST), (Reg.TIDE_STATUS_EPOCH, s.epoch),
    (Reg.PWM_STATUS_OUT 0, s.get (Reg.PWM_STATUS_OUT 0)),
    (Reg.PWM_STATUS_OUT 1, s.get (Reg.PWM_STATUS_OUT 1)), (Reg.PWM_STATUS_OUT 2, s.get (Reg.PWM_STATUS_OUT 2)),
    (Reg.PWM_STATUS_OUT 3, s.get (Reg.PWM_STATUS_OUT 3)), (Reg.PWR_SLOT_SLOT, 7)]

/-- Causes of a module restart as `PWR_RSTCAUSE` shows them. -/
inductive Cause where
  | cmd | fwact | wdog | lossret
  deriving DecidableEq, Repr

/-- `PWR_RSTCAUSE` after a restart; LKLATCH stays. -/
def State.putCause (s : State) (c : Cause) : State :=
  s.sets [(Reg.PWR_RSTCAUSE_POR, 0), (Reg.PWR_RSTCAUSE_CMD, flag (c == .cmd)),
    (Reg.PWR_RSTCAUSE_FWACT, flag (c == .fwact)), (Reg.PWR_RSTCAUSE_WDOG, flag (c == .wdog)),
    (Reg.PWR_RSTCAUSE_LOSSRET, flag (c == .lossret))]

/-- MODULE_RESTART at `t`: the module starts again from step 2. -/
def State.restart (s : State) (t : Nat) (c : Cause) (r : StartIn) : State :=
  let hold := s.axes.toList.any fun a => a.st != .off
  let s := (((s.brace t).wipe).putCause c)
  let s := if c = .wdog then s.raise .pwrWdog 7 0 t else s
  s.bootSteps t r false hold

/-! ### What causes a restart -/

/-- The restart that an accepted write of the key makes due, by a command or a register access that has no start of
its own to read, where none was due before it (`was`): what it finds is a free value (R467, log entry 2). -/
def State.restartDue (s : State) (was : Bool) : State :=
  if !was && s.pwr.restart then State.restart { s with free := s.free + 1 } s.tide .cmd (Config.freeStart s.free) else s

def execRegisterWrite (t req addr width : Nat) (w : Word) (s : State) : Res :=
  .next (((s.busAt t req true).busWrite req addr width w).1.restartDue s.pwr.restart)
def execRemoteAccess (t req addr : Nat) (write : Bool) (w : Word) (s : State) : Res :=
  .next ((remoteAccess t req addr write w s).restartDue s.pwr.restart)
def execRegWrite (t : Nat) (s : State) : Res := .next ((s.command t (isOp 0x11) cmdRegWrite).restartDue s.pwr.restart)
def execRegModify (t : Nat) (s : State) : Res := .next ((s.command t (isOp 0x12) cmdRegModify).restartDue s.pwr.restart)

/-- PWR_RESET_WRITE: a write of `PWR_RESET`; a key accepted by any way of writing makes the restart due (R467). -/
def pwrResetWrite (t req : Nat) (w : Word) (r : StartIn) (s : State) : State :=
  let s := regWriteAt t req Reg.PWR_RESET w s
  if s.pwr.restart then s.restart s.tide .cmd r else s

def execPwrResetWrite (t req : Nat) (w : Word) (r : StartIn) (s : State) : Res := .next (pwrResetWrite t req w r s)

/-- SUPERVISOR_WATCHDOG_EXPIRY: Harbourmaster has not served its watchdog (R467). -/
def watchdogExpiry (t : Nat) (r : StartIn) (s : State) : State :=
  let s := s.upto t
  if s.pwr.up then s.restart s.tide .wdog r else s

def execSupervisorWatchdogExpiry (t : Nat) (r : StartIn) (s : State) : Res := .next (watchdogExpiry t r s)

/-- RESUMED_START: the power-loss signal that ended before READY has cleared, and the start resumes (R472). -/
def resumedStart (t : Nat) (r : StartIn) (s : State) : State :=
  let s := s.upto t
  if s.pwr.resume && !s.bit Reg.PWR_STATUS_LOSS then s.restart s.tide .lossret r else s

def execResumedStart (t : Nat) (r : StartIn) (s : State) : Res := .next (resumedStart t r s)

/-- FW_UPDATE_ACTIVATE: with RESTART the module restarts once the reply is sent (R109). -/
def fwActivate (t : Nat) (r : StartIn) (s : State) : State :=
  let s := s.command t (isPhase 3) cmdFwActivate
  if s.pwr.fwact then s.restart s.tide .fwact r else s

def execFwUpdateActivate (t : Nat) (r : StartIn) (s : State) : Res := .next (fwActivate t r s)

end Sys2Proof.Machine
end

