-- ==== Sys2Proof/Machine/Dispatch.lean ====
section
/-! DEFINITION. The meaning of every command: one arm per constructor. -/

namespace Sys2Proof.Machine

/-- The effect of a command on everything but the queue of waiting commands. -/
def exec (i : Instr) (s : State) : Host.Outcome State Fault Refusal :=
  match i with
  | .udpDatagram t ip port bytes => Sys2Proof.Machine.execUdpDatagram t ip port bytes s
  | .hspiWrite t bytes => Sys2Proof.Machine.execHspiWrite t bytes s
  | .hspiRead t n => Sys2Proof.Machine.execHspiRead t n s
  | .canCommandFragment t c bytes => Sys2Proof.Machine.execCanCommandFragment t c bytes s
  | .berthCommandDescriptor t n => Sys2Proof.Machine.execBerthCommandDescriptor t n s
  | .fragmentTimeout t c => Sys2Proof.Machine.execFragmentTimeout t c s
  | .replyBerthRetry t n => Sys2Proof.Machine.execReplyBerthRetry t n s
  | .sessionIdleTimeout t ch => Sys2Proof.Machine.execSessionIdleTimeout t ch s
  | .channelBarExpiry t ch => Sys2Proof.Machine.execChannelBarExpiry t ch s
  | .fwUpdateIdleTimeout t => Sys2Proof.Machine.execFwUpdateIdleTimeout t s
  | .setpointExpiry t n => Sys2Proof.Machine.execSetpointExpiry t n s
  | .ping t => Sys2Proof.Machine.execPing t s
  | .getInfo t => Sys2Proof.Machine.execGetInfo t s
  | .regRead t => Sys2Proof.Machine.execRegRead t s
  | .regWrite t => Sys2Proof.Machine.execRegWrite t s
  | .regModify t => Sys2Proof.Machine.execRegModify t s
  | .manifestRead t => Sys2Proof.Machine.execManifestRead t s
  | .manifestWrite t => Sys2Proof.Machine.execManifestWrite t s
  | .manifestCommit t => Sys2Proof.Machine.execManifestCommit t s
  | .manifestCommitComplete t ok => Sys2Proof.Machine.execManifestCommitComplete t ok s
  | .axisStateCmd t => Sys2Proof.Machine.execAxisStateCmd t s
  | .axisStateComplete t n => Sys2Proof.Machine.execAxisStateComplete t n s
  | .torqueCmd t => Sys2Proof.Machine.execTorqueCmd t s
  | .speedCmd t => Sys2Proof.Machine.execSpeedCmd t s
  | .lineCmd t => Sys2Proof.Machine.execLineCmd t s
  | .programLoad t => Sys2Proof.Machine.execProgramLoad t s
  | .programValidationComplete t n => Sys2Proof.Machine.execProgramValidationComplete t n s
  | .coeffWrite t => Sys2Proof.Machine.execCoeffWrite t s
  | .coeffRead t => Sys2Proof.Machine.execCoeffRead t s
  | .faultRead t => Sys2Proof.Machine.execFaultRead t s
  | .faultClear t gone => Sys2Proof.Machine.execFaultClear t gone s
  | .logbookArm t => Sys2Proof.Machine.execLogbookArm t s
  | .logbookDisarm t => Sys2Proof.Machine.execLogbookDisarm t s
  | .logbookTriggerNow t => Sys2Proof.Machine.execLogbookTriggerNow t s
  | .logbookRead t => Sys2Proof.Machine.execLogbookRead t s
  | .logbookBulkComplete t => Sys2Proof.Machine.execLogbookBulkComplete t s
  | .diagRun t => Sys2Proof.Machine.execDiagRun t s
  | .diagRunComplete t n r => Sys2Proof.Machine.execDiagRunComplete t n r s
  | .tuneStart t => Sys2Proof.Machine.execTuneStart t s
  | .tuneEnd t n => Sys2Proof.Machine.execTuneEnd t n s
  | .tuneResult t => Sys2Proof.Machine.execTuneResult t s
  | .fwUpdateStart t => Sys2Proof.Machine.execFwUpdateStart t s
  | .fwUpdateEraseComplete t => Sys2Proof.Machine.execFwUpdateEraseComplete t s
  | .fwUpdateData t => Sys2Proof.Machine.execFwUpdateData t s
  | .fwUpdateFinish t => Sys2Proof.Machine.execFwUpdateFinish t s
  | .fwUpdateFinishComplete t => Sys2Proof.Machine.execFwUpdateFinishComplete t s
  | .fwUpdateActivate t r => Sys2Proof.Machine.execFwUpdateActivate t r s
  | .fwUpdateAbort t => Sys2Proof.Machine.execFwUpdateAbort t s
  | .fwUpdateConfirm t => Sys2Proof.Machine.execFwUpdateConfirm t s
  | .sessionOpen t => Sys2Proof.Machine.execSessionOpen t s
  | .sessionProgramSlot t => Sys2Proof.Machine.execSessionProgramSlot t s
  | .sessionRevokeSlot t => Sys2Proof.Machine.execSessionRevokeSlot t s
  | .sessionClose t => Sys2Proof.Machine.execSessionClose t s
  | .safetyParamWrite t => Sys2Proof.Machine.execSafetyParamWrite t s
  | .safetyParamVerify t => Sys2Proof.Machine.execSafetyParamVerify t s
  | .safetyParamVerifyComplete t ok => Sys2Proof.Machine.execSafetyParamVerifyComplete t ok s
  | .groupForm t => Sys2Proof.Machine.execGroupForm t s
  | .groupFormComplete t => Sys2Proof.Machine.execGroupFormComplete t s
  | .goPass t req n w => Sys2Proof.Machine.execGoPass t req n w s
  | .halt t n => Sys2Proof.Machine.execHalt t n s
  | .mov t n => Sys2Proof.Machine.execMov t n s
  | .ld t n => Sys2Proof.Machine.execLd t n s
  | .st t n => Sys2Proof.Machine.execSt t n s
  | .add t n => Sys2Proof.Machine.execAdd t n s
  | .sub t n => Sys2Proof.Machine.execSub t n s
  | .mul t n => Sys2Proof.Machine.execMul t n s
  | .mac t n => Sys2Proof.Machine.execMac t n s
  | .neg t n => Sys2Proof.Machine.execNeg t n s
  | .abs t n => Sys2Proof.Machine.execAbs t n s
  | .min t n => Sys2Proof.Machine.execMin t n s
  | .max t n => Sys2Proof.Machine.execMax t n s
  | .clamp t n => Sys2Proof.Machine.execClamp t n s
  | .cmp t n => Sys2Proof.Machine.execCmp t n s
  | .sel t n => Sys2Proof.Machine.execSel t n s
  | .scale t n => Sys2Proof.Machine.execScale t n s
  | .norm t n => Sys2Proof.Machine.execNorm t n s
  | .sincos t n => Sys2Proof.Machine.execSincos t n s
  | .atan2 t n => Sys2Proof.Machine.execAtan2 t n s
  | .recip t n => Sys2Proof.Machine.execRecip t n s
  | .rsqrt t n => Sys2Proof.Machine.execRsqrt t n s
  | .clarke t n => Sys2Proof.Machine.execClarke t n s
  | .iclarke t n => Sys2Proof.Machine.execIclarke t n s
  | .park t n => Sys2Proof.Machine.execPark t n s
  | .ipark t n => Sys2Proof.Machine.execIpark t n s
  | .svm t n => Sys2Proof.Machine.execSvm t n s
  | .pi t n => Sys2Proof.Machine.execPi t n s
  | .lpf t n => Sys2Proof.Machine.execLpf t n s
  | .ramp t n => Sys2Proof.Machine.execRamp t n s
  | .settle t n => Sys2Proof.Machine.execSettle t n s
  | .commit t n => Sys2Proof.Machine.execCommit t n s
  | .undefinedEncoding t n => Sys2Proof.Machine.execUndefinedEncoding t n s
  | .settleRelease t n => Sys2Proof.Machine.execSettleRelease t n s
  | .commitComplete t n => Sys2Proof.Machine.execCommitComplete t n s
  | .carrierEnable t req n w => Sys2Proof.Machine.execCarrierEnable t req n w s
  | .carrierDisable t req n w => Sys2Proof.Machine.execCarrierDisable t req n w s
  | .carrierStart t n => Sys2Proof.Machine.execCarrierStart t n s
  | .zeroPoint t n => Sys2Proof.Machine.execZeroPoint t n s
  | .reload t n toReload => Sys2Proof.Machine.execReload t n toReload s
  | .sampleEvent t n r => Sys2Proof.Machine.execSampleEvent t n r s
  | .carrierCompareEvent t n x => Sys2Proof.Machine.execCarrierCompareEvent t n x s
  | .bootstrapRefresh t l => Sys2Proof.Machine.execBootstrapRefresh t l s
  | .pwmForceWrite t req n w => Sys2Proof.Machine.execPwmForceWrite t req n w s
  | .tripAccepted t k pin => Sys2Proof.Machine.execTripAccepted t k pin s
  | .tripInactive t p => Sys2Proof.Machine.execTripInactive t p s
  | .conversionComplete t c codes ovr => Sys2Proof.Machine.execConversionComplete t c codes ovr s
  | .fallowRotationStep t c => Sys2Proof.Machine.execFallowRotationStep t c s
  | .fallowMeasurementEnd t c sum0 sumP sumN => Sys2Proof.Machine.execFallowMeasurementEnd t c sum0 sumP sumN s
  | .vhvResult t v => Sys2Proof.Machine.execVhvResult t v s
  | .vhvFailTimeout t => Sys2Proof.Machine.execVhvFailTimeout t s
  | .hkRoundStart t => Sys2Proof.Machine.execHkRoundStart t s
  | .hkRoundEnd t r => Sys2Proof.Machine.execHkRoundEnd t r s
  | .encoderEdge t n a b => Sys2Proof.Machine.execEncoderEdge t n a b s
  | .encoderIndex t n => Sys2Proof.Machine.execEncoderIndex t n s
  | .speedStandstill t n => Sys2Proof.Machine.execSpeedStandstill t n s
  | .hallStateChange t n h => Sys2Proof.Machine.execHallStateChange t n h s
  | .resolverLock t n => Sys2Proof.Machine.execResolverLock t n s
  | .resolverLockLoss t n => Sys2Proof.Machine.execResolverLockLoss t n s
  | .resolverAmpFault t n amp => Sys2Proof.Machine.execResolverAmpFault t n amp s
  | .ssiFrameEnd t n raw tailOk => Sys2Proof.Machine.execSsiFrameEnd t n raw tailOk s
  | .fbSupplyTimeout t n => Sys2Proof.Machine.execFbSupplyTimeout t n s
  | .fbWireTimeout t n => Sys2Proof.Machine.execFbWireTimeout t n s
  | .feedbackValidDelayEnd t n => Sys2Proof.Machine.execFeedbackValidDelayEnd t n s
  | .observerLossTimeout t n => Sys2Proof.Machine.execObserverLossTimeout t n s
  | .desatDetected t g => Sys2Proof.Machine.execDesatDetected t g s
  | .desatReport t g => Sys2Proof.Machine.execDesatReport t g s
  | .twoLevelTurnOffEnd t g => Sys2Proof.Machine.execTwoLevelTurnOffEnd t g s
  | .railUndervoltage t c vp => Sys2Proof.Machine.execRailUndervoltage t c vp s
  | .bootUndervoltage t g => Sys2Proof.Machine.execBootUndervoltage t g s
  | .gateSupplyTimeout t c => Sys2Proof.Machine.execGateSupplyTimeout t c s
  | .railSettingStep t c => Sys2Proof.Machine.execRailSettingStep t c s
  | .commandFrameLoss t c => Sys2Proof.Machine.execCommandFrameLoss t c s
  | .statusFrameLoss t g => Sys2Proof.Machine.execStatusFrameLoss t g s
  | .retryWaitExpiry t g c r => Sys2Proof.Machine.execRetryWaitExpiry t g c r s
  | .plateauMeasured t g on tp => Sys2Proof.Machine.execPlateauMeasured t g on tp s
  | .channelLogicShootThrough t a => Sys2Proof.Machine.execChannelLogicShootThrough t a s
  | .brkConfirmExpiry t => Sys2Proof.Machine.execBrkConfirmExpiry t s
  | .brkLoadDetected e => Sys2Proof.Machine.execBrkLoadDetected e s
  | .dscRequest t req w => Sys2Proof.Machine.execDscRequest t req w s
  | .dscStopWrite t req w => Sys2Proof.Machine.execDscStopWrite t req w s
  | .dscStart t => Sys2Proof.Machine.execDscStart t s
  | .dscWaitExpiry t => Sys2Proof.Machine.execDscWaitExpiry t s
  | .stoInputLow t b => Sys2Proof.Machine.execStoInputLow t b s
  | .stoInputHigh t b => Sys2Proof.Machine.execStoInputHigh t b s
  | .gtripLineLow t => Sys2Proof.Machine.execGtripLineLow t s
  | .gtripLineHigh t => Sys2Proof.Machine.execGtripLineHigh t s
  | .bwLkdemandWrite t req w => Sys2Proof.Machine.execBwLkdemandWrite t req w s
  | .thermalDwell t => Sys2Proof.Machine.execThermalDwell t s
  | .thermalComparatorTrip t die => Sys2Proof.Machine.execThermalComparatorTrip t die s
  | .thermalCooldown t => Sys2Proof.Machine.execThermalCooldown t s
  | .faultArrival t f => Sys2Proof.Machine.execFaultArrival t f s
  | .viewRelease t => Sys2Proof.Machine.execViewRelease t s
  | .bwFqclrWrite t req c => Sys2Proof.Machine.execBwFqclrWrite t req c s
  | .pllLockLoss t => Sys2Proof.Machine.execPllLockLoss t s
  | .refinLoss t => Sys2Proof.Machine.execRefinLoss t s
  | .delayLineMeasurement t line launches => Sys2Proof.Machine.execDelayLineMeasurement t line launches s
  | .railTrimInterval t => Sys2Proof.Machine.execRailTrimInterval t s
  | .railGuardBoost t b canary => Sys2Proof.Machine.execRailGuardBoost t b canary s
  | .boostRelease t => Sys2Proof.Machine.execBoostRelease t s
  | .asSyncMessage t asNs => Sys2Proof.Machine.execAsSyncMessage t asNs s
  | .asHoldover t => Sys2Proof.Machine.execAsHoldover t s
  | .tideNowLRead t req => Sys2Proof.Machine.execTideNowLRead t req s
  | .pwmZerolRead t req n => Sys2Proof.Machine.execPwmZerolRead t req n s
  | .lookoutCycle t r => Sys2Proof.Machine.execLookoutCycle t r s
  | .deadlineMonitorCheck t => Sys2Proof.Machine.execDeadlineMonitorCheck t s
  | .internalFaultReaction t cause => Sys2Proof.Machine.execInternalFaultReaction t cause s
  | .soTestPulse t o readOff => Sys2Proof.Machine.execSoTestPulse t o readOff s
  | .soReadbackFail t o => Sys2Proof.Machine.execSoReadbackFail t o s
  | .lookoutFrameArrival t path bytes => Sys2Proof.Machine.execLookoutFrameArrival t path bytes s
  | .dualWindowExpiry t j => Sys2Proof.Machine.execDualWindowExpiry t j s
  | .connectionLoss t j => Sys2Proof.Machine.execConnectionLoss t j s
  | .testDueExpiry t k => Sys2Proof.Machine.execTestDueExpiry t k s
  | .ethFrameReceived t p f => Sys2Proof.Machine.execEthFrameReceived t p f s
  | .ethFrameTransmit t p q => Sys2Proof.Machine.execEthFrameTransmit t p q s
  | .gateListIntervalEnd t p => Sys2Proof.Machine.execGateListIntervalEnd t p s
  | .gateListSwapRequest t req p w => Sys2Proof.Machine.execGateListSwapRequest t req p w s
  | .gateListSwap t p => Sys2Proof.Machine.execGateListSwap t p s
  | .ethLinkDown t p => Sys2Proof.Machine.execEthLinkDown t p s
  | .macTableAgeOut t vid mac => Sys2Proof.Machine.execMacTableAgeOut t vid mac s
  | .arpEntryExpiry t ip => Sys2Proof.Machine.execArpEntryExpiry t ip s
  | .asSyncSend t p => Sys2Proof.Machine.execAsSyncSend t p s
  | .peerDelayMeasurement t p ns => Sys2Proof.Machine.execPeerDelayMeasurement t p ns s
  | .ethAsgmsecWrite t req w => Sys2Proof.Machine.execEthAsgmsecWrite t req w s
  | .txRingTailWrite t req r w => Sys2Proof.Machine.execTxRingTailWrite t req r w s
  | .canFrameReceived t c f => Sys2Proof.Machine.execCanFrameReceived t c f s
  | .canTxStart t c => Sys2Proof.Machine.execCanTxStart t c s
  | .canTxComplete t c sent => Sys2Proof.Machine.execCanTxComplete t c sent s
  | .canBusError t c kind tecUp recUp => Sys2Proof.Machine.execCanBusError t c kind tecUp recUp s
  | .canBusOffRecovery t c => Sys2Proof.Machine.execCanBusOffRecovery t c s
  | .canTxArm t req c b w => Sys2Proof.Machine.execCanTxArm t req c b w s
  | .canTxAbort t req c b w => Sys2Proof.Machine.execCanTxAbort t req c b w s
  | .canRxPop t req c q w => Sys2Proof.Machine.execCanRxPop t req c q w s
  | .canDisable t req c w => Sys2Proof.Machine.execCanDisable t req c w s
  | .fabricWatchdogExpiry t req addr write => Sys2Proof.Machine.execFabricWatchdogExpiry t req addr write s
  | .machineTimerInterrupt t r => Sys2Proof.Machine.execMachineTimerInterrupt t r s
  | .coreStart t req r w => Sys2Proof.Machine.execCoreStart t req r w s
  | .coreReset t req r w => Sys2Proof.Machine.execCoreReset t req r w s
  | .berthAcfltWrite t req w => Sys2Proof.Machine.execBerthAcfltWrite t req w s
  | .patrolScrubRead t addr kind => Sys2Proof.Machine.execPatrolScrubRead t addr kind s
  | .flashBerthDescriptor t => Sys2Proof.Machine.execFlashBerthDescriptor t s
  | .flashOperationComplete t => Sys2Proof.Machine.execFlashOperationComplete t s
  | .berthMessageWrite t req b k w => Sys2Proof.Machine.execBerthMessageWrite t req b k w s
  | .berthReceiveRead t req b => Sys2Proof.Machine.execBerthReceiveRead t req b s
  | .berthCfgWrite t req b w => Sys2Proof.Machine.execBerthCfgWrite t req b w s
  | .bollardClaimRead t req k => Sys2Proof.Machine.execBollardClaimRead t req k s
  | .bollardWrite t req k w => Sys2Proof.Machine.execBollardWrite t req k w s
  | .bollardFreeWrite t req w => Sys2Proof.Machine.execBollardFreeWrite t req w s
  | .arbiterDraw t a requests => Sys2Proof.Machine.execArbiterDraw t a requests s
  | .backoffExpiry t a slot => Sys2Proof.Machine.execBackoffExpiry t a slot s
  | .arbSeedWrite t req w => Sys2Proof.Machine.execArbSeedWrite t req w s
  | .logbookBlockWrite t => Sys2Proof.Machine.execLogbookBlockWrite t s
  | .logbTrigWrite t req w => Sys2Proof.Machine.execLogbTrigWrite t req w s
  | .logbDisable t req w => Sys2Proof.Machine.execLogbDisable t req w s
  | .logbookFreeze t => Sys2Proof.Machine.execLogbookFreeze t s
  | .bandwidthWindowEnd t units => Sys2Proof.Machine.execBandwidthWindowEnd t units s
  | .perfSampleClear t req u w => Sys2Proof.Machine.execPerfSampleClear t req u w s
  | .readClearAccess t req addr => Sys2Proof.Machine.execReadClearAccess t req addr s
  | .registerWrite t req addr width w => Sys2Proof.Machine.execRegisterWrite t req addr width w s
  | .engineMemoryWrite t req addr w => Sys2Proof.Machine.execEngineMemoryWrite t req addr w s
  | .remoteAccess t req addr write w => Sys2Proof.Machine.execRemoteAccess t req addr write w s
  | .inputValidityChange t ka valid => Sys2Proof.Machine.execInputValidityChange t ka valid s
  | .inputConditionChange t high => Sys2Proof.Machine.execInputConditionChange t high s
  | .budgetGraceExpiry t => Sys2Proof.Machine.execBudgetGraceExpiry t s
  | .railEnableSlot t => Sys2Proof.Machine.execRailEnableSlot t s
  | .powerLossSignal t => Sys2Proof.Machine.execPowerLossSignal t s
  | .lastWordsWrite t ok => Sys2Proof.Machine.execLastWordsWrite t ok s
  | .storageBusCollapse t => Sys2Proof.Machine.execStorageBusCollapse t s
  | .xDomainDscEnd t => Sys2Proof.Machine.execXDomainDscEnd t s
  | .powerLossClear t => Sys2Proof.Machine.execPowerLossClear t s
  | .railFailure t ch => Sys2Proof.Machine.execRailFailure t ch s
  | .powerOnReset t r => Sys2Proof.Machine.execPowerOnReset t r s
  | .pwrResetWrite t req w r => Sys2Proof.Machine.execPwrResetWrite t req w r s
  | .supervisorWatchdogExpiry t r => Sys2Proof.Machine.execSupervisorWatchdogExpiry t r s
  | .portUp t p peer peerPort serial polinv hop => Sys2Proof.Machine.execPortUp t p peer peerPort serial polinv hop s
  | .portDown t p lost => Sys2Proof.Machine.execPortDown t p lost s
  | .hopDelayCalibration t p delay => Sys2Proof.Machine.execHopDelayCalibration t p delay s
  | .beaconSend t p => Sys2Proof.Machine.execBeaconSend t p s
  | .beaconArrival t p beacon path fine => Sys2Proof.Machine.execBeaconArrival t p beacon path fine s
  | .carrierDescriptorArrival t g d => Sys2Proof.Machine.execCarrierDescriptorArrival t g d s
  | .zeroPointMarkerArrival t g stamp => Sys2Proof.Machine.execZeroPointMarkerArrival t g stamp s
  | .gsyncEdge t expected => Sys2Proof.Machine.execGsyncEdge t expected s
  | .gsyncLoss t => Sys2Proof.Machine.execGsyncLoss t s
  | .flitRetransmission t p => Sys2Proof.Machine.execFlitRetransmission t p s
  | .membershipUpdate t ms ring forming => Sys2Proof.Machine.execMembershipUpdate t ms ring forming s
  | .formwaitExpiry t => Sys2Proof.Machine.execFormwaitExpiry t s
  | .remoteDoorbell t m b => Sys2Proof.Machine.execRemoteDoorbell t m b s
  | .relayedCommand t k ip port bytes => Sys2Proof.Machine.execRelayedCommand t k ip port bytes s
  | .groupLogbookTrigger t trig => Sys2Proof.Machine.execGroupLogbookTrigger t trig s
  | .faultForward t f => Sys2Proof.Machine.execFaultForward t f s
  | .tidePllRelock t => Sys2Proof.Machine.execTidePllRelock t s
  | .ethLinkUp t p => Sys2Proof.Machine.execEthLinkUp t p s
  | .periodPoint t n => Sys2Proof.Machine.execPeriodPoint t n s
  | .breakwaterSpeedUpdate t a => Sys2Proof.Machine.execBreakwaterSpeedUpdate t a s
  | .obsLostHoldExpiry t n => Sys2Proof.Machine.execObsLostHoldExpiry t n s
  | .carrierDescriptorSend t g => Sys2Proof.Machine.execCarrierDescriptorSend t g s
  | .accessErrorRead t req addr width => Sys2Proof.Machine.execAccessErrorRead t req addr width s
  | .gtripDriveRelease t => Sys2Proof.Machine.execGtripDriveRelease t s
  | .resumedStart t r => Sys2Proof.Machine.execResumedStart t r s

end Sys2Proof.Machine
end

