-- ==== Sys2Proof/Safety.lean ====
section
/-! DEFINITION. What the claims call a good state: the stores in canonical form, and no leg with both of its
channels commanded on. And what they say of commands that Harbourmaster takes: where one passes the checks that
every opcode has in common, and its answers. -/

namespace Sys2Proof.Machine

/-- Memory and registers are in canonical form, so that equal contents are equal data. -/
def State.Canon (s : State) : Prop := Memory.wf s.mem = true ∧ Regs.wf s.regs = true

/-- No leg has both channels commanded on at Tide count `t` (R266, R279). -/
def State.NoShoot (s : State) (t : Nat) : Prop :=
  ∀ l : Fin 12, ¬ (s.legOn t l true = true ∧ s.legOn t l false = true)

/-- What FORCE writes keep: no leg is forced on at both channels (R279). -/
def State.ForceOk (s : State) : Prop := ∀ l : Fin 12, ¬ ((s.leg l).forceHi = true ∧ (s.leg l).forceLo = true)

/-- What every step keeps. -/
def State.Inv (s : State) : Prop := s.Canon ∧ s.ForceOk

/-- Nothing but Harbourmaster's own state, registers, memory, the CAN controllers and what leaves the module differs:
what answering a command may change. -/
structure State.SameDevice (s t : State) : Prop where
  pending : t.pending = s.pending
  tide : t.tide = s.tide
  backup : t.backup = s.backup
  caps : t.caps = s.caps
  zcaps : t.zcaps = s.zcaps
  ecc : t.ecc = s.ecc
  mid : t.mid = s.mid
  dl : t.dl = s.dl
  rail : t.rail = s.rail
  asd : t.asd = s.asd
  fm : t.fm = s.fm
  axes : t.axes = s.axes
  pwm : t.pwm = s.pwm
  legs : t.legs = s.legs
  gates : t.gates = s.gates
  bw : t.bw = s.bw
  gcZero : t.gcZero = s.gcZero
  eng : t.eng = s.eng
  logb : t.logb = s.logb
  adc : t.adc = s.adc
  fbk : t.fbk = s.fbk
  temps : t.temps = s.temps
  hkOd : t.hkOd = s.hkOd
  hkGd : t.hkGd = s.hkGd
  hkUncal : t.hkUncal = s.hkUncal
  perf : t.perf = s.perf
  lk : t.lk = s.lk
  eth : t.eth = s.eth
  cores : t.cores = s.cores
  arb : t.arb = s.arb
  flash : t.flash = s.flash
  moor : t.moor = s.moor
  pwr : t.pwr = s.pwr

/-! ### Commands that Harbourmaster takes -/

/-- Bytes that pass checks 1-6 of R81 and find room in the front-end queue (R82). -/
structure State.Fits (s : State) (b : List Byte) : Prop where
  answers : s.answers = true
  long : 18 ≤ b.length
  magic : beAt b 0 2 = 0x4C58
  request : (readPkt b).flags.getLsbD 7 = false
  length : b.length = declared b
  payload : (readPkt b).len ≤ 1024
  crc : (crc32c (b.take (b.length - 4))).toNat = (readPkt b).crc
  version : beAt b 2 1 = 1
  opcode : opcodes.contains (readPkt b).op = true
  room : s.hm.feq.length < 32

/-- A packet enters the front-end queue (R82). -/
def State.queued (s : State) (ch : Chan) (b : List Byte) (buf : Option (Nat × Nat)) : State :=
  s.updHm fun h => { h with feq := h.feq ++ [{ chan := ch, bytes := b, at_ := s.tide, buf := buf }] }

/-- A sequence number passes check 7: newer than the channel's last, or 0 outside a session (R84, R94). -/
def State.seqOk (s : State) (c : Cmd) : Bool :=
  if c.p.seq = 0 then (s.session c.h.chan).isNone else newer c.p.seq (s.channel c.h.chan).last

/-- The channel takes the sequence number (R84). -/
def State.seqTaken (s : State) (c : Cmd) : State :=
  let ch := s.channel c.h.chan
  let ch := { ch with
    last := c.p.seq, cache := if c.p.seq = 0 then [] else ch.cache, usedAt := s.tide }
  s.putChannel ch

/-- A session of the channel stays open (R93). -/
def State.stayOpen (s : State) (c : Cmd) : State :=
  s.updHm fun h =>
    { h with sess := h.sess.map fun x => if x.chan = c.h.chan then { x with lastAt := s.tide } else x }

/-- Checks 9-11 as far as all opcodes have them in common (R81, R103, R104). -/
def State.commonOk (s : State) (p : Pkt) : Bool :=
  s.targetOk p && lengthOk p && !refusedIn p.op s.modState && !(toGroup p && s.mid != 0) && !p.axis.any s.idle

/-- Where the packet at the head of the front-end queue passes checks 7 and 8 and the common part of checks
9-11 at `t`: the command, and the state on which its own meaning acts. -/
def State.passed (s : State) (t : Nat) : Option (Cmd × State) :=
  let s := (s.upto t).sendDue.endStale
  match s.hm.feq with
  | [] => none
  | q :: r =>
    let c : Cmd := { p := readPkt q.bytes, h := (readPkt q.bytes).head q.chan q.buf, at_ := q.at_ }
    if !s.answers then none
    else
      match (s.updHm fun h => { h with feq := r }).takeChannel q.chan with
      | none => none
      | some s =>
        let v := s.seqTaken c
        let u := v.stayOpen c
        if s.seqOk c && v.authCheck c.h.chan c.p == none && u.commonOk c.p then some (c, u) else none

/-- Harbourmaster answers OK with data. -/
def State.gives (u : State) (c : Cmd) (d : List Byte := []) : State :=
  u.conclude c (.final { status := stOk, stamp := u.tide, data := d } true)

/-- Harbourmaster answers PENDING and keeps the command. -/
def State.pends (u : State) (c : Cmd) (args : List Nat := []) (d : List Byte := []) : State :=
  u.conclude c (.pending args d)

/-! ### Accesses that nothing refuses -/

/-- Where the write of `w` to the register at local address `a` by `req` meets no access error and no refusal (R13,
R38, R128): the state after the register has taken its word, before anything else that the write does. Bollards and
message words, which take no word, are not among them. -/
def State.accepted (s : State) (req a : Nat) (w : Word) : Option State :=
  match findReg a with
  | none => none
  | some (d, ix) =>
    let new := newWord d ix (s.reg a) w
    if s.mayWrite req (a / 0x10000) && s.mayWriteReg req a d ix new && !legOnly d.base (ix.headD 0) &&
        (s.refusal false req a d ix w new).isNone && d.base != Reg.BERTH_K 0 && d.base != Reg.BERTH_MSG 0 0 then
      some (((s.placeFirst a).keepInForce a d (ix.headD 0) new).setReg a new)
    else none

/-! ### Which commands store in memory -/

/-- Commands that may write memory: an answer to a core goes to its reply buffer, a frame to a receive ring, an image,
a record, a Logbook block or the last words to flash or DRAM, a register write may start a transmit ring or answer a
waiting command, and a memory access stores its word. -/
def mayStore : Instr → Bool
  | .udpDatagram .. | .hspiWrite .. | .hspiRead .. | .replyBerthRetry .. | .canCommandFragment .. | .berthCommandDescriptor .. | .sessionIdleTimeout ..
  | .fwUpdateIdleTimeout .. | .ping .. | .getInfo .. | .regRead .. | .regWrite .. | .regModify ..
  | .manifestRead .. | .manifestWrite .. | .manifestCommit .. | .manifestCommitComplete .. | .axisStateCmd ..
  | .axisStateComplete .. | .torqueCmd .. | .speedCmd .. | .lineCmd .. | .programLoad ..
  | .programValidationComplete .. | .coeffWrite .. | .coeffRead .. | .faultRead .. | .faultClear ..
  | .logbookArm .. | .logbookDisarm .. | .logbookTriggerNow .. | .logbookRead .. | .logbookBulkComplete ..
  | .diagRun .. | .diagRunComplete .. | .tuneStart .. | .tuneEnd .. | .tuneResult .. | .fwUpdateStart ..
  | .fwUpdateEraseComplete .. | .fwUpdateData .. | .fwUpdateFinish .. | .fwUpdateFinishComplete ..
  | .fwUpdateActivate .. | .fwUpdateAbort .. | .fwUpdateConfirm .. | .sessionOpen .. | .sessionProgramSlot ..
  | .sessionRevokeSlot .. | .sessionClose .. | .safetyParamWrite .. | .safetyParamVerify ..
  | .safetyParamVerifyComplete .. | .groupForm .. | .groupFormComplete .. | .goPass .. | .carrierEnable ..
  | .carrierDisable .. | .pwmForceWrite .. | .dscRequest .. | .dscStopWrite .. | .bwLkdemandWrite ..
  | .bwFqclrWrite .. | .ethFrameTransmit .. | .gateListSwapRequest .. | .ethAsgmsecWrite .. | .txRingTailWrite ..
  | .canFrameReceived .. | .canTxComplete .. | .canTxArm .. | .canTxAbort .. | .canRxPop .. | .canDisable ..
  | .coreStart .. | .coreReset .. | .berthAcfltWrite .. | .flashBerthDescriptor .. | .flashOperationComplete ..
  | .berthMessageWrite .. | .berthCfgWrite .. | .bollardWrite .. | .bollardFreeWrite .. | .arbSeedWrite ..
  | .logbookBlockWrite .. | .logbTrigWrite .. | .logbDisable .. | .logbookFreeze .. | .perfSampleClear ..
  | .registerWrite .. | .engineMemoryWrite .. | .remoteAccess .. | .budgetGraceExpiry .. | .lastWordsWrite ..
  | .powerOnReset .. | .pwrResetWrite .. | .supervisorWatchdogExpiry .. | .relayedCommand .. | .resumedStart .. => true
  | _ => false

end Sys2Proof.Machine
end

