-- ==== Sys2Proof/Certificates/Slice0/Obligations.lean ====
section
/-! DEFINITION. The statements for the provers. The statements of rows say, for every command, where it completes and
with what next state: named operations of the model on the state at the command's instant, `s.upto t`. -/

open Sys2Proof Sys2Proof.Machine

/-- A step carries out the command at the front of the queue. With a command at the front of the queue, a step is
that command's effect on the state with the queue's rest. On an empty queue one tick passes: the model's choice (log
entry 1), no rule of the spec. (00_scope.md, 02_time_and_order.md) -/
def Obligations.StepRunsFront : Prop :=
  (∀ (c : Instr) (r : List Instr) (s : State), s.pending = c :: r → step s = exec c { s with pending := r }) ∧
  (∀ s : State, s.pending = [] → step s = .next s.idleTick)

/-- The state after reset meets the invariant. After reset memory and registers are in canonical form, no leg is
forced on at both channels, and no command waits. (R16, R279, 00_scope.md) -/
def Obligations.ResetIsGood : Prop := State.reset.Inv ∧ State.reset.pending = []

/-- Every step keeps the invariant. From any state in which memory and registers are in canonical form and no leg is
forced on at both channels, whatever the command at the front of the queue, and on an empty queue, a step that
answers a next state answers one of which the same holds: no command and no write of PWM_FORCE ever has FORCE turn
on both channels of a leg. (R32, R279) -/
def Obligations.EveryStepKeepsTheInvariant : Prop :=
  ∀ s t : State, s.Inv → step s = .next t → t.Inv

/-- Every command completes, leaves the queue alone and takes nothing back. Every one of the 257 commands, with
every operand and in every state, answers a next state: no meaning ends in a fault or a refusal (udpDatagram,
hspiWrite, hspiRead, canCommandFragment, berthCommandDescriptor, fragmentTimeout and replyBerthRetry among them,
whose results Transports gives). In it the queue of waiting commands is as before, nothing that has left the module
is taken back, and free values are drawn in order. Log entries 2 and 3 name the two fields of the model.
(00_scope.md, 02_time_and_order.md, 03_commands.md) -/
def Obligations.ExecLeavesQueueAndOutputs : Prop :=
  ∀ (c : Instr) (s : State), ∃ t : State, exec c s = .next t ∧
    t.pending = s.pending ∧ s.out <:+ t.out ∧ s.free ≤ t.free

/-- No leg is commanded on at both channels. Where no leg is forced on at both channels (which every step keeps), no
leg has both of its channels commanded on, at any instant, in any mode of the output stage, under any demand: in PWM
mode the two channels of a frame never overlap. (R32, R266, R277, R279) -/
def Obligations.NeverBothOn : Prop :=
  ∀ s : State, s.ForceOk →
    (∀ t, s.NoShoot t) ∧ ∀ (x : Nat) (l : Fin 12), ¬ (s.chanAt x l true = true ∧ s.chanAt x l false = true)

/-- What power-on reset leaves. After reset the count is 0, every axis is in OFF, the module is in BOOT, every
bollard is free, no berth is full, the demand reads 480, the arbiters hold 0xACE1, no fault is active or queued, and
every register of the map reads the word of its map: for a register whose reset value the spec does not give, that
word is the model's choice (log entry 4). (R16, R46, R476, R413, R414) -/
def Obligations.ResetValues : Prop :=
  State.reset.tide = 0 ∧ (∀ n : Fin 4, (State.reset.axis n).st = .off) ∧ State.reset.modState = 0 ∧
  (∀ k : Fin 16, State.reset.get (Reg.BERTH_KOWN_OWNER k) = 0) ∧
  (∀ b : Fin 32, State.reset.bit (Reg.BERTH_STAT_FULL b) = false) ∧
  State.reset.get Reg.PWR_BUDGET_DEMAND = 480 ∧ (∀ a : Fin 3, State.reset.arb[a].lfsr = 0xACE1) ∧
  State.reset.fm.active = [] ∧ State.reset.fm.queue = [] ∧ (∀ a : Nat, State.reset.reg a = resetWord a)

/-- Commands that read answer with what they read. PING (its reply carries the first 1012 bytes, log entry 56),
GET_INFO, REG_READ, MANIFEST_READ, COEFF_READ, FAULT_READ, LOGBOOK_READ and TUNE_RESULT that pass the common checks,
with arguments in range: the row completes, Harbourmaster answers OK with the data of the rule (LOGBOOK_READ in mode
1: kept as pending), and the state is otherwise the one that the checks leave. Where this rests on a reading or
choice of the model, that is log entries 7, 17, 22, 35, 37, 50, 56 and 59. (R78, R81, R103, R104, R105, R107, R121,
R259, R422, R453) -/
def Obligations.ReadCommands : Prop :=
  ∀ (t : Nat) (s u : State) (c : Cmd), s.passed t = some (c, u) →
    (c.p.op = 0x01 → exec (.ping t) s = .next (u.gives c (c.p.payload.take 1012))) ∧
    (c.p.op = 0x02 → toGroup c.p = false → exec (.getInfo t) s = .next (u.gives c u.ownInfo)) ∧
    (c.p.op = 0x02 → toGroup c.p = true →
      exec (.getInfo t) s = .next ((u.perMember u.ownInfo State.memberInfo).2.gives c
        (u.perMember u.ownInfo State.memberInfo).1)) ∧
    (∀ (v : State) (l : List Byte), c.p.op = 0x10 → addrOk (beAt c.p.payload 0 8) = true →
      1 ≤ beAt c.p.payload 8 2 → beAt c.p.payload 8 2 ≤ 253 →
      State.readWords (requesterOf c.h.chan) (beAt c.p.payload 0 8) (beAt c.p.payload 8 2) u [] = (v, l, true) →
      exec (.regRead t) s = .next (v.gives c l)) ∧
    (c.p.op = 0x20 → beAt c.p.payload 0 1 ≤ 2 → 1 ≤ beAt c.p.payload 8 2 → beAt c.p.payload 8 2 ≤ 1012 →
      beAt c.p.payload 4 4 + beAt c.p.payload 8 2 ≤ bankSize →
      exec (.manifestRead t) s = .next (u.gives c
        (takeFrom (if beAt c.p.payload 0 1 = 2 then u.stageByte else u.bankByte (Fin.ofNat 2 (beAt c.p.payload 0 1)))
          (beAt c.p.payload 4 4) (beAt c.p.payload 8 2)))) ∧
    (∀ n : Fin 4, c.p.op = 0x42 → c.p.axis = some n → beAt c.p.payload 0 1 ≤ 1 → 1 ≤ beAt c.p.payload 4 2 →
      beAt c.p.payload 4 2 ≤ 253 → beAt c.p.payload 2 2 + beAt c.p.payload 4 2 ≤ 4096 →
      exec (.coeffRead t) s = .next (u.gives c
        ((List.range (beAt c.p.payload 4 2)).flatMap fun i =>
          beBytes 4 (if beAt c.p.payload 0 1 = 0 then u.coefEntry n (beAt c.p.payload 2 2 + i)
            else u.stateEntry n (beAt c.p.payload 2 2 + i)).toNat))) ∧
    (c.p.op = 0x50 → beAt c.p.payload 3 1 = 0 → beAt c.p.payload 0 2 ≤ 63 → 1 ≤ beAt c.p.payload 2 1 →
      beAt c.p.payload 2 1 ≤ 50 →
      exec (.faultRead t) s = .next (u.gives c
        (beBytes 2 u.fqView.length ++ [BitVec.ofNat 8 (flag (u.viewLost false).1), 0] ++
          beBytes 2 (u.viewLost false).2 ++ [0, 0] ++
          ((u.fqView.drop (beAt c.p.payload 0 2)).take (beAt c.p.payload 2 1)).flatMap Entry.bytes))) ∧
    (c.p.op = 0x50 → beAt c.p.payload 3 1 = 1 → u.mid = 0 → beAt c.p.payload 0 2 ≤ 511 →
      1 ≤ beAt c.p.payload 2 1 → beAt c.p.payload 2 1 ≤ 50 →
      exec (.faultRead t) s = .next (u.gives c
        (beBytes 2 u.groupView.length ++ [BitVec.ofNat 8 (flag (u.viewLost true).1), 0] ++
          beBytes 2 (u.viewLost true).2 ++ [0, 0] ++
          ((u.groupView.drop (beAt c.p.payload 0 2)).take (beAt c.p.payload 2 1)).flatMap Entry.bytes))) ∧
    (c.p.op = 0x61 → u.get Reg.LOGB_STAT_STATE = 3 → beAt c.p.payload 0 1 = 0 → 1 ≤ beAt c.p.payload 12 4 →
      beAt c.p.payload 12 4 ≤ 1012 → beAt c.p.payload 16 4 = 0 → beAt c.p.payload 20 2 = 0 →
      beAt c.p.payload 4 8 + beAt c.p.payload 12 4 ≤ u.record.2 →
      exec (.logbookRead t) s = .next
        ((u.recordErrors u.record.1 (beAt c.p.payload 4 8) (beAt c.p.payload 12 4)).gives c
        (u.recordBytes u.record.1 (beAt c.p.payload 4 8) (beAt c.p.payload 12 4)))) ∧
    (c.p.op = 0x61 → u.get Reg.LOGB_STAT_STATE = 3 → beAt c.p.payload 0 1 = 1 →
      beAt c.p.payload 4 8 + beAt c.p.payload 12 4 ≤ u.record.2 →
      exec (.logbookRead t) s = .next (u.pends c
        [beAt c.p.payload 4 8, beAt c.p.payload 12 4, beAt c.p.payload 16 4, beAt c.p.payload 20 2])) ∧
    (∀ n : Fin 4, c.p.op = 0x81 → c.p.axis = some n →
      exec (.tuneResult t) s = .next (u.gives c
        ([BitVec.ofNat 8 ((u.axis n).tune.ended.getD (u.handedNat n 177)), BitVec.ofNat 8 (u.axis n).tune.loop] ++
          beBytes 2 (u.handedNat n 178) ++
          [179, 180, 181, 182, 183].flatMap fun i => beBytes 4 (u.handed n i).toNat)))

/-- Commands that write carry out what they name and answer OK. REG_WRITE, REG_MODIFY, MANIFEST_WRITE, PROGRAM_LOAD
in mode 0, COEFF_WRITE, FAULT_CLEAR and SAFETY_PARAM_WRITE that pass the common checks and their own, FAULT_CLEAR
while the PLL is locked: the row completes with the words, the staged bytes, the program, the coefficients or the
fault queue as the rule gives them, and the answer is OK. Where this rests on a reading or choice of the model, that
is log entries 2, 17, 22, 23, 24, 35, 43, 59 and 64. (R81, R90, R103, R104, R107, R121, R128, R131, R136, R335) -/
def Obligations.WriteCommands : Prop :=
  ∀ (t : Nat) (s u : State) (c : Cmd), s.passed t = some (c, u) →
    (∀ v : State, c.p.op = 0x11 → addrOk (beAt c.p.payload 0 8) = true → 1 ≤ beAt c.p.payload 8 2 →
      beAt c.p.payload 8 2 ≤ 253 →
      State.writeWords (requesterOf c.h.chan) (beAt c.p.payload 0 8) (beWords 4 (c.p.payload.drop 12)) 0 u = (v, none) →
      exec (.regWrite t) s = .next ((v.gives c).restartDue s.pwr.restart)) ∧
    (∀ (v w : State) (old : Word), c.p.op = 0x12 → addrOk (beAt c.p.payload 0 8) = true →
      u.hostRead (requesterOf c.h.chan) (beAt c.p.payload 0 8) = (v, .ok old) →
      v.hostWrite (requesterOf c.h.chan) (beAt c.p.payload 0 8)
        ((old &&& ~~~(BitVec.ofNat 32 (beAt c.p.payload 8 4))) |||
          (BitVec.ofNat 32 (beAt c.p.payload 12 4) &&& BitVec.ofNat 32 (beAt c.p.payload 8 4))) = (w, .ok) →
      exec (.regModify t) s = .next ((w.gives c (beBytes 4 old.toNat ++
        beBytes 4 ((old &&& ~~~(BitVec.ofNat 32 (beAt c.p.payload 8 4))) |||
          (BitVec.ofNat 32 (beAt c.p.payload 12 4) &&& BitVec.ofNat 32 (beAt c.p.payload 8 4))).toNat)).restartDue s.pwr.restart)) ∧
    (c.p.op = 0x21 → u.flashBusy = false → 1 ≤ beAt c.p.payload 4 2 → beAt c.p.payload 4 2 ≤ 1016 →
      beAt c.p.payload 0 4 + beAt c.p.payload 4 2 ≤ bankSize →
      exec (.manifestWrite t) s = .next ((u.setStage (beAt c.p.payload 0 4) (c.p.payload.drop 8)).gives c)) ∧
    (∀ n : Fin 4, c.p.op = 0x40 → c.p.axis = some n → (u.axis n).st.closed = false → beAt c.p.payload 0 1 = 0 →
      1 ≤ beAt c.p.payload 4 2 → beAt c.p.payload 4 2 ≤ 127 → beAt c.p.payload 2 2 + beAt c.p.payload 4 2 ≤ 8192 →
      exec (.programLoad t) s = .next
        (((u.putProgram n (beAt c.p.payload 2 2) (beWords 8 (c.p.payload.drop 8))).unloadProgram n).gives c
          (beBytes 2 (beAt c.p.payload 4 2) ++ [0, 0]))) ∧
    (∀ n : Fin 4, c.p.op = 0x41 → c.p.axis = some n → (u.axis n).st.closed = false →
      1 ≤ beAt c.p.payload 2 2 → beAt c.p.payload 2 2 ≤ 255 → beAt c.p.payload 0 2 + beAt c.p.payload 2 2 ≤ 4096 →
      exec (.coeffWrite t) s = .next ((u.putCoefs n (beAt c.p.payload 0 2) (beWords 4 (c.p.payload.drop 4))).gives c)) ∧
    (∀ (gone : List (FName × Nat × Nat)) (v : State) (cleared still : Nat), c.p.op = 0x51 → u.clearWaits = false →
      (u.foundGone gone).faultClear c.p.axis (beAt c.p.payload 0 2) = (v, cleared, still, false) →
      exec (.faultClear t gone) s = .next ((if toModule c.p then v.leaveSafe else v).gives c
        [BitVec.ofNat 8 (min 255 cleared), BitVec.ofNat 8 (min 255 still)])) ∧
    (c.p.op = 0xB0 → u.allSafe = true → 1 ≤ beAt c.p.payload 2 2 → beAt c.p.payload 2 2 ≤ 1020 →
      beAt c.p.payload 0 2 + beAt c.p.payload 2 2 ≤ maxSet →
      exec (.safetyParamWrite t) s = .next
        (State.gives { u with
          lk := { u.lk with staged := overwrite u.lk.staged (beAt c.p.payload 0 2) (c.p.payload.drop 4) } } c))

/-- Commands that last are kept as pending. MANIFEST_COMMIT, PROGRAM_LOAD (validation of what the store holds, and a
named blob), DIAG_RUN of an axis and of the switches of the DC link, TUNE_START with the full reservation held,
FW_UPDATE_START, FW_UPDATE_FINISH, SAFETY_PARAM_VERIFY, GROUP_FORM and an AXIS_STATE that waits for gate rails: the
row completes, what starts has started, and Harbourmaster keeps the command: its PENDING reply is due 1 ms after its
receipt. Where this rests on a reading or choice of the model, that is log entries 17, 22, 23, 26, 36, 38, 39 and
59. (R78, R98, R104, R109, R122, R137, R257, R260, R303, R307, R443, R461) -/
def Obligations.LongCommands : Prop :=
  ∀ (t : Nat) (s u : State) (c : Cmd), s.passed t = some (c, u) →
    (∀ (els : List Elem) (b : Fin 2) (v : Nat) (full : List Byte), c.p.op = 0x22 → u.flashBusy = false →
      beAt c.p.payload 0 4 + 4 ≤ bankSize →
      (crc32c (takeFrom u.stageByte 0 (beAt c.p.payload 0 4))).toNat = beAt c.p.payload 4 4 →
      structureOk u.stageByte (beAt c.p.payload 0 4) = true →
      els = ((elemsIn u.stageByte (beAt c.p.payload 0 4)).map Prod.fst).getD [] →
      distinct (blobNames els) = true → (els.any fun e => decide (4 < e.typ)) = false → u.sameSafety els = true →
      (u.commitImage els (beAt c.p.payload 0 4)).length + 4 ≤ bankSize →
      u.commitPlan (u.commitImage els (beAt c.p.payload 0 4)) = some (b, v, full) →
      exec (.manifestCommit t) s = .next
        (((match safetyOf els, u.lk.inForce with
          | none, some x => u.stageSafety x
          | _, _ => u).eraseBank b).pends c [b.val, v, flag (beAt c.p.payload 8 1 % 2 == 1)] full)) ∧
    (∀ n : Fin 4, c.p.op = 0x40 → c.p.axis = some n → (u.axis n).st.closed = false → beAt c.p.payload 0 1 = 0 →
      beAt c.p.payload 4 2 = 0 → beAt c.p.payload 2 2 ≤ 8191 → u.validating n = false →
      exec (.programLoad t) s = .next (u.pends c [0])) ∧
    (∀ (n : Fin 4) (b : Blob), c.p.op = 0x40 → c.p.axis = some n → (u.axis n).st.closed = false →
      beAt c.p.payload 0 1 = 1 → u.validating n = false → u.namedBlob (c.p.payload.drop 8) = some b → b.kind = 1 →
      b.data.length % 8 = 0 → b.data.length ≤ 65536 →
      exec (.programLoad t) s = .next
        (((u.putProgram n 0 (beWords 8 b.data)).unloadProgram n).pends c [b.data.length / 8])) ∧
    (∀ n : Fin 4, c.p.op = 0x70 → c.p.axis = some n → (u.pendOf 0x70 c.p.target) = none →
      u.diagOk n (beAt c.p.payload 0 2) = true → beAt c.p.payload 0 2 < 64 →
      exec (.diagRun t) s = .next
        ((u.updAxis n fun a => { a with diag := some (beAt c.p.payload 0 2) }).pends c [beAt c.p.payload 0 2])) ∧
    (c.p.op = 0x70 → c.p.axis = none → (u.pendOf 0x70 c.p.target) = none → u.diagXOk = true →
      exec (.diagRun t) s = .next (u.pends c [beAt c.p.payload 0 2])) ∧
    (∀ n : Fin 4, c.p.op = 0x80 → c.p.axis = some n → u.tuneOk n (beAt c.p.payload 0 1) = true → u.lk.fresh = false →
      beAt c.p.payload 0 1 ≤ 2 → beAt c.p.payload 1 1 ≤ 1 → 100 ≤ beAt c.p.payload 2 2 → beAt c.p.payload 2 2 ≤ 60000 →
      qLt (u.relayMax n (beAt c.p.payload 0 1)) (qAbs (bfVal (payWord c 4))) = false → u.pwr.res[n] ≠ .standby →
      exec (.tuneStart t) s = .next
        ((u.tuneBegin u.tide n (beAt c.p.payload 0 1) (beAt c.p.payload 1 1) (beAt c.p.payload 2 2) (payWord c 4)
          (payWord c 8)).pends c)) ∧
    (c.p.op = 0x90 → beAt c.p.payload 0 1 = 0 → (u.hm.upd.any fun x => x.chan != c.h.chan || x.busy) = false →
      128 ≤ beAt c.p.payload 4 4 → beAt c.p.payload 4 4 ≤ fwSize →
      exec (.fwUpdateStart t) s = .next
        (((u.eraseMem (fwBase u.fwInactive) fwSize).putUpdate
          { chan := c.h.chan, size := beAt c.p.payload 4 4, next := 0, lastAt := u.tide, finished := false
            busy := true }).pends c [0])) ∧
    (∀ x : Update, c.p.op = 0x90 → beAt c.p.payload 0 1 = 2 → u.hm.upd = some x → x.chan = c.h.chan → x.busy = false →
      exec (.fwUpdateFinish t) s = .next ((u.putUpdate { x with busy := true }).pends c [2])) ∧
    (∀ (x : SafetySet) (b : Fin 2) (v : Nat) (full : List Byte), c.p.op = 0xB1 → u.allSafe = true →
      u.flashBusy = false → u.verifySet (beAt c.p.payload 0 4) (beAt c.p.payload 4 4) = .ok x →
      u.commitPlan (u.safetyImage x) = some (b, v, full) → full.length ≤ bankSize →
      exec (.safetyParamVerify t) s = .next
        ((((u.forceSet x true).stageSafety x).eraseBank b).pends c [b.val, v] full)) ∧
    (c.p.op = 0xC0 → u.isLead = true → u.pendOf 0xC0 0xFF = none → 1 ≤ beAt c.p.payload 0 1 →
      beAt c.p.payload 0 1 ≤ 8 → beAt c.p.payload 1 1 ≤ 1 →
      exec (.groupForm t) s = .next
        ((((u.sets [(Reg.MOOR_GCFG_EXPECT, beAt c.p.payload 0 1), (Reg.MOOR_GCFG_TOPO, beAt c.p.payload 1 1),
          (Reg.MOOR_GSTAT_FORMING, 1)]).updMoor fun m =>
            { m with formFrom := some (m.formFrom.getD u.tide) }).reForm.announce).pends c [u.tide])) ∧
    (∀ (n : Fin 4) (dst : AxState) (v : State), c.p.op = 0x30 → c.p.axis = some n →
      stateOf (beAt c.p.payload 0 1) = some dst → u.axisRequest n dst (beAt c.p.payload 1 1) = (v, .pending) →
      exec (.axisStateCmd t) s = .next (v.pends c [(u.axis n).st.code]))

/-- Setpoints of an axis in RUN take effect and renew their validity. TORQUE_CMD, SPEED_CMD and LINE_CMD to an axis
in RUN: the row completes, the entries of the port window take the clamped reference and the mode, the validity
starts anew, and the answer is OK with Detail 1 where the reference was clamped, and the feedback of the last
hand-over as data. Where this rests on a reading or choice of the model, that is log entries 17 and 18. (R80, R104,
R106, R355, R356) -/
def Obligations.SetpointCommands : Prop :=
  ∀ (t : Nat) (s u : State) (c : Cmd) (n : Fin 4), s.passed t = some (c, u) → c.p.axis = some n →
    (u.axis n).st = .run →
    (c.p.op = 0x31 → ∀ w k, clampTo (payWord c 0) (qAbs (bfVal (u.coefEntry n 0x31))) = (w, k) →
      exec (.torqueCmd t) s = .next
        ((((u.setPort n 192 0).setPort n 193 w).validFor n (beAt c.p.payload 4 2)).conclude c
          (.final { status := stOk, detail := flag k, stamp := u.tide, data := u.driveData n } true))) ∧
    (c.p.op = 0x32 → ∀ w k, clampTo (payWord c 0) (u.spdLimit n) = (w, k) →
      exec (.speedCmd t) s = .next
        ((((((u.setPort n 192 (bfInt 1)).setPort n 194 w).setPort n 195 (payWord c 4)).setPort n 196
            (payWord c 8)).validFor n (beAt c.p.payload 12 2)).conclude c
          (.final { status := stOk, detail := flag k, stamp := u.tide, data := u.driveData n } true))) ∧
    (c.p.op = 0x33 →
      exec (.lineCmd t) s = .next
        (((((u.setPort n 192 (bfInt 2)).setPort n 197 (payWord c 0)).setPort n 198 (payWord c 4)).validFor n
            (beAt c.p.payload 8 2)).gives c
          (beBytes 4 (u.handed n 173).toNat ++ beBytes 4 (u.handed n 174).toNat ++
            beBytes 2 ((u.handed n 165).toNat / 2 % 2) ++ [0, 0])))

/-- Sessions open and close, key slots are programmed and revoked. SESSION_OPEN with a programmed slot and a free
session; SESSION_PROGRAM_SLOT and SESSION_REVOKE_SLOT on HSPI with a KEYS session (or, to program, with all slots
blank); SESSION_CLOSE: the row completes; a session opened holds the key HMAC-SHA-256 derives from the slot, the
host's nonce, the module's nonce and the session number; a slot programmed holds its key and roles; a slot revoked
stays revoked and its sessions are closed. Where this rests on a reading or choice of the model, that is log entries
2, 16 and 56. (R91, R93, R94, R96) -/
def Obligations.SessionCommands : Prop :=
  ∀ (t : Nat) (s u : State) (c : Cmd), s.passed t = some (c, u) →
    (∀ i : Fin 8, c.p.op = 0xA0 → beAt c.p.payload 0 1 = 0 → c.slot = some i → (u.slot i).live = true →
      (u.hm.sess.filter fun x => x.chan != c.h.chan).length < 4 →
      exec (.sessionOpen t) s = .next
        ((u.openSession c.h.chan i ((c.p.payload.drop 4).take 16)).1.gives c
          (u.openSession c.h.chan i ((c.p.payload.drop 4).take 16)).2)) ∧
    (∀ i : Fin 8, c.p.op = 0xA0 → beAt c.p.payload 0 1 = 1 → c.h.chan = .hspi →
      (u.hasKeys .hspi = true ∨ (u.hm.slots.toList.all fun k => k.st == .blank) = true) → c.slot = some i →
      (u.slot i).st = .blank →
      exec (.sessionProgramSlot t) s = .next
        ((u.setSlot i
          { key := (c.p.payload.drop 20).take 32, role := BitVec.ofNat 8 (beAt c.p.payload 52 1)
            st := .programmed }).gives c)) ∧
    (∀ i : Fin 8, c.p.op = 0xA0 → beAt c.p.payload 0 1 = 2 → c.h.chan = .hspi → u.hasKeys .hspi = true →
      c.slot = some i → (u.slot i).live = true → u.lastKeys i = false →
      ((u.session .hspi).any fun x => x.slot == i) = false →
      exec (.sessionRevokeSlot t) s = .next
        (((u.closeSlot i .hspi).setSlot i { u.slot i with st := .revoked }).gives c)) ∧
    (∀ i : Fin 8, c.p.op = 0xA0 → beAt c.p.payload 0 1 = 2 → c.h.chan = .hspi → u.hasKeys .hspi = true →
      c.slot = some i → (u.slot i).live = true → u.lastKeys i = false →
      ((u.session .hspi).any fun x => x.slot == i) = true →
      exec (.sessionRevokeSlot t) s = .next
        (((u.closeSlot i .hspi).setSlot i { u.slot i with st := .revoked }).conclude c .closing)) ∧
    (c.p.op = 0xA1 → exec (.sessionClose t) s = .next (u.conclude c .closing))

/-- Firmware update, Logbook and axis commands that complete at once. FW_UPDATE_DATA at the next offset,
FW_UPDATE_ACTIVATE of a finished image (with RESTART the module restarts once the reply is sent), FW_UPDATE_ABORT,
FW_UPDATE_CONFIRM on a trial bank; LOGBOOK_ARM of a stored plan that fits, LOGBOOK_DISARM, LOGBOOK_TRIGGER_NOW; and
AXIS_STATE that an axis or the module carries out at once: the row completes with the effect of the rule and OK; a
reply to AXIS_STATE of the module carries the states of its axes. Where this rests on a reading or choice of the
model, that is log entries 17, 37, 38, 54 and 57. (R98, R99, R102, R104, R108, R109, R110, R418, R421) -/
def Obligations.UpdateAndLogCommands : Prop :=
  ∀ (t : Nat) (s u : State) (c : Cmd), s.passed t = some (c, u) →
    (∀ x : Update, c.p.op = 0x90 → beAt c.p.payload 0 1 = 1 → u.hm.upd = some x → x.chan = c.h.chan → x.busy = false →
      beAt c.p.payload 4 4 = x.next → x.next + (c.p.payload.drop 8).length ≤ x.size →
      exec (.fwUpdateData t) s = .next
        (((u.setBytes (fwBase u.fwInactive + x.next) (c.p.payload.drop 8)).putUpdate
          { x with next := x.next + (c.p.payload.drop 8).length, finished := false }).gives c)) ∧
    (∀ (x : Update) (r : StartIn) (v : State), c.p.op = 0x90 → beAt c.p.payload 0 1 = 3 → u.hm.upd = some x →
      x.chan = c.h.chan → x.busy = false → x.finished = true →
      v = { (u.updHm fun h =>
          { h with upd := none, fw := { h.fw with preferred := u.fwInactive, trial := true, trialStarts := 0 } }) with
        pwr := { u.pwr with fwact := (beAt c.p.payload 1 1).testBit 0 } } →
      ((beAt c.p.payload 1 1).testBit 0 = false → exec (.fwUpdateActivate t r) s = .next (v.gives c)) ∧
      ((beAt c.p.payload 1 1).testBit 0 = true → (u.axes.toList.any fun a => a.st != .off) = false →
        exec (.fwUpdateActivate t r) s = .next ((v.gives c).restart (v.gives c).tide .fwact r))) ∧
    (c.p.op = 0x90 → beAt c.p.payload 0 1 = 4 → exec (.fwUpdateAbort t) s = .next (u.dropUpdate.gives c)) ∧
    (c.p.op = 0x90 → beAt c.p.payload 0 1 = 5 → u.hm.fw.runsTrial = true →
      exec (.fwUpdateConfirm t) s = .next
        ((u.updHm fun h =>
          { h with
            upd := h.upd.map fun x => if x.chan = c.h.chan then { x with lastAt := u.tide } else x
            fw := { h.fw with
              trial := false, trialStarts := 0
              rollback := max h.fw.rollback (u.fwField u.hm.fw.running 8) } }).gives c)) ∧
    (∀ p : Nat × List Byte, c.p.op = 0x60 → beAt c.p.payload 0 1 = 0 → u.bit Reg.LOGB_CTL_EN = true →
      u.get Reg.LOGB_STAT_STATE = 0 → (u.logb.plans.find? fun p => p.1 == beAt c.p.payload 1 1) = some p →
      u.planTooLong p.2 = false →
      exec (.logbookArm t) s = .next
        ((u.logArm (beAt c.p.payload 1 1) p.2).gives c
          [BitVec.ofNat 8 ((u.logArm (beAt c.p.payload 1 1) p.2).get Reg.LOGB_STAT_STATE)])) ∧
    (c.p.op = 0x60 → beAt c.p.payload 0 1 = 1 →
      exec (.logbookDisarm t) s = .next
        ((u.logDisarm u.tide).gives c [BitVec.ofNat 8 ((u.logDisarm u.tide).get Reg.LOGB_STAT_STATE)])) ∧
    (c.p.op = 0x60 → beAt c.p.payload 0 1 = 2 →
      exec (.logbookTriggerNow t) s = .next
        ((u.logTriggerNow u.tide).gives c
          [BitVec.ofNat 8 ((u.logTriggerNow u.tide).get Reg.LOGB_STAT_STATE)])) ∧
    (∀ (n : Fin 4) (dst : AxState) (v : State), c.p.op = 0x30 → c.p.axis = some n →
      stateOf (beAt c.p.payload 0 1) = some dst → u.axisRequest n dst (beAt c.p.payload 1 1) = (v, .ok) →
      exec (.axisStateCmd t) s = .next
        (v.gives c [BitVec.ofNat 8 (u.axis n).st.code, BitVec.ofNat 8 (v.axis n).st.code, 0, 0])) ∧
    (∀ (dst : AxState) (v : State), c.p.op = 0x30 → c.p.axis = none → toGroup c.p = false →
      stateOf (beAt c.p.payload 0 1) = some dst → u.axisAll dst (beAt c.p.payload 1 1) = (v, none) →
      exec (.axisStateCmd t) s = .next (v.gives c) ∧
        ∀ r : Reply, c.h.op = 0x30 → c.h.target = 0xF0 → v.dressed c.h r = ({ r with data := v.axisBytes }, v))

/-- Packets enter by their transports, in order. UDP_DATAGRAM, HSPI_WRITE, CAN_COMMAND_FRAGMENT,
BERTH_COMMAND_DESCRIPTOR: bytes that make a packet fit to enter (answers given, header and length right, CRC-32C
right, known opcode, room among 32) go to the end of the front-end queue with their channel; a fragment that is not
the last is kept, the last one completes the packet. HSPI_READ clocks out the oldest reply with its length and drops
it once it is out; HRDY falls with a write and rises once another may start. PENDING replies that are due leave
first (log entry 53). FRAGMENT_TIMEOUT drops a partial packet 20 ms after its last fragment, counted.
REPLY_BERTH_RETRY sends the oldest waiting reply of a core once the berth is free, or gives it up after 100 ms with
CMD_REPLY_LOST. Where this rests on a reading or choice of the model, that is log entries 14, 15, 53 and 56. (R76,
R81, R82, R86, R87, R88, R89) -/
def Obligations.Transports : Prop :=
  ∀ (t : Nat) (s u : State), u = (s.upto t).sendDue →
    (∀ (ip port : Nat) (b : List Byte), u.Fits b →
      exec (.udpDatagram t ip port b) s = .next (u.queued (.udp ip port) b none)) ∧
    (∀ (v : State) (b : List Byte), (s.upto t).hrdy = true → v = ((s.upto t).emit (.hrdy false)).sendDue → v.Fits b →
      exec (.hspiWrite t b) s = .next
        (if v.hrdy then (v.queued .hspi b none).emit (.hrdy true) else v.queued .hspi b none)) ∧
    (∀ (n : Nat) (v : State) (b : List Byte) (r : List (List Byte)), u.hm.hspiQ = b :: r → 2 + b.length ≤ n →
      v = ((u.emit (.reply .hspi ((beBytes 2 b.length ++ b).take n))).updHm fun m =>
          { m with hspiQ := r }).hspiRefill →
      exec (.hspiRead t n) s = .next (if !u.hrdy && v.hrdy then v.emit (.hrdy true) else v)) ∧
    (∀ (n : Nat) (b : List Byte) (r : List (List Byte)), u.hm.hspiQ = b :: r → n < 2 + b.length →
      exec (.hspiRead t n) s = .next (u.emit (.reply .hspi ((beBytes 2 b.length ++ b).take n)))) ∧
    (∀ (c : Fin 4) (h : Byte) (d : List Byte), h.getLsbD 7 = true → h.getLsbD 6 = true → h.toNat % 32 = 0 →
      u.hm.canRx[c] = none → u.Fits (unpad d (d.length + 1)) →
      exec (.canCommandFragment t c (h :: d)) s = .next
        ((u.setPartial c none).queued (.can c) (unpad d (d.length + 1)) none)) ∧
    (∀ (c : Fin 4) (h : Byte) (d : List Byte), h.getLsbD 7 = true → h.getLsbD 6 = false → h.toNat % 32 = 0 →
      u.hm.canRx[c] = none →
      exec (.canCommandFragment t c (h :: d)) s = .next
        (u.setPartial c (some { bytes := d, next := 1, lastAt := u.tide }))) ∧
    (∀ (c : Fin 4) (h : Byte) (d : List Byte) (p : CanPartial), h.getLsbD 7 = false → h.getLsbD 6 = false →
      u.hm.canRx[c] = some p → h.toNat % 32 = p.next → u.tide ≤ p.lastAt + 20 * Config.ms →
      exec (.canCommandFragment t c (h :: d)) s = .next
        (u.setPartial c (some { bytes := p.bytes ++ d, next := p.next + 1, lastAt := u.tide }))) ∧
    (∀ (n : Fin 4) (d b : List Byte), u.bit (Reg.BERTH_STAT_FULL (commandBerth n)) = true →
      d = u.berthBytes (commandBerth n) → 46 ≤ leAt d 10 2 →
      (u.berthTake (commandBerth n)).writableMem (leAt d 16 8) (leAt d 10 2) = true →
      (u.berthTake (commandBerth n)).plainMem (leAt d 0 8) (leAt d 8 2) = true →
      b = u.bytes (leAt d 0 8) (leAt d 8 2) → (u.berthTake (commandBerth n)).Fits b →
      exec (.berthCommandDescriptor t n) s = .next
        ((u.berthTake (commandBerth n)).queued (.berth n) b (some (leAt d 16 8, leAt d 10 2)))) ∧
    (∀ (c : Fin 4) (p : CanPartial), s.hm.canRx[c] = some p → p.lastAt + 20 * Config.ms < (s.upto t).tide →
      exec (.fragmentTimeout t c) s = .next ((s.upto t).setPartial c none).discard) ∧
    (∀ (n : Fin 4) (w : WaitReply), (u.hm.waits.find? fun w => w.chan == .berth n) = some w →
      u.bit (Reg.BERTH_STAT_FULL (replyBerth n)) = false →
      exec (.replyBerthRetry t n) s = .next
        ((u.updHm fun m => { m with waits := m.waits.erase w }).berthMessage (replyBerth n)
          (replyDesc w.addr (leNat w.bytes)))) ∧
    (∀ (n : Fin 4) (w : WaitReply), (u.hm.waits.find? fun w => w.chan == .berth n) = some w →
      u.bit (Reg.BERTH_STAT_FULL (replyBerth n)) = true → w.since + 100 * Config.ms ≤ u.tide →
      exec (.replyBerthRetry t n) s = .next
        ((u.updHm fun m => { m with waits := m.waits.erase w }).raise .cmdReplyLost 1 0 t))

/-- What has lasted ends with its completion reply. MANIFEST_COMMIT_COMPLETE, PROGRAM_VALIDATION_COMPLETE,
LOGBOOK_BULK_COMPLETE, DIAG_RUN_COMPLETE, TUNE_END, FW_UPDATE_ERASE_COMPLETE, FW_UPDATE_FINISH_COMPLETE,
SAFETY_PARAM_VERIFY_COMPLETE, GROUP_FORM_COMPLETE and AXIS_STATE_COMPLETE, where their command is pending (TUNE_END
where the program reports its end or the maximum duration is over): the row completes with the effect of the rule,
and the pending command is answered OK with its data; a firmware image that fails its checks is answered ERR_AUTH
with reason 5. Where this rests on a reading or choice of the model, that is log entries 2, 14, 22, 26, 36, 37, 38,
39, 50, 53, 57 and 59. (R78, R80, R98, R109, R122, R137, R259, R260, R306, R422, R443, R461) -/
def Obligations.Completions : Prop :=
  ∀ (t : Nat) (s u : State) (p : PendCmd), u = s.upto t →
    (s.pendOf 0x22 0xF0 = some p → p.args.getD 2 0 ≠ 1 →
      exec (.manifestCommitComplete t true) s = .next ((u.writeBank p).complete p
        { status := stOk, stamp := (u.writeBank p).tide
          data := [BitVec.ofNat 8 (p.args.getD 0 0), 0, 0, 0] ++ beBytes 4 (p.args.getD 1 0) })) ∧
    (s.pendOf 0x22 0xF0 = some p → p.args.getD 2 0 = 1 →
      exec (.manifestCommitComplete t true) s = .next (((u.writeBank p).applyCommitted p.data).complete p
        { status := stOk, stamp := ((u.writeBank p).applyCommitted p.data).tide
          data := [BitVec.ofNat 8 (p.args.getD 0 0), 0, 0, 0] ++ beBytes 4 (p.args.getD 1 0) })) ∧
    (s.pendOf 0x22 0xF0 = some p → exec (.manifestCommitComplete t false) s = .next (u.writeFailed p)) ∧
    (∀ (n : Fin 4) (v : State), s.pendOf 0x40 n = some p → u.loadProgram n = (v, none) →
      exec (.programValidationComplete t n) s = .next
        (v.complete p { status := stOk, stamp := v.tide, data := beBytes 2 (p.args.getD 0 0) ++ [0, 0] })) ∧
    (s.pendOf 0x61 0xF0 = some p → s.get Reg.LOGB_STAT_STATE = 3 → s.logVia = false →
      p.args.getD 0 0 + p.args.getD 1 0 ≤ s.record.2 →
      exec (.logbookBulkComplete t) s = .next
        ((State.sendRecord (.udp (p.args.getD 2 0) (p.args.getD 3 0)) u.record.1 ((p.args.getD 1 0 + 1023) / 1024)
          (p.args.getD 0 0) (p.args.getD 1 0) 0 (u.recordErrors u.record.1 (p.args.getD 0 0) (p.args.getD 1 0))).complete p
          { status := stOk, stamp := u.tide, data := beBytes 8 (p.args.getD 1 0) })) ∧
    (∀ r : DiagReadings, s.pendOf 0x70 0xF0 = some p →
      exec (.diagRunComplete t none r) s = .next ((u.xResults (p.args.getD 0 0) r).1.complete p
        { status := stOk, stamp := (u.xResults (p.args.getD 0 0) r).1.tide
          data := (u.xResults (p.args.getD 0 0) r).2 })) ∧
    (∀ (n : Fin 4) (r : DiagReadings) (v : State), s.pendOf 0x70 n = some p → (s.axis n).diag.isSome = true →
      v = (u.updAxis n fun a => { a with diag := none }) →
      exec (.diagRunComplete t (some n) r) s = .next ((v.axisResults n (p.args.getD 0 0) r).1.complete p
        { status := stOk, stamp := (v.axisResults n (p.args.getD 0 0) r).1.tide
          data := (v.axisResults n (p.args.getD 0 0) r).2 })) ∧
    (∀ (n : Fin 4) (v : State), (s.axis n).st = .tune →
      (u.handedNat n 176 = 2 ∨ (s.axis n).tune.startAt + (s.axis n).tune.maxMs * Config.ms ≤ t) →
      v = ((u.moveAxis n .ready).updAxis n fun a =>
        { a with tune := { a.tune with ended := if u.handedNat n 176 = 2 then none else some 3 } }).settle t →
      exec (.tuneEnd t n) s = .next (v.completeOp 0x80 n { status := stOk, stamp := u.tide })) ∧
    (∀ x : Update, s.pendPhase 0 = some p → s.hm.upd = some x →
      exec (.fwUpdateEraseComplete t) s = .next
        ((u.setUpdate { x with busy := false }).complete p { status := stOk, stamp := u.tide })) ∧
    (∀ x : Update, s.pendPhase 2 = some p → s.hm.upd = some x →
      exec (.fwUpdateFinishComplete t) s = .next
        (if x.next = x.size ∧ u.fwGood x.size = true then
          (u.setUpdate { x with busy := false, finished := true }).complete p { status := stOk, stamp := u.tide }
        else
          ((u.setUpdate { x with busy := false, finished := false }).complete p
            { status := errAuth, detail := 5, stamp := u.tide }).authFail p.chan)) ∧
    (s.pendOf 0xB1 0xF0 = some p → p.data ≠ [] →
      exec (.safetyParamVerifyComplete t true) s = .next ((u.writeBank p).complete p
        { status := stOk, stamp := u.tide
          data := beBytes 4 ((u.lk.inForce.map SafetySet.crc).getD 0) ++
            beBytes 4 ((u.lk.inForce.map SafetySet.ver).getD 0) })) ∧
    (∀ v : State, v = (u.set Reg.MOOR_GSTAT_FORMING 0).announce → s.pendOf 0xC0 0xFF = some p → s.isLead = true →
      u.matchesCfg = true →
      exec (.groupFormComplete t) s = .next
        (v.complete p { status := stOk, stamp := v.tide, data := v.formData })) ∧
    (∀ (n : Fin 4) (dst : AxState), s.pendOf 0x30 n = some p → (s.axis n).pendTo = some dst →
      (s.axis n).st.code = p.args.getD 0 0 → ((s.channelsOf n).any fun g => (s.gate g).holds.supply) = false →
      s.railsRisen n = true → s.lk.fresh = false →
      exec (.axisStateComplete t n) s = .next (u.enableDone n dst (p.args.getD 0 0)).finishStart)

/-- MOV, ADD, SUB, MUL, MAC, NEG, ABS, MIN, MAX, SEL, SCALE and NORM complete. Where a pass of engine n has reached
a word of the opcode, the row completes: DST takes, by the result rule, the exact result of every enabled lane (a
sum, a difference, a product, a product added to the lane, the negative, the magnitude, the smaller, the larger, the
lane that PRED picks, the lane times 2^K, the lane itself; MOV: the lane, or the constant of the word with BCAST),
and the pass goes on with the next word. (R205, R206, R207, R213, R214, R217) -/
def Obligations.LaneArithmetic : Prop :=
  ∀ (t : Nat) (n : Fin 4) (s u : State) (a b d : Lanes), u = s.upto t → a = s.lanesA n → b = s.lanesB n →
    d = s.lanesD n →
    (s.reached n opAdd = true → exec (.add t n) s = .next
      ((u.writeArith t n fun i => qAdd a[i] b[i]).advance t n)) ∧
    (s.reached n opSub = true → exec (.sub t n) s = .next
      ((u.writeArith t n fun i => qSub a[i] b[i]).advance t n)) ∧
    (s.reached n opMul = true → exec (.mul t n) s = .next
      ((u.writeArith t n fun i => qMul a[i] b[i]).advance t n)) ∧
    (s.reached n opMac = true → exec (.mac t n) s = .next
      ((u.writeArith t n fun i => qAdd d[i] (qMul a[i] b[i])).advance t n)) ∧
    (s.reached n opNeg = true → exec (.neg t n) s = .next
      ((u.writeArith t n fun i => qNeg a[i]).advance t n)) ∧
    (s.reached n opAbs = true → exec (.abs t n) s = .next
      ((u.writeArith t n fun i => qAbs a[i]).advance t n)) ∧
    (s.reached n opMin = true → exec (.min t n) s = .next
      ((u.writeArith t n fun i => qMin a[i] b[i]).advance t n)) ∧
    (s.reached n opMax = true → exec (.max t n) s = .next
      ((u.writeArith t n fun i => qMax a[i] b[i]).advance t n)) ∧
    (s.reached n opSel = true → exec (.sel t n) s = .next
      ((u.writeArith t n fun i => if (s.engine n).pred.getLsbD i then a[i] else b[i]).advance t n)) ∧
    (s.reached n opScale = true → exec (.scale t n) s = .next
      ((u.writeArith t n fun i => qMul a[i] (qPow2 (wSigned (s.progWord n) 0 8))).advance t n)) ∧
    (s.reached n opNorm = true → exec (.norm t n) s = .next
      ((u.writeArith t n fun i => a[i]).advance t n)) ∧
    (s.reached n opMov = true → exec (.mov t n) s = .next
      ((u.writeArith t n fun i => if wBcast (s.progWord n) then wConst (s.progWord n) else a[i]).advance t n))

/-- SINCOS, PARK, IPARK, CLARKE, ICLARKE, ATAN2, RECIP, RSQRT and SVM complete. Where a pass has reached a word of
the opcode, the row completes with the results of R217: DST takes them by the result rule, DIVZ, DOM and OVM are set
where an enabled lane calls for them (1/0 gives 0 with DIVZ, the root of a negative 0 with DOM; SVM with the DC link
not above 0 gives duties 0.5 with DOM, otherwise duties clamped to 0 ... 1 with OVM where the clamp changes one),
and the pass goes on with the next word. Where this rests on a reading or choice of the model, that is log entry 20.
(R205, R206, R208, R213, R217, R218) -/
def Obligations.LaneFunctions : Prop :=
  ∀ (t : Nat) (n : Fin 4) (s u : State) (a b : Lanes), u = s.upto t → a = s.lanesA n → b = s.lanesB n →
    (s.reached n opSincos = true → exec (.sincos t n) s = .next ((u.writeArith t n fun i =>
        if i.val % 2 = 0 then (cosSin a[evenLane i]).1 else (cosSin a[evenLane i]).2).advance t n)) ∧
    (s.reached n opPark = true → exec (.park t n) s = .next ((u.writeArith t n fun i =>
        if i.val % 2 = 0 then qAdd (qMul a[evenLane i] b[evenLane i]) (qMul a[oddLane i] b[oddLane i])
        else qSub (qMul a[oddLane i] b[evenLane i]) (qMul a[evenLane i] b[oddLane i])).advance t n)) ∧
    (s.reached n opIpark = true → exec (.ipark t n) s = .next ((u.writeArith t n fun i =>
        if i.val % 2 = 0 then qSub (qMul a[evenLane i] b[evenLane i]) (qMul a[oddLane i] b[oddLane i])
        else qAdd (qMul a[evenLane i] b[oddLane i]) (qMul a[oddLane i] b[evenLane i])).advance t n)) ∧
    (s.reached n opClarke = true → exec (.clarke t n) s = .next ((u.writeArith t n fun i =>
        #v[(clarkeOf a[0] a[1] a[2]).1, (clarkeOf a[0] a[1] a[2]).2.1, (clarkeOf a[3] a[4] a[5]).1,
          (clarkeOf a[3] a[4] a[5]).2.1, (clarkeOf a[0] a[1] a[2]).2.2, (clarkeOf a[3] a[4] a[5]).2.2, a[6], a[7]][i]).advance t n)) ∧
    (s.reached n opIclarke = true → exec (.iclarke t n) s = .next ((u.writeArith t n fun i =>
        #v[(iclarkeOf a[0] a[1] a[4]).1, (iclarkeOf a[0] a[1] a[4]).2.1, (iclarkeOf a[0] a[1] a[4]).2.2,
          (iclarkeOf a[2] a[3] a[5]).1, (iclarkeOf a[2] a[3] a[5]).2.1, (iclarkeOf a[2] a[3] a[5]).2.2, a[6], a[7]][i]).advance t n)) ∧
    (s.reached n opAtan2 = true → exec (.atan2 t n) s = .next
      (((u.flagIf t n fDom (s.anyLane n fun i => qIsZero a[i] && qIsZero b[i])).writeArith t n fun i =>
        atan2Turns a[i] b[i]).advance t n)) ∧
    (s.reached n opRecip = true → exec (.recip t n) s = .next
      (((u.flagIf t n fDivz (s.anyLane n fun i => qIsZero a[i])).writeArith t n fun i =>
        if qIsZero a[i] then qZero else qInv a[i]).advance t n)) ∧
    (s.reached n opRsqrt = true → exec (.rsqrt t n) s = .next
      ((((u.flagIf t n fDivz (s.anyLane n fun i => qIsZero a[i])).flagIf t n fDom
        (s.anyLane n fun i => decide (a[i].num < 0))).writeArith t n fun i =>
          if a[i].num ≤ 0 then qZero else invRoot a[i]).advance t n)) ∧
    (s.reached n opSvm = true → 0 < b[0].num → exec (.svm t n) s = .next
      (((u.flagIf t n fOvm (s.anyLane n fun i =>
        decide (i.val < 6) && !qEq (unitClamp (svmRaw a b[0] i)) (svmRaw a b[0] i))).writeArith t n fun i =>
          if i.val < 6 then unitClamp (svmRaw a b[0] i) else (s.lanesD n)[i]).advance t n)) ∧
    (s.reached n opSvm = true → b[0].num ≤ 0 → exec (.svm t n) s = .next
      (((u.flagIf t n fDom (s.anyLane n fun i => decide (i.val < 6))).writeArith t n fun i =>
        if i.val < 6 then ⟨1, 2⟩ else (s.lanesD n)[i]).advance t n))

/-- CLAMP, CMP, PI, LPF and RAMP complete. Where a pass has reached a word of the opcode, the row completes: CLAMP
holds each lane between its two coefficients and PRED says where it changed; CMP writes 1 or 0 and PRED by its
condition; PI, LPF and RAMP compute each lane from its state word and coefficients by R218, write the state words of
the enabled lanes and DST, and PI and RAMP write PRED. Where this rests on a reading or choice of the model, that is
log entry 25. (R202, R205, R206, R208, R213, R214, R217, R218) -/
def Obligations.PredicateAndStateWords : Prop :=
  ∀ (t : Nat) (n : Fin 4) (s u : State) (a b : Lanes) (c k : Nat) (en : Fin 8 → Bool),
    u = s.upto t → a = s.lanesA n → b = s.lanesB n → c = wIndex (s.progWord n) → k = wState (s.progWord n) →
    en = s.enable n →
    (∀ r : Fin 8 → Q, (∀ i, r i = qMax (s.coef n c i) (qMin a[i] (s.coef n c (8 + i)))) →
      s.reached n opClamp = true → exec (.clamp t n) s = .next (u.predOp t n r fun i => !qEq (r i) a[i])) ∧
    (∀ h : Fin 8 → Bool, (∀ i, h i = cmpHolds (wBits (s.progWord n) 0 3) a[i] b[i]) →
      s.reached n opCmp = true →
      exec (.cmp t n) s = .next (u.predOp t n (fun i => if h i then qOne else qZero) h)) ∧
    (∀ l : Fin 8 → (Word × WFlags) × Bool × Q,
      (∀ i, l i = piLane (s.coef n c i) (s.coef n c (8 + i)) (s.coef n c (16 + i)) (s.coef n c (24 + i)) a[i]
        (s.readState n (k + i)) (wRtz (s.progWord n))) →
      s.reached n opPi = true → exec (.pi t n) s = .next
        ((u.stateLanes t n k en fun i => (l i).1).predOp t n (fun i => (l i).2.2) fun i => (l i).2.1)) ∧
    (∀ (y : Fin 8 → Q) (l : Fin 8 → Word × WFlags), (∀ i, y i = bfVal (s.readState n (k + i))) →
      (∀ i, l i = bf (qAdd (y i) (qMul (s.coef n c i) (qSub a[i] (y i)))) (wRtz (s.progWord n))) →
      s.reached n opLpf = true → exec (.lpf t n) s = .next
        (((u.stateLanes t n k en l).writeArith t n fun i => bfVal (l i).1).advance t n)) ∧
    (∀ (y want d : Fin 8 → Q) (l : Fin 8 → Word × WFlags), (∀ i, y i = bfVal (s.readState n (k + i))) →
      (∀ i, want i = qSub a[i] (y i)) →
      (∀ i, d i = qMax (qNeg (qMax (s.coef n c (8 + i)) qZero)) (qMin (want i) (qMax (s.coef n c i) qZero))) →
      (∀ i, l i = bf (qAdd (y i) (d i)) (wRtz (s.progWord n))) → s.reached n opRamp = true →
      exec (.ramp t n) s = .next
        (((u.flagIf t n fDom (s.anyLane n fun i =>
          decide ((s.coef n c i).num < 0 ∨ (s.coef n c (8 + i)).num < 0))).stateLanes t n k en l).predOp t n
            (fun i => bfVal (l i).1) fun i => !qEq (d i) (want i)))

/-- LD and ST complete, lane by lane. Where a pass has reached a word of the opcode, the row completes. LD: DST
takes the values of the entries of the enabled lanes; an entry outside its space reads 0 and sets PORT_ERR, with the
code of the first such lane; an entry with an uncorrectable error ends the pass uncommitted and raises
MEM_ECC_FATAL. ST: each enabled lane in turn stores its value, rounded to a word, in the state or the port window; a
store to the coefficient store or to a port entry that is not writable is a port error and sets the flags of its
rounding; a store to the buffer before a hit is decided does nothing. Where this rests on a reading or choice of the
model, that is log entry 25. (R209, R213, R214, R215, R217, R220, R223, R224) -/
def Obligations.MemoryWords : Prop :=
  ∀ (t : Nat) (n : Fin 4) (s u : State) (w : Word64), u = s.upto t → w = s.progWord n →
    (s.reached n opLd = true → s.badEntry n = none → (∀ i : Fin 8, (wMask w).getLsbD i = true → laneEntry w i < spaceSize (wSpace w)) →
      exec (.ld t n) s = .next (((u.leCount n 2 1).writeDst t n false false (fun i => (wMask w).getLsbD i) fun i =>
        if laneEntry w i < spaceSize (wSpace w) then entryValue (wInt w) (s.readEntry n (wSpace w) (laneEntry w i))
        else qZero).advance t n)) ∧
    (∀ a : Nat, s.reached n opLd = true → s.badEntry n = some a →
      exec (.ld t n) s = .next ((u.endUncommitted t n).eccFatal t a)) ∧
    (∀ i : Fin 8, s.reached n opLd = true → s.badEntry n = none →
      ((maskLanes w).find? fun (i : Fin 8) => decide (spaceSize (wSpace w) ≤ laneEntry w i)) = some i →
      exec (.ld t n) s = .next
        ((((u.portErr t n (portCode (wSpace w) (laneEntry w i) false)).leCount n 2 1).writeDst t n false false
          (fun i => (wMask w).getLsbD i) fun i =>
            if laneEntry w i < spaceSize (wSpace w) then
              entryValue (wInt w) (s.readEntry n (wSpace w) (laneEntry w i))
            else qZero).advance t n)) ∧
    (s.reached n opSt = true →
      exec (.st t n) s = .next
        ((((maskLanes w).foldl (fun (s : State) i => s.storeLane t n w i) u).leCount n 3 1).advance t n)) ∧
    (∀ (v : State) (i : Fin 8) (x : Word) (f : WFlags), laneEntry w i < 4096 → wSpace w = 1 →
      storeWord (wInt w) ((v.vreg n (wA w)).lane i) = (x, f) →
      v.storeLane t n w i = (v.writeFlags t n f).writeState n (laneEntry w i) x) ∧
    (∀ (v : State) (i : Fin 8) (x : Word) (f : WFlags), portWritable (laneEntry w i) = true → wSpace w = 2 →
      storeWord (wInt w) ((v.vreg n (wA w)).lane i) = (x, f) →
      v.storeLane t n w i = (v.writeFlags t n f).writePort n (laneEntry w i) x) ∧
    (∀ (v : State) (i : Fin 8) (x : Word) (f : WFlags), wSpace w = 2 → portWritable (laneEntry w i) = false →
      storeWord (wInt w) ((v.vreg n (wA w)).lane i) = (x, f) →
      v.storeLane t n w i = (v.writeFlags t n f).portErr t n (portCode 2 (laneEntry w i) true)) ∧
    (∀ (v : State) (i : Fin 8) (x : Word) (f : WFlags), wSpace w = 0 →
      storeWord (wInt w) ((v.vreg n (wA w)).lane i) = (x, f) →
      v.storeLane t n w i = (v.writeFlags t n f).portErr t n (portCode 0 (laneEntry w i) true)) ∧
    (∀ (v : State) (i : Fin 8), wSpace w = 3 → v.phase n = 1 ∨ v.phase n = 2 → v.storeLane t n w i = v)

/-- HALT, SETTLE, COMMIT, undefined encodings, and what the engine waits for. HALT ends the pass uncommitted, and so
does a word with an uncorrectable error, with MEM_ECC_FATAL. SETTLE: the first of a pilot pass stops it there, with
its time in LE_PASS; outside a pilot pass it writes the zero register; a released run compares and goes on, to the
hit path after its last SETTLE, or is a miss: squash and a full pass. SETTLE_RELEASE gives a waiting run the arrived
sample. COMMIT asks for its crossing or ends the pass. An undefined word, or the place behind the last one, sets
ILLOP, ends the pass and raises LE_ILLOP with the place. COMMIT_COMPLETE hands the set over, and hands over nothing
where the axis no longer runs. Where this rests on a reading or choice of the model, that is log entries 14 and 25.
(R219, R221, R228, R229, R232, R233, R234, R235, R236, R237, R238, R239) -/
def Obligations.PassWords : Prop :=
  ∀ (t : Nat) (n : Fin 4) (s u : State) (pc : Nat), u = s.upto t → pc = (s.engine n).pc →
    (s.reached n opHalt = true → exec (.halt t n) s = .next ((u.advance t n).endUncommitted t n)) ∧
    (s.badWord n = true →
      exec (.halt t n) s = .next ((u.endUncommitted t n).eccFatal t (engineAddr n (8 * pc)))) ∧
    (s.reached n opSettle = true → s.phase n = 1 →
      exec (.settle t n) s = .next
        ((u.sets [(Reg.LE_STATUS_PHASE n, 2), (Reg.LE_STATUS_PC n, pc),
          (Reg.LE_PASS_PILOT n, min 65535 (t - (s.engine n).started))]).updEng n fun e => { e with settledAt := t })) ∧
    (s.reached n opSettle = true → s.phase n ≠ 1 →
      exec (.settle t n) s = .next ((u.setVreg n (wDst (s.progWord n)) zeroReg).advance t n)) ∧
    (∀ v : State, s.phase n = 2 → (s.engine n).settles ≠ 0 → s.settleHit n = true →
      v = ((u.writeArith t n (s.settleDiff n)).advance t n).updEng n (fun e => { e with settles := e.settles + 1 }) →
      exec (.settle t n) s = .next
        (v.set (Reg.LE_STATUS_PHASE n)
          (if (v.engine n).pc < 8192 ∧ wOp (v.progWord n) = opSettle then 2 else 3))) ∧
    (s.phase n = 2 → (s.engine n).settles ≠ 0 → s.settleHit n = false →
      exec (.settle t n) s = .next
        (((u.set (Reg.LE_STATUS_PC n) pc).incHold (Reg.LE_MISS_COUNT n)).squash t n |>.startFull t n)) ∧
    (∀ (v : State) (a : Nat), s.phase n = 2 → (s.engine n).settles = 0 → (s.engine n).arrived = some a →
      v = ((u.leCount n 6 (t - (s.engine n).settledAt)).updEng n fun e =>
        { e with
          view := e.newest, serving := e.arrived, arrived := none
          pRatio := some ⟨((s.engine n).settledAt - (s.engine n).lastCommit : Nat),
            (s.engine n).arrivedAt - (s.engine n).lastCommit⟩ }) →
      exec (.settleRelease t n) s = .next (v.settleWord t n)) ∧
    (s.reached n opCommit = true →
      exec (.commit t n) s = .next
        ((((u.leSample t n (s.progWord n) pc).leCount n 1 1).set (Reg.LE_STATUS_PC n) pc).commitPass t n)) ∧
    (s.passRuns n = true → s.badWord n = false → pc < 8192 → wUndefined (s.progWord n) = true →
      exec (.undefinedEncoding t n) s = .next
        ((((u.setFlag t n fIllop).set (Reg.LE_STATUS_PC n) pc).endUncommitted t n).raise .leIllop (leSource n) pc t)) ∧
    (s.passRuns n = true → 8192 ≤ pc →
      exec (.undefinedEncoding t n) s = .next
        ((((u.setFlag t n fIllop).set (Reg.LE_STATUS_PC n) 8191).endUncommitted t n).raise .leIllop (leSource n) 8192 t)) ∧
    ((s.engine n).crossing = true → (s.engine n).orphan = true ∨ (s.axis n).st.closed = false →
      exec (.commitComplete t n) s = .next (u.endPass t n)) ∧
    ((s.engine n).crossing = true → (s.engine n).orphan = false → (s.axis n).st.closed = true →
      exec (.commitComplete t n) s = .next (u.handOver t n (s.handSet n) (s.dutySet n)))

/-- GO, CARRIER_ENABLE, CARRIER_DISABLE and FORCE writes complete. Where the write is accepted: GO starts a GO pass
on an idle engine and waits on a busy one; EN written 1 stops what was and schedules the carrier, EN written 0 stops
it; FORCE with FEN drives the axis legs from its bits and raises XCMD where both channels of a leg are asked for
(otherwise XCMD's cause is gone), FEN 0 releases them. (R226, R227, R261, R262, R263, R279, R286) -/
def Obligations.EngineAndCarrierWrites : Prop :=
  ∀ (t req : Nat) (n : Fin 4) (w : Word) (s u v : State), u = s.busAt t req true →
    (u.accepted req (Reg.LE_CTL n) w = some v → (s.reg (Reg.LE_CTL n)).getLsbD 0 = v.bit (Reg.LE_CTL_PILOTEN n) →
      w.getLsbD 1 = true → v.phase n = 0 → exec (.goPass t req n w) s = .next (v.startGo v.tide n)) ∧
    (u.accepted req (Reg.LE_CTL n) w = some v → (s.reg (Reg.LE_CTL n)).getLsbD 0 = v.bit (Reg.LE_CTL_PILOTEN n) →
      w.getLsbD 1 = true → v.phase n ≠ 0 →
      exec (.goPass t req n w) s = .next (v.updEng n fun e => { e with goPending := true })) ∧
    (u.accepted req (Reg.PWM_CTL n) w = some v → (s.reg (Reg.PWM_CTL n)).getLsbD 0 = false →
      v.bit (Reg.PWM_CTL_EN n) = true →
      exec (.carrierEnable t req n w) s = .next ((v.stopCarrier v.tide n).schedCarrier v.tide n)) ∧
    (u.accepted req (Reg.PWM_CTL n) w = some v → (s.reg (Reg.PWM_CTL n)).getLsbD 0 = true →
      v.bit (Reg.PWM_CTL_EN n) = false →
      exec (.carrierDisable t req n w) s = .next (v.stopCarrier v.tide n)) ∧
    (u.accepted req (Reg.PWM_FORCE n) w = some v → v.bit (Reg.PWM_FORCE_FEN n) = true →
      ((v.settle v.tide).legsOf n |>.foldl (State.forceLeg · n ·) (v.settle v.tide)).forceBoth n = false →
      exec (.pwmForceWrite t req n w) s = .next
        (((v.settle v.tide).legsOf n |>.foldl (State.forceLeg · n ·) (v.settle v.tide)).causeGone .xcmd
          (12 + n) 0)) ∧
    (u.accepted req (Reg.PWM_FORCE n) w = some v → v.bit (Reg.PWM_FORCE_FEN n) = true →
      ((v.settle v.tide).legsOf n |>.foldl (State.forceLeg · n ·) (v.settle v.tide)).forceBoth n = true →
      exec (.pwmForceWrite t req n w) s = .next
        (((v.settle v.tide).legsOf n |>.foldl (State.forceLeg · n ·) (v.settle v.tide)).raise .xcmd (12 + n) n
          v.tide)) ∧
    (u.accepted req (Reg.PWM_FORCE n) w = some v → v.bit (Reg.PWM_FORCE_FEN n) = false →
      exec (.pwmForceWrite t req n w) s = .next
        ((((v.legsOf n).foldl (fun s l => s.holdForced n l false false) v).causeGone .xcmd (12 + n) 0).settle v.tide))

/-- Writes that command Breakwater complete. Where the write is accepted: START of BW_DSCCTL triggers an active
discharge where no axis is in DIAG, RUN or TUNE; STOP ends a commanded one, or only takes the command away where
another trigger stands; BW_LKDEMAND takes its ten bits and the reactions are settled; BW_FQCLR ends the causes found
gone, clears by its code and lets the module leave SAFE where nothing holds it. Where this rests on a reading or
choice of the model, that is log entries 34 and 35. (R102, R321, R322, R335, R337, R338) -/
def Obligations.BreakwaterWrites : Prop :=
  ∀ (t req : Nat) (w : Word) (s u v : State), u = s.busAt t req true →
    (u.accepted req Reg.BW_DSCCTL w = some v → wordGet w 0 1 = 1 → wordGet w 1 1 = 0 →
      (v.axes.toList.any fun a => a.st == .diag || a.st == .run || a.st == .tune) = false →
      exec (.dscRequest t req w) s = .next
        (v.updBw fun b => b.trigger v.tide b.trgCmd fun b => { b with trgCmd := true })) ∧
    (u.accepted req Reg.BW_DSCCTL w = some v → wordGet w 0 1 = 0 → wordGet w 1 1 = 1 → v.bw.trgCmd = true →
      v.bw.trgLoss = false → v.bw.trgSafe = false →
      exec (.dscStopWrite t req w) s = .next v.dscStop) ∧
    (u.accepted req Reg.BW_DSCCTL w = some v → wordGet w 0 1 = 0 → wordGet w 1 1 = 1 → v.bw.trgCmd = true →
      v.bw.trgLoss = true ∨ v.bw.trgSafe = true →
      exec (.dscStopWrite t req w) s = .next (v.updBw fun b => { b with trgCmd := false })) ∧
    (u.accepted req Reg.BW_LKDEMAND w = some v →
      exec (.bwLkdemandWrite t req w) s = .next
        ((v.setReg Reg.BW_LKDEMAND (v.reg Reg.BW_LKDEMAND &&& 0x3FF)).settle v.tide)) ∧
    (∀ gone : List (FName × Nat × Nat),
      ((s.updFm fun m => { m with found := some gone }).busAt t req true).accepted req Reg.BW_FQCLR w = some v →
      (v.clearWaits = false →
        exec (.bwFqclrWrite t req ⟨w, gone⟩) s = .next
          ((v.findGone.faultClear none (wordGet w 0 16)).1.leaveSafe.updFm fun m => { m with found := none })) ∧
      (v.clearWaits = true →
        exec (.bwFqclrWrite t req ⟨w, gone⟩) s = .next (v.updFm fun m => { m with found := none })))

/-- Writes that command the networks complete. Where the write is accepted: SWAPREQ with a legal administrative list
sets the swap instant and SWAPPEND; a grandmaster's ETH_ASGMSEC steps the time base with TIDE_AS_STEP; a
transmit-ring tail sends the frames up to it; ARM of a buffer that is not pending, with a legal length, makes it
pending; ABORT aborts a pending buffer at once, or after its attempt where it is being sent; RXPOP drops the oldest
frame; EN written 0 aborts every pending buffer and empties the queues. Where this rests on a reading or choice of
the model, that is log entries 33 and 56. (R72, R378, R381, R382, R384, R388, R389, R393, R394) -/
def Obligations.NetworkWrites : Prop :=
  ∀ (t req : Nat) (w : Word) (s u v : State), u = s.busAt t req true →
    (∀ (p : Fin 4) (cyc : Nat), u.accepted req (Reg.ETH_GCTL p) w = some v → w.getLsbD 31 = true →
      cyc = (((v.adminList p).entries.take ((v.adminList p).len + 1)).map Prod.snd).sum →
      (v.adminList p).len ≤ 127 → 4 ≤ cyc → cyc ≤ 400000000 →
      exec (.gateListSwapRequest t req p w) s = .next
        ((v.updEth fun e =>
          { e with swapAt := e.swapAt.set p (some (swapInstant v.tide (v.adminList p).base cyc)) }).set
            (Reg.ETH_PSTAT_SWAPPEND p) 1)) ∧
    (u.accepted req Reg.ETH_ASGMSEC w = some v → v.bit Reg.ETH_ASCFG_GM = true →
      exec (.ethAsgmsecWrite t req w) s = .next
        ((v.sets [(Reg.TIDE_ASBASE_NS_NS, 0), (Reg.TIDE_ASBASE_SL_SEC, v.get Reg.ETH_ASGMSEC_SEC),
          (Reg.TIDE_ASBASE_SH_SEC, 0)]).raise .tideAsStep 0 0 v.tide)) ∧
    (∀ r : Fin 4, u.accepted req (Reg.ETH_RINGPTR (r + 4)) w = some v →
      v.bit (Reg.ETH_RINGBASE_EN (r + 4)) = true →
      exec (.txRingTailWrite t req r w) s = .next (State.ringDrain v.tide r 1024 v)) ∧
    (∀ (c : Fin 4) (b : Fin 16), u.accepted req (Reg.CAN_TXCTL c b) w = some v → w.getLsbD 8 = true →
      w.getLsbD 9 = false → dlcLengths.contains (v.get (Reg.CAN_TXCTL_LEN c b)) = true →
      v.bit (Reg.CAN_TXID_FDF c b) = true ∨ v.get (Reg.CAN_TXCTL_LEN c b) ≤ 8 → v.txPending c b = false →
      exec (.canTxArm t req c b w) s = .next (v.set (Reg.CAN_TXCTL_STATE c b) 1)) ∧
    (∀ (c : Fin 4) (b : Fin 16), u.accepted req (Reg.CAN_TXCTL c b) w = some v → w.getLsbD 8 = false →
      w.getLsbD 9 = true → v.txPending c b = true → (v.canCtl c).cur ≠ some b →
      exec (.canTxAbort t req c b w) s = .next (v.txAborted c b)) ∧
    (∀ (c : Fin 4) (b : Fin 16), u.accepted req (Reg.CAN_TXCTL c b) w = some v → w.getLsbD 8 = false →
      w.getLsbD 9 = true → v.txPending c b = true → (v.canCtl c).cur = some b →
      exec (.canTxAbort t req c b w) s = .next (v.updCan c fun x => { x with abort := true })) ∧
    (∀ (c : Fin 4) (q : Fin 2), u.accepted req (Reg.CAN_RXPOP c q) w = some v → w.getLsbD 0 = true →
      exec (.canRxPop t req c q w) s = .next (v.updCan c fun x => { x with rx := x.rx.set q (x.rx[q].drop 1) })) ∧
    (∀ c : Fin 4, u.accepted req (Reg.CAN_CTL c) w = some v → (s.reg (Reg.CAN_CTL c)).getLsbD 0 = true →
      v.bit (Reg.CAN_CTL_EN c) = false →
      exec (.canDisable t req c w) s = .next
        (((((buffers16.filter (v.txPending c)).foldl (State.txAborted · c ·) v).updHm fun h =>
          { h with canTx := h.canTx.set c [] }).updCan c fun x =>
            { x with rx := Vector.replicate 2 [], cur := none, abort := false, lkTx := [] })))

/-- Writes that command cores, berths, bollards, arbiters, Logbook, performance units and the reset complete. Where
the write is accepted: RUN written 1 starts the core at its boot address, RUN written 0 resets it and frees its
bollards; BERTH_ACFLT raises AC_USER_STOP or AC_USER_WARN with its 31 bits; a changed BERTH_CFG empties its berth;
KFREE frees the bollards of its bits; ARB_SEED reloads every arbiter; TRIG triggers the Logbook and EN 0 returns it
to idle; CLEAR empties a sampling buffer; the key in PWR_RESET restarts the module. Where this rests on a reading or
choice of the model, that is log entries 24, 41 and 46. (R397, R399, R404, R407, R412, R414, R421, R426, R430, R432,
R467, R475) -/
def Obligations.BerthAndBollardAccesses : Prop :=
  ∀ (t req : Nat) (w : Word) (s u v : State), u = s.busAt t req true →
    (∀ r : Fin 4, u.accepted req (Reg.BERTH_ACCTL r) w = some v → (s.reg (Reg.BERTH_ACCTL r)).getLsbD 0 = false →
      v.bit (Reg.BERTH_ACCTL_RUN r) = true →
      exec (.coreStart t req r w) s = .next
        (v.updCore r fun c => { since := some v.tide, boot := (v.reg (Reg.BERTH_ACBOOT r)).toNat * 256, mtip := c.mtip })) ∧
    (∀ r : Fin 4, u.accepted req (Reg.BERTH_ACCTL r) w = some v → (s.reg (Reg.BERTH_ACCTL r)).getLsbD 0 = true →
      v.bit (Reg.BERTH_ACCTL_RUN r) = false →
      exec (.coreReset t req r w) s = .next
        ((v.updCore r fun c => { since := none, boot := c.boot, mtip := c.mtip }).freeBollards v.tide fun o => o == r.val + 1)) ∧
    (u.accepted req Reg.BERTH_ACFLT w = some v → w.getLsbD 31 = true →
      exec (.berthAcfltWrite t req w) s = .next
        ((v.raise .acUserStop 57 (w.toNat % 2 ^ 31) v.tide (req := req)).causeGone .acUserStop 57 0)) ∧
    (u.accepted req Reg.BERTH_ACFLT w = some v → w.getLsbD 31 = false →
      exec (.berthAcfltWrite t req w) s = .next
        (v.raise .acUserWarn 57 (w.toNat % 2 ^ 31) v.tide (req := req))) ∧
    (∀ b : Fin 32, u.accepted req (Reg.BERTH_CFG b) w = some v →
      (s.reg (Reg.BERTH_CFG b) &&& 0x17F7F) ≠ (v.reg (Reg.BERTH_CFG b) &&& 0x17F7F) →
      v.bit (Reg.BERTH_STAT_FULL b) = true →
      exec (.berthCfgWrite t req b w) s = .next (v.set (Reg.BERTH_STAT_FULL b) 0)) ∧
    (∀ b : Fin 32, u.accepted req (Reg.BERTH_CFG b) w = some v →
      (s.reg (Reg.BERTH_CFG b) &&& 0x17F7F) = (v.reg (Reg.BERTH_CFG b) &&& 0x17F7F) ∨
        v.bit (Reg.BERTH_STAT_FULL b) = false →
      exec (.berthCfgWrite t req b w) s = .next v) ∧
    (u.accepted req Reg.BERTH_KFREE w = some v →
      exec (.bollardFreeWrite t req w) s = .next
        ([0, 1, 2, 3, 4, 5, 6, 7, 8, 9, 10, 11, 12, 13, 14, 15].foldl
          (fun (s : State) (k : Fin 16) => if w.getLsbD k then s.freeBollard v.tide k else s) v)) ∧
    (u.accepted req Reg.ARB_SEED w = some v →
      exec (.arbSeedWrite t req w) s = .next
        { v with arb := v.arb.map fun x => { x with lfsr := v.get Reg.ARB_SEED_SEED } }) ∧
    (u.accepted req Reg.LOGB_CTL w = some v → v.bit Reg.LOGB_CTL_EN = true → w.getLsbD 1 = true →
      exec (.logbTrigWrite t req w) s = .next (v.logTrigger v.tide)) ∧
    (u.accepted req Reg.LOGB_CTL w = some v → (s.reg Reg.LOGB_CTL).getLsbD 0 = true →
      v.bit Reg.LOGB_CTL_EN = false → exec (.logbDisable t req w) s = .next v.logIdle) ∧
    (∀ k : Fin 8, u.accepted req (Reg.PERF_SCTL k) w = some v → w.getLsbD 18 = true →
      exec (.perfSampleClear t req k w) s = .next { v with perf := v.perf.set k { v.perf[k] with buf := [] } }) ∧
    (∀ r : StartIn, u.accepted req Reg.PWR_RESET w = some v → wordGet w 0 16 = 0xB007 →
      exec (.pwrResetWrite t req w r) s = .next
        ((v.updPwr fun p => { p with restart := true }).restart v.tide .cmd r))

/-- Reads and writes of registers on the fabric. A write of a register completes: accepted, the register takes its
word and the write does what the register says beside; refused under R128, CFG_REJECT is raised and the register
keeps its word; without the right, it is an access error of kind 2; an offset that is not listed ignores it; another
width is an access error of kind 1. A read has the read effect of its register, or none at an offset that is not
listed; another width is an access error of kind 1. An accepted key in PWR_RESET restarts the module (restartDue). A
target that does not answer is an access error of kind 3 and FABRIC_TIMEOUT; Harbourmaster's own command is marked
for ERR_RANGE. Where this rests on a reading or choice of the model, that is log entries 2, 24 and 64. (R13, R25,
R26, R38, R41, R43, R128, R129) -/
def Obligations.RegisterAccesses : Prop :=
  ∀ (t req a : Nat) (w : Word) (s u r : State), u = s.busAt t req true →
    r = s.busAt t req false → a < 0x120000 → a % 4 = 0 →
    (∀ (d : RDesc) (ix : List Nat) (v : State), findReg a = some (d, ix) → u.accepted req a w = some v →
      exec (.registerWrite t req (regAddr a) 4 w) s = .next ((v.wrote req a d ix (u.reg a) w).restartDue s.pwr.restart)) ∧
    (∀ (d : RDesc) (ix : List Nat) (new : Word) (reason : Nat) (k : Bool), findReg a = some (d, ix) →
      new = newWord d ix (u.reg a) w → u.mayWrite req (a / 0x10000) = true → u.mayWriteReg req a d ix new = true →
      legOnly d.base (ix.headD 0) = false → d.base ≠ Reg.BERTH_K 0 → d.base ≠ Reg.BERTH_MSG 0 0 →
      u.refusal false req a d ix w new = some (reason, k) →
      exec (.registerWrite t req (regAddr a) 4 w) s = .next ((u.cfgReject req reason a).restartDue s.pwr.restart)) ∧
    (u.mayWrite req (a / 0x10000) = false →
      exec (.registerWrite t req (regAddr a) 4 w) s = .next ((u.accessError req (regAddr a) 2 true).restartDue s.pwr.restart)) ∧
    (u.mayWrite req (a / 0x10000) = true → findReg a = none →
      (role req ≠ 6 ∨ a / 0x10000 = 8 → exec (.registerWrite t req (regAddr a) 4 w) s = .next (u.restartDue s.pwr.restart)) ∧
      (role req = 6 → a / 0x10000 ≠ 8 →
        exec (.registerWrite t req (regAddr a) 4 w) s = .next ((u.accessError req (regAddr a) 2 true).restartDue s.pwr.restart))) ∧
    (∀ width : Nat, width ≠ 4 →
      exec (.registerWrite t req (regAddr a) width w) s = .next ((u.accessError req (regAddr a) 1 true).restartDue s.pwr.restart)) ∧
    (∀ (d : RDesc) (ix : List Nat), findReg a = some (d, ix) →
      exec (.readClearAccess t req (regAddr a)) s = .next (r.readEffect req a d ix)) ∧
    (findReg a = none → exec (.readClearAccess t req (regAddr a)) s = .next r) ∧
    (∀ width : Nat, width ≠ 4 →
      exec (.accessErrorRead t req (regAddr a) width) s = .next (r.accessError req (regAddr a) 1 false)) ∧
    (∀ (addr : Nat) (write : Bool) (v x : State), v = (s.upto t).accessError req addr 3 write →
      x = (if role req = 11 then v.updHm (fun h => { h with timedOut := some (req, addr, write) }) else v) →
      exec (.fabricWatchdogExpiry t req addr write) s = .next (x.raise .fabricTimeout 56 0 t))

/-- Writes of memories, and accesses that fail. A requester that may write plain memory stores its word,
little-endian, in SRAM and DRAM outside protected regions; flash takes no write of the fabric; an unimplemented
block is an access error of kind 4 and an address that leads nowhere of kind 0, for reads and writes alike. Program,
coefficient and state store of an engine take a word while the axis is not in RUN or TUNE, and a changed program
store is no longer loaded; in RUN or TUNE the write is an access error of kind 2. REMOTE_ACCESS is the access
through this module's group window, answered to the module it came from. Where this rests on a reading or choice of
the model, that is log entries 2, 5, 7, 24 and 64. (R25, R26, R38, R39, R40, R41, R131, R222, R223, R260, R448) -/
def Obligations.MemoryAccesses : Prop :=
  ∀ (t req : Nat) (w : Word) (s u r : State), u = s.busAt t req true → r = s.busAt t req false →
    (∀ addr : Nat, 0x10000000 ≤ addr → addr < 0x10400000 → u.mayWriteMem req = true →
      u.writableMem addr 4 = true →
      exec (.registerWrite t req addr 4 w) s = .next ((u.setBytes addr (leBytes 4 w.toNat)).restartDue s.pwr.restart)) ∧
    (∀ addr : Nat, 0x80000000 ≤ addr → addr < 0x25C000000 → u.mayWriteMem req = true →
      u.writableMem addr 4 = true →
      exec (.registerWrite t req addr 4 w) s = .next ((u.setBytes addr (leBytes 4 w.toNat)).restartDue s.pwr.restart)) ∧
    (∀ addr : Nat, 0x60000000 ≤ addr → addr < 0x64000000 →
      exec (.registerWrite t req addr 4 w) s = .next ((u.accessError req addr 2 true).restartDue s.pwr.restart)) ∧
    (∀ addr : Nat, 0x40120000 ≤ addr → addr < 0x41000000 →
      exec (.registerWrite t req addr 4 w) s = .next ((u.accessError req addr 4 true).restartDue s.pwr.restart) ∧
      exec (.accessErrorRead t req addr 4) s = .next (r.accessError req addr 4 false)) ∧
    (∀ addr : Nat, 0x280000000 ≤ addr → addr < 0x800000000 →
      exec (.registerWrite t req addr 4 w) s = .next ((u.accessError req addr 0 true).restartDue s.pwr.restart) ∧
      exec (.accessErrorRead t req addr 4) s = .next (r.accessError req addr 0 false)) ∧
    (∀ (n : Fin 4) (k : Nat), k < 4096 → assigned req = true → u.remoteOk req = true → within 7 10 (role req) = false →
      (u.axis n).st.closed = false →
      exec (.engineMemoryWrite t req (0x20000000 + n.val * 0x100000 + 0x10000 + 4 * k) w) s =
        .next (u.setCoef n k w) ∧
      exec (.engineMemoryWrite t req (0x20000000 + n.val * 0x100000 + 0x20000 + 4 * k) w) s =
        .next (u.setState n k w)) ∧
    (∀ (n : Fin 4) (k : Nat), k < 16384 → assigned req = true → u.remoteOk req = true →
      within 7 10 (role req) = false → (u.axis n).st.closed = false →
      exec (.engineMemoryWrite t req (0x20000000 + n.val * 0x100000 + 4 * k) w) s = .next
        ((u.updEng n fun e =>
          { e with
            prog := stoPut e.prog (k / 2) (setHalf (stoGet e.prog (k / 2) 0) (k % 2 == 1) w) 0 }).unloadProgram n)) ∧
    (∀ (n : Fin 4) (k : Nat), k < 4096 → assigned req = true → u.remoteOk req = true →
      within 7 10 (role req) = false → (u.axis n).st.closed = true →
      exec (.engineMemoryWrite t req (0x20000000 + n.val * 0x100000 + 0x10000 + 4 * k) w) s =
        .next (u.accessError req (0x20000000 + n.val * 0x100000 + 0x10000 + 4 * k) 2 true)) ∧
    (∀ (addr a : Nat) (back : Fin 8) (x : State), x = s.upto t → a = x.ownWindow addr →
      back = Fin.ofNat 8 ((reqModule req).getD 0) → within 7 10 (role req) = false →
      exec (.remoteAccess t req addr true w) s = .next
        (((x.busWrite req a 4 w).1.remoteAnswer back req (x.busWrite req a 4 w).2.toAnswer).restartDue s.pwr.restart) ∧
      exec (.remoteAccess t req addr false w) s = .next
        (((x.busRead req a 4).1.remoteAnswer back req (x.busRead req a 4).2).restartDue s.pwr.restart))

/-- Sessions, bars, updates and setpoints run out. 60 s after its last command a session is closed; at its instant a
bar of a channel ends with its count; 60 s after its last phase an open firmware update is dropped; at its expiry a
setpoint of an axis in RUN takes it to HOLD with CMD_TIMEOUT, and of an axis that a thermal trip took out of RUN it
is noted. Where this rests on a reading or choice of the model, that is log entries 16 and 18. (R93, R95, R101,
R106, R109) -/
def Obligations.CommandTimeouts : Prop :=
  ∀ (t : Nat) (s u : State) (ch : Chan) (n : Fin 4), u = s.upto t →
    (∀ x : Session, s.session ch = some x → x.lastAt + 60 * Config.sec ≤ u.tide →
      exec (.sessionIdleTimeout t ch) s = .next (u.closeSession ch)) ∧
    (∀ b : Nat, (s.channel ch).barred = some b → b ≤ u.tide →
      exec (.channelBarExpiry t ch) s = .next (u.updChannel ch fun c => { c with barred := none, authErrs := 0 })) ∧
    (∀ x : Update, s.hm.upd = some x → x.lastAt + 60 * Config.sec ≤ u.tide →
      exec (.fwUpdateIdleTimeout t) s = .next u.dropUpdate) ∧
    (∀ e : Nat, (s.axis n).expiry = some e → e ≤ u.tide → (s.axis n).st = .run →
      exec (.setpointExpiry t n) s = .next
        (((u.expireToHold n).raise .cmdTimeout 1 n u.tide).settle u.tide)) ∧
    (∀ e : Nat, (s.axis n).expiry = some e → e ≤ u.tide → (s.axis n).st = .fault → (s.axis n).preTherm = some .run →
      exec (.setpointExpiry t n) s = .next (u.updAxis n fun a => { a with expired := true, expiry := none }))

/-- Carrier events complete. CARRIER_START of an enabled, stopped carrier of an axis with legs whose source runs
starts it at its scheduled instant and schedules the carriers that wait for it. At a zero point of a running carrier
the frame that ends is driven out, every leg forms its next frame, the axis enters PWM where it may, the interrupt,
the group pulse and the zero-point marker leave. Period points and compare events have their interrupts. A RELOAD
takes the set and the fields of the claim, with the miss rules, the fall update in double mode, and its Logbook
record. A bootstrap refresh turns the high side off, counted. Where this rests on a reading or choice of the model,
that is log entries 27 and 48. (R262, R264, R265, R266, R268, R270, R274, R275, R276, R277, R281, R282) -/
def Obligations.CarrierRows : Prop :=
  ∀ (t : Nat) (n : Fin 4) (s u : State), u = s.upto t →
    (∀ (z : Nat) (v : State), (s.carrier n).startAt = some z → z / 32 = t → s.bit (Reg.PWM_CTL_EN n) = true →
      s.running n = false → s.idle n = false → s.sourceRuns n = true →
      v = ((u.updCarrier n fun c => { c with startAt := none, zero := z, formed := false }).sets
        [(Reg.PWM_STATUS_RUNNING n, 1), (Reg.PWM_STATUS_WAIT n, 0),
          (Reg.PWM_STATUS_LOCKED n, if s.get (Reg.PWM_CTL_SRC n) ≠ 0 then 1 else 0), (Reg.PWM_STATUS_DOWN n, 0)]) →
      exec (.carrierStart t n) s = .next (v.eachAxis fun s m =>
        if s.srcAxis m = some n ∧ s.bit (Reg.PWM_STATUS_WAIT m) then s.schedCarrier t m else s)) ∧
    (∀ (z : Nat) (v x y : State), s.running n = true → s.atZero n t = true →
      z = (u.carrier n).zero + 32 * u.sinceZero n t →
      v = (u.drive z).updCarrier n (fun c => { c with eff := formEff c.eff }) →
      x = v.formAll n z (v.entersPwm n || v.outMode n == .pwm) (v.entersPwm n) (v.outMode n == .off) →
      y = (if v.entersPwm n = true then (x.set (Reg.PWM_STATUS_OUT n) OutMode.pwm.code).startSteps n else x) →
      exec (.zeroPoint t n) s = .next
        ((((y.set (Reg.PWM_STATUS_DOWN n) 0).carrierIrq n (Reg.PWM_PRES_ZERO n) (Reg.PWM_IRQ_ZERO n)).gsyncPulse t
          n).sendMarker n z)) ∧
    (s.running n = true → s.atPeriodPoint n t = true → s.atReload n t = false →
      exec (.periodPoint t n) s = .next (u.periodEvent n)) ∧
    (s.running n = true → s.bit ⟨Reg.PWM_ICMP 0 n, 31, 1⟩ = true →
      t = (s.carrier n).zero / 32 + s.get ⟨Reg.PWM_ICMP 0 n, 0, 24⟩ →
      exec (.carrierCompareEvent t n 0) s = .next (u.carrierIrq n (Reg.PWM_PRES_CMP0 n) (Reg.PWM_IRQ_CMP0 n))) ∧
    (s.running n = true → s.bit ⟨Reg.PWM_ICMP 1 n, 31, 1⟩ = true →
      t = (s.carrier n).zero / 32 + s.get ⟨Reg.PWM_ICMP 1 n, 0, 24⟩ →
      exec (.carrierCompareEvent t n 1) s = .next (u.carrierIrq n (Reg.PWM_PRES_CMP1 n) (Reg.PWM_IRQ_CMP1 n))) ∧
    (∀ (late point : Bool) (v x y z : State), s.running n = true → s.atReload n t = true →
      v = (u.drive (32 * t)).claim t n late →
      x = ((v.updCarrier n fun c => c.take (t - 4) late).updAxis n
        fun a => { a with reqTaken := a.reqTaken || a.st.closed }) →
      point = x.atPeriodPoint n t →
      y = (if point && x.centre n && x.get (Reg.PWM_CTL_RELOAD n) == 3 then
        (x.legsOf n).foldl (State.updateFall · n ·) x else x) →
      z = (if point then y.periodEvent n else y) →
      exec (.reload t n late) s = .next
        ((z.logEvent z.epoch (12 + n) t fun c =>
          if c.kind = 4 ∧ c.b1 = n.val then some (dutyItem t (z.slots n) (z.carrier n).inForce) else none).settleAxis
            t n)) ∧
    (∀ l : Fin 12, s.bit (Reg.GATE_CFG_BOOT (hiCh l)) = true → s.outMode (s.axisOfLeg l) = .pwm →
      u.legOn (t - 1) l true = true → 32 * Config.us * s.get (Reg.PWM_BOOT_MAXON l) ≤ u.hiCountAt l (32 * t) →
      exec (.bootstrapRefresh t l) s = .next
        (((u.drive (32 * t)).incHold (Reg.PWM_FAIL_BOOTREF l)).updLeg l fun g => { g with refreshAt := some (32 * t) }))

/-- Trip inputs, samples and conversions complete. A trip input accepted as active acts on the axes it is routed to,
one accepted as inactive ends its cause. At each instant of a sample event of a running carrier the feedback record
is latched, every cluster samples, the sample is noted for the loop where one converted, and the reactions are
settled. A completed conversion delivers its results in order, raises ADC_OVR where one was out of range, and with
the last one of its event gives the engine its results. A step of the fallow rotation, at a multiple of 1 ms, hands
the next input over; a finished measurement is judged. A housekeeping round shows BUSY, at a multiple of its period
alone; a missing DC-link result is VHV_FAIL. Where this rests on a reading or choice of the model, that is log
entries 10, 14, 29, 52 and 58. (R141, R144, R145, R147, R153, R154, R156, R161, R162, R173, R283, R323) -/
def Obligations.TripAndConversionRows : Prop :=
  ∀ (t : Nat) (s u : State), u = s.upto t →
    (∀ (k : Fin 8) (first : Nat) (v : State), v = u.drive (32 * t) → v.tripCounted t k first = true →
      (exec (.tripAccepted t k ⟨first, v.bit (Reg.PWM_TRIP_POL k)⟩) s = .next
        ((v.sets [(Reg.PWM_TRIP_LEVEL k, 1), (Reg.PWM_TRIP_SEEN k, 1)]).tripIn t first k)) ∧
      (exec (.tripInactive t ⟨k, first, !v.bit (Reg.PWM_TRIP_POL k)⟩) s = .next
        ((v.set (Reg.PWM_TRIP_LEVEL k) 0).tripOut k))) ∧
    (∀ (n : Fin 4) (r : ResIn), s.running n = true → s.idle n = false → s.backup = false → s.sampleInsts n t ≠ [] →
      exec (.sampleEvent t n r) s = .next ((s.sampleInsts n t).foldl (State.sampleAt n r) u)) ∧
    (∀ (n : Fin 4) (r : ResIn) (i : Nat) (v x y : State) (l : List Word) (was : List (Option Nat)),
      u.latchRecord (i / 32) n r = (v, l) → was = (v.clustersOf n).map (fun c => (v.cluster c).last) →
      x = (v.clustersOf n).foldl (State.sampleCluster i (l ++ [v.reg Reg.ADC_VHVVAL])) v →
      y = (if decide ((x.clustersOf n).map (fun c => (x.cluster c).last) ≠ was) && (x.axis n).st.closed then
        x.updEng n fun e => { e with samples := e.samples ++ [(i / 32, none)] } else x) →
      u.sampleAt n r i = (y.takeSpeed n (y.reg (Reg.FBK_SPEED n))).settle (i / 32)) ∧
    (∀ (c n : Fin 4) (codes : List Int) (ovr : Nat) (p : Sample) (rest : List Sample) (v x y : State),
      (s.cluster c).pend = p :: rest →
      v = (inputs.foldl (State.resultOf t c p codes ovr)
        (u.updCluster c fun x => { x with pend := rest })).set (Reg.ADC_STATUS_SEQ c) p.seq →
      x = (if ovr % 256 ≠ 0 then v.raiseOnce .adcOvr (adcSource c) 0 t else v) →
      y = x.logResults c p.stamp → n = y.axisOfCluster c →
      (((y.clustersOf n).any fun d => (y.cluster d).pend.any fun q => q.stamp == p.stamp) = true →
        exec (.conversionComplete t c codes ovr) s = .next y) ∧
      (((y.clustersOf n).any fun d => (y.cluster d).pend.any fun q => q.stamp == p.stamp) = false →
        exec (.conversionComplete t c codes ovr) s = .next
          ((y.updEng n fun e => { e with newest := putAll e.newest (y.eventEntries n p) }).resultsArrive t n
            p.stamp))) ∧
    (∀ (c : Fin 4) (x v y : State) (k inc : Nat), x = u.advanceCluster t c →
      ((x.cluster c).meas = none ∧ v = x ∨ ∃ sl, (x.cluster c).meas = some sl ∧
        v = (x.updCluster c fun y => { y with meas := none }).rejectMeasure t c (Fin.ofNat 9 sl)) →
      t % Config.ms = 0 → v.rotStopped c = false → y = v.oweHand c → y.rotStopped c = false → 2 ≤ y.modState →
      (y.cluster c).hand = none → inc = y.get (Reg.ADC_STATUS_FALLOW c) → y.inputOf c ((inc + 1) % 9) = some k →
      exec (.fallowRotationStep t c) s = .next
        (y.updCluster c fun x =>
          { x with
            hand := some { input := k, out := (inc + 1) % 9, inc := inc
                           c := ((y.cluster c).last.map fun l => max (32 * t) (l + 2304)).getD (32 * t) } })) ∧
    (∀ (c : Fin 4) (a b d : Int) (v : State) (sl : Nat), v = u.advanceCluster t c → (v.cluster c).meas = some sl →
      exec (.fallowMeasurementEnd t c a b d) s = .next
        ((v.updCluster c fun x => { x with meas := none }).judgeMeasure t c (Fin.ofNat 9 sl) a b d)) ∧
    (t % (s.get Reg.HK_CTL_PERIOD * Config.ms) = 0 →
      exec (.hkRoundStart t) s = .next (u.set Reg.HK_STATUS_BUSY 1)) ∧
    (t % (s.get Reg.HK_CTL_PERIOD * Config.ms) ≠ 0 → exec (.hkRoundStart t) s = .next u) ∧
    (exec (.vhvFailTimeout t) s = .next
      (((u.updBw fun b => { b with vhvRun := none, vhvLast := none }).set Reg.ADC_VHVSTAT_VALID 0).raise .vhvFail
        3 0 t))

/-- DC-link results, housekeeping rounds and speed updates complete. A DC-link result is held to its code range,
shown with its sequence number and valid, converted and given to Breakwater with its stamp; results of a bitstream
that changes level, without a gap for 8000 ticks, end the cause of VHV_FAIL; in a module that is up the gate rails
of the X domain may then come on. A housekeeping round gives every channel, NTC and probe its value, counts, checks
the references, and runs the thermal rules. While a carrier is stopped the speed is formed afresh, in resolver mode
from what the resolver delivers. Where this rests on a reading or choice of the model, that is log entries 8, 9, 29,
49 and 58. (R159, R160, R161, R162, R163, R164, R165, R314, R316) -/
def Obligations.SlowConversionRows : Prop :=
  ∀ (t : Nat) (s u : State), u = s.upto t →
    (∀ (k code : Int) (change : Bool) (v x y z : State) (run : Nat), code = holdCode k →
      v = u.sets [(Reg.ADC_VHVRES_CODE, ofSigned 16 code),
        (Reg.ADC_VHVRES_SAT, if code = 32767 ∨ code = -32768 then 1 else 0),
        (Reg.ADC_VHVRES_SEQ, u.get Reg.ADC_VHVRES_SEQ + 1), (Reg.ADC_VHVSTAT_VALID, 1)] →
      x = v.setReg Reg.ADC_VHVVAL (bfRound (v.vhvVolts code)) →
      run = (if x.bw.vhvLast.any fun l => decide (t < l + 8000) then x.bw.vhvRun.getD t else t) →
      y = x.updBw (fun b => { b with vhvLast := some t, vhvRun := if change then some run else none }) →
      z = (if change = true ∧ run + 8000 ≤ t then y.causeGone .vhvFail 3 0 else y).bwResult t (t - 3000)
        (v.vhvVolts code) →
      exec (.vhvResult t ⟨k, change⟩) s = .next (if z.pwr.up then z.enableX t else z)) ∧
    (∀ (r : HkReadings) (round : Nat) (sums : List Int) (v x y : State), sums = r.sums.map hkSum → round = s.get Reg.HK_STATUS_ROUNDS →
      v = (List.finRange 64).foldl (State.hkChannel sums round) u →
      x = (List.finRange 8).foldl (State.tpRound t sums) ((List.finRange 24).foldl (State.ntcRound t r.ohms) v) →
      y = x.sets [(Reg.HK_STATUS_BUSY, 0), (Reg.HK_STATUS_ROUNDS, round + 1)] →
      exec (.hkRoundEnd t r) s = .next
        (((y.hkReference t ((sums[62]?).getD 0) ((sums[63]?).getD 0)).eachAxis
          (State.clusterReference t)).thermalRound t)) ∧
    (∀ (n : Fin 4) (r : ResIn) (w : Word) (ok : Bool) (v x : State), s.running n = false → s.backup = false →
      v = u.resolverSample n r →
      ({ v with free := v.free + 1 } : State).speedAt t n (Config.freeWord v.free) = (w, ok) →
      x = (({ v with free := v.free + 1 } : State).setB (Reg.FBK_STATUS_SPD_VALID n) ok).portBits n →
      exec (.breakwaterSpeedUpdate t ⟨n, r⟩) s = .next ((x.takeSpeed n w).settle t))

/-- Encoder and Hall events complete. An encoder edge in encoder mode counts up or down by its direction and the
inversion, with its filtered instant; a double change is illegal, no change counts nothing. A gated index latches
the count, shows IDXSEEN and checks the drift against the latch before it. Standstill is shown in encoder and Hall
mode when no edge is recent enough; in SSI mode the speed is no longer valid with fewer than two recent frames; in
any other mode nothing changes. A Hall state that cannot be is bad; the first good one gives the sector with a free
angle; a neighbouring one moves the sector and gives the angle of the edge; any other is bad. Where this rests on a
reading or choice of the model, that is log entries 30 and 52. (R177, R178, R179, R180, R181, R182, R184, R186,
R187, R188) -/
def Obligations.EncoderAndHallRows : Prop :=
  ∀ (t : Nat) (n : Fin 4) (s u : State), u = s.upto t → s.backup = false →
    (∀ (a b : Bool) (v : State) (st d : Nat) (rev : Bool), s.fbMode n = 1 →
      v = u.updPort n (fun p => { p with a := a, b := b }) → st = t - v.get (Reg.FBK_FILT_FILT n) →
      d = (quadCode a b + 4 - quadCode (s.port n).a (s.port n).b) % 4 →
      rev = ((d == 3) != v.bit (Reg.FBK_MODE_INV n)) →
      (d = 0 → exec (.encoderEdge t n a b) s = .next v) ∧
      (d = 2 → exec (.encoderEdge t n a b) s = .next (v.illegalEdge st n)) ∧
      (d = 1 ∨ d = 3 → rev = false → exec (.encoderEdge t n a b) s = .next
        ((v.setReg (Reg.FBK_COUNT n) (v.reg (Reg.FBK_COUNT n) + 1)).countEdge st n false)) ∧
      (d = 1 ∨ d = 3 → rev = true → exec (.encoderEdge t n a b) s = .next
        ((v.setReg (Reg.FBK_COUNT n) (v.reg (Reg.FBK_COUNT n) - 1)).countEdge st n true))) ∧
    (∀ (c : Word) (p : Port) (v : State), p = s.port n → c = s.reg (Reg.FBK_COUNT n) → s.fbMode n = 1 →
      zgate (s.get (Reg.FBK_IDXCFG_ZGATE n)) p.a p.b = true →
      v = ((u.setReg (Reg.FBK_IDXLAT n) c).sets [(Reg.FBK_IRQ_IDX n, 1), (Reg.FBK_STATUS_IDXSEEN n, 1)]).updPort n
        (fun p => { p with latch1 := some (p.latch1.getD c), latch := some c, tainted := false }) →
      (p.latch = none → exec (.encoderIndex t n) s = .next (v.portBits n)) ∧
      (∀ l, p.latch = some l →
        exec (.encoderIndex t n) s = .next ((v.driftCheck (t - v.get (Reg.FBK_FILT_FILT n)) n c l p.tainted).portBits n))) ∧
    (s.fbMode n = 1 ∨ s.fbMode n = 2 → (∀ e ∈ (s.port n).edges, e + s.spdTimeout n ≤ t) →
      exec (.speedStandstill t n) s = .next (u.standstill n)) ∧
    (s.fbMode n = 4 → ((s.port n).frames.filter fun f => decide (t < f.1 + s.spdTimeout n)).length < 2 →
      exec (.speedStandstill t n) s = .next (u.set (Reg.FBK_STATUS_SPD_VALID n) 0)) ∧
    (s.fbMode n ≠ 1 → s.fbMode n ≠ 2 → s.fbMode n ≠ 4 → exec (.speedStandstill t n) s = .next u) ∧
    (∀ (h : Fin 8) (v : State), s.fbMode n = 2 → hallPlace h = none → v = u.set (Reg.FBK_HALL_STATE n) h →
      exec (.hallStateChange t n h) s = .next (v.hallBad (t - v.get (Reg.FBK_FILT_FILT n)) n)) ∧
    (∀ (h : Fin 8) (j : Nat) (v : State), s.fbMode n = 2 → hallPlace h = some j →
      hallPlace (s.get (Reg.FBK_HALL_STATE n)) = none → v = u.set (Reg.FBK_HALL_STATE n) h →
      exec (.hallStateChange t n h) s = .next
        ((({ v with free := v.free + 1 } : State).updPort n fun p =>
          { p with hallAt := some (t - v.get (Reg.FBK_FILT_FILT n)), hallAng := Config.freeNat v.free % 65536 }).hallGood n)) ∧
    (∀ (h : Fin 8) (j k i d : Nat) (v : State), s.fbMode n = 2 → hallPlace h = some j →
      hallPlace (s.get (Reg.FBK_HALL_STATE n)) = some k → v = u.set (Reg.FBK_HALL_STATE n) h →
      i = hallIndex (v.bit (Reg.FBK_MODE_INV n)) j →
      d = (i + 6 - hallIndex (v.bit (Reg.FBK_MODE_INV n)) k) % 6 →
      (d = 0 → exec (.hallStateChange t n h) s = .next v) ∧
      (2 ≤ d → d ≤ 4 → exec (.hallStateChange t n h) s = .next (v.hallBad (t - v.get (Reg.FBK_FILT_FILT n)) n)) ∧
      (d = 1 → exec (.hallStateChange t n h) s = .next
        (((v.updPort n fun p =>
          { p with
            sector := p.sector + 1, hallAt := some (t - v.get (Reg.FBK_FILT_FILT n))
            hallAng := (v.get (Reg.FBK_HALL_OFS n) + 65536 * i / 6) % 65536 }).countEdge
              (t - v.get (Reg.FBK_FILT_FILT n)) n false).hallGood n)) ∧
      (d = 5 → exec (.hallStateChange t n h) s = .next
        (((v.updPort n fun p =>
          { p with
            sector := p.sector - 1, hallAt := some (t - v.get (Reg.FBK_FILT_FILT n))
            hallAng := (v.get (Reg.FBK_HALL_OFS n) + 65536 * ((i + 1) % 6) / 6) % 65536 }).countEdge
              (t - v.get (Reg.FBK_FILT_FILT n)) n true).hallGood n)))

/-- Resolver, SSI, supply, wiring and observer events complete. In resolver mode a lock is shown and ends its fault,
a loss of lock and an amplitude outside its limits raise theirs. An SSI frame shows its raw bits; one with a bad
tail or its error bit is discarded, one that jumps too far raises FB_SSI_JUMP and is discarded, any other is the
newest frame with its direction. A supply or wire timeout raises its fault. The settling delay ends. An active
observer above its threshold for its time in RUN is OBS_LOST, with the notice in entry 206; the held reaction is
carried out when its time ends. Where this rests on a reading or choice of the model, that is log entry 30. (R172,
R191, R192, R194, R195, R196, R198, R199, R254) -/
def Obligations.SensorRows : Prop :=
  ∀ (t : Nat) (n : Fin 4) (s u : State), u = s.upto t → s.backup = false →
    (s.fbMode n = 3 → exec (.resolverLock t n) s = .next
      (((u.sets [(Reg.FBK_STATUS_LOCK n, 1), (Reg.FBK_STATUS_SPD_VALID n, 1)]).causeGone .fbResLock
        (fbSource n) 0).portBits n)) ∧
    (s.fbMode n = 3 → s.bit (Reg.FBK_STATUS_LOCK n) = true → exec (.resolverLockLoss t n) s = .next
      (((u.sets [(Reg.FBK_STATUS_LOCK n, 0), (Reg.FBK_STATUS_SPD_VALID n, 0),
        (Reg.FBK_IRQ_SENSOR n, 1)]).portBits n).raise .fbResLock (fbSource n) 0 t)) ∧
    (∀ amp : Nat, s.fbMode n = 3 → s.ampBad n amp = true → exec (.resolverAmpFault t n amp) s = .next
      (((((u.set (Reg.FBK_RESAMP_AMP n) amp).updPort n fun p => { p with resBad := true }).set
        (Reg.FBK_IRQ_SENSOR n) 1).portBits n).raise .fbResAmp (fbSource n) 0 t)) ∧
    (∀ (raw : Word) (ok : Bool) (start r : Nat) (v : State), s.fbMode n = 4 → (s.port n).ssiStart = some start →
      r = raw.toNat % 2 ^ s.get (Reg.FBK_SSICFG_BITS n) →
      v = (u.setReg (Reg.FBK_SSIRAW n) (BitVec.ofNat 32 r)).updPort n (fun p => { p with ssiStart := none }) →
      (ok = false ∨ v.bit (Reg.FBK_SSICFG_ERREN n) = true ∧ r % 2 = 1 →
        exec (.ssiFrameEnd t n raw ok) s = .next (v.ssiDiscard t n)) ∧
      (∀ f : Nat × Word, ok = true → v.bit (Reg.FBK_SSICFG_ERREN n) = false ∨ r % 2 = 0 →
        (v.port n).frames.head? = some f → (v.reg (Reg.FBK_SSISTEP n)).toNat ≠ 0 →
        (v.reg (Reg.FBK_SSISTEP n)).toNat < (ssiDelta (v.ssiWidth n) (v.ssiValue n r) f.2.toNat).natAbs →
        exec (.ssiFrameEnd t n raw ok) s = .next ((v.raise .fbSsiJump (fbSource n) 0 t).ssiDiscard t n)) ∧
      (∀ x : State, ok = true → v.bit (Reg.FBK_SSICFG_ERREN n) = false ∨ r % 2 = 0 →
        ((v.reg (Reg.FBK_SSISTEP n)).toNat = 0 ∨ ∀ f, (v.port n).frames.head? = some f →
          (ssiDelta (v.ssiWidth n) (v.ssiValue n r) f.2.toNat).natAbs ≤ (v.reg (Reg.FBK_SSISTEP n)).toNat) →
        x = (match (v.port n).frames.head? with
          | some f =>
            if ssiDelta (v.ssiWidth n) (v.ssiValue n r) f.2.toNat = 0 then v
            else v.setB (Reg.FBK_STATUS_DIR n) (decide (ssiDelta (v.ssiWidth n) (v.ssiValue n r) f.2.toNat < 0))
          | none => v) →
        exec (.ssiFrameEnd t n raw ok) s = .next
          (((x.updPort n fun p =>
            { p with
              frames := (start, BitVec.ofNat 32 (v.ssiValue n r)) ::
                p.frames.filter fun f => decide (start < f.1 + Config.sec)
              ssiBad := 0, ssiOk := true }).causeGone .fbSsiFrame (fbSource n) 0).portBits n))) ∧
    (s.supOn n = true → exec (.fbSupplyTimeout t n) s = .next
      ((u.sets [(Reg.FBK_STATUS_SUPFAIL n, 1), (Reg.FBK_IRQ_WIRE n, 1)]).raise .fbSupply (fbSource n) 0 t)) ∧
    (s.fbMode n = 1 ∨ s.fbMode n = 2 ∨ s.fbMode n = 4 → exec (.fbWireTimeout t n) s = .next
      ((u.sets [(Reg.FBK_STATUS_WIRE n, 1), (Reg.FBK_IRQ_WIRE n, 1)]).raise .fbWire (fbSource n) 0 t)) ∧
    (exec (.feedbackValidDelayEnd t n) s = .next ((u.updPort n fun p => { p with settled := true }).portBits n)) ∧
    (∀ a : Nat, (s.axis n).st = .run → s.bit (Reg.FBK_OBSCFG_ACTIVE n) = true →
      s.bit (Reg.FBK_OBSCFG_LOST n) = false → (s.port n).obsAbove = some a →
      a + 40000 * s.get (Reg.FBK_OBSCFG_TIME n) ≤ t →
      exec (.observerLossTimeout t n) s = .next
        (((u.sets [(Reg.FBK_OBSCFG_LOST n, 1), (Reg.FBK_IRQ_OBS n, 1)]).updEng n fun e =>
          { e with port := stoPut e.port 206 0x01400000 0 }).raise .obsLost (fbSource n) (s.port n).obsSpd.toNat t)) ∧
    (∀ r : Nat, (s.port n).obsHold = some r → r + 200 * Config.ms ≤ t →
      exec (.obsLostHoldExpiry t n) s = .next (u.obsReact n))

/-- Gate channel events complete. A desaturation outside blanking with the channel on starts the two-level turn-off,
counted with its instant; its report holds the channel and its partner, raises GATE_DESAT with that instant, and
fails the brake where it is the brake's channel. The end of the turn-off ends its causes. An undervoltage of a
channel with its own rails or of a bootstrap one turns it off, holds it and raises its fault; rails that do not rise
within 5 ms raise GATE_SUPPLY; rails step to their settings. Lost command frames hold the channel until they resume,
lost status frames raise GATE_LINK. The channel logic's refusal of both channels keeps the state each held and
raises XCMD, and frees them when it ends. Where this rests on a reading or choice of the model, that is log entries
28 and 51. (R287, R289, R290, R294, R295, R296, R297, R298, R299, R300) -/
def Obligations.GateRows : Prop :=
  ∀ (t : Nat) (g : Fin 26) (s u : State), u = s.upto t →
    (∀ v : State, v = u.drive (32 * t) →
      (v.desatArmed t g = true → exec (.desatDetected t g) s = .next
        (((v.softOff t g).incHold (Reg.GATE_CNT_DESAT g)).updGate g fun x =>
          { x with desatAt := t, desatEp := v.epoch })) ∧
      (v.desatArmed t g = false → exec (.desatDetected t g) s = .next v)) ∧
    (∀ v x y z : State, v = (u.updHolds g fun h => { h with desat := true }).set (Reg.GATE_STAT_DESAT g) 1 →
      (partner g = none ∧ x = v ∨ ∃ p, partner g = some p ∧
        x = ((v.updHolds p fun h => { h with partner := true }).set (Reg.GATE_STAT_PFORCE p) 1).gateBits p) →
      y = x.raiseGate t .gateDesat g 0 (x.gate g).desatAt (epoch := some (x.gate g).desatEp) →
      z = (if y.bit (Reg.GATE_STAT_SOFT g) = true then y else y.causeGone .gateDesat (16 + g) 0) →
      (g ≠ gBrk → exec (.desatReport t g) s = .next z) ∧
      (g = gBrk → exec (.desatReport t g) s = .next (z.failBrk t 2))) ∧
    (s.bit (Reg.GATE_STAT_SOFT g) = true → exec (.twoLevelTurnOffEnd t g) s = .next
      (((((u.set (Reg.GATE_STAT_SOFT g) 0).restartSteps g).causeGone
        .gateDesat (16 + g) 0).causeGone .bootUv (16 + g) 0))) ∧
    (∀ (vp : Bool) (r : RailIn) (v x : State), v = u.takeRails g r → (s.gate g).seenOk = true →
      (if vp then vpLow (s.uvCodes g).1 r.vp else vnLow (s.uvCodes g).2 r.vn) = true → v.bootFed g = false →
      v.bit (if vp then Reg.GATE_STAT_VPUV g else Reg.GATE_STAT_VNUV g) = false →
      x = (if u.chOn t g then v.softOff t g else v) →
      exec (.railUndervoltage t ⟨g, r⟩ vp) s = .next
        ((((x.set (if vp then Reg.GATE_STAT_VPUV g else Reg.GATE_STAT_VNUV g) 1).incHold
          (Reg.GATE_CNT_UV g)).updHolds g fun h => { h with uv := true }).raiseGate t .gateUv g 1 t)) ∧
    (∀ v : State, s.bootFed g = true → u.chOn t g = true →
      v = (((u.softOff t g).set (Reg.GATE_STAT_BOOTUV g) 1).incHold (Reg.GATE_CNT_UV g)).updHolds g (fun h =>
        { h with boot := true }) →
      exec (.bootUndervoltage t g) s = .next
        (v.raiseGate t .bootUv g 2 t (sev := if v.bit (Reg.GATE_CFG_BOOTREACT g) then 2 else 3))) ∧
    (∀ (r : RailIn) (v : State), v = u.takeRails g r → (v.gate g).en = true → (v.gate g).seenOk = false →
      (v.gate g).enAt + 5 * Config.ms ≤ t → exec (.gateSupplyTimeout t ⟨g, r⟩) s = .next
        ((v.updHolds g fun h => { h with supply := true }).raiseGate t .gateSupply g 3 t)) ∧
    (∀ r : RailIn, (s.gate g).en = true →
      exec (.railSettingStep t ⟨g, r⟩) s = .next ((u.updGate g fun x =>
        x.stepRails (s.get (Reg.GATE_CFG_VP (railCfg g))) (s.get (Reg.GATE_CFG_VN (railCfg g)))).takeRails g r)) ∧
    (exec (.commandFrameLoss t ⟨g, false⟩) s = .next
      ((((if u.chOn t g then u.softOff t g else u).updHolds g fun h => { h with die := true }).updGate g fun x =>
        { x with mute := true }).heldChanged t g)) ∧
    (exec (.commandFrameLoss t ⟨g, true⟩) s = .next
      (((u.updHolds g fun h => { h with die := h.die && h.link }).updGate g fun x =>
        { x with mute := false }).heldChanged t g)) ∧
    (exec (.statusFrameLoss t g) s = .next
      ((((if u.chOn t g then u.softOff t g else u).updHolds g fun h => { h with link := true }).set
        (Reg.GATE_STAT_LINKFAIL g) 1).raiseGate t .gateLink g 3 t)) ∧
    (∀ l : Fin 12,
      (exec (.channelLogicShootThrough t ⟨l, true⟩) s = .next
        (((((u.drive (32 * t)).blockLeg t l).set (Reg.GATE_XCMD_BIT l) 1).raise .xcmd (16 + 2 * l) 0 t (latched := true)).gateBits (hiCh l))) ∧
      (exec (.channelLogicShootThrough t ⟨l, false⟩) s = .next
        (((u.drive (32 * t)).freeLeg t l).causeGone .xcmd (16 + 2 * l) 0)))

/-- Retry waits and measured plateaus complete. When the retry wait of a class is over, each of its retry-pending
faults of the channel that is due ends where its cause has ended, and otherwise waits again; then the reactions are
settled. A plateau measured on a channel of a leg in PWM mode with adaptation is kept, held to 1023, and moves the
drive step; a switching without one is counted; 1024 events in a row beyond the band at one limit raise
GATE_ADAPT_LIMIT. Where this rests on a reading or choice of the model, that is log entries 28, 35 and 51. (R292,
R300, R301) -/
def Obligations.RetryAndPlateauRows : Prop :=
  ∀ (t : Nat) (k : Fin 24) (g : Fin 26) (s u : State), u = s.upto t → g.val = k.val →
    (∀ (c : Fin 4) (r : RailIn) (frames : Bool) (v : State), v = u.takeRails g r →
      exec (.retryWaitExpiry t k c ⟨r, frames⟩) s = .next
        ((((retryFaults c).foldl (fun s n => s.retryOne t g c frames n) v).gateBits g).settle t)) ∧
    (∀ (c : Fin 4) (frames : Bool) (f : FName) (d : Nat), (s.gate g).due[retrySlot f] = some d → d ≤ t →
      (s.gateGone g frames f = true → s.retryOne t g c frames f =
        (s.updGate g fun x => { x with due := x.due.set (retrySlot f) none }).autoClear f (16 + g.val) 0) ∧
      (s.gateGone g frames f = false → s.retryOne t g c frames f =
        s.updGate g fun x =>
          { x with due := x.due.set (retrySlot f) (some (t + Config.ms * s.get (Reg.GATE_RETRY_WAIT c))) })) ∧
    (∀ (l : Fin 12) (on : Bool) (tp : Option Nat) (v : State), legOfGate g = some l →
      s.bit (Reg.GATE_CFG_MODE g) = true → s.outMode (s.axisOfLeg l) = .pwm → s.bit (Reg.GATE_STAT_SOFT g) = false →
      v = u.gateReport t g (if on then 0 else 1) (tp.map (Nat.min 1023))
        (some (s.get (if on then Reg.GATE_STEP_SRC g else Reg.GATE_STEP_SNK g))) →
      (tp = none → exec (.plateauMeasured t k on tp) s = .next (v.incHold (Reg.GATE_CNT_NOPL g))) ∧
      (∀ (p step lo hi tgt m : Nat) (lim : Option Bool) (x : State), tp = some p →
        lo = v.get (if on then Reg.GATE_ADAPT_SRCMIN g else Reg.GATE_ADAPT_SNKMIN g) →
        hi = v.get (if on then Reg.GATE_ADAPT_SRCMAX g else Reg.GATE_ADAPT_SNKMAX g) →
        tgt = v.get (if on then Reg.GATE_TGT_TON g else Reg.GATE_TGT_TOFF g) →
        step = v.get (if on then Reg.GATE_STEP_SRC g else Reg.GATE_STEP_SNK g) →
        lim = atLimit (min 1023 p) tgt step lo hi →
        m = (if on then limitCount (v.gate g).limOn (v.gate g).upOn lim
          else limitCount (v.gate g).limOff (v.gate g).upOff lim) →
        x = v.sets [(if on then Reg.GATE_TP_TPON g else Reg.GATE_TP_TPOFF g, min 1023 p),
          (if on then Reg.GATE_STEP_SRC g else Reg.GATE_STEP_SNK g, adaptStep (min 1023 p) tgt step lo hi)] →
        (m ≠ 1024 → exec (.plateauMeasured t k on tp) s = .next
          (x.updGate g fun y =>
            if on then { y with limOn := m, upOn := lim.getD false }
            else { y with limOff := m, upOff := lim.getD false })) ∧
        (m = 1024 → exec (.plateauMeasured t k on tp) s = .next
          (((x.updGate g fun y =>
            if on then { y with limOn := 0, upOn := lim.getD false }
            else { y with limOff := 0, upOff := lim.getD false }).incHold
              (Reg.GATE_CNT_LIMIT g)).raise .gateAdaptLimit (16 + g) 0 t))))

/-- Brake, discharge, STO and GTRIP events complete. A brake whose voltage did not fall by its step when the confirm
time ends fails; a channel of the X domain that is off with rails up shows OFFLOW, which on an enabled brake raises
BRK_LOAD and ends its cause. A triggered discharge that nothing holds starts, and one that could not start in its
time is DSC_BLOCKED. An STO input acts at once when low and releases the function only when both are high; the pair
is watched. The GTRIP line low is seen and, enabled and not driven here, is a fault of all axes with its severity;
high it ends. The drive of the line ends when nothing asks for it and its time is over. Where this rests on a
reading or choice of the model, that is log entries 14 and 34. (R313, R317, R319, R321, R322, R324, R325, R347) -/
def Obligations.BrakeDischargeAndInputRows : Prop :=
  ∀ (t : Nat) (s u : State), u = s.upto t →
    (∀ c : Nat, s.brkOn = true → s.bw.brkConf = some c → c ≤ t →
      (s.bw.brkV < s.volts + s.get Reg.BW_BRKCFG_DV →
        exec (.brkConfirmExpiry t) s = .next ((u.updBw fun b => { b with brkConf := none }).failBrk t 1)) ∧
      (s.volts + s.get Reg.BW_BRKCFG_DV ≤ s.bw.brkV →
        exec (.brkConfirmExpiry t) s = .next (u.updBw fun b => { b with brkConf := none }))) ∧
    (∀ low : Bool, s.offUp gDsc = true →
      exec (.brkLoadDetected ⟨t, true, low⟩) s = .next (u.setB (Reg.GATE_STAT_OFFLOW gDsc) low)) ∧
    (∀ v : State, s.offUp gBrk = true → v = u.setB (Reg.GATE_STAT_OFFLOW gBrk) true →
      (v.bit Reg.BW_BRKCFG_EN = true →
        exec (.brkLoadDetected ⟨t, false, true⟩) s = .next (v.raise .brkLoad 40 0 t (latched := true))) ∧
      (v.bit Reg.BW_BRKCFG_EN = false → exec (.brkLoadDetected ⟨t, false, true⟩) s = .next v)) ∧
    (s.offUp gBrk = true → exec (.brkLoadDetected ⟨t, false, false⟩) s = .next
      ((u.setB (Reg.GATE_STAT_OFFLOW gBrk) false).causeGone .brkLoad 40 0)) ∧
    (s.triggered = true → s.bw.dscDone = false → s.dscOn = false → s.bw.dscInh = false →
      (s.gate gDsc).held = false →
      exec (.dscStart t) s = .next (u.updBw fun b => { b with so0rb := false }).dscStartOn) ∧
    (∀ a : Nat, s.triggered = true → s.bw.dscDone = false → s.dscOn = false → s.bw.dscInh = false →
      s.bw.trgAt = some a → a + Config.ms * s.get Reg.BW_DSCCFG_WAIT ≤ t →
      exec (.dscWaitExpiry t) s = .next
        ((u.updBw fun b => { b with dscDone := true, trgCmd := false }).raise .dscBlocked 41 0 t)) ∧
    (exec (.stoInputLow t false) s = .next
      ((((u.set Reg.BW_STATUS_STOA 0).updBw fun w => { w with sto := true }).watchSto t false
        false).settle t)) ∧
    (exec (.stoInputLow t true) s = .next
      ((((u.set Reg.BW_STATUS_STOB 0).updBw fun w => { w with sto := true }).watchSto t true
        false).settle t)) ∧
    (∀ (v : State) (both : Bool), v = u.set Reg.BW_STATUS_STOA 1 →
      both = (v.bit Reg.BW_STATUS_STOA && v.bit Reg.BW_STATUS_STOB) →
      exec (.stoInputHigh t false) s = .next
        (((v.updBw fun w => { w with sto := w.sto && !both }).watchSto t false true).settle t)) ∧
    (∀ (v : State) (both : Bool), v = u.set Reg.BW_STATUS_STOB 1 →
      both = (v.bit Reg.BW_STATUS_STOA && v.bit Reg.BW_STATUS_STOB) →
      exec (.stoInputHigh t true) s = .next
        (((v.updBw fun w => { w with sto := w.sto && !both }).watchSto t true true).settle t)) ∧
    (∀ v : State, v = u.sets [(Reg.BW_GTRIP_LEVEL, 0), (Reg.BW_GTRIP_SEEN, 1)] →
      (v.bit Reg.BW_GTRIP_EN = true → v.bit Reg.BW_GTRIP_DRIVE = false →
        exec (.gtripLineLow t) s = .next
          (v.raise .gtrip 54 0 t (axes := 15) (sev := v.get Reg.BW_GTRIP_INSEV))) ∧
      (v.bit Reg.BW_GTRIP_EN = false ∨ v.bit Reg.BW_GTRIP_DRIVE = true →
        exec (.gtripLineLow t) s = .next v)) ∧
    (exec (.gtripLineHigh t) s = .next ((u.set Reg.BW_GTRIP_LEVEL 1).causeGone .gtrip 54 0)) ∧
    (s.bw.gt5 = false → s.bw.gtOv3 = false → s.bw.gtTrip = 0 → s.bw.gtAt + 4000 ≤ t →
      exec (.gtripDriveRelease t) s = .next (u.set Reg.BW_GTRIP_DRIVE 0))

/-- Thermal events, fault arrivals and view releases complete. At each dwell the throttle of an axis falls by one,
to 4 at least, while a governing sensor is above its warning threshold, and rises by one, to 16 at most, after four
dwells without one near it. A comparator trip shows its sensor, raises TH_SHUTDOWN, or TH_LATCHED where it would
need a fourth restart within 60 minutes, on all axes; a second trip raises the fault that stands. Cooldown ends the
cause and, with AUTORST, restarts. A fault that arrives enters the fault manager with the retry class, latch and
severity of its name. A view release gives the Logbook what is released. Where this rests on a reading or choice of
the model, that is log entries 34, 35 and 49. (R65, R327, R328, R329, R330, R331, R332, R335, R336, R337) -/
def Obligations.ThermalAndFaultRows : Prop :=
  ∀ (t : Nat) (s u : State), u = s.upto t →
    (exec (.thermalDwell t) s = .next (u.eachAxis fun (s : State) (n : Fin 4) =>
      if (thermalChannels.filter fun c => (s.governs c).getLsbD n.val).any fun c => s.above c (s.thWarn c) then
        s.setThrottle t n (max 4 (s.get (Reg.BW_AXSTAT_THRLVL n) - 1))
      else if s.bw.thrCool[n].any (fun c =>
          decide (max s.bw.thrAt[n] c + 4 * Config.ms * s.get Reg.BW_THCFG_DWELL ≤ t)) &&
          !((thermalChannels.filter fun c => (s.governs c).getLsbD n.val).any fun c =>
            s.above c ((s.thWarn c : Int) - s.thHyst c)) then
        s.setThrottle t n (min 16 (s.get (Reg.BW_AXSTAT_THRLVL n) + 1))
      else s)) ∧
    (∀ (die : Bool) (v w : State) (name : FName),
      v = u.sets [(if die then Reg.BW_THSTAT_DIE else Reg.BW_THSTAT_MOD, 1), (Reg.BW_THSTAT_COOL, 0)] →
      name = v.tripName t → v.isActive name 4 = false → w = (v.eachAxis State.noteTherm).raise name 4 0 t →
      exec (.thermalComparatorTrip t die) s = .next (w.eachAxis fun (s : State) (n : Fin 4) =>
        s.updAxis n fun a =>
          if a.preTherm = some .run then { a with expiry := ((v.axes.toList.map (·.expiry))[n.val]?).getD none }
          else a)) ∧
    (∀ (die : Bool) (v : State) (name : FName),
      v = u.sets [(if die then Reg.BW_THSTAT_DIE else Reg.BW_THSTAT_MOD, 1), (Reg.BW_THSTAT_COOL, 0)] →
      name = v.tripName t → v.isActive name 4 = true →
      exec (.thermalComparatorTrip t die) s = .next (v.raise name 4 0 t)) ∧
    (∀ v : State, v.tripName t =
      if v.isActive .thShutdown 4 then .thShutdown
      else if v.isActive .thLatched 4 then .thLatched
      else if v.bit Reg.BW_THCFG_AUTORST ∧ 3 ≤ (v.recentRestarts t).length then .thLatched
      else .thShutdown) ∧
    (∀ v : State,
      v = ((u.sets [(Reg.BW_THSTAT_COOL, 1), (Reg.BW_THSTAT_DIE, 0), (Reg.BW_THSTAT_MOD, 0)]).causeGone
        .thShutdown 4 0).causeGone .thLatched 4 0 →
      (v.isActive .thShutdown 4 = true → v.bit Reg.BW_THCFG_AUTORST = true →
        exec (.thermalCooldown t) s = .next (v.thermalRestart t)) ∧
      (v.isActive .thShutdown 4 = false ∨ v.bit Reg.BW_THCFG_AUTORST = false →
        exec (.thermalCooldown t) s = .next v)) ∧
    (∀ (f : FaultIn) (c : Fin 4), retryClass f.name = some c → 16 ≤ f.src → f.src ≤ 41 →
      exec (.faultArrival t f) s = .next
        (u.raiseGate t f.name (Fin.ofNat 26 (f.src - 16)) c f.stamp (sev := f.sev) (epoch := some f.epoch))) ∧
    (∀ (f : FaultIn) (c : Fin 4), retryClass f.name = some c → f.src < 16 ∨ 41 < f.src →
      exec (.faultArrival t f) s = .next (u.raiseFull f 0 false false)) ∧
    (∀ f : FaultIn, retryClass f.name = none → f.name ≠ .lkEccCorr →
      exec (.faultArrival t f) s = .next (u.raiseFull f 0 (fnLatched f.name) false)) ∧
    (∀ f : FaultIn, f.name = .lkEccCorr →
      exec (.faultArrival t f) s = .next
        ((u.incHold Reg.LOOKOUT_SELFTEST_ECCCORR).raiseFull f 0 (fnLatched .lkEccCorr) false)) ∧
    (∀ v : State, v = u.drive (32 * t) →
      exec (.viewRelease t) s = .next (v.drainLog v.tide))

/-- Tide, placement-line and rail events complete. Loss of the PLL lock switches to the backup oscillator, stops
every axis and puts the module in SAFE; a lock again ends the backup. Loss of REFIN is shown and raised, but not by
a member that follows its lead. The line in turn is measured from 16 launches in idle windows, or skipped after
65536 ticks; a measurement within 34-63 taps is taken; another is rejected and the line kept, and its eighth
rejection in a row makes the line coarse with DL_CAL_FAIL. At the end of each 1 ms interval the rail is trimmed and
MARGIN_LOW raised for every ratio above 85 %. A canary reading guards the rail; the boost ends 10 ms after the last
ratio above 80 %. Holdover is shown and raised by a module that is no member. Where this rests on a reading or
choice of the model, that is log entries 1 and 48. (R21, R46, R47, R51, R52, R57, R58, R59, R73) -/
def Obligations.TideRows : Prop :=
  ∀ (t : Nat) (s u : State), u = s.upto t →
    (exec (.pllLockLoss t) s = .next
      ((((({ u.set Reg.TIDE_STATUS_LOCK 0 with backup := true } : State).updBw fun b =>
        { b with pllStop := true }).eachAxis State.faultAxis).setModState 4).settle t)) ∧
    (exec (.tidePllRelock t) s = .next { u.set Reg.TIDE_STATUS_LOCK 1 with backup := false }) ∧
    (s.bit Reg.TIDE_STATUS_REFACT = true → s.following = false → exec (.refinLoss t) s = .next
      ((u.sets [(Reg.TIDE_STATUS_REFLOST, 1), (Reg.TIDE_STATUS_REFACT, 0)]).raise .refLost 0 0 t)) ∧
    (∀ (k : Fin 28) (l : List (Nat × Nat)) (n : Nat) (v : State), v = u.drive (32 * t) → k.val = v.dl.turn.val →
      v.lineMean k l = some n → v.dl.since + 4096 ≤ t → v.scheduled k t (t + 16) = false →
      exec (.delayLineMeasurement t k l) s = .next ((v.measureLine t k n).nextLine t)) ∧
    (∀ (k : Fin 28) (l : List (Nat × Nat)) (v : State), v = u.drive (32 * t) → k.val = v.dl.turn.val →
      v.lineMean k l = none → v.dl.since + 65536 ≤ t →
      exec (.delayLineMeasurement t k l) s = .next (v.nextLine t)) ∧
    (∀ (k : Fin 28) (n : Nat), 34 ≤ n → n ≤ 63 → u.measureLine t k n =
      State.set { u with dl := { u.dl with line := u.dl.line.set k { taps := n, rejects := 0 } } }
        (Reg.TIDE_DLCOARSE_BIT k) 0) ∧
    (∀ (k : Fin 28) (n r : Nat) (v : State), n < 34 ∨ 63 < n → r = min 8 ((s.dl.line[k]).rejects + 1) →
      v = State.sets { u with dl := { u.dl with line := u.dl.line.set k { u.dl.line[k] with rejects := r } } }
        [(Reg.TIDE_DLCAL_REJ, 1), (Reg.TIDE_DLCAL_LINE, k)] →
      (r ≠ 8 ∨ 8 ≤ (s.dl.line[k]).rejects → u.measureLine t k n = v) ∧
      (r = 8 → (s.dl.line[k]).rejects < 8 →
        u.measureLine t k n = (v.set (Reg.TIDE_DLCOARSE_BIT k) 1).raise .dlCalFail 0 k t)) ∧
    (t % Config.ms = 0 → 0 < t → exec (.railTrimInterval t) s = .next
      (railBlocks.foldl (fun v b =>
        match worstIn (interval t - 1) u.rail.worst[b] with
        | some q =>
          if abovePct q 85 then v.raise .marginLow (railSource b) (ratioCode q + b.val * 2 ^ 16) t else v
        | none => v) (u.railTrim (interval t - 1)))) ∧
    (∀ (b : Fin 5) (k : Nat),
      exec (.railGuardBoost t b k) s = .next (State.guardRail u (u.set (Reg.TIDE_CANARY_DELAY b) k) u.tide)) ∧
    (s.rail.boostAt + 10 * Config.ms ≤ t → s.overGuard = false →
      exec (.boostRelease t) s = .next (u.set Reg.TIDE_STATUS_BOOST 0)) ∧
    (s.bit Reg.TIDE_CTL_ASEN = true → s.asd.started = true → s.isMember = false → exec (.asHoldover t) s = .next
      ((({ u with asd := { u.asd with okSince := none } } : State).sets
        [(Reg.TIDE_STATUS_ASHOLD, 1), (Reg.TIDE_STATUS_ASLOCK, 0)]).raise .asHoldover 0 0 t))

/-- Lookout cycles, monitors, outputs and test dates complete. A running cycle reads the inputs, runs the functions
of the set in force and sends its frames, watches the outputs, leaves its token and counts; every 32768th counts a
self-test pass. A token that is not the one of the cycle before is an internal fault, any other finds nothing. An
internal fault is reacted to. A test pulse of an output that has been on for 10 s must read off; a readback that has
disagreed with its command for the SO_RB of the set fails the output. A pair, input or output in use whose last test
is a day old raises LK_TEST_DUE. Where this rests on a reading or choice of the model, that is log entries 45, 55
and 60. (R341, R342, R343, R350, R356, R367) -/
def Obligations.LookoutRows : Prop :=
  ∀ (t : Nat) (s u : State), u = s.upto t →
    (∀ (r : CycleIn) (k : Nat) (v w x : State), s.get Reg.LOOKOUT_STATUS_STATE = 1 → k = t / 100000 →
      (u.lk.inForce = none ∧ v = (u.readInputs t [] r).inputRegs.dropEdges ∨
        ∃ y, u.lk.inForce = some y ∧ v = (u.lkFunctions t y.data r).sendFrames t k y.data) →
      w = ((v.watchOutputs t r.so0rb r.so1rb).set Reg.LOOKOUT_DLTOKEN_TOKEN (k % 65536)).incWrap
        Reg.LOOKOUT_STATUS_CYCLE →
      x = (if w.get Reg.LOOKOUT_STATUS_CYCLE % 32768 = 0 then w.incWrap Reg.LOOKOUT_SELFTEST_PASSES else w) →
      exec (.lookoutCycle t r) s = .next
        (({ x with lk := { x.lk with fresh := false, ran := true } } : State).recordRatio 4 ⟨r.busy, 100000⟩)) ∧
    (s.get Reg.LOOKOUT_STATUS_STATE = 1 → s.lk.ran = true →
      s.get Reg.LOOKOUT_DLTOKEN_TOKEN ≠ (t / 100000 + 65535) % 65536 →
      exec (.deadlineMonitorCheck t) s = .next (u.lkInternal t 2)) ∧
    (s.get Reg.LOOKOUT_STATUS_STATE ≠ 1 ∨ s.lk.ran = false ∨
        s.get Reg.LOOKOUT_DLTOKEN_TOKEN = (t / 100000 + 65535) % 65536 →
      exec (.deadlineMonitorCheck t) s = .next u) ∧
    (∀ c : Nat, exec (.internalFaultReaction t c) s = .next (u.lkInternal t c)) ∧
    (∀ (o : Fin 2) (v : State) (e : Nat), s.soOn o = true → s.lk.soSince[o] = some e → e + 10 * Config.sec ≤ t →
      v = { u with lk := { u.lk with soSince := u.lk.soSince.set o (some (t + 120000)) } } →
      exec (.soTestPulse t o true) s = .next v ∧ exec (.soTestPulse t o false) s = .next (v.soFailed t o)) ∧
    (∀ (o : Fin 2) (x : SafetySet) (rb : Bool), s.lk.inForce = some x →
      rb = (if o = 0 then s.bw.so0rb else s.bw.so1rb) →
      (rb ≠ s.soOn o → ranFor s.lk.soDiff[o] t (beAt x.data 26 2) = true →
        exec (.soReadbackFail t o) s = .next (u.soFailed t o)) ∧
      (rb = s.soOn o ∨ ranFor s.lk.soDiff[o] t (beAt x.data 26 2) = false →
        exec (.soReadbackFail t o) s = .next u)) ∧
    (∀ k : Fin 5, (k = 4 ∨ ∃ x : SafetySet, s.lk.inForce = some x ∧ beAt x.data (18 + k.val) 1 ≠ 0) →
      s.lk.inForce.isSome = true → s.inDemand k = false → s.lk.tested[k] + 86400 * Config.sec ≤ t →
      exec (.testDueExpiry t k) s = .next (u.raise .lkTestDue 2 0 t))

/-- Lookout frames complete. With a set in force: a frame of no receive connection of its path is ignored; otherwise
held copies whose window is over are decided first. A frame that cannot be read, has another length or an age
outside the window, or fails its checks, is rejected, or before synchronisation gives a candidate; one that passes
is accepted, or on a dual connection is the copy that its pair rule takes. A single copy whose DUAL_WINDOW is over
is accepted where the connection tolerates it and the count allows it, with LK_COMM_DEGRADED, and dropped otherwise.
A connection without an accepted frame for WD_TIMEOUT is lost, with LK_COMM. Where this rests on a reading or choice
of the model, that is log entries 31, 45 and 60. (R359, R360, R361, R362, R363, R364, R365) -/
def Obligations.LookoutFrameRows : Prop :=
  ∀ (t : Nat) (j : Fin 8) (s u v : State) (x : SafetySet) (d : List Byte), u = s.upto t → s.lk.inForce = some x →
    d = x.data → v = u.expireHolds t d j →
    (∀ (path : Fin 8) (b : List Byte), connOf d path (beAt b 0 4) = none →
      exec (.lookoutFrameArrival t path b) s = .next u) ∧
    (∀ (path : Fin 8) (b : List Byte), connOf d path (beAt b 0 4) = some j → readFrame b = none →
      exec (.lookoutFrameArrival t path b) s = .next (v.rejectFrame j)) ∧
    (∀ (path : Fin 8) (b : List Byte) (f : LkFrameIn) (e : Nat), connOf d path (beAt b 0 4) = some j →
      readFrame b = some f → isDual d j = false → f.len = cnAt d j 28 1 →
      v.ageOk d j (v.frameAge d j t f.stamp) = true →
      (((v.conn j).ext.orElse fun _ => (v.conn j).cand).bind (passes d j f)) = some e →
      exec (.lookoutFrameArrival t path b) s = .next
        (v.acceptFrame t j e f.payload (v.frameAge d j t f.stamp) 0)) ∧
    (∀ (path : Fin 8) (b : List Byte) (f : LkFrameIn) (e : Nat), connOf d path (beAt b 0 4) = some j →
      readFrame b = some f → isDual d j = true → repeats d j f (v.conn j).decided = false → f.len = cnAt d j 28 1 →
      v.ageOk d j (v.frameAge d j t f.stamp) = true →
      (((v.conn j).ext.orElse fun _ => (v.conn j).cand).bind (passes d j f)) = some e →
      exec (.lookoutFrameArrival t path b) s = .next
        (v.dualCopy t d j path e b f.payload (v.frameAge d j t f.stamp))) ∧
    (∀ (path : Fin 8) (b : List Byte) (f : LkFrameIn), connOf d path (beAt b 0 4) = some j →
      readFrame b = some f → isDual d j = false → f.len ≠ cnAt d j 28 1 ∨
        v.ageOk d j (v.frameAge d j t f.stamp) = false →
      exec (.lookoutFrameArrival t path b) s = .next (v.rejectFrame j)) ∧
    (∀ (path : Fin 8) (b : List Byte) (f : LkFrameIn), connOf d path (beAt b 0 4) = some j →
      readFrame b = some f → isDual d j = false → f.len = cnAt d j 28 1 →
      v.ageOk d j (v.frameAge d j t f.stamp) = true →
      (((v.conn j).ext.orElse fun _ => (v.conn j).cand).bind (passes d j f)) = none →
      ((v.conn j).ext.isSome = true → exec (.lookoutFrameArrival t path b) s = .next (v.rejectFrame j)) ∧
      (∀ h : Nat, (v.conn j).ext = none → highHalf (cnAt d j 12 4) f.body f.crc = some h →
        exec (.lookoutFrameArrival t path b) s = .next
          (v.updConn j fun c => { c with cand := some (h * 65536 + f.low) }))) ∧
    (exec (.dualWindowExpiry t j) s = .next v) ∧
    (∀ (h : LkHold) (w : State), w = u.updConn j (fun c => { c with hold := [] }) → (s.conn j).hold = [h] →
      (t < h.at_ + cnAt d j 24 2 * Config.us → v = u) ∧
      (h.at_ + cnAt d j 24 2 * Config.us ≤ t → cnAt d j 5 1 = 2 → (s.conn j).single ≤ cnAt d j 26 1 →
        v = (w.acceptFrame t j h.ext ((h.bytes.drop 12).take (cnAt d j 28 1)) h.age ((s.conn j).single + 1)).raise
          .lkCommDegraded 2 0 t (axes := BitVec.ofNat 4 (cnAt d j 30 1))) ∧
      (h.at_ + cnAt d j 24 2 * Config.us ≤ t → cnAt d j 5 1 ≠ 2 ∨ cnAt d j 26 1 < (s.conn j).single →
        v = w.dropDual t d j h.ext .single)) ∧
    ((connsOf d).contains j = true → receives d j = true → (s.conn j).lost = false → u.connLate t d j = true →
      exec (.connectionLoss t j) s = .next
        (((u.updConn j fun c =>
          { c with lost := true, ext := none, cand := none, bits := [], next := none, decided := [] }).sets
            [(Reg.LOOKOUT_CONN_OK j, 0), (Reg.LOOKOUT_CONN_LOST j, 1)]).lkComm t d j .lost))

/-- Ethernet events complete. A frame received on an enabled port has its bytes counted and is switched; PAUSE is
not forwarded, oversize and bad FCS are counted. The head of a queue that may start, with no higher queue that may,
leaves; at the internal port it is delivered; a frame that never fits its gate is dropped and counted. At its
instant the administrative list comes into force. Link changes set their bits and interrupts; a link lost drops its
learned addresses and raises ETH_LINK_DOWN, with a free SFPPRES on E0 and E1. Entries age out. A Sync is sent with
the AS time, and peer delays set AS capability. A Sync received trims the rate, shows the error and decides the
lock; more than 1 ms off, the time base is captured anew with TIDE_AS_STEP and the lock is lost. Where this rests on
a reading or choice of the model, that is log entries 6, 21, 33 and 63. (R72, R73, R373, R374, R376, R377, R378,
R380, R381, R382, R383, R392) -/
def Obligations.EthernetRows : Prop :=
  ∀ (t : Nat) (s u : State), u = s.upto t →
    (∀ (p : Fin 5) (f : EthFrame), s.bit (Reg.ETH_PCFG_EN p) = true → ethLen f f.tag.isSome ≤ 1522 →
      f.fcsOk = true →
      (f.etype = 0x8808 → beAt f.payload 0 2 = 1 → exec (.ethFrameReceived t p f) s = .next
        ((u.countRx p (ethLen f f.tag.isSome)).incHold (Reg.ETH_RXFRM_COUNT p))) ∧
      (f.etype ≠ 0x8808 ∨ beAt f.payload 0 2 ≠ 1 → exec (.ethFrameReceived t p f) s = .next
        (((u.countRx p (ethLen f f.tag.isSome)).incHold (Reg.ETH_RXFRM_COUNT p)).switchIn t p
          { f with sfd := min f.sfd t }))) ∧
    (∀ (p : Fin 5) (f : EthFrame), s.bit (Reg.ETH_PCFG_EN p) = true → 1522 < ethLen f f.tag.isSome →
      exec (.ethFrameReceived t p f) s = .next
        ((u.countRx p (ethLen f f.tag.isSome)).incHold (Reg.ETH_ERR_OVERSIZE p))) ∧
    (∀ (p : Fin 5) (f : EthFrame), s.bit (Reg.ETH_PCFG_EN p) = true → ethLen f f.tag.isSome ≤ 1522 →
      f.fcsOk = false → exec (.ethFrameReceived t p f) s = .next
        ((u.countRx p (ethLen f f.tag.isSome)).incHold (Reg.ETH_ERR_FCS p))) ∧
    (∀ (p : Fin 5) (q : Fin 8) (x : QFrame), (((s.eth.q[p])[q]).head?) = some x →
      ((extPort p).any fun e => s.bit (Reg.ETH_PCFG_GEN p) && s.neverFits e q x.len) = false →
      s.portUp p = true → u.mayStart u.tide p q = true →
      (slots8.all fun k => decide (k ≤ q) || !u.mayStart u.tide p k) = true →
      (∀ v : State, v = ((((u.popQueue p q).incHold (Reg.ETH_TXFRM_COUNT p)).countTx p x.len).emit
          (.frame p q x.len)) →
        (p ≠ 4 → exec (.ethFrameTransmit t p q) s = .next v) ∧
        (p = 4 → exec (.ethFrameTransmit t p q) s = .next (v.deliver v.tide x)))) ∧
    (∀ (p : Fin 5) (q : Fin 8) (x : QFrame), (((s.eth.q[p])[q]).head?) = some x →
      ((extPort p).any fun e => s.bit (Reg.ETH_PCFG_GEN p) && s.neverFits e q x.len) = true →
      exec (.ethFrameTransmit t p q) s = .next ((u.popQueue p q).incHold (Reg.ETH_GATEDROP_COUNT p))) ∧
    (∀ p : Fin 4, exec (.gateListIntervalEnd t p) s = .next u) ∧
    (∀ (p : Fin 4) (k : Nat), s.eth.swapAt[p] = some k → k ≤ u.tide →
      exec (.gateListSwap t p) s = .next
        ((((u.updEth fun e =>
          { e with swapAt := e.swapAt.set p none, oper := e.oper.set p (u.adminList p) }).putAdmin p
            u.eth.oper[p]).set (Reg.ETH_PSTAT_SWAPPEND p) 0))) ∧
    (∀ (p : Fin 4) (v w : State), s.bit (Reg.ETH_PSTAT_LINK p) = true →
      v = (u.sets [(Reg.ETH_PSTAT_LINK p, 0), (Reg.ETH_IRQ_LINK, u.get Reg.ETH_IRQ_LINK ||| 2 ^ p.val)]).updEth
        (fun e => { e with macs := e.macs.filter fun x => x.port != p.val }) →
      w = { v with free := v.free + 1 } →
      (p.val < 2 → exec (.ethLinkDown t p) s = .next
        ((w.set (Reg.ETH_PSTAT_SFPPRES p) (Config.freeNat v.free % 2)).raise .ethLinkDown 52 p t)) ∧
      (2 ≤ p.val → exec (.ethLinkDown t p) s = .next (w.raise .ethLinkDown 52 p t))) ∧
    (∀ p : Fin 4, s.bit (Reg.ETH_PCFG_EN p) = true → s.bit (Reg.ETH_PSTAT_LINK p) = false →
      exec (.ethLinkUp t p) s = .next
        (u.sets [(Reg.ETH_PSTAT_LINK p, 1), (Reg.ETH_PSTAT_SFPPRES p, if p.val < 2 then 1 else 0),
          (Reg.ETH_IRQ_LINK, u.get Reg.ETH_IRQ_LINK ||| 2 ^ p.val)])) ∧
    (∀ vid mac : Nat, exec (.macTableAgeOut t vid mac) s = .next
      (u.updEth fun e =>
        { e with
          macs := e.macs.filter fun x =>
            !(x.vid == vid && x.mac == mac &&
              decide (x.seen + u.get Reg.ETH_AGE_AGE * Config.sec ≤ u.tide)) })) ∧
    (∀ ip : Nat, exec (.arpEntryExpiry t ip) s = .next
      (u.updEth fun e =>
        { e with arp := e.arp.filter fun x => !(x.ip == ip && decide (x.seen + 300 * Config.sec ≤ u.tide)) })) ∧
    (∀ p : Fin 4, s.asRole p = 1 → s.bit (Reg.ETH_PSTAT_ASCAP p) = true → s.portUp (port5 p) = true →
      exec (.asSyncSend t p) s = .next (u.emit (.sync p (u.asMac p) (2 * u.asBase + (5 * u.tide : Nat))))) ∧
    (∀ (p : Fin 4) (ns : Nat), (s.get Reg.ETH_ASCFG_PORTEN).testBit p = true → s.portUp (port5 p) = true →
      exec (.peerDelayMeasurement t p ns) s = .next
        (u.sets [(Reg.ETH_PDELAY_NS p, min 65535 ns),
          (Reg.ETH_PSTAT_ASCAP p, if ns ≤ s.get Reg.ETH_ASCFG_PDTHR then 1 else 0)])) ∧
    (∀ (ns err : Int) (v w : State) (ok : Option Nat), s.bit Reg.TIDE_CTL_ASEN = true → s.isMember = false →
      s.bit Reg.ETH_ASCFG_GM = false → (s.get Reg.ETH_ASCFG_PORTEN).testBit (s.get Reg.TIDE_CTL_ASPORT) = true →
      s.bit (Reg.ETH_PSTAT_ASCAP (s.get Reg.TIDE_CTL_ASPORT)) = true →
      v = (if u.asd.started then u else u.captureBase t ns) → err = ns - v.asBase - (5 * t / 2 : Nat) →
      err.natAbs ≤ 1000000 → w = (if v.asd.started then v.asTrim t else v) →
      ok = (if err.natAbs ≤ 100 then some (w.asd.okSince.getD t) else none) →
      exec (.asSyncMessage t ns) s = .next (w.asDone t err (decide (1000 < err.natAbs)) ok)) ∧
    (∀ (ns : Int) (v0 v w : State), s.bit Reg.TIDE_CTL_ASEN = true → s.isMember = false →
      s.bit Reg.ETH_ASCFG_GM = false → (s.get Reg.ETH_ASCFG_PORTEN).testBit (s.get Reg.TIDE_CTL_ASPORT) = true →
      s.bit (Reg.ETH_PSTAT_ASCAP (s.get Reg.TIDE_CTL_ASPORT)) = true →
      v0 = (if u.asd.started then u else u.captureBase t ns) →
      1000000 < (ns - v0.asBase - (5 * t / 2 : Nat)).natAbs →
      v = (v0.captureBase t ns).raise .tideAsStep 0 0 t → w = (if v.asd.started then v.asTrim t else v) →
      exec (.asSyncMessage t ns) s = .next (w.asDone t 0 true (some t))) ∧
    (∀ (err : Int) (far : Bool) (ok : Option Nat) (w x : State),
      x = { (w.setI Reg.TIDE_ASERR_ERR (sat32 err)).set Reg.TIDE_STATUS_ASHOLD 0 with
            asd := { started := true, lastSync := t, okSince := ok } } →
      w.asDone t err far ok =
        if ok.any (fun o => decide (o + Config.sec ≤ t)) then x.set Reg.TIDE_STATUS_ASLOCK 1
        else if far then x.set Reg.TIDE_STATUS_ASLOCK 0 else x)

/-- CAN events complete. A frame that an enabled controller may take lowers its receive error count and goes to its
one place; an FD frame with FDEN 0 is a form error. A free controller starts the pending buffer that wins. A
completed transmission shows the buffer done with its stamp, lowers the transmit error count, shows the measured
delay of an FD frame, and loops back in that mode without leaving the controller; an attempt that failed ends an
aborted buffer and leaves any other pending. An error is shown and counted and the error state follows. Recovery
leaves bus-off with both counts 0. Where this rests on a reading or choice of the model, that is log entries 32 and
63. (R387, R388, R389, R390, R391, R394) -/
def Obligations.CanRows : Prop :=
  ∀ (t : Nat) (c : Fin 4) (s u : State), u = s.upto t →
    (∀ f : CanFrame, s.bit (Reg.CAN_CTL_EN c) = true → s.get (Reg.CAN_STATUS_STATE c) ≠ 2 →
      s.get (Reg.CAN_CTL_MODE c) ≠ 2 →
      (f.fdf = false ∨ s.bit (Reg.CAN_CTL_FDEN c) = true → exec (.canFrameReceived t c f) s = .next
        (((u.updCan c fun x => { x with rec_ := recAfter x.rec_ }).canErrState t c).canRoute t c f)) ∧
      (f.fdf = true → s.bit (Reg.CAN_CTL_FDEN c) = false → exec (.canFrameReceived t c f) s = .next
        (((u.set (Reg.CAN_STATUS_LASTERR c) 2).updCan c fun x =>
          { x with rec_ := min 255 (x.rec_ + 1) }).canErrState t c))) ∧
    (∀ b : Fin 16, s.bit (Reg.CAN_CTL_EN c) = true → s.get (Reg.CAN_STATUS_STATE c) ≠ 2 →
      s.get (Reg.CAN_CTL_MODE c) ≠ 1 → (s.canCtl c).cur = none → s.txPick c = some b →
      exec (.canTxStart t c) s = .next
        (u.updCan c fun x => { x with cur := some b, sof := u.tide, abort := false })) ∧
    (∀ (b : Fin 16) (f : CanFrame) (v w x : State), (s.canCtl c).cur = some b →
      v = u.updCan c (fun x => { x with cur := none, abort := false }) →
      f = { v.txFrame c b with sof := (s.canCtl c).sof } →
      w = ((((v.sets [(Reg.CAN_TXCTL_STATE c b, 2), (Reg.CAN_TXSTL_STAMP c b, (s.canCtl c).sof),
        (Reg.CAN_TXSTH_STAMP c b, (s.canCtl c).sof / 2 ^ 32), (Reg.CAN_IRQ_TXDONE c, 1)]).updCan c fun x =>
          { x with tec := x.tec - 1 }).canErrState t c).measureDelay c f) →
      x = (if w.get (Reg.CAN_CTL_MODE c) = 2 then w.canRoute t c f else w.emit (.can c b)) →
      exec (.canTxComplete t c true) s = .next (x.canFeed c)) ∧
    (∀ (b : Fin 16) (v : State), (s.canCtl c).cur = some b →
      v = u.updCan c (fun x => { x with cur := none, abort := false }) →
      ((s.canCtl c).abort = true → exec (.canTxComplete t c false) s = .next ((v.txAborted c b).canFeed c)) ∧
      ((s.canCtl c).abort = false → exec (.canTxComplete t c false) s = .next v)) ∧
    (∀ (k : Fin 7) (tecUp recUp : Nat), s.bit (Reg.CAN_CTL_EN c) = true → s.get (Reg.CAN_STATUS_STATE c) ≠ 2 →
      exec (.canBusError t c k tecUp recUp) s = .next
        (((u.set (Reg.CAN_STATUS_LASTERR c) k).updCan c fun x =>
          { x with tec := x.tec + tecUp, rec_ := min 255 (x.rec_ + recUp) }).canErrState t c)) ∧
    (s.get (Reg.CAN_STATUS_STATE c) = 2 → exec (.canBusOffRecovery t c) s = .next
      (((u.updCan c fun x => { x with tec := 0, rec_ := 0 }).set (Reg.CAN_STATUS_STATE c) 0).canCounters c))

/-- Timer, memory, arbiter, Logbook and bandwidth events complete. MTIP follows mtimecmp. A scrub read finds its
coded unit sound, corrects and counts a single error, or leaves the unit uncorrectable and raises the fatal fault. A
flash descriptor starts its operation or is answered with its error; a completed one programs its bytes or erases
its block and writes its completion word. Nothing is drawn while the owner of a held grant requests; a single active
slot is granted without a draw. A draw among at least two active slots has the winner of the lottery, backs off
every loser, and counts both. A backoff ends at its instant. A waiting block enters the ring; the Logbook freezes
its post time after the trigger. A bandwidth window ends at its multiple with the given counts, those of the switch
ports from the bytes counted. Where this rests on a reading or choice of the model, that is log entries 7, 14, 37,
46, 57 and 64. (R396, R401, R403, R413, R414, R415, R416, R420, R421, R427) -/
def Obligations.CoreMemoryAndRecordRows : Prop :=
  ∀ (t : Nat) (s u : State), u = s.upto t →
    (∀ r : Fin 4, exec (.machineTimerInterrupt t r) s = .next
      (u.updCore r fun c => { c with mtip := decide (u.mtimecmp r ≤ u.mtime) })) ∧
    (∀ a : Nat, 
      exec (.patrolScrubRead t a 0) s = .next { u with ecc := u.ecc.filter (· != eccUnit a) } ∧
      exec (.patrolScrubRead t a 1) s = .next
        (({ u with ecc := u.ecc.filter (· != eccUnit a) } : State).eccCorr t a) ∧
      exec (.patrolScrubRead t a 2) s = .next
        (({ u with ecc := eccUnit a :: u.ecc.filter (· != eccUnit a) } : State).eccFatal t a)) ∧
    (∀ d : List Byte, s.bit (Reg.BERTH_STAT_FULL 8) = true → s.flash = none → d = u.berthBytes 8 →
      (∀ o : Nat, u.badFlash d = some o →
        exec (.flashBerthDescriptor t) s = .next (u.flashDone (leAt d 24 8) (some o) (leAt d 4 4))) ∧
      (u.badFlash d = none → exec (.flashBerthDescriptor t) s = .next
        { u with
          flash := some { program := leAt d 0 1 == 2, off := leAt d 4 4, src := leAt d 8 8
                          len := leAt d 16 4, done := leAt d 24 8 } })) ∧
    (∀ j : FlashJob, s.flash = some j → j.program = true →
      exec (.flashOperationComplete t) s = .next
        { (({ u with free := u.free + 1 } : State).setBytes (storeBase + j.off)
            ((u.bytes j.src j.len).zipIdx.map fun p =>
              programByte u.free p.2 (u.byte (storeBase + j.off + p.2)) p.1)).flashDone j.done none j.off with
          flash := none }) ∧
    (∀ j : FlashJob, s.flash = some j → j.program = false →
      exec (.flashOperationComplete t) s = .next
        { (u.setBytes (storeBase + j.off) (List.replicate 65536 0xFF)).flashDone j.done none j.off with
          flash := none }) ∧
    (∀ (a : Fin 3) (req : Nat) (act : List (Fin 8)), act = u.activeSlots a req →
      ((u.holds a && (u.arb[a]).owner.any req.testBit) = true → exec (.arbiterDraw t a req) s = .next u) ∧
      ((u.holds a && (u.arb[a]).owner.any req.testBit) = false → act.length < 2 →
        exec (.arbiterDraw t a req) s = .next (act.foldl (fun s w => s.own a w) u))) ∧
    (∀ (a : Fin 3) (req : Nat) (act losers : List (Fin 8)) (w : Fin 8) (x y : Arb) (v : State),
      act = u.activeSlots a req → 2 ≤ act.length → (u.holds a && (u.arb[a]).owner.any req.testBit) = false →
      x = u.arb[a] → drawWinner (u.tickets a) (lfsrStep x.lfsr) x.last act = some w →
      losers = act.filter (fun i => i != w) → v = u.own a w →
      y = losers.foldl (fun x i => x.lose v.tide (slotTicks a) i)
        { v.arb[a] with lfsr := lfsrStep x.lfsr, last := w.val, len := x.len.set w 0 } →
      exec (.arbiterDraw t a req) s = .next
        (losers.foldl (fun s i => s.incHold (arbLoss a i))
          (({ v with arb := v.arb.set a y } : State).incHold (arbWin a w)))) ∧
    (∀ (a : Fin 3) (i : Fin 8) (b : Nat), (s.arb[a]).off[i] = some b → b ≤ u.tide →
      exec (.backoffExpiry t a i) s = .next
        { u with arb := u.arb.set a { u.arb[a] with off := (u.arb[a]).off.set i none } }) ∧
    (∀ (b : LogBlock) (r : List LogBlock), s.logb.queue = b :: r → s.recording = true →
      exec (.logbookBlockWrite t) s = .next ((u.updLogb fun k => { k with queue := r }).writeBlock b).queueFull) ∧
    (s.get Reg.LOGB_STAT_STATE = 2 → u.trigT + s.logb.post * 400000 ≤ u.tide →
      exec (.logbookFreeze t) s = .next (u.logFreeze u.tide)) ∧
    (∀ (l : List Nat) (v w : State), u.tide % (u.get Reg.PERF_BWWIN_US * 400) = 0 →
      v = (l.take 22).zipIdx.foldl (fun s p => s.set (Reg.PERF_BW_UNITS p.2) p.1) u →
      w = ([0, 1, 2, 3, 4] : List (Fin 5)).foldl (fun s p => s.sets
        [(Reg.PERF_BW_UNITS (8 + 2 * p.val), s.eth.rx[p] / 64), (Reg.PERF_BW_UNITS (9 + 2 * p.val), s.eth.tx[p] / 64)]) v →
      exec (.bandwidthWindowEnd t l) s = .next
        (State.incWrap
          { w with eth := { w.eth with rx := Vector.replicate 5 0, tx := Vector.replicate 5 0 } } Reg.PERF_BWSTAT_WINDOWS))

/-- Power entry, budget, loss and restart events complete. A change of an input's validity is shown, gives the
condition and the budget anew, and raises PWR_SRC_LOST where the other input carries on; a change of the line's
condition that lowers the budget raises PWR_LOW_LINE. After the grace time queued enables and axes are dropped by
the rule of R462. A slot enables four queued channels. The power-loss signal is shown, triggers the discharge where
configured and raises PWR_LOSS; the last words are written, or fail; a collapsed bus turns everything off and hands
the discharge over; the X domain ends it at the end of its command, of the voltage, of the energy or of 500 ms; the
signal clears. Rail failures raise PWR_RAIL. Power-on reset starts the module; a watchdog expiry and a resumed start
restart it. Where this rests on a reading or choice of the model, that is log entries 14, 40, 41 and 58. (R458,
R460, R461, R462, R466, R467, R469, R470, R471, R472, R473) -/
def Obligations.PowerRows : Prop :=
  ∀ (t : Nat) (s u : State), u = s.upto t →
    (∀ (ka valid : Bool) (v w : State),
      v = u.setB (if ka then Reg.PWR_STATUS_KAVALID else Reg.PWR_STATUS_ACVALID) valid →
      w = (if ka || valid then v else v.set Reg.PWR_STATUS_ACHIGH 0).reCond →
      exec (.inputValidityChange t ka valid) s = .next
        (if s.bit (if ka then Reg.PWR_STATUS_KAVALID else Reg.PWR_STATUS_ACVALID) && !valid &&
            w.bit (if ka then Reg.PWR_STATUS_ACVALID else Reg.PWR_STATUS_KAVALID) then
          w.raise .pwrSrcLost 7 (if ka then 1 else 0) w.tide else w)) ∧
    (∀ (high : Bool) (v : State), s.bit Reg.PWR_STATUS_ACVALID = true →
      v = (u.setB Reg.PWR_STATUS_ACHIGH high).reCond →
      exec (.inputConditionChange t high) s = .next
        (if v.get Reg.PWR_BUDGET_BUDGET < u.get Reg.PWR_BUDGET_BUDGET then v.raise .pwrLowLine 7 0 v.tide else v)) ∧
    (exec (.budgetGraceExpiry t) s = .next
      (([0, 1, 2, 3] : List (Fin 4)).foldl (fun (s : State) _ => s.shedOver)
        (u.pwr.accepted.reverse.foldl State.unqueueOver u)).finishStart) ∧
    (∀ v w : State, s.pwr.queue ≠ [] → (s.pwr.slotAt.all fun a => decide (a + 5 * Config.ms ≤ u.tide)) = true →
      v = (u.pwr.queue.take 4).foldl (fun (s : State) g => s.railOn s.tide g) u →
      w = v.set Reg.PWR_SLOT_SLOT
        (if (u.pwr.queue.drop 4).isEmpty then 7 else min 6 (v.get Reg.PWR_SLOT_SLOT + 1)) →
      exec (.railEnableSlot t) s = .next
        (w.updPwr fun p => { p with queue := u.pwr.queue.drop 4, slotAt := some w.tide }).reBudget) ∧
    (∀ v w : State, s.pwr.off = false → s.bit Reg.PWR_STATUS_LOSS = false → s.get Reg.PWR_STATUS_COND = 0 →
      v = (u.sets [(Reg.PWR_STATUS_LOSS, 1), (Reg.PWR_IRQ_LOSS, 1)]).updPwr (fun p =>
        { p with lwDue := if p.up then some t else p.lwDue }) →
      w = (if v.bit Reg.BW_DSCCFG_ONLOSS then
        v.updBw fun b => b.trigger t b.trgLoss fun b => { b with trgLoss := true } else v) →
      exec (.powerLossSignal t) s = .next (w.raise .pwrLoss 7 0 t)) ∧
    (∀ (st a : Nat) (b : List Byte) (v : State), s.pwr.lwDue = some st →
      b = u.lwSummary u.tide st → a = lwBase + 4096 * u.lwNext →
      v = { u with free := u.free + 2, pwr := { u.pwr with lwDue := none } } →
      exec (.lastWordsWrite t true) s = .next (v.setBytes a (b ++ leBytes 4 (crc32c b).toNat)) ∧
      exec (.lastWordsWrite t false) s = .next
        (((v.freeBytes 4096).2.setBytes a (v.freeBytes 4096).1).raise .logbLastwordsFail 55 0 t)) ∧
    (s.pwr.xDsc = true → s.dscOn = false ∨ u.xDscOver t = true → exec (.xDomainDscEnd t) s = .next
      (((u.updPwr fun p => { p with xDsc := false }).set Reg.BW_STATUS_DSCON 0).updBw fun b =>
        { b with dscDone := true })) ∧
    (s.bit Reg.PWR_STATUS_LOSS = true → s.pwr.off = false → s.get Reg.PWR_STATUS_COND ≠ 0 →
      exec (.powerLossClear t) s = .next
        ((((u.set Reg.PWR_STATUS_LOSS 0).causeGone .pwrLoss 7 0).updBw fun b => { b with trgLoss := false }).updPwr
          fun p => { p with resume := p.resume || p.starting })) ∧
    (∀ ch : Nat, 47 ≤ ch → ch ≤ 53 → exec (.railFailure t ch) s = .next (u.raise .pwrRail 7 ch t)) ∧
    (∀ r : StartIn, exec (.powerOnReset t r) s = .next ((s.powerUp t r).bootSteps t r true false)) ∧
    (∀ r : StartIn, s.pwr.up = true →
      exec (.supervisorWatchdogExpiry t r) s = .next (u.restart u.tide .wdog r)) ∧
    (∀ r : StartIn, s.pwr.resume = true → s.bit Reg.PWR_STATUS_LOSS = false →
      exec (.resumedStart t r) s = .next (u.restart u.tide .lossret r)) ∧
    (∀ v w : State, s.bit Reg.PWR_STATUS_LOSS = true →
      v = (List.finRange 24).foldl (fun (s : State) (g : Fin 24) =>
        ((if s.chOn s.tide ⟨g.val, by omega⟩ then s.softOff s.tide ⟨g.val, by omega⟩ else s).updGate ⟨g.val, by omega⟩
          fun x => { x with holds := { x.holds with die := true } }).railOff ⟨g.val, by omega⟩) u →
      w = ((v.eachAxis fun (s : State) (n : Fin 4) => s.setMode s.tide n .off).setB Reg.BW_STATUS_BRKON
        false).updBw (fun b =>
          { b with so0Open := true, so1Open := true, so0rb := false, so1rb := false, brkConf := none }) →
      exec (.storageBusCollapse t) s = .next
        (w.updPwr fun p =>
          { p with
            queue := [], accepted := [], up := false, off := true, xDsc := w.dscOn, offAt := some t,
            lwDue := none }))

/-- Mooring ports, beacons and retransmissions complete. A port that comes up shows its peer, and a peer with this
module's own M-ID raises MOOR_ID_DUP. A port that goes down is counted; modules it cuts off are lost, and a ring
without loss becomes a chain with MOOR_RING_BROKEN. Hop delays are recalibrated as half the mean of 16 round trips.
The lead sends beacons; a member adds its hop delay, passes them on with its residence, notes the error and, not yet
joined, loads the count; joined, it moves its count by one fine step, is aligned after three good ones and loses it
after three bad ones with MOOR_TIDE_ERR; a duplicate does neither. The 17th retransmission of a port within 1 ms
raises MOOR_LINK_ERR. Where this rests on a reading or choice of the model, that is log entries 6, 39, 61 and 62.
(R435, R436, R437, R438, R439, R440, R441, R444, R454) -/
def Obligations.MooringRows : Prop :=
  ∀ (t : Nat) (p : Fin 2) (s u : State), u = s.upto t →
    (∀ (peer : Fin 8) (pp : Fin 2) (serial pol trips : Nat) (v : State), s.moorOn = true → serial ≠ s.serialNat →
      v = State.updMoor ((u.sets [(Reg.MOOR_PSTAT_UP p, 1), (Reg.MOOR_PSTAT_TRAIN p, 0), (Reg.MOOR_PSTAT_PEER p, peer),
        (Reg.MOOR_PSTAT_PEERPORT p, pp), (Reg.MOOR_PSTAT_PEERVALID p, 1), (Reg.MOOR_PSTAT_POLINV p, pol),
        (Reg.MOOR_HOPDLY_DELAY p, hopDelay trips)]).incWrap (Reg.MOOR_HOPDLY_CALS p))
        (fun m => { m with heard := m.heard.set p false }) →
      (peer ≠ v.mid → exec (.portUp t p peer pp serial pol trips) s = .next v) ∧
      (peer = v.mid →
        exec (.portUp t p peer pp serial pol trips) s = .next (v.raise .moorIdDup 54 peer t (inst := peer)))) ∧
    (∀ (lost : Nat) (v w x y : State) (cut : List (Fin 8)), s.moorOn = true → s.bit (Reg.MOOR_PSTAT_UP p) = true →
      v = ((u.sets [(Reg.MOOR_PSTAT_UP p, 0), (Reg.MOOR_PSTAT_TRAIN p, 1), (Reg.MOOR_PSTAT_PEERVALID p, 0)]).incHold
        (Reg.MOOR_ERR_DOWN p)).updMoor (fun m => { m with heard := m.heard.set p false }) →
      cut = (mids8.filter fun (m : Fin 8) => lost.testBit m && m != v.mid && v.bit (Reg.MOOR_MEMBER_PRESENT m)) →
      w = cut.foldl (fun (s : State) (m : Fin 8) => s.loseModule t m) v →
      x = (if cut.isEmpty && v.bit Reg.MOOR_GSTAT_TOPO then (w.reroute p).ringBroken t else w) →
      y = (if x.following && !x.leadPath then x.losePath t else x) →
      exec (.portDown t p lost) s = .next (y.set Reg.MOOR_GSTAT_TOPO 0).reForm.announce) ∧
    (∀ trips : Nat, s.bit (Reg.MOOR_PSTAT_UP p) = true → exec (.hopDelayCalibration t p trips) s = .next
      ((u.set (Reg.MOOR_HOPDLY_DELAY p) (hopDelay trips)).incWrap (Reg.MOOR_HOPDLY_CALS p))) ∧
    (s.isLead = true → s.bit (Reg.MOOR_PSTAT_UP p) = true →
      exec (.beaconSend t p) s = .next (u.emit (.moor p 0 [u.tide, 0]))) ∧
    (∀ (beacon path : Nat) (fine : Fin 32) (sum own : Nat) (err : Int) (v w : State), s.isMember = true →
      s.bit (Reg.MOOR_PSTAT_UP p) = true → sum = path + s.get (Reg.MOOR_HOPDLY_DELAY p) →
      w = (u.updMoor fun m => { m with heard := m.heard.set p true }).passBeacon p beacon sum →
      own = 32 * w.tide + fine.val → err = ((32 * beacon + sum : Nat) : Int) - own → v = w.noteTideErr err →
      (v.ownDup = true → exec (.beaconArrival t p beacon path fine) s = .next v) ∧
      (v.ownDup = false → v.moor.joined = true →
        exec (.beaconArrival t p beacon path fine) s = .next (v.followBeacon t own err)) ∧
      (v.ownDup = false → v.moor.joined = false → v.joinOk = true → v.bit Reg.TIDE_STATUS_LOCK = true →
        exec (.beaconArrival t p beacon path fine) s = .next (v.loadTide own (32 * beacon + sum))) ∧
      (v.moor.joined = false → v.joinOk = false ∨ v.bit Reg.TIDE_STATUS_LOCK = false →
        exec (.beaconArrival t p beacon path fine) s = .next v)) ∧
    (∀ (own : Nat) (err : Int) (good bad : Nat) (v x : State),
      v = s.moveCount (if err < 0 then own - 1 else if 0 < err then own + 1 else own) →
      good = (if err.natAbs ≤ 12 then v.moor.good + 1 else 0) →
      bad = (if 256 < 5 * err.natAbs then v.moor.bad + 1 else 0) →
      x = v.updMoor (fun m => { m with good := good, bad := bad }) →
      (bad ≠ 3 → 3 ≤ good → x.joinOk = true → s.followBeacon t own err = x.align t) ∧
      (bad ≠ 3 → good < 3 ∨ x.joinOk = false → s.followBeacon t own err = x) ∧
      (bad = 3 → x.bit Reg.TIDE_STATUS_ALIGNED = true →
        s.followBeacon t own err = ((x.unalign t).set Reg.MOOR_IRQ_SYNC 1).raise .moorTideErr 54 0 t) ∧
      (bad = 3 → x.bit Reg.TIDE_STATUS_ALIGNED = false → s.followBeacon t own err = x.unalign t)) ∧
    (s.bit (Reg.MOOR_PSTAT_UP p) = true → ∀ l : List Nat,
      l = u.tide :: s.moor.retx[p].filter (fun a => decide (u.tide < a + Config.ms)) →
      (l.length ≠ 17 → exec (.flitRetransmission t p) s = .next
        ((u.incHold (Reg.MOOR_ERR_RETX p)).updMoor fun m => { m with retx := m.retx.set p l })) ∧
      (l.length = 17 → exec (.flitRetransmission t p) s = .next
        (((u.incHold (Reg.MOOR_ERR_RETX p)).updMoor fun m => { m with retx := m.retx.set p l }).raise
          .moorLinkErr 54 p t (inst := p))))

/-- Group carriers, GSYNC, membership and forwards complete. On a member, a carrier descriptor is kept and the
carriers locked to it follow, or lose it where it has changed; the third zero-point marker off by more than 51.2
fine steps raises MOOR_SYNC_ERR and loses the source. The lead describes its running carriers. GSYNC edges give the
offset while aligned; after loss of the path the rate follows them, and they lock within 256 fine steps. The
membership is taken with its duplicates, losses and gains; FORMWAIT without it raises MOOR_INCOMPLETE. Doorbells,
relayed commands, group triggers and forwarded faults have their effects. Where this rests on a reading or choice of
the model, that is log entries 6, 7, 39 and 62. (R441, R442, R445, R446, R449, R450, R451, R452, R453) -/
def Obligations.GroupRows : Prop :=
  ∀ (t : Nat) (s u : State), u = s.upto t →
    (∀ (g : Fin 4) (d : CarrierDesc) (v : State), s.isMember = true →
      (s.moor.desc[g] = none ∧ v = u ∨ ∃ o : CarrierDesc, s.moor.desc[g] = some o ∧
        v = (if o.running && !(d.running && o.running && o.period == d.period && o.mode == d.mode &&
            o.phase == d.phase && o.zero % max 1 d.period == d.zero % max 1 d.period) then u.groupLost t g else u)) →
      exec (.carrierDescriptorArrival t g d) s = .next
        ((v.updMoor fun m => { m with desc := m.desc.set g (some d) }).groupRuns t g)) ∧
    (∀ (g : Fin 4) (d : CarrierDesc) (stamp : Int) (n : Nat), s.isMember = true →
      s.bit Reg.TIDE_STATUS_ALIGNED = true → s.moor.desc[g] = some d →
      n = (if 256 < 5 * (zeroDiff stamp (descZero d) d.period).natAbs then s.moor.badMark[g] + 1 else 0) →
      (n ≠ 3 → n ≠ 0 ∨ s.moor.badMark[g] < 3 → exec (.zeroPointMarkerArrival t g stamp) s = .next
        (u.updMoor fun m => { m with badMark := m.badMark.set g n })) ∧
      (n = 0 → 3 ≤ s.moor.badMark[g] → exec (.zeroPointMarkerArrival t g stamp) s = .next
        ((u.updMoor fun m => { m with badMark := m.badMark.set g n }).groupRuns t g)) ∧
      (n = 3 → exec (.zeroPointMarkerArrival t g stamp) s = .next
        ((((u.updMoor fun m => { m with badMark := m.badMark.set g n }).set Reg.MOOR_IRQ_SYNC 1).raise .moorSyncErr 54
          g t (inst := g)).groupLost t g))) ∧
    (∀ (g : Fin 4), s.isLead = true → s.get (Reg.PWM_CTL_SRC g) = 0 → s.running g = true →
      exec (.carrierDescriptorSend t g) s = .next
        (u.sendPorts 2 [g, u.period g, u.get (Reg.PWM_CTL_MODE g), (u.reg (Reg.PWM_PHASE g)).toNat,
          (u.carrier g).zero / 32])) ∧
    (∀ (e ofs : Int) (v : State), s.isMember = true → s.bit Reg.MOOR_GSYNC_USE = true →
      ofs = ((32 * u.tide : Nat) : Int) - e →
      (s.bit Reg.TIDE_STATUS_ALIGNED = true →
        v = u.updMoor (fun m => { m with gsN := m.gsN + 1, gsSum := m.gsSum + ofs }) →
        exec (.gsyncEdge t e) s = .next (v.setI Reg.MOOR_GSOFS_OFS (qRound ⟨v.moor.gsSum, v.moor.gsN⟩))) ∧
      (s.bit Reg.TIDE_STATUS_ALIGNED = false → s.moor.gsFollow = true → v = u.gsTrim →
        ((ofs - v.getI Reg.MOOR_GSOFS_OFS).natAbs ≤ 256 →
          exec (.gsyncEdge t e) s = .next (v.set Reg.MOOR_GSYNC_GSLOCK 1)) ∧
        (256 < (ofs - v.getI Reg.MOOR_GSOFS_OFS).natAbs → exec (.gsyncEdge t e) s = .next v)) ∧
      (s.bit Reg.TIDE_STATUS_ALIGNED = false → s.moor.gsFollow = false →
        exec (.gsyncEdge t e) s = .next u)) ∧
    (exec (.gsyncLoss t) s = .next
      ((u.set Reg.MOOR_GSYNC_GSLOCK 0).updMoor fun m => { m with gsRate := 0 })) ∧
    (∀ (ms ok : List MemberIn) (ring forming own : Bool) (told lost : List (Fin 8)) (v w x y z : State),
      s.moorOn = true → own = (ms.any fun m => m.mid == s.mid && m.serial != s.serialNat) →
      told = (if s.isLead then dupMids ms ++ (if own then [s.mid] else [])
        else if own || (dupMids ms).contains s.mid then [s.mid] else []) →
      v = told.eraseDups.foldl (fun s d => s.raise .moorIdDup 54 d t (inst := d.val))
        (u.updMoor fun m => { m with dup := own }) →
      ok = (if v.ownDup then [] else ms.filter fun m => !(dupMids ms).contains m.mid && m.mid != v.mid) →
      lost = (v.others.filter fun (m : Fin 8) => !(ok.any fun x => x.mid == m)) →
      w = ok.foldl State.gainModule (lost.foldl (fun (s : State) (m : Fin 8) => s.loseModule t m) v) →
      x = w.setB Reg.MOOR_GSTAT_TOPO (w.ringFound ring) →
      y = (if v.bit Reg.MOOR_GSTAT_TOPO && lost.isEmpty && !x.bit Reg.MOOR_GSTAT_TOPO then x.ringBroken t else x) →
      z = (if y.isLead then y else y.setB Reg.MOOR_GSTAT_FORMING forming) →
      exec (.membershipUpdate t ms ring forming) s = .next z.remask.reForm.announce) ∧
    (∀ f : Nat, s.isLead = true → s.moor.formFrom = some f →
      f + s.get Reg.MOOR_GCFG_FORMWAIT * Config.sec ≤ u.tide → s.bit Reg.MOOR_GSTAT_FORMED = false →
      exec (.formwaitExpiry t) s = .next
        ((u.sets [(Reg.MOOR_GSTAT_FORMED, 1), (Reg.MOOR_IRQ_FORMED, 1)]).raise .moorIncomplete 54 0 t)) ∧
    (∀ (m : Fin 8) (b : Fin 32), s.moorOn = true → exec (.remoteDoorbell t m b) s = .next
      (u.sets [(Reg.MOOR_RDB_BERTH m, s.get (Reg.MOOR_RDB_BERTH m) ||| 2 ^ b.val), (Reg.MOOR_IRQ_DOORBELL, 1)])) ∧
    (∀ (k ip port : Nat) (b : List Byte), s.isLead = true → 8 ≤ k → exec (.relayedCommand t k ip port b) s = .next
      (if (s.get Reg.MOOR_GSTAT_MASK).testBit (k - 8) then
        u.emit (.udpFrom (s.get Reg.ETH_UDPPORT_PORT + (k - 8)) ip port b) else u)) ∧
    (∀ (k ip port : Nat) (b : List Byte), s.isLead = true → k < 8 → s.bit Reg.MOOR_CTL_RELAY = true →
      exec (.relayedCommand t k ip port b) s = .next (u.relay k ip port b)) ∧
    (∀ (ip port : Nat) (b : List Byte), s.isLead = false → s.isMember = true →
      exec (.relayedCommand t s.mid.val ip port b) s = .next (u.arrive (.udpRelay ip port) b none)) ∧
    (∀ k : Nat, s.moorOn = true → s.isLead = true ∨ s.bit (Reg.MOOR_MEMBER_PRESENT 0) = true →
      exec (.groupLogbookTrigger t k) s = .next (u.logTriggerAt k)) ∧
    (∀ (f : ForwardIn) (v : State), s.isLead = true →
      v = (u.sets [(Reg.MOOR_MEMBER_EPOCH f.mid, f.epoch), (Reg.MOOR_MEMBER_MSTATE f.mid, f.mstate)]).updFm (fun m =>
        { m with
          groupLost := m.groupLost.filter (fun p => p.1 != f.mid.val) ++
            (if f.ovfl then [(f.mid.val, f.lost)] else []) }) →
      (f.what = 0 → (f.fault.epoch == f.epoch && slotReleased Config.releaseGroup v.tide f.fault.stamp) = false →
        exec (.faultForward t f) s = .next
          (v.updFm fun m => { m with group := insertEntry (forwardEntry f) m.group })) ∧
      (f.what = 0 → (f.fault.epoch == f.epoch && slotReleased Config.releaseGroup v.tide f.fault.stamp) = true →
        exec (.faultForward t f) s = .next
          ((v.updFm fun m => { m with group := insertEntry (forwardEntry f) m.group }).enterQueue
            { name := .orderLate, src := 0, detail := f.fault.src, stamp := v.tide, sev := 0, inst := 0
              axes := 0, epoch := v.epoch } 0 0 false false)) ∧
      (f.what = 1 → exec (.faultForward t f) s = .next
        (v.updFm fun m =>
          { m with
            group := m.group.map fun e =>
              if sameForward f e then
                { e with
                  sev := faultSev f.fault, cause := f.cause, latched := f.latched, retry := f.retry
                  detail := f.fault.detail % 2 ^ 32 }
              else e })) ∧
      (f.what = 2 → exec (.faultForward t f) s = .next
        (v.updFm fun m => { m with group := m.group.filter fun e => !sameForward f e })) ∧
      (f.what = 3 → exec (.faultForward t f) s = .next v))

/-- Nothing is carried out for a refused command. Where the packet at the head of the front-end queue fails one of
checks 7 to 11 (sequence number, authentication, target, length, module state), or there is none, or nothing is
answered, no command row changes anything but Harbourmaster's own state, its registers, the reply and what leaves
the module: every axis, carrier, leg, gate, engine, converter, port, safety function, core and flash operation stays
as it was. Where this rests on a reading or choice of the model, that is log entries 15, 16 and 59. (R81, R84, R95,
R103) -/
def Obligations.RefusedCommandsCarryNothingOut : Prop :=
  ∀ (t : Nat) (gone : List (FName × Nat × Nat)) (s u : State) (c : Instr),
    c ∈ ([.ping t, .getInfo t, .regRead t, .regWrite t, .regModify t, .manifestRead t, .manifestWrite t, .manifestCommit t,
      .axisStateCmd t, .torqueCmd t, .speedCmd t, .lineCmd t, .programLoad t, .coeffWrite t, .coeffRead t, .faultRead t,
      .faultClear t gone, .logbookArm t, .logbookDisarm t, .logbookTriggerNow t, .logbookRead t, .diagRun t,
      .tuneStart t, .tuneResult t, .fwUpdateStart t, .fwUpdateData t, .fwUpdateFinish t, .fwUpdateAbort t,
      .fwUpdateConfirm t, .sessionOpen t, .sessionProgramSlot t, .sessionRevokeSlot t, .sessionClose t,
      .safetyParamWrite t, .safetyParamVerify t, .groupForm t] : List Instr) →
    s.passed t = none → exec c s = .next u → (s.upto t).SameDevice u

/-- Commands that read, stage or manage sessions and updates touch no device. Whatever they are answered, PING,
GET_INFO, MANIFEST_READ, MANIFEST_WRITE, COEFF_READ, FAULT_READ, TUNE_RESULT, the session commands and the phases
START, DATA, FINISH and ABORT of FW_UPDATE change nothing but Harbourmaster's own state, its registers, the reply
and what leaves the module. (R93, R96, R104, R109, R121) -/
def Obligations.ReadingCommandsTouchNoDevice : Prop :=
  ∀ (t : Nat) (s u : State) (c : Instr),
    c ∈ ([.ping t, .getInfo t, .manifestRead t, .manifestWrite t, .coeffRead t, .faultRead t, .tuneResult t, .sessionOpen t,
      .sessionProgramSlot t, .sessionRevokeSlot t, .sessionClose t, .fwUpdateStart t, .fwUpdateData t,
      .fwUpdateFinish t, .fwUpdateAbort t] : List Instr) →
    exec c s = .next u → (s.upto t).SameDevice u

/-- Rows that store nothing leave every byte of memory. Whatever the state, a command that is none of those that may
store (answers to cores, receive rings, transmit rings, flash, the ring of the Logbook, memory accesses, starts)
leaves every byte of the address space as it was: every instruction of an engine, every event of the carriers,
gates, converters, feedback ports, Breakwater, Lookout, Tide and Mooring, every read access and all berth and
arbiter events among them. Where this rests on a reading or choice of the model, that is log entry 5. (R36, R38,
R39, R222) -/
def Obligations.MemoryIsKept : Prop :=
  ∀ (c : Instr) (s u : State), mayStore c = false → exec c s = .next u → ∀ a : Nat, u.byte a = s.byte a

/-- A memory write stores its four bytes and nothing else. A write of SRAM or DRAM by a requester that may write
there, outside protected regions: the word reads back at its address, every byte outside its four bytes and every
register but PERF_IRQ, where a sample of the writing core may show, reads as before. Where this rests on a reading
or choice of the model, that is log entries 2, 5 and 64. (R11, R38, R39, R400) -/
def Obligations.MemoryWordStored : Prop :=
  ∀ (t req addr : Nat) (w : Word) (s x : State), x = s.busAt t req true →
    (0x10000000 ≤ addr ∧ addr < 0x10400000 ∨ 0x80000000 ≤ addr ∧ addr < 0x25C000000) →
    x.mayWriteMem req = true → x.writableMem addr 4 = true →
    ∃ u : State, exec (.registerWrite t req addr 4 w) s = .next u ∧ u.memWord addr = w ∧
      (∀ a : Nat, a < addr ∨ addr + 4 ≤ a → u.byte a = s.byte a) ∧ ∀ r : Nat, r ≠ Reg.PERF_IRQ → u.reg r = s.reg r

/-- An accepted register write changes its register alone, and only its writable bits. What an accepted write
stores: every byte of memory reads as before, every other register reads as it does once the gate edges up to the
write have been placed (placeFirst, which outside the PWM and gate blocks does nothing), and in the register itself
every bit that no RW or W1C field covers (reserved bits, RO and RC fields) keeps its value. Where this rests on a
reading or choice of the model, that is log entry 24. (R13, R14, R16) -/
def Obligations.RegisterFrame : Prop :=
  ∀ (s u : State) (req a : Nat) (w : Word), s.accepted req a w = some u →
    (∀ b : Nat, b ≠ a → u.reg b = (s.placeFirst a).reg b) ∧ (a / 0x10000 ≠ 2 → a / 0x10000 ≠ 3 → s.placeFirst a = s) ∧
    (∀ x : Nat, u.byte x = s.byte x) ∧
    ∃ (d : RDesc) (ix : List Nat), findReg a = some (d, ix) ∧ u.reg a = newWord d ix (s.reg a) w ∧
      ∀ i : Nat, i < 32 →
        (∀ f ∈ d.fields, f.acc = .rw ∨ f.acc = .w1c → i < f.lo ∨ f.lo + f.len ≤ i) →
        (u.reg a).getLsbD i = (s.reg a).getLsbD i

/-- The fault queue stays in order and within 64 entries. An entry put into a view of entries of its module and
epoch that is in the order of R63 (order slot, then order key, then stamp) leaves it in that order; and a fault that
arrives never makes the queue longer than 64 entries. Where this rests on a reading or choice of the model, that is
log entries 12 and 61. (R63, R66, R337) -/
def Obligations.ViewsStayOrdered : Prop :=
  (∀ (e : Entry) (l : List Entry), (∀ x ∈ l, x.mid = e.mid ∧ x.epoch = e.epoch) →
    l.Pairwise (fun a b => b.before a = false) → (insertEntry e l).Pairwise (fun a b => b.before a = false)) ∧
  (∀ (s : State) (f : FaultIn) (sev req : Nat) (latched retry : Bool), s.fm.queue.length ≤ 64 →
    (s.enterQueue f sev req latched retry).fm.queue.length ≤ 64)

/-- No arriving fault lowers a reaction. A fault of any severity that becomes active leaves the reaction in force of
every axis at least as high as it was, and on the axes of its scope at least at its own severity. (R334, R336) -/
def Obligations.NoArrivalLowersAReaction : Prop :=
  ∀ (s : State) (f : FaultIn) (sev : Nat) (latched : Bool) (n : Fin 4),
    s.reactionOf n ≤ (s.activate f sev latched).reactionOf n ∧
    ((s.scopeOf f).1.getLsbD n.val = true → sev ≤ (s.activate f sev latched).reactionOf n)

/-- A draw grants an active slot by its tickets. Among any active slots a draw has a winner, which is one of them.
Where they hold tickets, the winner is the lowest slot whose running sum of tickets exceeds x = (lfsr * t) >> 16, so
it holds a ticket itself; where none does, it is the next active slot after the last winner, or the first. (R414) -/
def Obligations.LotteryDrawsByTickets : Prop :=
  ∀ (tk : Fin 8 → Nat) (lfsr last : Nat) (act : List (Fin 8)), act ≠ [] → lfsr < 65536 →
    ∃ w ∈ act, drawWinner tk lfsr last act = some w ∧
      (0 < (act.map tk).sum → 0 < tk w ∧ ∃ p q : List (Fin 8), act = p ++ w :: q ∧
        (p.map tk).sum ≤ lfsr * (act.map tk).sum / 65536 ∧
        lfsr * (act.map tk).sum / 65536 < (p.map tk).sum + tk w) ∧
      ((act.map tk).sum = 0 → act.find? (fun i => last < i.val) = some w ∨
        (∀ i ∈ act, i.val ≤ last) ∧ act.head? = some w)

/-- A register write rounds each lane by at most half a unit of the shared exponent. Without FIXE and RTZ, and where
the write sets none of SAT, EXOV and EXUF: every lane of the written register differs from its exact result by at
most 2^(E-24), E the shared exponent of the register. (R206, R211) -/
def Obligations.RoundingWithinHalfAUnit : Prop :=
  ∀ (old : VReg) (r : Lanes) (v : VReg) (i : Fin 8), resultReg old false false r = (v, {}) →
    qLe (qAbs (qSub (v.lane i) r[i])) (qPow2 (v.exp - 24)) = true

/-- The first access error is captured. Every access error goes through one operation: while VALID is 1 it leaves
the capture as it is and only advances the count, which holds at its maximum; while VALID is 0 it also captures
requester, direction, kind and address. A loop engine as the requester has its PORTERR flag set first. Where this
rests on a reading or choice of the model, that is log entry 24. (R43) -/
def Obligations.AccessErrorsAreCaptured : Prop :=
  ∀ (r s : State) (req addr kind : Nat) (write : Bool), s = r.engineError req addr write →
    (req < 7 ∨ 10 < req → s = r) ∧
    (s.bit Reg.SYS_ACCERR_VALID = true →
      r.accessError req addr kind write = s.incHold Reg.SYS_ACCERR_CNT_COUNT) ∧
    (s.bit Reg.SYS_ACCERR_VALID = false → req < 128 → kind < 8 → addr < 2 ^ 40 →
      (r.accessError req addr kind write).bit Reg.SYS_ACCERR_VALID = true ∧
      (r.accessError req addr kind write).get Reg.SYS_ACCERR_REQ = req ∧
      (r.accessError req addr kind write).get Reg.SYS_ACCERR_KIND = kind ∧
      (r.accessError req addr kind write).bit Reg.SYS_ACCERR_WRITE = write ∧
      (r.accessError req addr kind write).get Reg.SYS_ACCERR_ADDL_ADDR +
        2 ^ 32 * (r.accessError req addr kind write).get Reg.SYS_ACCERR_ADDH_ADDR = addr ∧
      (r.accessError req addr kind write).get Reg.SYS_ACCERR_CNT_COUNT =
        min (s.get Reg.SYS_ACCERR_CNT_COUNT + 1) 65535)

/-- Writes of message words. The write of a berth's message word by any requester that may write the block: by
anyone but the sender of the enabled berth it is an access error of kind 2; by the sender, while the berth is full,
it is discarded, sets DROP and advances DROPS; while it is empty, offsets 0x00-0x38 store the word, and offset 0x3C
stores it, sets FULL and raises the receiver's doorbell: the line of its own core, or, for a receiver of another
module, the doorbell that leaves by Mooring. Where this rests on a reading or choice of the model, that is log entry
3. (R405) -/
def Obligations.MessageWrites : Prop :=
  ∀ (t req : Nat) (b : Fin 32) (w : Word) (s u : State), u = s.busAt t req true → u.mayWrite req 9 = true →
    (∀ k : Fin 16, s.bit (Reg.BERTH_CFG_EN b) = false ∨ s.get (Reg.BERTH_CFG_SENDER b) ≠ req →
      exec (.berthMessageWrite t req b k w) s = .next
        (u.accessError req (regAddr (Reg.BERTH_MSG b k)) 2 true)) ∧
    (s.bit (Reg.BERTH_CFG_EN b) = true → s.get (Reg.BERTH_CFG_SENDER b) = req →
      (∀ k : Fin 16, s.bit (Reg.BERTH_STAT_FULL b) = true →
        exec (.berthMessageWrite t req b k w) s = .next
          ((u.set (Reg.BERTH_STAT_DROP b) 1).incHold (Reg.BERTH_STAT_DROPS b))) ∧
      (∀ k : Fin 16, k ≠ 15 → s.bit (Reg.BERTH_STAT_FULL b) = false →
        exec (.berthMessageWrite t req b k w) s = .next (u.setReg (Reg.BERTH_MSG b k) w)) ∧
      (s.bit (Reg.BERTH_STAT_FULL b) = false → ∃ v x : State,
        v = (u.setReg (Reg.BERTH_MSG b 15) w).set (Reg.BERTH_STAT_FULL b) 1 ∧
        exec (.berthMessageWrite t req b 15 w) s = .next x ∧
        (reqModule (s.get (Reg.BERTH_CFG_RECEIVER b)) = none → x = v) ∧
        (∀ mid : Nat, reqModule (s.get (Reg.BERTH_CFG_RECEIVER b)) = some mid →
          x = v.sendTo (Fin.ofNat 8 mid) 4 [b.val, s.get (Reg.BERTH_CFG_RECEIVER b)]) ∧
        x.line (s.get (Reg.BERTH_CFG_RECEIVER b)) b = true))

/-- A read of a bollard. A read of BERTH_Kk while the bollard is free returns 0 and makes the reader its owner;
while it is owned, the read returns the owner and changes nothing, for the owner itself as for anyone else.
BOLLARD_CLAIM_READ is that read: of two reads that arrive together, the one that is taken second meets an owned
bollard. (R408) -/
def Obligations.BollardReads : Prop :=
  ∀ (t req : Nat) (k : Fin 16) (s u : State), u = s.busAt t req false →
    (s.get (Reg.BERTH_KOWN_OWNER k) = 0 →
      u.busRead req (regAddr (Reg.BERTH_K k)) 4 = (u.set (Reg.BERTH_KOWN_OWNER k) req, .ok 0) ∧
      exec (.bollardClaimRead t req k) s = .next (u.set (Reg.BERTH_KOWN_OWNER k) req) ∧
      (req < 128 → (u.set (Reg.BERTH_KOWN_OWNER k) req).get (Reg.BERTH_KOWN_OWNER k) = req)) ∧
    (s.get (Reg.BERTH_KOWN_OWNER k) ≠ 0 →
      u.busRead req (regAddr (Reg.BERTH_K k)) 4 = (u, .ok (BitVec.ofNat 32 (s.get (Reg.BERTH_KOWN_OWNER k)))) ∧
      exec (.bollardClaimRead t req k) s = .next u)

/-- A write of a bollard. The write of BERTH_Kk by any requester that may write the block: a write of 0 by the owner
frees the bollard; any other write, of another value or by a non-owner, changes nothing but that it advances BADWR,
which holds at its maximum. Neither is an access error. (R409) -/
def Obligations.BollardWrites : Prop :=
  ∀ (t req : Nat) (k : Fin 16) (w : Word) (s u : State), u = s.busAt t req true → u.mayWrite req 9 = true →
    (w = 0 ∧ s.get (Reg.BERTH_KOWN_OWNER k) = req → req ≠ 0 →
      exec (.bollardWrite t req k w) s = .next (u.set (Reg.BERTH_KOWN_OWNER k) 0) ∧
      (u.set (Reg.BERTH_KOWN_OWNER k) 0).get (Reg.BERTH_KOWN_OWNER k) = 0) ∧
    (w ≠ 0 ∨ s.get (Reg.BERTH_KOWN_OWNER k) ≠ req →
      exec (.bollardWrite t req k w) s = .next (u.incHold (Reg.BERTH_KOWN_BADWR k)))

/-- Reads of the Tide count. A read of TIDE_NOW_L returns bits 31:0 of the count and captures all 64 bits for the
reading requester; a read of TIDE_NOW_H by that requester then returns bits 63:32 of the capture; the captures of
all other requesters are as before. (R48) -/
def Obligations.TideReads : Prop :=
  ∀ (t req : Nat) (s u : State), u = s.busAt t req false → ∃ v : State,
    exec (.tideNowLRead t req) s = .next v ∧
    u.busRead req (regAddr Reg.TIDE_NOW_L) 4 = (v, .ok (BitVec.ofNat 32 u.tide)) ∧
    v.busRead req (regAddr Reg.TIDE_NOW_H) 4 = (v, .ok (BitVec.ofNat 32 (u.tide / 2 ^ 32))) ∧
    ∀ r : Nat, r ≠ req →
      (v.busRead r (regAddr Reg.TIDE_NOW_H) 4).2 = (u.busRead r (regAddr Reg.TIDE_NOW_H) 4).2

/-- Reads of messages and of zero points. The receiver's read of a message's last word empties the berth; a read of
it by anyone else changes nothing. A read of PWM_ZEROLn takes the requester's capture of the carrier's last zero
point. (R406, R286) -/
def Obligations.MessageReads : Prop :=
  ∀ (t req : Nat) (s u : State), u = s.busAt t req false →
    (∀ b : Fin 32, s.get (Reg.BERTH_CFG_RECEIVER b) = req → req ≠ 0 →
      exec (.berthReceiveRead t req b) s = .next (u.set (Reg.BERTH_STAT_FULL b) 0)) ∧
    (∀ b : Fin 32, s.get (Reg.BERTH_CFG_RECEIVER b) ≠ req ∨ req = 0 →
      exec (.berthReceiveRead t req b) s = .next u) ∧
    (∀ n : Fin 4, exec (.pwmZerolRead t req n) s = .next
      { u with zcaps := capPut u.zcaps (4 * req + n) ((u.carrier n).zero / 32) })

/-- AXIS_STATE follows the transition table. For an axis with no move, no rail enable and no DIAG_RUN of its own
pending: to the state it is in, AXIS_STATE with option 0 answers OK and changes nothing (HOLD to HOLD is no such
case: the gate mode changes), and with another option ERR_RANGE, Detail 1; a transition that the table gives
ERR_STATE is answered ERR_STATE with the module and axis state, and nothing changes, and so is a move out of FAULT
under an active fault of severity 3 or above; where the table says yes and Lookout holds SAFE, the answer is
ERR_SAFETY, and nothing changes. HOLD with ASC on a line axis, and HOLD with an option above 1, are ERR_RANGE,
Detail 1. Where this rests on a reading or choice of the model, that is log entry 17. (R98, R103, R104) -/
def Obligations.AxisTransitions : Prop :=
  ∀ (s : State) (n : Fin 4) (dst : AxState) (option : Nat), (s.axis n).pendTo = none → s.enabling n = false →
    (s.axis n).diag = none →
    let st := (s.axis n).st
    (dst = st → st ∈ [.off, .diag, .ready, .run] → option = 0 → s.axisRequest n dst option = (s, .ok)) ∧
    (dst = st → st ∈ [.off, .diag, .ready, .run] → option ≠ 0 →
      s.axisRequest n dst option = (s, .refused errRange 1)) ∧
    ((st, dst) ∈ ([(.off, .run), (.off, .hold), (.diag, .run), (.diag, .hold), (.run, .diag), (.hold, .diag),
        (.tune, .diag), (.tune, .run), (.fault, .diag), (.fault, .run), (.fault, .hold), (.safe, .diag),
        (.safe, .run), (.safe, .hold)] : List (AxState × AxState)) →
      s.axisRequest n dst option = (s, .refused errState (s.stateDetail (some n)))) ∧
    (st = .fault → s.faulted n = true → (dst = .off ∨ dst = .ready) →
      s.axisRequest n dst option = (s, .refused errState (s.stateDetail (some n)))) ∧
    ((st, dst) ∈ ([(.off, .diag), (.off, .ready), (.diag, .off), (.diag, .ready), (.ready, .off), (.ready, .diag),
        (.ready, .run), (.ready, .hold), (.run, .off), (.run, .ready), (.run, .hold), (.hold, .off),
        (.hold, .ready), (.hold, .run), (.hold, .hold), (.tune, .off), (.tune, .ready), (.tune, .hold),
        (.fault, .off), (.fault, .ready), (.safe, .off), (.safe, .ready)] : List (AxState × AxState)) →
      (st = .fault → s.faulted n = false) →
      ((s.axis n).safeHeld = true → s.axisRequest n dst option = (s, .refused errSafety 0)) ∧
      ((s.axis n).safeHeld = false → s.lk.fresh = false → dst = .hold → option = 1 → s.isLine n = true →
        s.axisRequest n dst option = (s, .refused errRange 1)) ∧
      ((s.axis n).safeHeld = false → s.lk.fresh = false → dst = .hold → s.ascRefused n .hold false = false →
        1 < option → s.axisRequest n dst option = (s, .refused errRange 1)))
end

