-- ==== Sys2Proof/Laws/Store.lean ====
section
/-! SUPPORT. Laws of the sparse stores: a read after a write, and the canonical form. -/

namespace Sys2Proof.Machine

variable {α : Type}

theorem stoGet_erase_same (m : List (Nat × α)) (a : Nat) (d : α) : stoGet (stoErase m a) a d = d := by
  induction m with
  | nil => rfl
  | cons p r ih =>
    obtain ⟨k, v⟩ := p
    by_cases h : k = a <;> simp [stoErase, stoGet, h, ih]

theorem stoGet_erase_other (m : List (Nat × α)) {a b : Nat} (h : b ≠ a) (d : α) :
    stoGet (stoErase m a) b d = stoGet m b d := by
  induction m with
  | nil => rfl
  | cons p r ih =>
    obtain ⟨k, v⟩ := p
    by_cases hk : k = a
    · simp [stoErase, stoGet, hk, ih, Ne.symm h]
    · simp only [stoErase, if_neg hk, stoGet, ih]

theorem stoGet_insert_same (m : List (Nat × α)) (a : Nat) (v d : α) (h : stoGet m a v = v) :
    stoGet (stoInsert m a v) a d = v := by
  induction m with
  | nil => simp [stoInsert, stoGet]
  | cons p r ih =>
    obtain ⟨k, w⟩ := p
    by_cases hk : a < k
    · simp [stoInsert, stoGet, hk]
    · by_cases he : k = a
      · simp [stoGet, he] at h
        simp [stoInsert, stoGet, he, h]
      · simp only [stoGet, if_neg he] at h
        simp [stoInsert, stoGet, hk, he, ih h]

theorem stoGet_insert_other (m : List (Nat × α)) {a b : Nat} (h : b ≠ a) (v d : α) :
    stoGet (stoInsert m a v) b d = stoGet m b d := by
  induction m with
  | nil => simp [stoInsert, stoGet, Ne.symm h]
  | cons p r ih =>
    obtain ⟨k, w⟩ := p
    by_cases hk : a < k
    · simp [stoInsert, stoGet, hk, Ne.symm h]
    · simp only [stoInsert, if_neg hk, stoGet, ih]

/-- A read after a write to the same key gives the value written. -/
@[simp] theorem stoGet_put_same [DecidableEq α] (m : List (Nat × α)) (a : Nat) (v d : α) :
    stoGet (stoPut m a v d) a d = v := by
  unfold stoPut
  split
  · next h => rw [h]; exact stoGet_erase_same m a d
  · exact stoGet_insert_same _ a v d (stoGet_erase_same m a v)

/-- A write leaves every other key alone. -/
theorem stoGet_put_other [DecidableEq α] (m : List (Nat × α)) {a b : Nat} (h : b ≠ a) (v d e : α) :
    stoGet (stoPut m a v d) b e = stoGet m b e := by
  unfold stoPut
  split
  · exact stoGet_erase_other m h e
  · rw [stoGet_insert_other _ h, stoGet_erase_other m h]

/-! ### The canonical form -/

theorem stoErase_not_mem (m : List (Nat × α)) (a : Nat) : ∀ p ∈ stoErase m a, p.1 ≠ a := by
  induction m with
  | nil => simp [stoErase]
  | cons p r ih =>
    obtain ⟨k, v⟩ := p
    by_cases hk : k = a
    · simpa [stoErase, hk] using ih
    · simpa [stoErase, hk] using ih

section Canon

variable [DecidableEq α] {d : Nat → α}

theorem stoWfFrom_cons {lo : Option Nat} {k : Nat} {v : α} {r : List (Nat × α)} :
    stoWfFrom d lo ((k, v) :: r) = true ↔ (∀ b ∈ lo, b < k) ∧ v ≠ d k ∧ stoWfFrom d (some k) r = true := by
  cases lo <;> simp [stoWfFrom, and_assoc]

theorem stoWfFrom_weaken {lo lo' : Option Nat} {m : List (Nat × α)} (h : stoWfFrom d lo m = true)
    (hl : ∀ b ∈ lo', ∃ c ∈ lo, b ≤ c) : stoWfFrom d lo' m = true := by
  cases m with
  | nil => rfl
  | cons p r =>
    obtain ⟨k, v⟩ := p
    rw [stoWfFrom_cons] at h ⊢
    refine ⟨fun b hb => ?_, h.2⟩
    obtain ⟨c, hc, hbc⟩ := hl b hb
    exact Nat.lt_of_le_of_lt hbc (h.1 c hc)

theorem stoErase_wf {lo : Option Nat} {m : List (Nat × α)} (h : stoWfFrom d lo m = true) (a : Nat) :
    stoWfFrom d lo (stoErase m a) = true := by
  induction m generalizing lo with
  | nil => rfl
  | cons p r ih =>
    obtain ⟨k, v⟩ := p
    rw [stoWfFrom_cons] at h
    by_cases hk : k = a
    · simp only [stoErase, hk, if_pos]
      refine stoWfFrom_weaken (ih h.2.2) fun b hb => ⟨k, rfl, Nat.le_of_lt (h.1 b hb)⟩
    · simp only [stoErase, if_neg hk]
      exact stoWfFrom_cons.2 ⟨h.1, h.2.1, ih h.2.2⟩

theorem stoInsert_wf {lo : Option Nat} {m : List (Nat × α)} (h : stoWfFrom d lo m = true) {a : Nat} {v : α}
    (ha : ∀ b ∈ lo, b < a) (hv : v ≠ d a) (hn : ∀ p ∈ m, p.1 ≠ a) : stoWfFrom d lo (stoInsert m a v) = true := by
  induction m generalizing lo with
  | nil => exact stoWfFrom_cons.2 ⟨ha, hv, rfl⟩
  | cons p r ih =>
    obtain ⟨k, w⟩ := p
    rw [stoWfFrom_cons] at h
    by_cases hk : a < k
    · simp only [stoInsert, if_pos hk]
      exact stoWfFrom_cons.2 ⟨ha, hv, stoWfFrom_cons.2 ⟨by simpa using hk, h.2⟩⟩
    · simp only [stoInsert, if_neg hk]
      have hka : k ≠ a := hn (k, w) (by simp)
      refine stoWfFrom_cons.2 ⟨h.1, h.2.1, ih h.2.2 (by simp; omega) fun q hq => hn q (by simp [hq])⟩

/-- A write keeps the canonical form. -/
theorem stoPut_wf {m : List (Nat × α)} (h : stoWf d m = true) (a : Nat) (v : α) :
    stoWf d (stoPut m a v (d a)) = true := by
  unfold stoPut
  split
  · exact stoErase_wf h a
  · next hv => exact stoInsert_wf (stoErase_wf h a) (by simp) hv (stoErase_not_mem m a)

/-- Dropping entries keeps the canonical form. -/
theorem stoFilter_wfFrom {lo : Option Nat} {m : List (Nat × α)} (h : stoWfFrom d lo m = true)
    (p : Nat × α → Bool) : stoWfFrom d lo (m.filter p) = true := by
  induction m generalizing lo with
  | nil => rfl
  | cons q r ih =>
    obtain ⟨k, v⟩ := q
    rw [stoWfFrom_cons] at h
    by_cases hp : p (k, v) = true
    · rw [List.filter_cons_of_pos hp]
      exact stoWfFrom_cons.2 ⟨h.1, h.2.1, ih h.2.2⟩
    · rw [List.filter_cons_of_neg hp]
      exact stoWfFrom_weaken (ih h.2.2) fun b hb => ⟨k, rfl, Nat.le_of_lt (h.1 b hb)⟩

theorem stoFilter_wf {m : List (Nat × α)} (h : stoWf d m = true) (p : Nat × α → Bool) :
    stoWf d (m.filter p) = true := stoFilter_wfFrom h p

end Canon

/-! ### Memory -/

/-- A write of a byte keeps the memory canonical. -/
theorem setByte_wf {s : State} (h : Memory.wf s.mem = true) (a : Nat) (b : Byte) :
    Memory.wf (s.setByte a b).mem = true := stoPut_wf h a b

/-- A write of bytes keeps the memory canonical. -/
theorem setBytes_wf {s : State} (h : Memory.wf s.mem = true) (a : Nat) (l : List Byte) :
    Memory.wf (s.setBytes a l).mem = true := by
  induction l generalizing s a with
  | nil => exact h
  | cons b r ih => exact ih (setByte_wf h a b) (a + 1)

/-- A byte just written is read back. -/
@[simp] theorem byte_setByte_same (s : State) (a : Nat) (b : Byte) : (s.setByte a b).byte a = b :=
  stoGet_put_same ..

/-- A write of a byte leaves every other byte alone. -/
theorem byte_setByte_other (s : State) {a c : Nat} (h : c ≠ a) (b : Byte) : (s.setByte a b).byte c = s.byte c :=
  stoGet_put_other _ h ..

/-- A write of bytes leaves every byte outside them alone. -/
theorem byte_setBytes_other (s : State) (a c : Nat) (l : List Byte) (h : c < a ∨ a + l.length ≤ c) :
    (s.setBytes a l).byte c = s.byte c := by
  induction l generalizing s a with
  | nil => rfl
  | cons b r ih =>
    have hl : (b :: r).length = r.length + 1 := rfl
    rw [hl] at h
    rw [State.setBytes, ih (s.setByte a b) (a + 1) (by omega), byte_setByte_other s (by omega)]

/-! ### Registers -/

/-- A write of a register keeps the register store canonical. -/
theorem setReg_wf {s : State} (h : Regs.wf s.regs = true) (a : Nat) (w : Word) :
    Regs.wf (s.setReg a w).regs = true := stoPut_wf h a w

/-- A register just written is read back. -/
@[simp] theorem reg_setReg_same (s : State) (a : Nat) (w : Word) : (s.setReg a w).reg a = w := stoGet_put_same ..

/-- A write of a register leaves every other register alone. -/
theorem reg_setReg_other (s : State) {a b : Nat} (h : b ≠ a) (w : Word) : (s.setReg a w).reg b = s.reg b :=
  stoGet_put_other _ h ..

end Sys2Proof.Machine
end

