-- ==== Sys2Proof/Laws/State.lean ====
section
/-! SUPPORT. One lemma per field per update of the state: an update changes its own field and leaves the others. -/

namespace Sys2Proof.Machine

/-! ### `upto` -/

@[simp] theorem upto_pending (s : State) (t : Nat) : (s.upto t).pending = s.pending := rfl
@[simp] theorem upto_free (s : State) (t : Nat) : (s.upto t).free = s.free := rfl
@[simp] theorem upto_out (s : State) (t : Nat) : (s.upto t).out = s.out := rfl
@[simp] theorem upto_tide (s : State) (t : Nat) : (s.upto t).tide = max s.tide t := rfl
@[simp] theorem upto_backup (s : State) (t : Nat) : (s.upto t).backup = s.backup := rfl
@[simp] theorem upto_caps (s : State) (t : Nat) : (s.upto t).caps = s.caps := rfl
@[simp] theorem upto_zcaps (s : State) (t : Nat) : (s.upto t).zcaps = s.zcaps := rfl
@[simp] theorem upto_regs (s : State) (t : Nat) : (s.upto t).regs = s.regs := rfl
@[simp] theorem upto_mem (s : State) (t : Nat) : (s.upto t).mem = s.mem := rfl
@[simp] theorem upto_mid (s : State) (t : Nat) : (s.upto t).mid = s.mid := rfl
@[simp] theorem upto_dl (s : State) (t : Nat) : (s.upto t).dl = s.dl := rfl
@[simp] theorem upto_rail (s : State) (t : Nat) : (s.upto t).rail = s.rail := rfl
@[simp] theorem upto_asd (s : State) (t : Nat) : (s.upto t).asd = s.asd := rfl
@[simp] theorem upto_hm (s : State) (t : Nat) : (s.upto t).hm = s.hm := rfl
@[simp] theorem upto_fm (s : State) (t : Nat) : (s.upto t).fm = s.fm := rfl
@[simp] theorem upto_axes (s : State) (t : Nat) : (s.upto t).axes = s.axes := rfl
@[simp] theorem upto_pwm (s : State) (t : Nat) : (s.upto t).pwm = s.pwm := rfl
@[simp] theorem upto_legs (s : State) (t : Nat) : (s.upto t).legs = s.legs := rfl
@[simp] theorem upto_gates (s : State) (t : Nat) : (s.upto t).gates = s.gates := rfl
@[simp] theorem upto_bw (s : State) (t : Nat) : (s.upto t).bw = s.bw := rfl
@[simp] theorem upto_gcZero (s : State) (t : Nat) : (s.upto t).gcZero = s.gcZero := rfl
@[simp] theorem upto_eng (s : State) (t : Nat) : (s.upto t).eng = s.eng := rfl
@[simp] theorem upto_logb (s : State) (t : Nat) : (s.upto t).logb = s.logb := rfl
@[simp] theorem upto_adc (s : State) (t : Nat) : (s.upto t).adc = s.adc := rfl
@[simp] theorem upto_fbk (s : State) (t : Nat) : (s.upto t).fbk = s.fbk := rfl
@[simp] theorem upto_temps (s : State) (t : Nat) : (s.upto t).temps = s.temps := rfl
@[simp] theorem upto_hkOd (s : State) (t : Nat) : (s.upto t).hkOd = s.hkOd := rfl
@[simp] theorem upto_hkGd (s : State) (t : Nat) : (s.upto t).hkGd = s.hkGd := rfl
@[simp] theorem upto_hkUncal (s : State) (t : Nat) : (s.upto t).hkUncal = s.hkUncal := rfl
@[simp] theorem upto_perf (s : State) (t : Nat) : (s.upto t).perf = s.perf := rfl
@[simp] theorem upto_lk (s : State) (t : Nat) : (s.upto t).lk = s.lk := rfl
@[simp] theorem upto_eth (s : State) (t : Nat) : (s.upto t).eth = s.eth := rfl
@[simp] theorem upto_can (s : State) (t : Nat) : (s.upto t).can = s.can := rfl
@[simp] theorem upto_cores (s : State) (t : Nat) : (s.upto t).cores = s.cores := rfl
@[simp] theorem upto_arb (s : State) (t : Nat) : (s.upto t).arb = s.arb := rfl
@[simp] theorem upto_flash (s : State) (t : Nat) : (s.upto t).flash = s.flash := rfl
@[simp] theorem upto_moor (s : State) (t : Nat) : (s.upto t).moor = s.moor := rfl
@[simp] theorem upto_pwr (s : State) (t : Nat) : (s.upto t).pwr = s.pwr := rfl

@[simp] theorem upto_reg (s : State) (t : Nat) (x : Nat) : (s.upto t).reg x = s.reg x := rfl
@[simp] theorem upto_get (s : State) (t : Nat) (x : Fld) : (s.upto t).get x = s.get x := rfl
@[simp] theorem upto_bit (s : State) (t : Nat) (x : Fld) : (s.upto t).bit x = s.bit x := rfl
@[simp] theorem upto_getI (s : State) (t : Nat) (x : Fld) : (s.upto t).getI x = s.getI x := rfl
@[simp] theorem upto_byte (s : State) (t : Nat) (x : Nat) : (s.upto t).byte x = s.byte x := rfl
@[simp] theorem upto_axis (s : State) (t : Nat) (k : Fin 4) : (s.upto t).axis k = s.axis k := rfl
@[simp] theorem upto_carrier (s : State) (t : Nat) (k : Fin 4) : (s.upto t).carrier k = s.carrier k := rfl
@[simp] theorem upto_leg (s : State) (t : Nat) (k : Fin 12) : (s.upto t).leg k = s.leg k := rfl
@[simp] theorem upto_gate (s : State) (t : Nat) (k : Fin 26) : (s.upto t).gate k = s.gate k := rfl
@[simp] theorem upto_engine (s : State) (t : Nat) (k : Fin 4) : (s.upto t).engine k = s.engine k := rfl

/-! ### `setReg` -/

@[simp] theorem setReg_pending (s : State) (a : Nat) (w : Word) : (s.setReg a w).pending = s.pending := rfl
@[simp] theorem setReg_free (s : State) (a : Nat) (w : Word) : (s.setReg a w).free = s.free := rfl
@[simp] theorem setReg_out (s : State) (a : Nat) (w : Word) : (s.setReg a w).out = s.out := rfl
@[simp] theorem setReg_tide (s : State) (a : Nat) (w : Word) : (s.setReg a w).tide = s.tide := rfl
@[simp] theorem setReg_backup (s : State) (a : Nat) (w : Word) : (s.setReg a w).backup = s.backup := rfl
@[simp] theorem setReg_caps (s : State) (a : Nat) (w : Word) : (s.setReg a w).caps = s.caps := rfl
@[simp] theorem setReg_zcaps (s : State) (a : Nat) (w : Word) : (s.setReg a w).zcaps = s.zcaps := rfl
@[simp] theorem setReg_regs (s : State) (a : Nat) (w : Word) : (s.setReg a w).regs = stoPut s.regs a w (resetWord a) := rfl
@[simp] theorem setReg_mem (s : State) (a : Nat) (w : Word) : (s.setReg a w).mem = s.mem := rfl
@[simp] theorem setReg_mid (s : State) (a : Nat) (w : Word) : (s.setReg a w).mid = s.mid := rfl
@[simp] theorem setReg_dl (s : State) (a : Nat) (w : Word) : (s.setReg a w).dl = s.dl := rfl
@[simp] theorem setReg_rail (s : State) (a : Nat) (w : Word) : (s.setReg a w).rail = s.rail := rfl
@[simp] theorem setReg_asd (s : State) (a : Nat) (w : Word) : (s.setReg a w).asd = s.asd := rfl
@[simp] theorem setReg_hm (s : State) (a : Nat) (w : Word) : (s.setReg a w).hm = s.hm := rfl
@[simp] theorem setReg_fm (s : State) (a : Nat) (w : Word) : (s.setReg a w).fm = s.fm := rfl
@[simp] theorem setReg_axes (s : State) (a : Nat) (w : Word) : (s.setReg a w).axes = s.axes := rfl
@[simp] theorem setReg_pwm (s : State) (a : Nat) (w : Word) : (s.setReg a w).pwm = s.pwm := rfl
@[simp] theorem setReg_legs (s : State) (a : Nat) (w : Word) : (s.setReg a w).legs = s.legs := rfl
@[simp] theorem setReg_gates (s : State) (a : Nat) (w : Word) : (s.setReg a w).gates = s.gates := rfl
@[simp] theorem setReg_bw (s : State) (a : Nat) (w : Word) : (s.setReg a w).bw = s.bw := rfl
@[simp] theorem setReg_gcZero (s : State) (a : Nat) (w : Word) : (s.setReg a w).gcZero = s.gcZero := rfl
@[simp] theorem setReg_eng (s : State) (a : Nat) (w : Word) : (s.setReg a w).eng = s.eng := rfl
@[simp] theorem setReg_logb (s : State) (a : Nat) (w : Word) : (s.setReg a w).logb = s.logb := rfl
@[simp] theorem setReg_adc (s : State) (a : Nat) (w : Word) : (s.setReg a w).adc = s.adc := rfl
@[simp] theorem setReg_fbk (s : State) (a : Nat) (w : Word) : (s.setReg a w).fbk = s.fbk := rfl
@[simp] theorem setReg_temps (s : State) (a : Nat) (w : Word) : (s.setReg a w).temps = s.temps := rfl
@[simp] theorem setReg_hkOd (s : State) (a : Nat) (w : Word) : (s.setReg a w).hkOd = s.hkOd := rfl
@[simp] theorem setReg_hkGd (s : State) (a : Nat) (w : Word) : (s.setReg a w).hkGd = s.hkGd := rfl
@[simp] theorem setReg_hkUncal (s : State) (a : Nat) (w : Word) : (s.setReg a w).hkUncal = s.hkUncal := rfl
@[simp] theorem setReg_perf (s : State) (a : Nat) (w : Word) : (s.setReg a w).perf = s.perf := rfl
@[simp] theorem setReg_lk (s : State) (a : Nat) (w : Word) : (s.setReg a w).lk = s.lk := rfl
@[simp] theorem setReg_eth (s : State) (a : Nat) (w : Word) : (s.setReg a w).eth = s.eth := rfl
@[simp] theorem setReg_can (s : State) (a : Nat) (w : Word) : (s.setReg a w).can = s.can := rfl
@[simp] theorem setReg_cores (s : State) (a : Nat) (w : Word) : (s.setReg a w).cores = s.cores := rfl
@[simp] theorem setReg_arb (s : State) (a : Nat) (w : Word) : (s.setReg a w).arb = s.arb := rfl
@[simp] theorem setReg_flash (s : State) (a : Nat) (w : Word) : (s.setReg a w).flash = s.flash := rfl
@[simp] theorem setReg_moor (s : State) (a : Nat) (w : Word) : (s.setReg a w).moor = s.moor := rfl
@[simp] theorem setReg_pwr (s : State) (a : Nat) (w : Word) : (s.setReg a w).pwr = s.pwr := rfl

@[simp] theorem setReg_byte (s : State) (a : Nat) (w : Word) (x : Nat) : (s.setReg a w).byte x = s.byte x := rfl
@[simp] theorem setReg_axis (s : State) (a : Nat) (w : Word) (k : Fin 4) : (s.setReg a w).axis k = s.axis k := rfl
@[simp] theorem setReg_carrier (s : State) (a : Nat) (w : Word) (k : Fin 4) : (s.setReg a w).carrier k = s.carrier k := rfl
@[simp] theorem setReg_leg (s : State) (a : Nat) (w : Word) (k : Fin 12) : (s.setReg a w).leg k = s.leg k := rfl
@[simp] theorem setReg_gate (s : State) (a : Nat) (w : Word) (k : Fin 26) : (s.setReg a w).gate k = s.gate k := rfl
@[simp] theorem setReg_engine (s : State) (a : Nat) (w : Word) (k : Fin 4) : (s.setReg a w).engine k = s.engine k := rfl

/-! ### `set` -/

@[simp] theorem set_pending (s : State) (f : Fld) (v : Nat) : (s.set f v).pending = s.pending := rfl
@[simp] theorem set_free (s : State) (f : Fld) (v : Nat) : (s.set f v).free = s.free := rfl
@[simp] theorem set_out (s : State) (f : Fld) (v : Nat) : (s.set f v).out = s.out := rfl
@[simp] theorem set_tide (s : State) (f : Fld) (v : Nat) : (s.set f v).tide = s.tide := rfl
@[simp] theorem set_backup (s : State) (f : Fld) (v : Nat) : (s.set f v).backup = s.backup := rfl
@[simp] theorem set_caps (s : State) (f : Fld) (v : Nat) : (s.set f v).caps = s.caps := rfl
@[simp] theorem set_zcaps (s : State) (f : Fld) (v : Nat) : (s.set f v).zcaps = s.zcaps := rfl
@[simp] theorem set_mem (s : State) (f : Fld) (v : Nat) : (s.set f v).mem = s.mem := rfl
@[simp] theorem set_mid (s : State) (f : Fld) (v : Nat) : (s.set f v).mid = s.mid := rfl
@[simp] theorem set_dl (s : State) (f : Fld) (v : Nat) : (s.set f v).dl = s.dl := rfl
@[simp] theorem set_rail (s : State) (f : Fld) (v : Nat) : (s.set f v).rail = s.rail := rfl
@[simp] theorem set_asd (s : State) (f : Fld) (v : Nat) : (s.set f v).asd = s.asd := rfl
@[simp] theorem set_hm (s : State) (f : Fld) (v : Nat) : (s.set f v).hm = s.hm := rfl
@[simp] theorem set_fm (s : State) (f : Fld) (v : Nat) : (s.set f v).fm = s.fm := rfl
@[simp] theorem set_axes (s : State) (f : Fld) (v : Nat) : (s.set f v).axes = s.axes := rfl
@[simp] theorem set_pwm (s : State) (f : Fld) (v : Nat) : (s.set f v).pwm = s.pwm := rfl
@[simp] theorem set_legs (s : State) (f : Fld) (v : Nat) : (s.set f v).legs = s.legs := rfl
@[simp] theorem set_gates (s : State) (f : Fld) (v : Nat) : (s.set f v).gates = s.gates := rfl
@[simp] theorem set_bw (s : State) (f : Fld) (v : Nat) : (s.set f v).bw = s.bw := rfl
@[simp] theorem set_gcZero (s : State) (f : Fld) (v : Nat) : (s.set f v).gcZero = s.gcZero := rfl
@[simp] theorem set_eng (s : State) (f : Fld) (v : Nat) : (s.set f v).eng = s.eng := rfl
@[simp] theorem set_logb (s : State) (f : Fld) (v : Nat) : (s.set f v).logb = s.logb := rfl
@[simp] theorem set_adc (s : State) (f : Fld) (v : Nat) : (s.set f v).adc = s.adc := rfl
@[simp] theorem set_fbk (s : State) (f : Fld) (v : Nat) : (s.set f v).fbk = s.fbk := rfl
@[simp] theorem set_temps (s : State) (f : Fld) (v : Nat) : (s.set f v).temps = s.temps := rfl
@[simp] theorem set_hkOd (s : State) (f : Fld) (v : Nat) : (s.set f v).hkOd = s.hkOd := rfl
@[simp] theorem set_hkGd (s : State) (f : Fld) (v : Nat) : (s.set f v).hkGd = s.hkGd := rfl
@[simp] theorem set_hkUncal (s : State) (f : Fld) (v : Nat) : (s.set f v).hkUncal = s.hkUncal := rfl
@[simp] theorem set_perf (s : State) (f : Fld) (v : Nat) : (s.set f v).perf = s.perf := rfl
@[simp] theorem set_lk (s : State) (f : Fld) (v : Nat) : (s.set f v).lk = s.lk := rfl
@[simp] theorem set_eth (s : State) (f : Fld) (v : Nat) : (s.set f v).eth = s.eth := rfl
@[simp] theorem set_can (s : State) (f : Fld) (v : Nat) : (s.set f v).can = s.can := rfl
@[simp] theorem set_cores (s : State) (f : Fld) (v : Nat) : (s.set f v).cores = s.cores := rfl
@[simp] theorem set_arb (s : State) (f : Fld) (v : Nat) : (s.set f v).arb = s.arb := rfl
@[simp] theorem set_flash (s : State) (f : Fld) (v : Nat) : (s.set f v).flash = s.flash := rfl
@[simp] theorem set_moor (s : State) (f : Fld) (v : Nat) : (s.set f v).moor = s.moor := rfl
@[simp] theorem set_pwr (s : State) (f : Fld) (v : Nat) : (s.set f v).pwr = s.pwr := rfl

@[simp] theorem set_byte (s : State) (f : Fld) (v : Nat) (x : Nat) : (s.set f v).byte x = s.byte x := rfl
@[simp] theorem set_axis (s : State) (f : Fld) (v : Nat) (k : Fin 4) : (s.set f v).axis k = s.axis k := rfl
@[simp] theorem set_carrier (s : State) (f : Fld) (v : Nat) (k : Fin 4) : (s.set f v).carrier k = s.carrier k := rfl
@[simp] theorem set_leg (s : State) (f : Fld) (v : Nat) (k : Fin 12) : (s.set f v).leg k = s.leg k := rfl
@[simp] theorem set_gate (s : State) (f : Fld) (v : Nat) (k : Fin 26) : (s.set f v).gate k = s.gate k := rfl
@[simp] theorem set_engine (s : State) (f : Fld) (v : Nat) (k : Fin 4) : (s.set f v).engine k = s.engine k := rfl

/-! ### `setB` -/

@[simp] theorem setB_pending (s : State) (f : Fld) (b : Bool) : (s.setB f b).pending = s.pending := rfl
@[simp] theorem setB_free (s : State) (f : Fld) (b : Bool) : (s.setB f b).free = s.free := rfl
@[simp] theorem setB_out (s : State) (f : Fld) (b : Bool) : (s.setB f b).out = s.out := rfl
@[simp] theorem setB_tide (s : State) (f : Fld) (b : Bool) : (s.setB f b).tide = s.tide := rfl
@[simp] theorem setB_backup (s : State) (f : Fld) (b : Bool) : (s.setB f b).backup = s.backup := rfl
@[simp] theorem setB_caps (s : State) (f : Fld) (b : Bool) : (s.setB f b).caps = s.caps := rfl
@[simp] theorem setB_zcaps (s : State) (f : Fld) (b : Bool) : (s.setB f b).zcaps = s.zcaps := rfl
@[simp] theorem setB_mem (s : State) (f : Fld) (b : Bool) : (s.setB f b).mem = s.mem := rfl
@[simp] theorem setB_mid (s : State) (f : Fld) (b : Bool) : (s.setB f b).mid = s.mid := rfl
@[simp] theorem setB_dl (s : State) (f : Fld) (b : Bool) : (s.setB f b).dl = s.dl := rfl
@[simp] theorem setB_rail (s : State) (f : Fld) (b : Bool) : (s.setB f b).rail = s.rail := rfl
@[simp] theorem setB_asd (s : State) (f : Fld) (b : Bool) : (s.setB f b).asd = s.asd := rfl
@[simp] theorem setB_hm (s : State) (f : Fld) (b : Bool) : (s.setB f b).hm = s.hm := rfl
@[simp] theorem setB_fm (s : State) (f : Fld) (b : Bool) : (s.setB f b).fm = s.fm := rfl
@[simp] theorem setB_axes (s : State) (f : Fld) (b : Bool) : (s.setB f b).axes = s.axes := rfl
@[simp] theorem setB_pwm (s : State) (f : Fld) (b : Bool) : (s.setB f b).pwm = s.pwm := rfl
@[simp] theorem setB_legs (s : State) (f : Fld) (b : Bool) : (s.setB f b).legs = s.legs := rfl
@[simp] theorem setB_gates (s : State) (f : Fld) (b : Bool) : (s.setB f b).gates = s.gates := rfl
@[simp] theorem setB_bw (s : State) (f : Fld) (b : Bool) : (s.setB f b).bw = s.bw := rfl
@[simp] theorem setB_gcZero (s : State) (f : Fld) (b : Bool) : (s.setB f b).gcZero = s.gcZero := rfl
@[simp] theorem setB_eng (s : State) (f : Fld) (b : Bool) : (s.setB f b).eng = s.eng := rfl
@[simp] theorem setB_logb (s : State) (f : Fld) (b : Bool) : (s.setB f b).logb = s.logb := rfl
@[simp] theorem setB_adc (s : State) (f : Fld) (b : Bool) : (s.setB f b).adc = s.adc := rfl
@[simp] theorem setB_fbk (s : State) (f : Fld) (b : Bool) : (s.setB f b).fbk = s.fbk := rfl
@[simp] theorem setB_temps (s : State) (f : Fld) (b : Bool) : (s.setB f b).temps = s.temps := rfl
@[simp] theorem setB_hkOd (s : State) (f : Fld) (b : Bool) : (s.setB f b).hkOd = s.hkOd := rfl
@[simp] theorem setB_hkGd (s : State) (f : Fld) (b : Bool) : (s.setB f b).hkGd = s.hkGd := rfl
@[simp] theorem setB_hkUncal (s : State) (f : Fld) (b : Bool) : (s.setB f b).hkUncal = s.hkUncal := rfl
@[simp] theorem setB_perf (s : State) (f : Fld) (b : Bool) : (s.setB f b).perf = s.perf := rfl
@[simp] theorem setB_lk (s : State) (f : Fld) (b : Bool) : (s.setB f b).lk = s.lk := rfl
@[simp] theorem setB_eth (s : State) (f : Fld) (b : Bool) : (s.setB f b).eth = s.eth := rfl
@[simp] theorem setB_can (s : State) (f : Fld) (b : Bool) : (s.setB f b).can = s.can := rfl
@[simp] theorem setB_cores (s : State) (f : Fld) (b : Bool) : (s.setB f b).cores = s.cores := rfl
@[simp] theorem setB_arb (s : State) (f : Fld) (b : Bool) : (s.setB f b).arb = s.arb := rfl
@[simp] theorem setB_flash (s : State) (f : Fld) (b : Bool) : (s.setB f b).flash = s.flash := rfl
@[simp] theorem setB_moor (s : State) (f : Fld) (b : Bool) : (s.setB f b).moor = s.moor := rfl
@[simp] theorem setB_pwr (s : State) (f : Fld) (b : Bool) : (s.setB f b).pwr = s.pwr := rfl

@[simp] theorem setB_byte (s : State) (f : Fld) (b : Bool) (x : Nat) : (s.setB f b).byte x = s.byte x := rfl
@[simp] theorem setB_axis (s : State) (f : Fld) (b : Bool) (k : Fin 4) : (s.setB f b).axis k = s.axis k := rfl
@[simp] theorem setB_carrier (s : State) (f : Fld) (b : Bool) (k : Fin 4) : (s.setB f b).carrier k = s.carrier k := rfl
@[simp] theorem setB_leg (s : State) (f : Fld) (b : Bool) (k : Fin 12) : (s.setB f b).leg k = s.leg k := rfl
@[simp] theorem setB_gate (s : State) (f : Fld) (b : Bool) (k : Fin 26) : (s.setB f b).gate k = s.gate k := rfl
@[simp] theorem setB_engine (s : State) (f : Fld) (b : Bool) (k : Fin 4) : (s.setB f b).engine k = s.engine k := rfl

/-! ### `setI` -/

@[simp] theorem setI_pending (s : State) (f : Fld) (v : Int) : (s.setI f v).pending = s.pending := rfl
@[simp] theorem setI_free (s : State) (f : Fld) (v : Int) : (s.setI f v).free = s.free := rfl
@[simp] theorem setI_out (s : State) (f : Fld) (v : Int) : (s.setI f v).out = s.out := rfl
@[simp] theorem setI_tide (s : State) (f : Fld) (v : Int) : (s.setI f v).tide = s.tide := rfl
@[simp] theorem setI_backup (s : State) (f : Fld) (v : Int) : (s.setI f v).backup = s.backup := rfl
@[simp] theorem setI_caps (s : State) (f : Fld) (v : Int) : (s.setI f v).caps = s.caps := rfl
@[simp] theorem setI_zcaps (s : State) (f : Fld) (v : Int) : (s.setI f v).zcaps = s.zcaps := rfl
@[simp] theorem setI_mem (s : State) (f : Fld) (v : Int) : (s.setI f v).mem = s.mem := rfl
@[simp] theorem setI_mid (s : State) (f : Fld) (v : Int) : (s.setI f v).mid = s.mid := rfl
@[simp] theorem setI_dl (s : State) (f : Fld) (v : Int) : (s.setI f v).dl = s.dl := rfl
@[simp] theorem setI_rail (s : State) (f : Fld) (v : Int) : (s.setI f v).rail = s.rail := rfl
@[simp] theorem setI_asd (s : State) (f : Fld) (v : Int) : (s.setI f v).asd = s.asd := rfl
@[simp] theorem setI_hm (s : State) (f : Fld) (v : Int) : (s.setI f v).hm = s.hm := rfl
@[simp] theorem setI_fm (s : State) (f : Fld) (v : Int) : (s.setI f v).fm = s.fm := rfl
@[simp] theorem setI_axes (s : State) (f : Fld) (v : Int) : (s.setI f v).axes = s.axes := rfl
@[simp] theorem setI_pwm (s : State) (f : Fld) (v : Int) : (s.setI f v).pwm = s.pwm := rfl
@[simp] theorem setI_legs (s : State) (f : Fld) (v : Int) : (s.setI f v).legs = s.legs := rfl
@[simp] theorem setI_gates (s : State) (f : Fld) (v : Int) : (s.setI f v).gates = s.gates := rfl
@[simp] theorem setI_bw (s : State) (f : Fld) (v : Int) : (s.setI f v).bw = s.bw := rfl
@[simp] theorem setI_gcZero (s : State) (f : Fld) (v : Int) : (s.setI f v).gcZero = s.gcZero := rfl
@[simp] theorem setI_eng (s : State) (f : Fld) (v : Int) : (s.setI f v).eng = s.eng := rfl
@[simp] theorem setI_logb (s : State) (f : Fld) (v : Int) : (s.setI f v).logb = s.logb := rfl
@[simp] theorem setI_adc (s : State) (f : Fld) (v : Int) : (s.setI f v).adc = s.adc := rfl
@[simp] theorem setI_fbk (s : State) (f : Fld) (v : Int) : (s.setI f v).fbk = s.fbk := rfl
@[simp] theorem setI_temps (s : State) (f : Fld) (v : Int) : (s.setI f v).temps = s.temps := rfl
@[simp] theorem setI_hkOd (s : State) (f : Fld) (v : Int) : (s.setI f v).hkOd = s.hkOd := rfl
@[simp] theorem setI_hkGd (s : State) (f : Fld) (v : Int) : (s.setI f v).hkGd = s.hkGd := rfl
@[simp] theorem setI_hkUncal (s : State) (f : Fld) (v : Int) : (s.setI f v).hkUncal = s.hkUncal := rfl
@[simp] theorem setI_perf (s : State) (f : Fld) (v : Int) : (s.setI f v).perf = s.perf := rfl
@[simp] theorem setI_lk (s : State) (f : Fld) (v : Int) : (s.setI f v).lk = s.lk := rfl
@[simp] theorem setI_eth (s : State) (f : Fld) (v : Int) : (s.setI f v).eth = s.eth := rfl
@[simp] theorem setI_can (s : State) (f : Fld) (v : Int) : (s.setI f v).can = s.can := rfl
@[simp] theorem setI_cores (s : State) (f : Fld) (v : Int) : (s.setI f v).cores = s.cores := rfl
@[simp] theorem setI_arb (s : State) (f : Fld) (v : Int) : (s.setI f v).arb = s.arb := rfl
@[simp] theorem setI_flash (s : State) (f : Fld) (v : Int) : (s.setI f v).flash = s.flash := rfl
@[simp] theorem setI_moor (s : State) (f : Fld) (v : Int) : (s.setI f v).moor = s.moor := rfl
@[simp] theorem setI_pwr (s : State) (f : Fld) (v : Int) : (s.setI f v).pwr = s.pwr := rfl

@[simp] theorem setI_byte (s : State) (f : Fld) (v : Int) (x : Nat) : (s.setI f v).byte x = s.byte x := rfl
@[simp] theorem setI_axis (s : State) (f : Fld) (v : Int) (k : Fin 4) : (s.setI f v).axis k = s.axis k := rfl
@[simp] theorem setI_carrier (s : State) (f : Fld) (v : Int) (k : Fin 4) : (s.setI f v).carrier k = s.carrier k := rfl
@[simp] theorem setI_leg (s : State) (f : Fld) (v : Int) (k : Fin 12) : (s.setI f v).leg k = s.leg k := rfl
@[simp] theorem setI_gate (s : State) (f : Fld) (v : Int) (k : Fin 26) : (s.setI f v).gate k = s.gate k := rfl
@[simp] theorem setI_engine (s : State) (f : Fld) (v : Int) (k : Fin 4) : (s.setI f v).engine k = s.engine k := rfl

/-! ### `setW` -/

@[simp] theorem setW_pending (s : State) (a : Nat) (w : Word) : (s.setW a w).pending = s.pending := rfl
@[simp] theorem setW_free (s : State) (a : Nat) (w : Word) : (s.setW a w).free = s.free := rfl
@[simp] theorem setW_out (s : State) (a : Nat) (w : Word) : (s.setW a w).out = s.out := rfl
@[simp] theorem setW_tide (s : State) (a : Nat) (w : Word) : (s.setW a w).tide = s.tide := rfl
@[simp] theorem setW_backup (s : State) (a : Nat) (w : Word) : (s.setW a w).backup = s.backup := rfl
@[simp] theorem setW_caps (s : State) (a : Nat) (w : Word) : (s.setW a w).caps = s.caps := rfl
@[simp] theorem setW_zcaps (s : State) (a : Nat) (w : Word) : (s.setW a w).zcaps = s.zcaps := rfl
@[simp] theorem setW_mem (s : State) (a : Nat) (w : Word) : (s.setW a w).mem = s.mem := rfl
@[simp] theorem setW_mid (s : State) (a : Nat) (w : Word) : (s.setW a w).mid = s.mid := rfl
@[simp] theorem setW_dl (s : State) (a : Nat) (w : Word) : (s.setW a w).dl = s.dl := rfl
@[simp] theorem setW_rail (s : State) (a : Nat) (w : Word) : (s.setW a w).rail = s.rail := rfl
@[simp] theorem setW_asd (s : State) (a : Nat) (w : Word) : (s.setW a w).asd = s.asd := rfl
@[simp] theorem setW_hm (s : State) (a : Nat) (w : Word) : (s.setW a w).hm = s.hm := rfl
@[simp] theorem setW_fm (s : State) (a : Nat) (w : Word) : (s.setW a w).fm = s.fm := rfl
@[simp] theorem setW_axes (s : State) (a : Nat) (w : Word) : (s.setW a w).axes = s.axes := rfl
@[simp] theorem setW_pwm (s : State) (a : Nat) (w : Word) : (s.setW a w).pwm = s.pwm := rfl
@[simp] theorem setW_legs (s : State) (a : Nat) (w : Word) : (s.setW a w).legs = s.legs := rfl
@[simp] theorem setW_gates (s : State) (a : Nat) (w : Word) : (s.setW a w).gates = s.gates := rfl
@[simp] theorem setW_bw (s : State) (a : Nat) (w : Word) : (s.setW a w).bw = s.bw := rfl
@[simp] theorem setW_gcZero (s : State) (a : Nat) (w : Word) : (s.setW a w).gcZero = s.gcZero := rfl
@[simp] theorem setW_eng (s : State) (a : Nat) (w : Word) : (s.setW a w).eng = s.eng := rfl
@[simp] theorem setW_logb (s : State) (a : Nat) (w : Word) : (s.setW a w).logb = s.logb := rfl
@[simp] theorem setW_adc (s : State) (a : Nat) (w : Word) : (s.setW a w).adc = s.adc := rfl
@[simp] theorem setW_fbk (s : State) (a : Nat) (w : Word) : (s.setW a w).fbk = s.fbk := rfl
@[simp] theorem setW_temps (s : State) (a : Nat) (w : Word) : (s.setW a w).temps = s.temps := rfl
@[simp] theorem setW_hkOd (s : State) (a : Nat) (w : Word) : (s.setW a w).hkOd = s.hkOd := rfl
@[simp] theorem setW_hkGd (s : State) (a : Nat) (w : Word) : (s.setW a w).hkGd = s.hkGd := rfl
@[simp] theorem setW_hkUncal (s : State) (a : Nat) (w : Word) : (s.setW a w).hkUncal = s.hkUncal := rfl
@[simp] theorem setW_perf (s : State) (a : Nat) (w : Word) : (s.setW a w).perf = s.perf := rfl
@[simp] theorem setW_lk (s : State) (a : Nat) (w : Word) : (s.setW a w).lk = s.lk := rfl
@[simp] theorem setW_eth (s : State) (a : Nat) (w : Word) : (s.setW a w).eth = s.eth := rfl
@[simp] theorem setW_can (s : State) (a : Nat) (w : Word) : (s.setW a w).can = s.can := rfl
@[simp] theorem setW_cores (s : State) (a : Nat) (w : Word) : (s.setW a w).cores = s.cores := rfl
@[simp] theorem setW_arb (s : State) (a : Nat) (w : Word) : (s.setW a w).arb = s.arb := rfl
@[simp] theorem setW_flash (s : State) (a : Nat) (w : Word) : (s.setW a w).flash = s.flash := rfl
@[simp] theorem setW_moor (s : State) (a : Nat) (w : Word) : (s.setW a w).moor = s.moor := rfl
@[simp] theorem setW_pwr (s : State) (a : Nat) (w : Word) : (s.setW a w).pwr = s.pwr := rfl

@[simp] theorem setW_byte (s : State) (a : Nat) (w : Word) (x : Nat) : (s.setW a w).byte x = s.byte x := rfl
@[simp] theorem setW_axis (s : State) (a : Nat) (w : Word) (k : Fin 4) : (s.setW a w).axis k = s.axis k := rfl
@[simp] theorem setW_carrier (s : State) (a : Nat) (w : Word) (k : Fin 4) : (s.setW a w).carrier k = s.carrier k := rfl
@[simp] theorem setW_leg (s : State) (a : Nat) (w : Word) (k : Fin 12) : (s.setW a w).leg k = s.leg k := rfl
@[simp] theorem setW_gate (s : State) (a : Nat) (w : Word) (k : Fin 26) : (s.setW a w).gate k = s.gate k := rfl
@[simp] theorem setW_engine (s : State) (a : Nat) (w : Word) (k : Fin 4) : (s.setW a w).engine k = s.engine k := rfl

/-! ### `incHold` -/

@[simp] theorem incHold_pending (s : State) (f : Fld) : (s.incHold f).pending = s.pending := rfl
@[simp] theorem incHold_free (s : State) (f : Fld) : (s.incHold f).free = s.free := rfl
@[simp] theorem incHold_out (s : State) (f : Fld) : (s.incHold f).out = s.out := rfl
@[simp] theorem incHold_tide (s : State) (f : Fld) : (s.incHold f).tide = s.tide := rfl
@[simp] theorem incHold_backup (s : State) (f : Fld) : (s.incHold f).backup = s.backup := rfl
@[simp] theorem incHold_caps (s : State) (f : Fld) : (s.incHold f).caps = s.caps := rfl
@[simp] theorem incHold_zcaps (s : State) (f : Fld) : (s.incHold f).zcaps = s.zcaps := rfl
@[simp] theorem incHold_mem (s : State) (f : Fld) : (s.incHold f).mem = s.mem := rfl
@[simp] theorem incHold_mid (s : State) (f : Fld) : (s.incHold f).mid = s.mid := rfl
@[simp] theorem incHold_dl (s : State) (f : Fld) : (s.incHold f).dl = s.dl := rfl
@[simp] theorem incHold_rail (s : State) (f : Fld) : (s.incHold f).rail = s.rail := rfl
@[simp] theorem incHold_asd (s : State) (f : Fld) : (s.incHold f).asd = s.asd := rfl
@[simp] theorem incHold_hm (s : State) (f : Fld) : (s.incHold f).hm = s.hm := rfl
@[simp] theorem incHold_fm (s : State) (f : Fld) : (s.incHold f).fm = s.fm := rfl
@[simp] theorem incHold_axes (s : State) (f : Fld) : (s.incHold f).axes = s.axes := rfl
@[simp] theorem incHold_pwm (s : State) (f : Fld) : (s.incHold f).pwm = s.pwm := rfl
@[simp] theorem incHold_legs (s : State) (f : Fld) : (s.incHold f).legs = s.legs := rfl
@[simp] theorem incHold_gates (s : State) (f : Fld) : (s.incHold f).gates = s.gates := rfl
@[simp] theorem incHold_bw (s : State) (f : Fld) : (s.incHold f).bw = s.bw := rfl
@[simp] theorem incHold_gcZero (s : State) (f : Fld) : (s.incHold f).gcZero = s.gcZero := rfl
@[simp] theorem incHold_eng (s : State) (f : Fld) : (s.incHold f).eng = s.eng := rfl
@[simp] theorem incHold_logb (s : State) (f : Fld) : (s.incHold f).logb = s.logb := rfl
@[simp] theorem incHold_adc (s : State) (f : Fld) : (s.incHold f).adc = s.adc := rfl
@[simp] theorem incHold_fbk (s : State) (f : Fld) : (s.incHold f).fbk = s.fbk := rfl
@[simp] theorem incHold_temps (s : State) (f : Fld) : (s.incHold f).temps = s.temps := rfl
@[simp] theorem incHold_hkOd (s : State) (f : Fld) : (s.incHold f).hkOd = s.hkOd := rfl
@[simp] theorem incHold_hkGd (s : State) (f : Fld) : (s.incHold f).hkGd = s.hkGd := rfl
@[simp] theorem incHold_hkUncal (s : State) (f : Fld) : (s.incHold f).hkUncal = s.hkUncal := rfl
@[simp] theorem incHold_perf (s : State) (f : Fld) : (s.incHold f).perf = s.perf := rfl
@[simp] theorem incHold_lk (s : State) (f : Fld) : (s.incHold f).lk = s.lk := rfl
@[simp] theorem incHold_eth (s : State) (f : Fld) : (s.incHold f).eth = s.eth := rfl
@[simp] theorem incHold_can (s : State) (f : Fld) : (s.incHold f).can = s.can := rfl
@[simp] theorem incHold_cores (s : State) (f : Fld) : (s.incHold f).cores = s.cores := rfl
@[simp] theorem incHold_arb (s : State) (f : Fld) : (s.incHold f).arb = s.arb := rfl
@[simp] theorem incHold_flash (s : State) (f : Fld) : (s.incHold f).flash = s.flash := rfl
@[simp] theorem incHold_moor (s : State) (f : Fld) : (s.incHold f).moor = s.moor := rfl
@[simp] theorem incHold_pwr (s : State) (f : Fld) : (s.incHold f).pwr = s.pwr := rfl

@[simp] theorem incHold_byte (s : State) (f : Fld) (x : Nat) : (s.incHold f).byte x = s.byte x := rfl
@[simp] theorem incHold_axis (s : State) (f : Fld) (k : Fin 4) : (s.incHold f).axis k = s.axis k := rfl
@[simp] theorem incHold_carrier (s : State) (f : Fld) (k : Fin 4) : (s.incHold f).carrier k = s.carrier k := rfl
@[simp] theorem incHold_leg (s : State) (f : Fld) (k : Fin 12) : (s.incHold f).leg k = s.leg k := rfl
@[simp] theorem incHold_gate (s : State) (f : Fld) (k : Fin 26) : (s.incHold f).gate k = s.gate k := rfl
@[simp] theorem incHold_engine (s : State) (f : Fld) (k : Fin 4) : (s.incHold f).engine k = s.engine k := rfl

/-! ### `incWrap` -/

@[simp] theorem incWrap_pending (s : State) (f : Fld) : (s.incWrap f).pending = s.pending := rfl
@[simp] theorem incWrap_free (s : State) (f : Fld) : (s.incWrap f).free = s.free := rfl
@[simp] theorem incWrap_out (s : State) (f : Fld) : (s.incWrap f).out = s.out := rfl
@[simp] theorem incWrap_tide (s : State) (f : Fld) : (s.incWrap f).tide = s.tide := rfl
@[simp] theorem incWrap_backup (s : State) (f : Fld) : (s.incWrap f).backup = s.backup := rfl
@[simp] theorem incWrap_caps (s : State) (f : Fld) : (s.incWrap f).caps = s.caps := rfl
@[simp] theorem incWrap_zcaps (s : State) (f : Fld) : (s.incWrap f).zcaps = s.zcaps := rfl
@[simp] theorem incWrap_mem (s : State) (f : Fld) : (s.incWrap f).mem = s.mem := rfl
@[simp] theorem incWrap_mid (s : State) (f : Fld) : (s.incWrap f).mid = s.mid := rfl
@[simp] theorem incWrap_dl (s : State) (f : Fld) : (s.incWrap f).dl = s.dl := rfl
@[simp] theorem incWrap_rail (s : State) (f : Fld) : (s.incWrap f).rail = s.rail := rfl
@[simp] theorem incWrap_asd (s : State) (f : Fld) : (s.incWrap f).asd = s.asd := rfl
@[simp] theorem incWrap_hm (s : State) (f : Fld) : (s.incWrap f).hm = s.hm := rfl
@[simp] theorem incWrap_fm (s : State) (f : Fld) : (s.incWrap f).fm = s.fm := rfl
@[simp] theorem incWrap_axes (s : State) (f : Fld) : (s.incWrap f).axes = s.axes := rfl
@[simp] theorem incWrap_pwm (s : State) (f : Fld) : (s.incWrap f).pwm = s.pwm := rfl
@[simp] theorem incWrap_legs (s : State) (f : Fld) : (s.incWrap f).legs = s.legs := rfl
@[simp] theorem incWrap_gates (s : State) (f : Fld) : (s.incWrap f).gates = s.gates := rfl
@[simp] theorem incWrap_bw (s : State) (f : Fld) : (s.incWrap f).bw = s.bw := rfl
@[simp] theorem incWrap_gcZero (s : State) (f : Fld) : (s.incWrap f).gcZero = s.gcZero := rfl
@[simp] theorem incWrap_eng (s : State) (f : Fld) : (s.incWrap f).eng = s.eng := rfl
@[simp] theorem incWrap_logb (s : State) (f : Fld) : (s.incWrap f).logb = s.logb := rfl
@[simp] theorem incWrap_adc (s : State) (f : Fld) : (s.incWrap f).adc = s.adc := rfl
@[simp] theorem incWrap_fbk (s : State) (f : Fld) : (s.incWrap f).fbk = s.fbk := rfl
@[simp] theorem incWrap_temps (s : State) (f : Fld) : (s.incWrap f).temps = s.temps := rfl
@[simp] theorem incWrap_hkOd (s : State) (f : Fld) : (s.incWrap f).hkOd = s.hkOd := rfl
@[simp] theorem incWrap_hkGd (s : State) (f : Fld) : (s.incWrap f).hkGd = s.hkGd := rfl
@[simp] theorem incWrap_hkUncal (s : State) (f : Fld) : (s.incWrap f).hkUncal = s.hkUncal := rfl
@[simp] theorem incWrap_perf (s : State) (f : Fld) : (s.incWrap f).perf = s.perf := rfl
@[simp] theorem incWrap_lk (s : State) (f : Fld) : (s.incWrap f).lk = s.lk := rfl
@[simp] theorem incWrap_eth (s : State) (f : Fld) : (s.incWrap f).eth = s.eth := rfl
@[simp] theorem incWrap_can (s : State) (f : Fld) : (s.incWrap f).can = s.can := rfl
@[simp] theorem incWrap_cores (s : State) (f : Fld) : (s.incWrap f).cores = s.cores := rfl
@[simp] theorem incWrap_arb (s : State) (f : Fld) : (s.incWrap f).arb = s.arb := rfl
@[simp] theorem incWrap_flash (s : State) (f : Fld) : (s.incWrap f).flash = s.flash := rfl
@[simp] theorem incWrap_moor (s : State) (f : Fld) : (s.incWrap f).moor = s.moor := rfl
@[simp] theorem incWrap_pwr (s : State) (f : Fld) : (s.incWrap f).pwr = s.pwr := rfl

@[simp] theorem incWrap_byte (s : State) (f : Fld) (x : Nat) : (s.incWrap f).byte x = s.byte x := rfl
@[simp] theorem incWrap_axis (s : State) (f : Fld) (k : Fin 4) : (s.incWrap f).axis k = s.axis k := rfl
@[simp] theorem incWrap_carrier (s : State) (f : Fld) (k : Fin 4) : (s.incWrap f).carrier k = s.carrier k := rfl
@[simp] theorem incWrap_leg (s : State) (f : Fld) (k : Fin 12) : (s.incWrap f).leg k = s.leg k := rfl
@[simp] theorem incWrap_gate (s : State) (f : Fld) (k : Fin 26) : (s.incWrap f).gate k = s.gate k := rfl
@[simp] theorem incWrap_engine (s : State) (f : Fld) (k : Fin 4) : (s.incWrap f).engine k = s.engine k := rfl

/-! ### `setByte` -/

@[simp] theorem setByte_pending (s : State) (a : Nat) (b : Byte) : (s.setByte a b).pending = s.pending := rfl
@[simp] theorem setByte_free (s : State) (a : Nat) (b : Byte) : (s.setByte a b).free = s.free := rfl
@[simp] theorem setByte_out (s : State) (a : Nat) (b : Byte) : (s.setByte a b).out = s.out := rfl
@[simp] theorem setByte_tide (s : State) (a : Nat) (b : Byte) : (s.setByte a b).tide = s.tide := rfl
@[simp] theorem setByte_backup (s : State) (a : Nat) (b : Byte) : (s.setByte a b).backup = s.backup := rfl
@[simp] theorem setByte_caps (s : State) (a : Nat) (b : Byte) : (s.setByte a b).caps = s.caps := rfl
@[simp] theorem setByte_zcaps (s : State) (a : Nat) (b : Byte) : (s.setByte a b).zcaps = s.zcaps := rfl
@[simp] theorem setByte_regs (s : State) (a : Nat) (b : Byte) : (s.setByte a b).regs = s.regs := rfl
@[simp] theorem setByte_mem (s : State) (a : Nat) (b : Byte) : (s.setByte a b).mem = stoPut s.mem a b (memDefault a) := rfl
@[simp] theorem setByte_mid (s : State) (a : Nat) (b : Byte) : (s.setByte a b).mid = s.mid := rfl
@[simp] theorem setByte_dl (s : State) (a : Nat) (b : Byte) : (s.setByte a b).dl = s.dl := rfl
@[simp] theorem setByte_rail (s : State) (a : Nat) (b : Byte) : (s.setByte a b).rail = s.rail := rfl
@[simp] theorem setByte_asd (s : State) (a : Nat) (b : Byte) : (s.setByte a b).asd = s.asd := rfl
@[simp] theorem setByte_hm (s : State) (a : Nat) (b : Byte) : (s.setByte a b).hm = s.hm := rfl
@[simp] theorem setByte_fm (s : State) (a : Nat) (b : Byte) : (s.setByte a b).fm = s.fm := rfl
@[simp] theorem setByte_axes (s : State) (a : Nat) (b : Byte) : (s.setByte a b).axes = s.axes := rfl
@[simp] theorem setByte_pwm (s : State) (a : Nat) (b : Byte) : (s.setByte a b).pwm = s.pwm := rfl
@[simp] theorem setByte_legs (s : State) (a : Nat) (b : Byte) : (s.setByte a b).legs = s.legs := rfl
@[simp] theorem setByte_gates (s : State) (a : Nat) (b : Byte) : (s.setByte a b).gates = s.gates := rfl
@[simp] theorem setByte_bw (s : State) (a : Nat) (b : Byte) : (s.setByte a b).bw = s.bw := rfl
@[simp] theorem setByte_gcZero (s : State) (a : Nat) (b : Byte) : (s.setByte a b).gcZero = s.gcZero := rfl
@[simp] theorem setByte_eng (s : State) (a : Nat) (b : Byte) : (s.setByte a b).eng = s.eng := rfl
@[simp] theorem setByte_logb (s : State) (a : Nat) (b : Byte) : (s.setByte a b).logb = s.logb := rfl
@[simp] theorem setByte_adc (s : State) (a : Nat) (b : Byte) : (s.setByte a b).adc = s.adc := rfl
@[simp] theorem setByte_fbk (s : State) (a : Nat) (b : Byte) : (s.setByte a b).fbk = s.fbk := rfl
@[simp] theorem setByte_temps (s : State) (a : Nat) (b : Byte) : (s.setByte a b).temps = s.temps := rfl
@[simp] theorem setByte_hkOd (s : State) (a : Nat) (b : Byte) : (s.setByte a b).hkOd = s.hkOd := rfl
@[simp] theorem setByte_hkGd (s : State) (a : Nat) (b : Byte) : (s.setByte a b).hkGd = s.hkGd := rfl
@[simp] theorem setByte_hkUncal (s : State) (a : Nat) (b : Byte) : (s.setByte a b).hkUncal = s.hkUncal := rfl
@[simp] theorem setByte_perf (s : State) (a : Nat) (b : Byte) : (s.setByte a b).perf = s.perf := rfl
@[simp] theorem setByte_lk (s : State) (a : Nat) (b : Byte) : (s.setByte a b).lk = s.lk := rfl
@[simp] theorem setByte_eth (s : State) (a : Nat) (b : Byte) : (s.setByte a b).eth = s.eth := rfl
@[simp] theorem setByte_can (s : State) (a : Nat) (b : Byte) : (s.setByte a b).can = s.can := rfl
@[simp] theorem setByte_cores (s : State) (a : Nat) (b : Byte) : (s.setByte a b).cores = s.cores := rfl
@[simp] theorem setByte_arb (s : State) (a : Nat) (b : Byte) : (s.setByte a b).arb = s.arb := rfl
@[simp] theorem setByte_flash (s : State) (a : Nat) (b : Byte) : (s.setByte a b).flash = s.flash := rfl
@[simp] theorem setByte_moor (s : State) (a : Nat) (b : Byte) : (s.setByte a b).moor = s.moor := rfl
@[simp] theorem setByte_pwr (s : State) (a : Nat) (b : Byte) : (s.setByte a b).pwr = s.pwr := rfl

@[simp] theorem setByte_reg (s : State) (a : Nat) (b : Byte) (x : Nat) : (s.setByte a b).reg x = s.reg x := rfl
@[simp] theorem setByte_get (s : State) (a : Nat) (b : Byte) (x : Fld) : (s.setByte a b).get x = s.get x := rfl
@[simp] theorem setByte_bit (s : State) (a : Nat) (b : Byte) (x : Fld) : (s.setByte a b).bit x = s.bit x := rfl
@[simp] theorem setByte_getI (s : State) (a : Nat) (b : Byte) (x : Fld) : (s.setByte a b).getI x = s.getI x := rfl
@[simp] theorem setByte_axis (s : State) (a : Nat) (b : Byte) (k : Fin 4) : (s.setByte a b).axis k = s.axis k := rfl
@[simp] theorem setByte_carrier (s : State) (a : Nat) (b : Byte) (k : Fin 4) : (s.setByte a b).carrier k = s.carrier k := rfl
@[simp] theorem setByte_leg (s : State) (a : Nat) (b : Byte) (k : Fin 12) : (s.setByte a b).leg k = s.leg k := rfl
@[simp] theorem setByte_gate (s : State) (a : Nat) (b : Byte) (k : Fin 26) : (s.setByte a b).gate k = s.gate k := rfl
@[simp] theorem setByte_engine (s : State) (a : Nat) (b : Byte) (k : Fin 4) : (s.setByte a b).engine k = s.engine k := rfl

/-! ### `setAxis` -/

@[simp] theorem setAxis_pending (s : State) (n : Fin 4) (a : Axis) : (s.setAxis n a).pending = s.pending := rfl
@[simp] theorem setAxis_free (s : State) (n : Fin 4) (a : Axis) : (s.setAxis n a).free = s.free := rfl
@[simp] theorem setAxis_out (s : State) (n : Fin 4) (a : Axis) : (s.setAxis n a).out = s.out := rfl
@[simp] theorem setAxis_tide (s : State) (n : Fin 4) (a : Axis) : (s.setAxis n a).tide = s.tide := rfl
@[simp] theorem setAxis_backup (s : State) (n : Fin 4) (a : Axis) : (s.setAxis n a).backup = s.backup := rfl
@[simp] theorem setAxis_caps (s : State) (n : Fin 4) (a : Axis) : (s.setAxis n a).caps = s.caps := rfl
@[simp] theorem setAxis_zcaps (s : State) (n : Fin 4) (a : Axis) : (s.setAxis n a).zcaps = s.zcaps := rfl
@[simp] theorem setAxis_regs (s : State) (n : Fin 4) (a : Axis) : (s.setAxis n a).regs = s.regs := rfl
@[simp] theorem setAxis_mem (s : State) (n : Fin 4) (a : Axis) : (s.setAxis n a).mem = s.mem := rfl
@[simp] theorem setAxis_mid (s : State) (n : Fin 4) (a : Axis) : (s.setAxis n a).mid = s.mid := rfl
@[simp] theorem setAxis_dl (s : State) (n : Fin 4) (a : Axis) : (s.setAxis n a).dl = s.dl := rfl
@[simp] theorem setAxis_rail (s : State) (n : Fin 4) (a : Axis) : (s.setAxis n a).rail = s.rail := rfl
@[simp] theorem setAxis_asd (s : State) (n : Fin 4) (a : Axis) : (s.setAxis n a).asd = s.asd := rfl
@[simp] theorem setAxis_hm (s : State) (n : Fin 4) (a : Axis) : (s.setAxis n a).hm = s.hm := rfl
@[simp] theorem setAxis_fm (s : State) (n : Fin 4) (a : Axis) : (s.setAxis n a).fm = s.fm := rfl
@[simp] theorem setAxis_axes (s : State) (n : Fin 4) (a : Axis) : (s.setAxis n a).axes = s.axes.set n a := rfl
@[simp] theorem setAxis_pwm (s : State) (n : Fin 4) (a : Axis) : (s.setAxis n a).pwm = s.pwm := rfl
@[simp] theorem setAxis_legs (s : State) (n : Fin 4) (a : Axis) : (s.setAxis n a).legs = s.legs := rfl
@[simp] theorem setAxis_gates (s : State) (n : Fin 4) (a : Axis) : (s.setAxis n a).gates = s.gates := rfl
@[simp] theorem setAxis_bw (s : State) (n : Fin 4) (a : Axis) : (s.setAxis n a).bw = s.bw := rfl
@[simp] theorem setAxis_gcZero (s : State) (n : Fin 4) (a : Axis) : (s.setAxis n a).gcZero = s.gcZero := rfl
@[simp] theorem setAxis_eng (s : State) (n : Fin 4) (a : Axis) : (s.setAxis n a).eng = s.eng := rfl
@[simp] theorem setAxis_logb (s : State) (n : Fin 4) (a : Axis) : (s.setAxis n a).logb = s.logb := rfl
@[simp] theorem setAxis_adc (s : State) (n : Fin 4) (a : Axis) : (s.setAxis n a).adc = s.adc := rfl
@[simp] theorem setAxis_fbk (s : State) (n : Fin 4) (a : Axis) : (s.setAxis n a).fbk = s.fbk := rfl
@[simp] theorem setAxis_temps (s : State) (n : Fin 4) (a : Axis) : (s.setAxis n a).temps = s.temps := rfl
@[simp] theorem setAxis_hkOd (s : State) (n : Fin 4) (a : Axis) : (s.setAxis n a).hkOd = s.hkOd := rfl
@[simp] theorem setAxis_hkGd (s : State) (n : Fin 4) (a : Axis) : (s.setAxis n a).hkGd = s.hkGd := rfl
@[simp] theorem setAxis_hkUncal (s : State) (n : Fin 4) (a : Axis) : (s.setAxis n a).hkUncal = s.hkUncal := rfl
@[simp] theorem setAxis_perf (s : State) (n : Fin 4) (a : Axis) : (s.setAxis n a).perf = s.perf := rfl
@[simp] theorem setAxis_lk (s : State) (n : Fin 4) (a : Axis) : (s.setAxis n a).lk = s.lk := rfl
@[simp] theorem setAxis_eth (s : State) (n : Fin 4) (a : Axis) : (s.setAxis n a).eth = s.eth := rfl
@[simp] theorem setAxis_can (s : State) (n : Fin 4) (a : Axis) : (s.setAxis n a).can = s.can := rfl
@[simp] theorem setAxis_cores (s : State) (n : Fin 4) (a : Axis) : (s.setAxis n a).cores = s.cores := rfl
@[simp] theorem setAxis_arb (s : State) (n : Fin 4) (a : Axis) : (s.setAxis n a).arb = s.arb := rfl
@[simp] theorem setAxis_flash (s : State) (n : Fin 4) (a : Axis) : (s.setAxis n a).flash = s.flash := rfl
@[simp] theorem setAxis_moor (s : State) (n : Fin 4) (a : Axis) : (s.setAxis n a).moor = s.moor := rfl
@[simp] theorem setAxis_pwr (s : State) (n : Fin 4) (a : Axis) : (s.setAxis n a).pwr = s.pwr := rfl

@[simp] theorem setAxis_reg (s : State) (n : Fin 4) (a : Axis) (x : Nat) : (s.setAxis n a).reg x = s.reg x := rfl
@[simp] theorem setAxis_get (s : State) (n : Fin 4) (a : Axis) (x : Fld) : (s.setAxis n a).get x = s.get x := rfl
@[simp] theorem setAxis_bit (s : State) (n : Fin 4) (a : Axis) (x : Fld) : (s.setAxis n a).bit x = s.bit x := rfl
@[simp] theorem setAxis_getI (s : State) (n : Fin 4) (a : Axis) (x : Fld) : (s.setAxis n a).getI x = s.getI x := rfl
@[simp] theorem setAxis_byte (s : State) (n : Fin 4) (a : Axis) (x : Nat) : (s.setAxis n a).byte x = s.byte x := rfl
@[simp] theorem setAxis_carrier (s : State) (n : Fin 4) (a : Axis) (k : Fin 4) : (s.setAxis n a).carrier k = s.carrier k := rfl
@[simp] theorem setAxis_leg (s : State) (n : Fin 4) (a : Axis) (k : Fin 12) : (s.setAxis n a).leg k = s.leg k := rfl
@[simp] theorem setAxis_gate (s : State) (n : Fin 4) (a : Axis) (k : Fin 26) : (s.setAxis n a).gate k = s.gate k := rfl
@[simp] theorem setAxis_engine (s : State) (n : Fin 4) (a : Axis) (k : Fin 4) : (s.setAxis n a).engine k = s.engine k := rfl

/-! ### `updAxis` -/

@[simp] theorem updAxis_pending (s : State) (n : Fin 4) (f : Axis → Axis) : (s.updAxis n f).pending = s.pending := rfl
@[simp] theorem updAxis_free (s : State) (n : Fin 4) (f : Axis → Axis) : (s.updAxis n f).free = s.free := rfl
@[simp] theorem updAxis_out (s : State) (n : Fin 4) (f : Axis → Axis) : (s.updAxis n f).out = s.out := rfl
@[simp] theorem updAxis_tide (s : State) (n : Fin 4) (f : Axis → Axis) : (s.updAxis n f).tide = s.tide := rfl
@[simp] theorem updAxis_backup (s : State) (n : Fin 4) (f : Axis → Axis) : (s.updAxis n f).backup = s.backup := rfl
@[simp] theorem updAxis_caps (s : State) (n : Fin 4) (f : Axis → Axis) : (s.updAxis n f).caps = s.caps := rfl
@[simp] theorem updAxis_zcaps (s : State) (n : Fin 4) (f : Axis → Axis) : (s.updAxis n f).zcaps = s.zcaps := rfl
@[simp] theorem updAxis_regs (s : State) (n : Fin 4) (f : Axis → Axis) : (s.updAxis n f).regs = s.regs := rfl
@[simp] theorem updAxis_mem (s : State) (n : Fin 4) (f : Axis → Axis) : (s.updAxis n f).mem = s.mem := rfl
@[simp] theorem updAxis_mid (s : State) (n : Fin 4) (f : Axis → Axis) : (s.updAxis n f).mid = s.mid := rfl
@[simp] theorem updAxis_dl (s : State) (n : Fin 4) (f : Axis → Axis) : (s.updAxis n f).dl = s.dl := rfl
@[simp] theorem updAxis_rail (s : State) (n : Fin 4) (f : Axis → Axis) : (s.updAxis n f).rail = s.rail := rfl
@[simp] theorem updAxis_asd (s : State) (n : Fin 4) (f : Axis → Axis) : (s.updAxis n f).asd = s.asd := rfl
@[simp] theorem updAxis_hm (s : State) (n : Fin 4) (f : Axis → Axis) : (s.updAxis n f).hm = s.hm := rfl
@[simp] theorem updAxis_fm (s : State) (n : Fin 4) (f : Axis → Axis) : (s.updAxis n f).fm = s.fm := rfl
@[simp] theorem updAxis_axes (s : State) (n : Fin 4) (f : Axis → Axis) : (s.updAxis n f).axes = s.axes.set n (f (s.axis n)) := rfl
@[simp] theorem updAxis_pwm (s : State) (n : Fin 4) (f : Axis → Axis) : (s.updAxis n f).pwm = s.pwm := rfl
@[simp] theorem updAxis_legs (s : State) (n : Fin 4) (f : Axis → Axis) : (s.updAxis n f).legs = s.legs := rfl
@[simp] theorem updAxis_gates (s : State) (n : Fin 4) (f : Axis → Axis) : (s.updAxis n f).gates = s.gates := rfl
@[simp] theorem updAxis_bw (s : State) (n : Fin 4) (f : Axis → Axis) : (s.updAxis n f).bw = s.bw := rfl
@[simp] theorem updAxis_gcZero (s : State) (n : Fin 4) (f : Axis → Axis) : (s.updAxis n f).gcZero = s.gcZero := rfl
@[simp] theorem updAxis_eng (s : State) (n : Fin 4) (f : Axis → Axis) : (s.updAxis n f).eng = s.eng := rfl
@[simp] theorem updAxis_logb (s : State) (n : Fin 4) (f : Axis → Axis) : (s.updAxis n f).logb = s.logb := rfl
@[simp] theorem updAxis_adc (s : State) (n : Fin 4) (f : Axis → Axis) : (s.updAxis n f).adc = s.adc := rfl
@[simp] theorem updAxis_fbk (s : State) (n : Fin 4) (f : Axis → Axis) : (s.updAxis n f).fbk = s.fbk := rfl
@[simp] theorem updAxis_temps (s : State) (n : Fin 4) (f : Axis → Axis) : (s.updAxis n f).temps = s.temps := rfl
@[simp] theorem updAxis_hkOd (s : State) (n : Fin 4) (f : Axis → Axis) : (s.updAxis n f).hkOd = s.hkOd := rfl
@[simp] theorem updAxis_hkGd (s : State) (n : Fin 4) (f : Axis → Axis) : (s.updAxis n f).hkGd = s.hkGd := rfl
@[simp] theorem updAxis_hkUncal (s : State) (n : Fin 4) (f : Axis → Axis) : (s.updAxis n f).hkUncal = s.hkUncal := rfl
@[simp] theorem updAxis_perf (s : State) (n : Fin 4) (f : Axis → Axis) : (s.updAxis n f).perf = s.perf := rfl
@[simp] theorem updAxis_lk (s : State) (n : Fin 4) (f : Axis → Axis) : (s.updAxis n f).lk = s.lk := rfl
@[simp] theorem updAxis_eth (s : State) (n : Fin 4) (f : Axis → Axis) : (s.updAxis n f).eth = s.eth := rfl
@[simp] theorem updAxis_can (s : State) (n : Fin 4) (f : Axis → Axis) : (s.updAxis n f).can = s.can := rfl
@[simp] theorem updAxis_cores (s : State) (n : Fin 4) (f : Axis → Axis) : (s.updAxis n f).cores = s.cores := rfl
@[simp] theorem updAxis_arb (s : State) (n : Fin 4) (f : Axis → Axis) : (s.updAxis n f).arb = s.arb := rfl
@[simp] theorem updAxis_flash (s : State) (n : Fin 4) (f : Axis → Axis) : (s.updAxis n f).flash = s.flash := rfl
@[simp] theorem updAxis_moor (s : State) (n : Fin 4) (f : Axis → Axis) : (s.updAxis n f).moor = s.moor := rfl
@[simp] theorem updAxis_pwr (s : State) (n : Fin 4) (f : Axis → Axis) : (s.updAxis n f).pwr = s.pwr := rfl

@[simp] theorem updAxis_reg (s : State) (n : Fin 4) (f : Axis → Axis) (x : Nat) : (s.updAxis n f).reg x = s.reg x := rfl
@[simp] theorem updAxis_get (s : State) (n : Fin 4) (f : Axis → Axis) (x : Fld) : (s.updAxis n f).get x = s.get x := rfl
@[simp] theorem updAxis_bit (s : State) (n : Fin 4) (f : Axis → Axis) (x : Fld) : (s.updAxis n f).bit x = s.bit x := rfl
@[simp] theorem updAxis_getI (s : State) (n : Fin 4) (f : Axis → Axis) (x : Fld) : (s.updAxis n f).getI x = s.getI x := rfl
@[simp] theorem updAxis_byte (s : State) (n : Fin 4) (f : Axis → Axis) (x : Nat) : (s.updAxis n f).byte x = s.byte x := rfl
@[simp] theorem updAxis_carrier (s : State) (n : Fin 4) (f : Axis → Axis) (k : Fin 4) : (s.updAxis n f).carrier k = s.carrier k := rfl
@[simp] theorem updAxis_leg (s : State) (n : Fin 4) (f : Axis → Axis) (k : Fin 12) : (s.updAxis n f).leg k = s.leg k := rfl
@[simp] theorem updAxis_gate (s : State) (n : Fin 4) (f : Axis → Axis) (k : Fin 26) : (s.updAxis n f).gate k = s.gate k := rfl
@[simp] theorem updAxis_engine (s : State) (n : Fin 4) (f : Axis → Axis) (k : Fin 4) : (s.updAxis n f).engine k = s.engine k := rfl

/-! ### `updCarrier` -/

@[simp] theorem updCarrier_pending (s : State) (n : Fin 4) (f : Carrier → Carrier) : (s.updCarrier n f).pending = s.pending := rfl
@[simp] theorem updCarrier_free (s : State) (n : Fin 4) (f : Carrier → Carrier) : (s.updCarrier n f).free = s.free := rfl
@[simp] theorem updCarrier_out (s : State) (n : Fin 4) (f : Carrier → Carrier) : (s.updCarrier n f).out = s.out := rfl
@[simp] theorem updCarrier_tide (s : State) (n : Fin 4) (f : Carrier → Carrier) : (s.updCarrier n f).tide = s.tide := rfl
@[simp] theorem updCarrier_backup (s : State) (n : Fin 4) (f : Carrier → Carrier) : (s.updCarrier n f).backup = s.backup := rfl
@[simp] theorem updCarrier_caps (s : State) (n : Fin 4) (f : Carrier → Carrier) : (s.updCarrier n f).caps = s.caps := rfl
@[simp] theorem updCarrier_zcaps (s : State) (n : Fin 4) (f : Carrier → Carrier) : (s.updCarrier n f).zcaps = s.zcaps := rfl
@[simp] theorem updCarrier_regs (s : State) (n : Fin 4) (f : Carrier → Carrier) : (s.updCarrier n f).regs = s.regs := rfl
@[simp] theorem updCarrier_mem (s : State) (n : Fin 4) (f : Carrier → Carrier) : (s.updCarrier n f).mem = s.mem := rfl
@[simp] theorem updCarrier_mid (s : State) (n : Fin 4) (f : Carrier → Carrier) : (s.updCarrier n f).mid = s.mid := rfl
@[simp] theorem updCarrier_dl (s : State) (n : Fin 4) (f : Carrier → Carrier) : (s.updCarrier n f).dl = s.dl := rfl
@[simp] theorem updCarrier_rail (s : State) (n : Fin 4) (f : Carrier → Carrier) : (s.updCarrier n f).rail = s.rail := rfl
@[simp] theorem updCarrier_asd (s : State) (n : Fin 4) (f : Carrier → Carrier) : (s.updCarrier n f).asd = s.asd := rfl
@[simp] theorem updCarrier_hm (s : State) (n : Fin 4) (f : Carrier → Carrier) : (s.updCarrier n f).hm = s.hm := rfl
@[simp] theorem updCarrier_fm (s : State) (n : Fin 4) (f : Carrier → Carrier) : (s.updCarrier n f).fm = s.fm := rfl
@[simp] theorem updCarrier_axes (s : State) (n : Fin 4) (f : Carrier → Carrier) : (s.updCarrier n f).axes = s.axes := rfl
@[simp] theorem updCarrier_pwm (s : State) (n : Fin 4) (f : Carrier → Carrier) : (s.updCarrier n f).pwm = s.pwm.set n (f (s.carrier n)) := rfl
@[simp] theorem updCarrier_legs (s : State) (n : Fin 4) (f : Carrier → Carrier) : (s.updCarrier n f).legs = s.legs := rfl
@[simp] theorem updCarrier_gates (s : State) (n : Fin 4) (f : Carrier → Carrier) : (s.updCarrier n f).gates = s.gates := rfl
@[simp] theorem updCarrier_bw (s : State) (n : Fin 4) (f : Carrier → Carrier) : (s.updCarrier n f).bw = s.bw := rfl
@[simp] theorem updCarrier_gcZero (s : State) (n : Fin 4) (f : Carrier → Carrier) : (s.updCarrier n f).gcZero = s.gcZero := rfl
@[simp] theorem updCarrier_eng (s : State) (n : Fin 4) (f : Carrier → Carrier) : (s.updCarrier n f).eng = s.eng := rfl
@[simp] theorem updCarrier_logb (s : State) (n : Fin 4) (f : Carrier → Carrier) : (s.updCarrier n f).logb = s.logb := rfl
@[simp] theorem updCarrier_adc (s : State) (n : Fin 4) (f : Carrier → Carrier) : (s.updCarrier n f).adc = s.adc := rfl
@[simp] theorem updCarrier_fbk (s : State) (n : Fin 4) (f : Carrier → Carrier) : (s.updCarrier n f).fbk = s.fbk := rfl
@[simp] theorem updCarrier_temps (s : State) (n : Fin 4) (f : Carrier → Carrier) : (s.updCarrier n f).temps = s.temps := rfl
@[simp] theorem updCarrier_hkOd (s : State) (n : Fin 4) (f : Carrier → Carrier) : (s.updCarrier n f).hkOd = s.hkOd := rfl
@[simp] theorem updCarrier_hkGd (s : State) (n : Fin 4) (f : Carrier → Carrier) : (s.updCarrier n f).hkGd = s.hkGd := rfl
@[simp] theorem updCarrier_hkUncal (s : State) (n : Fin 4) (f : Carrier → Carrier) : (s.updCarrier n f).hkUncal = s.hkUncal := rfl
@[simp] theorem updCarrier_perf (s : State) (n : Fin 4) (f : Carrier → Carrier) : (s.updCarrier n f).perf = s.perf := rfl
@[simp] theorem updCarrier_lk (s : State) (n : Fin 4) (f : Carrier → Carrier) : (s.updCarrier n f).lk = s.lk := rfl
@[simp] theorem updCarrier_eth (s : State) (n : Fin 4) (f : Carrier → Carrier) : (s.updCarrier n f).eth = s.eth := rfl
@[simp] theorem updCarrier_can (s : State) (n : Fin 4) (f : Carrier → Carrier) : (s.updCarrier n f).can = s.can := rfl
@[simp] theorem updCarrier_cores (s : State) (n : Fin 4) (f : Carrier → Carrier) : (s.updCarrier n f).cores = s.cores := rfl
@[simp] theorem updCarrier_arb (s : State) (n : Fin 4) (f : Carrier → Carrier) : (s.updCarrier n f).arb = s.arb := rfl
@[simp] theorem updCarrier_flash (s : State) (n : Fin 4) (f : Carrier → Carrier) : (s.updCarrier n f).flash = s.flash := rfl
@[simp] theorem updCarrier_moor (s : State) (n : Fin 4) (f : Carrier → Carrier) : (s.updCarrier n f).moor = s.moor := rfl
@[simp] theorem updCarrier_pwr (s : State) (n : Fin 4) (f : Carrier → Carrier) : (s.updCarrier n f).pwr = s.pwr := rfl

@[simp] theorem updCarrier_reg (s : State) (n : Fin 4) (f : Carrier → Carrier) (x : Nat) : (s.updCarrier n f).reg x = s.reg x := rfl
@[simp] theorem updCarrier_get (s : State) (n : Fin 4) (f : Carrier → Carrier) (x : Fld) : (s.updCarrier n f).get x = s.get x := rfl
@[simp] theorem updCarrier_bit (s : State) (n : Fin 4) (f : Carrier → Carrier) (x : Fld) : (s.updCarrier n f).bit x = s.bit x := rfl
@[simp] theorem updCarrier_getI (s : State) (n : Fin 4) (f : Carrier → Carrier) (x : Fld) : (s.updCarrier n f).getI x = s.getI x := rfl
@[simp] theorem updCarrier_byte (s : State) (n : Fin 4) (f : Carrier → Carrier) (x : Nat) : (s.updCarrier n f).byte x = s.byte x := rfl
@[simp] theorem updCarrier_axis (s : State) (n : Fin 4) (f : Carrier → Carrier) (k : Fin 4) : (s.updCarrier n f).axis k = s.axis k := rfl
@[simp] theorem updCarrier_leg (s : State) (n : Fin 4) (f : Carrier → Carrier) (k : Fin 12) : (s.updCarrier n f).leg k = s.leg k := rfl
@[simp] theorem updCarrier_gate (s : State) (n : Fin 4) (f : Carrier → Carrier) (k : Fin 26) : (s.updCarrier n f).gate k = s.gate k := rfl
@[simp] theorem updCarrier_engine (s : State) (n : Fin 4) (f : Carrier → Carrier) (k : Fin 4) : (s.updCarrier n f).engine k = s.engine k := rfl

/-! ### `updLeg` -/

@[simp] theorem updLeg_pending (s : State) (l : Fin 12) (f : Leg → Leg) : (s.updLeg l f).pending = s.pending := rfl
@[simp] theorem updLeg_free (s : State) (l : Fin 12) (f : Leg → Leg) : (s.updLeg l f).free = s.free := rfl
@[simp] theorem updLeg_out (s : State) (l : Fin 12) (f : Leg → Leg) : (s.updLeg l f).out = s.out := rfl
@[simp] theorem updLeg_tide (s : State) (l : Fin 12) (f : Leg → Leg) : (s.updLeg l f).tide = s.tide := rfl
@[simp] theorem updLeg_backup (s : State) (l : Fin 12) (f : Leg → Leg) : (s.updLeg l f).backup = s.backup := rfl
@[simp] theorem updLeg_caps (s : State) (l : Fin 12) (f : Leg → Leg) : (s.updLeg l f).caps = s.caps := rfl
@[simp] theorem updLeg_zcaps (s : State) (l : Fin 12) (f : Leg → Leg) : (s.updLeg l f).zcaps = s.zcaps := rfl
@[simp] theorem updLeg_regs (s : State) (l : Fin 12) (f : Leg → Leg) : (s.updLeg l f).regs = s.regs := rfl
@[simp] theorem updLeg_mem (s : State) (l : Fin 12) (f : Leg → Leg) : (s.updLeg l f).mem = s.mem := rfl
@[simp] theorem updLeg_mid (s : State) (l : Fin 12) (f : Leg → Leg) : (s.updLeg l f).mid = s.mid := rfl
@[simp] theorem updLeg_dl (s : State) (l : Fin 12) (f : Leg → Leg) : (s.updLeg l f).dl = s.dl := rfl
@[simp] theorem updLeg_rail (s : State) (l : Fin 12) (f : Leg → Leg) : (s.updLeg l f).rail = s.rail := rfl
@[simp] theorem updLeg_asd (s : State) (l : Fin 12) (f : Leg → Leg) : (s.updLeg l f).asd = s.asd := rfl
@[simp] theorem updLeg_hm (s : State) (l : Fin 12) (f : Leg → Leg) : (s.updLeg l f).hm = s.hm := rfl
@[simp] theorem updLeg_fm (s : State) (l : Fin 12) (f : Leg → Leg) : (s.updLeg l f).fm = s.fm := rfl
@[simp] theorem updLeg_axes (s : State) (l : Fin 12) (f : Leg → Leg) : (s.updLeg l f).axes = s.axes := rfl
@[simp] theorem updLeg_pwm (s : State) (l : Fin 12) (f : Leg → Leg) : (s.updLeg l f).pwm = s.pwm := rfl
@[simp] theorem updLeg_legs (s : State) (l : Fin 12) (f : Leg → Leg) : (s.updLeg l f).legs = s.legs.set l (f (s.leg l)) := rfl
@[simp] theorem updLeg_gates (s : State) (l : Fin 12) (f : Leg → Leg) : (s.updLeg l f).gates = s.gates := rfl
@[simp] theorem updLeg_bw (s : State) (l : Fin 12) (f : Leg → Leg) : (s.updLeg l f).bw = s.bw := rfl
@[simp] theorem updLeg_gcZero (s : State) (l : Fin 12) (f : Leg → Leg) : (s.updLeg l f).gcZero = s.gcZero := rfl
@[simp] theorem updLeg_eng (s : State) (l : Fin 12) (f : Leg → Leg) : (s.updLeg l f).eng = s.eng := rfl
@[simp] theorem updLeg_logb (s : State) (l : Fin 12) (f : Leg → Leg) : (s.updLeg l f).logb = s.logb := rfl
@[simp] theorem updLeg_adc (s : State) (l : Fin 12) (f : Leg → Leg) : (s.updLeg l f).adc = s.adc := rfl
@[simp] theorem updLeg_fbk (s : State) (l : Fin 12) (f : Leg → Leg) : (s.updLeg l f).fbk = s.fbk := rfl
@[simp] theorem updLeg_temps (s : State) (l : Fin 12) (f : Leg → Leg) : (s.updLeg l f).temps = s.temps := rfl
@[simp] theorem updLeg_hkOd (s : State) (l : Fin 12) (f : Leg → Leg) : (s.updLeg l f).hkOd = s.hkOd := rfl
@[simp] theorem updLeg_hkGd (s : State) (l : Fin 12) (f : Leg → Leg) : (s.updLeg l f).hkGd = s.hkGd := rfl
@[simp] theorem updLeg_hkUncal (s : State) (l : Fin 12) (f : Leg → Leg) : (s.updLeg l f).hkUncal = s.hkUncal := rfl
@[simp] theorem updLeg_perf (s : State) (l : Fin 12) (f : Leg → Leg) : (s.updLeg l f).perf = s.perf := rfl
@[simp] theorem updLeg_lk (s : State) (l : Fin 12) (f : Leg → Leg) : (s.updLeg l f).lk = s.lk := rfl
@[simp] theorem updLeg_eth (s : State) (l : Fin 12) (f : Leg → Leg) : (s.updLeg l f).eth = s.eth := rfl
@[simp] theorem updLeg_can (s : State) (l : Fin 12) (f : Leg → Leg) : (s.updLeg l f).can = s.can := rfl
@[simp] theorem updLeg_cores (s : State) (l : Fin 12) (f : Leg → Leg) : (s.updLeg l f).cores = s.cores := rfl
@[simp] theorem updLeg_arb (s : State) (l : Fin 12) (f : Leg → Leg) : (s.updLeg l f).arb = s.arb := rfl
@[simp] theorem updLeg_flash (s : State) (l : Fin 12) (f : Leg → Leg) : (s.updLeg l f).flash = s.flash := rfl
@[simp] theorem updLeg_moor (s : State) (l : Fin 12) (f : Leg → Leg) : (s.updLeg l f).moor = s.moor := rfl
@[simp] theorem updLeg_pwr (s : State) (l : Fin 12) (f : Leg → Leg) : (s.updLeg l f).pwr = s.pwr := rfl

@[simp] theorem updLeg_reg (s : State) (l : Fin 12) (f : Leg → Leg) (x : Nat) : (s.updLeg l f).reg x = s.reg x := rfl
@[simp] theorem updLeg_get (s : State) (l : Fin 12) (f : Leg → Leg) (x : Fld) : (s.updLeg l f).get x = s.get x := rfl
@[simp] theorem updLeg_bit (s : State) (l : Fin 12) (f : Leg → Leg) (x : Fld) : (s.updLeg l f).bit x = s.bit x := rfl
@[simp] theorem updLeg_getI (s : State) (l : Fin 12) (f : Leg → Leg) (x : Fld) : (s.updLeg l f).getI x = s.getI x := rfl
@[simp] theorem updLeg_byte (s : State) (l : Fin 12) (f : Leg → Leg) (x : Nat) : (s.updLeg l f).byte x = s.byte x := rfl
@[simp] theorem updLeg_axis (s : State) (l : Fin 12) (f : Leg → Leg) (k : Fin 4) : (s.updLeg l f).axis k = s.axis k := rfl
@[simp] theorem updLeg_carrier (s : State) (l : Fin 12) (f : Leg → Leg) (k : Fin 4) : (s.updLeg l f).carrier k = s.carrier k := rfl
@[simp] theorem updLeg_gate (s : State) (l : Fin 12) (f : Leg → Leg) (k : Fin 26) : (s.updLeg l f).gate k = s.gate k := rfl
@[simp] theorem updLeg_engine (s : State) (l : Fin 12) (f : Leg → Leg) (k : Fin 4) : (s.updLeg l f).engine k = s.engine k := rfl

/-! ### `updGate` -/

@[simp] theorem updGate_pending (s : State) (g : Fin 26) (f : Gate → Gate) : (s.updGate g f).pending = s.pending := rfl
@[simp] theorem updGate_free (s : State) (g : Fin 26) (f : Gate → Gate) : (s.updGate g f).free = s.free := rfl
@[simp] theorem updGate_out (s : State) (g : Fin 26) (f : Gate → Gate) : (s.updGate g f).out = s.out := rfl
@[simp] theorem updGate_tide (s : State) (g : Fin 26) (f : Gate → Gate) : (s.updGate g f).tide = s.tide := rfl
@[simp] theorem updGate_backup (s : State) (g : Fin 26) (f : Gate → Gate) : (s.updGate g f).backup = s.backup := rfl
@[simp] theorem updGate_caps (s : State) (g : Fin 26) (f : Gate → Gate) : (s.updGate g f).caps = s.caps := rfl
@[simp] theorem updGate_zcaps (s : State) (g : Fin 26) (f : Gate → Gate) : (s.updGate g f).zcaps = s.zcaps := rfl
@[simp] theorem updGate_regs (s : State) (g : Fin 26) (f : Gate → Gate) : (s.updGate g f).regs = s.regs := rfl
@[simp] theorem updGate_mem (s : State) (g : Fin 26) (f : Gate → Gate) : (s.updGate g f).mem = s.mem := rfl
@[simp] theorem updGate_mid (s : State) (g : Fin 26) (f : Gate → Gate) : (s.updGate g f).mid = s.mid := rfl
@[simp] theorem updGate_dl (s : State) (g : Fin 26) (f : Gate → Gate) : (s.updGate g f).dl = s.dl := rfl
@[simp] theorem updGate_rail (s : State) (g : Fin 26) (f : Gate → Gate) : (s.updGate g f).rail = s.rail := rfl
@[simp] theorem updGate_asd (s : State) (g : Fin 26) (f : Gate → Gate) : (s.updGate g f).asd = s.asd := rfl
@[simp] theorem updGate_hm (s : State) (g : Fin 26) (f : Gate → Gate) : (s.updGate g f).hm = s.hm := rfl
@[simp] theorem updGate_fm (s : State) (g : Fin 26) (f : Gate → Gate) : (s.updGate g f).fm = s.fm := rfl
@[simp] theorem updGate_axes (s : State) (g : Fin 26) (f : Gate → Gate) : (s.updGate g f).axes = s.axes := rfl
@[simp] theorem updGate_pwm (s : State) (g : Fin 26) (f : Gate → Gate) : (s.updGate g f).pwm = s.pwm := rfl
@[simp] theorem updGate_legs (s : State) (g : Fin 26) (f : Gate → Gate) : (s.updGate g f).legs = s.legs := rfl
@[simp] theorem updGate_gates (s : State) (g : Fin 26) (f : Gate → Gate) : (s.updGate g f).gates = s.gates.set g (f (s.gate g)) := rfl
@[simp] theorem updGate_bw (s : State) (g : Fin 26) (f : Gate → Gate) : (s.updGate g f).bw = s.bw := rfl
@[simp] theorem updGate_gcZero (s : State) (g : Fin 26) (f : Gate → Gate) : (s.updGate g f).gcZero = s.gcZero := rfl
@[simp] theorem updGate_eng (s : State) (g : Fin 26) (f : Gate → Gate) : (s.updGate g f).eng = s.eng := rfl
@[simp] theorem updGate_logb (s : State) (g : Fin 26) (f : Gate → Gate) : (s.updGate g f).logb = s.logb := rfl
@[simp] theorem updGate_adc (s : State) (g : Fin 26) (f : Gate → Gate) : (s.updGate g f).adc = s.adc := rfl
@[simp] theorem updGate_fbk (s : State) (g : Fin 26) (f : Gate → Gate) : (s.updGate g f).fbk = s.fbk := rfl
@[simp] theorem updGate_temps (s : State) (g : Fin 26) (f : Gate → Gate) : (s.updGate g f).temps = s.temps := rfl
@[simp] theorem updGate_hkOd (s : State) (g : Fin 26) (f : Gate → Gate) : (s.updGate g f).hkOd = s.hkOd := rfl
@[simp] theorem updGate_hkGd (s : State) (g : Fin 26) (f : Gate → Gate) : (s.updGate g f).hkGd = s.hkGd := rfl
@[simp] theorem updGate_hkUncal (s : State) (g : Fin 26) (f : Gate → Gate) : (s.updGate g f).hkUncal = s.hkUncal := rfl
@[simp] theorem updGate_perf (s : State) (g : Fin 26) (f : Gate → Gate) : (s.updGate g f).perf = s.perf := rfl
@[simp] theorem updGate_lk (s : State) (g : Fin 26) (f : Gate → Gate) : (s.updGate g f).lk = s.lk := rfl
@[simp] theorem updGate_eth (s : State) (g : Fin 26) (f : Gate → Gate) : (s.updGate g f).eth = s.eth := rfl
@[simp] theorem updGate_can (s : State) (g : Fin 26) (f : Gate → Gate) : (s.updGate g f).can = s.can := rfl
@[simp] theorem updGate_cores (s : State) (g : Fin 26) (f : Gate → Gate) : (s.updGate g f).cores = s.cores := rfl
@[simp] theorem updGate_arb (s : State) (g : Fin 26) (f : Gate → Gate) : (s.updGate g f).arb = s.arb := rfl
@[simp] theorem updGate_flash (s : State) (g : Fin 26) (f : Gate → Gate) : (s.updGate g f).flash = s.flash := rfl
@[simp] theorem updGate_moor (s : State) (g : Fin 26) (f : Gate → Gate) : (s.updGate g f).moor = s.moor := rfl
@[simp] theorem updGate_pwr (s : State) (g : Fin 26) (f : Gate → Gate) : (s.updGate g f).pwr = s.pwr := rfl

@[simp] theorem updGate_reg (s : State) (g : Fin 26) (f : Gate → Gate) (x : Nat) : (s.updGate g f).reg x = s.reg x := rfl
@[simp] theorem updGate_get (s : State) (g : Fin 26) (f : Gate → Gate) (x : Fld) : (s.updGate g f).get x = s.get x := rfl
@[simp] theorem updGate_bit (s : State) (g : Fin 26) (f : Gate → Gate) (x : Fld) : (s.updGate g f).bit x = s.bit x := rfl
@[simp] theorem updGate_getI (s : State) (g : Fin 26) (f : Gate → Gate) (x : Fld) : (s.updGate g f).getI x = s.getI x := rfl
@[simp] theorem updGate_byte (s : State) (g : Fin 26) (f : Gate → Gate) (x : Nat) : (s.updGate g f).byte x = s.byte x := rfl
@[simp] theorem updGate_axis (s : State) (g : Fin 26) (f : Gate → Gate) (k : Fin 4) : (s.updGate g f).axis k = s.axis k := rfl
@[simp] theorem updGate_carrier (s : State) (g : Fin 26) (f : Gate → Gate) (k : Fin 4) : (s.updGate g f).carrier k = s.carrier k := rfl
@[simp] theorem updGate_leg (s : State) (g : Fin 26) (f : Gate → Gate) (k : Fin 12) : (s.updGate g f).leg k = s.leg k := rfl
@[simp] theorem updGate_engine (s : State) (g : Fin 26) (f : Gate → Gate) (k : Fin 4) : (s.updGate g f).engine k = s.engine k := rfl

/-! ### `updEng` -/

@[simp] theorem updEng_pending (s : State) (n : Fin 4) (f : Eng → Eng) : (s.updEng n f).pending = s.pending := rfl
@[simp] theorem updEng_free (s : State) (n : Fin 4) (f : Eng → Eng) : (s.updEng n f).free = s.free := rfl
@[simp] theorem updEng_out (s : State) (n : Fin 4) (f : Eng → Eng) : (s.updEng n f).out = s.out := rfl
@[simp] theorem updEng_tide (s : State) (n : Fin 4) (f : Eng → Eng) : (s.updEng n f).tide = s.tide := rfl
@[simp] theorem updEng_backup (s : State) (n : Fin 4) (f : Eng → Eng) : (s.updEng n f).backup = s.backup := rfl
@[simp] theorem updEng_caps (s : State) (n : Fin 4) (f : Eng → Eng) : (s.updEng n f).caps = s.caps := rfl
@[simp] theorem updEng_zcaps (s : State) (n : Fin 4) (f : Eng → Eng) : (s.updEng n f).zcaps = s.zcaps := rfl
@[simp] theorem updEng_regs (s : State) (n : Fin 4) (f : Eng → Eng) : (s.updEng n f).regs = s.regs := rfl
@[simp] theorem updEng_mem (s : State) (n : Fin 4) (f : Eng → Eng) : (s.updEng n f).mem = s.mem := rfl
@[simp] theorem updEng_mid (s : State) (n : Fin 4) (f : Eng → Eng) : (s.updEng n f).mid = s.mid := rfl
@[simp] theorem updEng_dl (s : State) (n : Fin 4) (f : Eng → Eng) : (s.updEng n f).dl = s.dl := rfl
@[simp] theorem updEng_rail (s : State) (n : Fin 4) (f : Eng → Eng) : (s.updEng n f).rail = s.rail := rfl
@[simp] theorem updEng_asd (s : State) (n : Fin 4) (f : Eng → Eng) : (s.updEng n f).asd = s.asd := rfl
@[simp] theorem updEng_hm (s : State) (n : Fin 4) (f : Eng → Eng) : (s.updEng n f).hm = s.hm := rfl
@[simp] theorem updEng_fm (s : State) (n : Fin 4) (f : Eng → Eng) : (s.updEng n f).fm = s.fm := rfl
@[simp] theorem updEng_axes (s : State) (n : Fin 4) (f : Eng → Eng) : (s.updEng n f).axes = s.axes := rfl
@[simp] theorem updEng_pwm (s : State) (n : Fin 4) (f : Eng → Eng) : (s.updEng n f).pwm = s.pwm := rfl
@[simp] theorem updEng_legs (s : State) (n : Fin 4) (f : Eng → Eng) : (s.updEng n f).legs = s.legs := rfl
@[simp] theorem updEng_gates (s : State) (n : Fin 4) (f : Eng → Eng) : (s.updEng n f).gates = s.gates := rfl
@[simp] theorem updEng_bw (s : State) (n : Fin 4) (f : Eng → Eng) : (s.updEng n f).bw = s.bw := rfl
@[simp] theorem updEng_gcZero (s : State) (n : Fin 4) (f : Eng → Eng) : (s.updEng n f).gcZero = s.gcZero := rfl
@[simp] theorem updEng_eng (s : State) (n : Fin 4) (f : Eng → Eng) : (s.updEng n f).eng = s.eng.set n (f (s.engine n)) := rfl
@[simp] theorem updEng_logb (s : State) (n : Fin 4) (f : Eng → Eng) : (s.updEng n f).logb = s.logb := rfl
@[simp] theorem updEng_adc (s : State) (n : Fin 4) (f : Eng → Eng) : (s.updEng n f).adc = s.adc := rfl
@[simp] theorem updEng_fbk (s : State) (n : Fin 4) (f : Eng → Eng) : (s.updEng n f).fbk = s.fbk := rfl
@[simp] theorem updEng_temps (s : State) (n : Fin 4) (f : Eng → Eng) : (s.updEng n f).temps = s.temps := rfl
@[simp] theorem updEng_hkOd (s : State) (n : Fin 4) (f : Eng → Eng) : (s.updEng n f).hkOd = s.hkOd := rfl
@[simp] theorem updEng_hkGd (s : State) (n : Fin 4) (f : Eng → Eng) : (s.updEng n f).hkGd = s.hkGd := rfl
@[simp] theorem updEng_hkUncal (s : State) (n : Fin 4) (f : Eng → Eng) : (s.updEng n f).hkUncal = s.hkUncal := rfl
@[simp] theorem updEng_perf (s : State) (n : Fin 4) (f : Eng → Eng) : (s.updEng n f).perf = s.perf := rfl
@[simp] theorem updEng_lk (s : State) (n : Fin 4) (f : Eng → Eng) : (s.updEng n f).lk = s.lk := rfl
@[simp] theorem updEng_eth (s : State) (n : Fin 4) (f : Eng → Eng) : (s.updEng n f).eth = s.eth := rfl
@[simp] theorem updEng_can (s : State) (n : Fin 4) (f : Eng → Eng) : (s.updEng n f).can = s.can := rfl
@[simp] theorem updEng_cores (s : State) (n : Fin 4) (f : Eng → Eng) : (s.updEng n f).cores = s.cores := rfl
@[simp] theorem updEng_arb (s : State) (n : Fin 4) (f : Eng → Eng) : (s.updEng n f).arb = s.arb := rfl
@[simp] theorem updEng_flash (s : State) (n : Fin 4) (f : Eng → Eng) : (s.updEng n f).flash = s.flash := rfl
@[simp] theorem updEng_moor (s : State) (n : Fin 4) (f : Eng → Eng) : (s.updEng n f).moor = s.moor := rfl
@[simp] theorem updEng_pwr (s : State) (n : Fin 4) (f : Eng → Eng) : (s.updEng n f).pwr = s.pwr := rfl

@[simp] theorem updEng_reg (s : State) (n : Fin 4) (f : Eng → Eng) (x : Nat) : (s.updEng n f).reg x = s.reg x := rfl
@[simp] theorem updEng_get (s : State) (n : Fin 4) (f : Eng → Eng) (x : Fld) : (s.updEng n f).get x = s.get x := rfl
@[simp] theorem updEng_bit (s : State) (n : Fin 4) (f : Eng → Eng) (x : Fld) : (s.updEng n f).bit x = s.bit x := rfl
@[simp] theorem updEng_getI (s : State) (n : Fin 4) (f : Eng → Eng) (x : Fld) : (s.updEng n f).getI x = s.getI x := rfl
@[simp] theorem updEng_byte (s : State) (n : Fin 4) (f : Eng → Eng) (x : Nat) : (s.updEng n f).byte x = s.byte x := rfl
@[simp] theorem updEng_axis (s : State) (n : Fin 4) (f : Eng → Eng) (k : Fin 4) : (s.updEng n f).axis k = s.axis k := rfl
@[simp] theorem updEng_carrier (s : State) (n : Fin 4) (f : Eng → Eng) (k : Fin 4) : (s.updEng n f).carrier k = s.carrier k := rfl
@[simp] theorem updEng_leg (s : State) (n : Fin 4) (f : Eng → Eng) (k : Fin 12) : (s.updEng n f).leg k = s.leg k := rfl
@[simp] theorem updEng_gate (s : State) (n : Fin 4) (f : Eng → Eng) (k : Fin 26) : (s.updEng n f).gate k = s.gate k := rfl

/-! ### `updBw` -/

@[simp] theorem updBw_pending (s : State) (f : Bw → Bw) : (s.updBw f).pending = s.pending := rfl
@[simp] theorem updBw_free (s : State) (f : Bw → Bw) : (s.updBw f).free = s.free := rfl
@[simp] theorem updBw_out (s : State) (f : Bw → Bw) : (s.updBw f).out = s.out := rfl
@[simp] theorem updBw_tide (s : State) (f : Bw → Bw) : (s.updBw f).tide = s.tide := rfl
@[simp] theorem updBw_backup (s : State) (f : Bw → Bw) : (s.updBw f).backup = s.backup := rfl
@[simp] theorem updBw_caps (s : State) (f : Bw → Bw) : (s.updBw f).caps = s.caps := rfl
@[simp] theorem updBw_zcaps (s : State) (f : Bw → Bw) : (s.updBw f).zcaps = s.zcaps := rfl
@[simp] theorem updBw_regs (s : State) (f : Bw → Bw) : (s.updBw f).regs = s.regs := rfl
@[simp] theorem updBw_mem (s : State) (f : Bw → Bw) : (s.updBw f).mem = s.mem := rfl
@[simp] theorem updBw_mid (s : State) (f : Bw → Bw) : (s.updBw f).mid = s.mid := rfl
@[simp] theorem updBw_dl (s : State) (f : Bw → Bw) : (s.updBw f).dl = s.dl := rfl
@[simp] theorem updBw_rail (s : State) (f : Bw → Bw) : (s.updBw f).rail = s.rail := rfl
@[simp] theorem updBw_asd (s : State) (f : Bw → Bw) : (s.updBw f).asd = s.asd := rfl
@[simp] theorem updBw_hm (s : State) (f : Bw → Bw) : (s.updBw f).hm = s.hm := rfl
@[simp] theorem updBw_fm (s : State) (f : Bw → Bw) : (s.updBw f).fm = s.fm := rfl
@[simp] theorem updBw_axes (s : State) (f : Bw → Bw) : (s.updBw f).axes = s.axes := rfl
@[simp] theorem updBw_pwm (s : State) (f : Bw → Bw) : (s.updBw f).pwm = s.pwm := rfl
@[simp] theorem updBw_legs (s : State) (f : Bw → Bw) : (s.updBw f).legs = s.legs := rfl
@[simp] theorem updBw_gates (s : State) (f : Bw → Bw) : (s.updBw f).gates = s.gates := rfl
@[simp] theorem updBw_bw (s : State) (f : Bw → Bw) : (s.updBw f).bw = f s.bw := rfl
@[simp] theorem updBw_gcZero (s : State) (f : Bw → Bw) : (s.updBw f).gcZero = s.gcZero := rfl
@[simp] theorem updBw_eng (s : State) (f : Bw → Bw) : (s.updBw f).eng = s.eng := rfl
@[simp] theorem updBw_logb (s : State) (f : Bw → Bw) : (s.updBw f).logb = s.logb := rfl
@[simp] theorem updBw_adc (s : State) (f : Bw → Bw) : (s.updBw f).adc = s.adc := rfl
@[simp] theorem updBw_fbk (s : State) (f : Bw → Bw) : (s.updBw f).fbk = s.fbk := rfl
@[simp] theorem updBw_temps (s : State) (f : Bw → Bw) : (s.updBw f).temps = s.temps := rfl
@[simp] theorem updBw_hkOd (s : State) (f : Bw → Bw) : (s.updBw f).hkOd = s.hkOd := rfl
@[simp] theorem updBw_hkGd (s : State) (f : Bw → Bw) : (s.updBw f).hkGd = s.hkGd := rfl
@[simp] theorem updBw_hkUncal (s : State) (f : Bw → Bw) : (s.updBw f).hkUncal = s.hkUncal := rfl
@[simp] theorem updBw_perf (s : State) (f : Bw → Bw) : (s.updBw f).perf = s.perf := rfl
@[simp] theorem updBw_lk (s : State) (f : Bw → Bw) : (s.updBw f).lk = s.lk := rfl
@[simp] theorem updBw_eth (s : State) (f : Bw → Bw) : (s.updBw f).eth = s.eth := rfl
@[simp] theorem updBw_can (s : State) (f : Bw → Bw) : (s.updBw f).can = s.can := rfl
@[simp] theorem updBw_cores (s : State) (f : Bw → Bw) : (s.updBw f).cores = s.cores := rfl
@[simp] theorem updBw_arb (s : State) (f : Bw → Bw) : (s.updBw f).arb = s.arb := rfl
@[simp] theorem updBw_flash (s : State) (f : Bw → Bw) : (s.updBw f).flash = s.flash := rfl
@[simp] theorem updBw_moor (s : State) (f : Bw → Bw) : (s.updBw f).moor = s.moor := rfl
@[simp] theorem updBw_pwr (s : State) (f : Bw → Bw) : (s.updBw f).pwr = s.pwr := rfl

@[simp] theorem updBw_reg (s : State) (f : Bw → Bw) (x : Nat) : (s.updBw f).reg x = s.reg x := rfl
@[simp] theorem updBw_get (s : State) (f : Bw → Bw) (x : Fld) : (s.updBw f).get x = s.get x := rfl
@[simp] theorem updBw_bit (s : State) (f : Bw → Bw) (x : Fld) : (s.updBw f).bit x = s.bit x := rfl
@[simp] theorem updBw_getI (s : State) (f : Bw → Bw) (x : Fld) : (s.updBw f).getI x = s.getI x := rfl
@[simp] theorem updBw_byte (s : State) (f : Bw → Bw) (x : Nat) : (s.updBw f).byte x = s.byte x := rfl
@[simp] theorem updBw_axis (s : State) (f : Bw → Bw) (k : Fin 4) : (s.updBw f).axis k = s.axis k := rfl
@[simp] theorem updBw_carrier (s : State) (f : Bw → Bw) (k : Fin 4) : (s.updBw f).carrier k = s.carrier k := rfl
@[simp] theorem updBw_leg (s : State) (f : Bw → Bw) (k : Fin 12) : (s.updBw f).leg k = s.leg k := rfl
@[simp] theorem updBw_gate (s : State) (f : Bw → Bw) (k : Fin 26) : (s.updBw f).gate k = s.gate k := rfl
@[simp] theorem updBw_engine (s : State) (f : Bw → Bw) (k : Fin 4) : (s.updBw f).engine k = s.engine k := rfl

/-! ### `updHm` -/

@[simp] theorem updHm_pending (s : State) (f : Hm → Hm) : (s.updHm f).pending = s.pending := rfl
@[simp] theorem updHm_free (s : State) (f : Hm → Hm) : (s.updHm f).free = s.free := rfl
@[simp] theorem updHm_out (s : State) (f : Hm → Hm) : (s.updHm f).out = s.out := rfl
@[simp] theorem updHm_tide (s : State) (f : Hm → Hm) : (s.updHm f).tide = s.tide := rfl
@[simp] theorem updHm_backup (s : State) (f : Hm → Hm) : (s.updHm f).backup = s.backup := rfl
@[simp] theorem updHm_caps (s : State) (f : Hm → Hm) : (s.updHm f).caps = s.caps := rfl
@[simp] theorem updHm_zcaps (s : State) (f : Hm → Hm) : (s.updHm f).zcaps = s.zcaps := rfl
@[simp] theorem updHm_regs (s : State) (f : Hm → Hm) : (s.updHm f).regs = s.regs := rfl
@[simp] theorem updHm_mem (s : State) (f : Hm → Hm) : (s.updHm f).mem = s.mem := rfl
@[simp] theorem updHm_mid (s : State) (f : Hm → Hm) : (s.updHm f).mid = s.mid := rfl
@[simp] theorem updHm_dl (s : State) (f : Hm → Hm) : (s.updHm f).dl = s.dl := rfl
@[simp] theorem updHm_rail (s : State) (f : Hm → Hm) : (s.updHm f).rail = s.rail := rfl
@[simp] theorem updHm_asd (s : State) (f : Hm → Hm) : (s.updHm f).asd = s.asd := rfl
@[simp] theorem updHm_hm (s : State) (f : Hm → Hm) : (s.updHm f).hm = f s.hm := rfl
@[simp] theorem updHm_fm (s : State) (f : Hm → Hm) : (s.updHm f).fm = s.fm := rfl
@[simp] theorem updHm_axes (s : State) (f : Hm → Hm) : (s.updHm f).axes = s.axes := rfl
@[simp] theorem updHm_pwm (s : State) (f : Hm → Hm) : (s.updHm f).pwm = s.pwm := rfl
@[simp] theorem updHm_legs (s : State) (f : Hm → Hm) : (s.updHm f).legs = s.legs := rfl
@[simp] theorem updHm_gates (s : State) (f : Hm → Hm) : (s.updHm f).gates = s.gates := rfl
@[simp] theorem updHm_bw (s : State) (f : Hm → Hm) : (s.updHm f).bw = s.bw := rfl
@[simp] theorem updHm_gcZero (s : State) (f : Hm → Hm) : (s.updHm f).gcZero = s.gcZero := rfl
@[simp] theorem updHm_eng (s : State) (f : Hm → Hm) : (s.updHm f).eng = s.eng := rfl
@[simp] theorem updHm_logb (s : State) (f : Hm → Hm) : (s.updHm f).logb = s.logb := rfl
@[simp] theorem updHm_adc (s : State) (f : Hm → Hm) : (s.updHm f).adc = s.adc := rfl
@[simp] theorem updHm_fbk (s : State) (f : Hm → Hm) : (s.updHm f).fbk = s.fbk := rfl
@[simp] theorem updHm_temps (s : State) (f : Hm → Hm) : (s.updHm f).temps = s.temps := rfl
@[simp] theorem updHm_hkOd (s : State) (f : Hm → Hm) : (s.updHm f).hkOd = s.hkOd := rfl
@[simp] theorem updHm_hkGd (s : State) (f : Hm → Hm) : (s.updHm f).hkGd = s.hkGd := rfl
@[simp] theorem updHm_hkUncal (s : State) (f : Hm → Hm) : (s.updHm f).hkUncal = s.hkUncal := rfl
@[simp] theorem updHm_perf (s : State) (f : Hm → Hm) : (s.updHm f).perf = s.perf := rfl
@[simp] theorem updHm_lk (s : State) (f : Hm → Hm) : (s.updHm f).lk = s.lk := rfl
@[simp] theorem updHm_eth (s : State) (f : Hm → Hm) : (s.updHm f).eth = s.eth := rfl
@[simp] theorem updHm_can (s : State) (f : Hm → Hm) : (s.updHm f).can = s.can := rfl
@[simp] theorem updHm_cores (s : State) (f : Hm → Hm) : (s.updHm f).cores = s.cores := rfl
@[simp] theorem updHm_arb (s : State) (f : Hm → Hm) : (s.updHm f).arb = s.arb := rfl
@[simp] theorem updHm_flash (s : State) (f : Hm → Hm) : (s.updHm f).flash = s.flash := rfl
@[simp] theorem updHm_moor (s : State) (f : Hm → Hm) : (s.updHm f).moor = s.moor := rfl
@[simp] theorem updHm_pwr (s : State) (f : Hm → Hm) : (s.updHm f).pwr = s.pwr := rfl

@[simp] theorem updHm_reg (s : State) (f : Hm → Hm) (x : Nat) : (s.updHm f).reg x = s.reg x := rfl
@[simp] theorem updHm_get (s : State) (f : Hm → Hm) (x : Fld) : (s.updHm f).get x = s.get x := rfl
@[simp] theorem updHm_bit (s : State) (f : Hm → Hm) (x : Fld) : (s.updHm f).bit x = s.bit x := rfl
@[simp] theorem updHm_getI (s : State) (f : Hm → Hm) (x : Fld) : (s.updHm f).getI x = s.getI x := rfl
@[simp] theorem updHm_byte (s : State) (f : Hm → Hm) (x : Nat) : (s.updHm f).byte x = s.byte x := rfl
@[simp] theorem updHm_axis (s : State) (f : Hm → Hm) (k : Fin 4) : (s.updHm f).axis k = s.axis k := rfl
@[simp] theorem updHm_carrier (s : State) (f : Hm → Hm) (k : Fin 4) : (s.updHm f).carrier k = s.carrier k := rfl
@[simp] theorem updHm_leg (s : State) (f : Hm → Hm) (k : Fin 12) : (s.updHm f).leg k = s.leg k := rfl
@[simp] theorem updHm_gate (s : State) (f : Hm → Hm) (k : Fin 26) : (s.updHm f).gate k = s.gate k := rfl
@[simp] theorem updHm_engine (s : State) (f : Hm → Hm) (k : Fin 4) : (s.updHm f).engine k = s.engine k := rfl

/-! ### `updFm` -/

@[simp] theorem updFm_pending (s : State) (f : FaultMan → FaultMan) : (s.updFm f).pending = s.pending := rfl
@[simp] theorem updFm_free (s : State) (f : FaultMan → FaultMan) : (s.updFm f).free = s.free := rfl
@[simp] theorem updFm_out (s : State) (f : FaultMan → FaultMan) : (s.updFm f).out = s.out := rfl
@[simp] theorem updFm_tide (s : State) (f : FaultMan → FaultMan) : (s.updFm f).tide = s.tide := rfl
@[simp] theorem updFm_backup (s : State) (f : FaultMan → FaultMan) : (s.updFm f).backup = s.backup := rfl
@[simp] theorem updFm_caps (s : State) (f : FaultMan → FaultMan) : (s.updFm f).caps = s.caps := rfl
@[simp] theorem updFm_zcaps (s : State) (f : FaultMan → FaultMan) : (s.updFm f).zcaps = s.zcaps := rfl
@[simp] theorem updFm_regs (s : State) (f : FaultMan → FaultMan) : (s.updFm f).regs = s.regs := rfl
@[simp] theorem updFm_mem (s : State) (f : FaultMan → FaultMan) : (s.updFm f).mem = s.mem := rfl
@[simp] theorem updFm_mid (s : State) (f : FaultMan → FaultMan) : (s.updFm f).mid = s.mid := rfl
@[simp] theorem updFm_dl (s : State) (f : FaultMan → FaultMan) : (s.updFm f).dl = s.dl := rfl
@[simp] theorem updFm_rail (s : State) (f : FaultMan → FaultMan) : (s.updFm f).rail = s.rail := rfl
@[simp] theorem updFm_asd (s : State) (f : FaultMan → FaultMan) : (s.updFm f).asd = s.asd := rfl
@[simp] theorem updFm_hm (s : State) (f : FaultMan → FaultMan) : (s.updFm f).hm = s.hm := rfl
@[simp] theorem updFm_fm (s : State) (f : FaultMan → FaultMan) : (s.updFm f).fm = f s.fm := rfl
@[simp] theorem updFm_axes (s : State) (f : FaultMan → FaultMan) : (s.updFm f).axes = s.axes := rfl
@[simp] theorem updFm_pwm (s : State) (f : FaultMan → FaultMan) : (s.updFm f).pwm = s.pwm := rfl
@[simp] theorem updFm_legs (s : State) (f : FaultMan → FaultMan) : (s.updFm f).legs = s.legs := rfl
@[simp] theorem updFm_gates (s : State) (f : FaultMan → FaultMan) : (s.updFm f).gates = s.gates := rfl
@[simp] theorem updFm_bw (s : State) (f : FaultMan → FaultMan) : (s.updFm f).bw = s.bw := rfl
@[simp] theorem updFm_gcZero (s : State) (f : FaultMan → FaultMan) : (s.updFm f).gcZero = s.gcZero := rfl
@[simp] theorem updFm_eng (s : State) (f : FaultMan → FaultMan) : (s.updFm f).eng = s.eng := rfl
@[simp] theorem updFm_logb (s : State) (f : FaultMan → FaultMan) : (s.updFm f).logb = s.logb := rfl
@[simp] theorem updFm_adc (s : State) (f : FaultMan → FaultMan) : (s.updFm f).adc = s.adc := rfl
@[simp] theorem updFm_fbk (s : State) (f : FaultMan → FaultMan) : (s.updFm f).fbk = s.fbk := rfl
@[simp] theorem updFm_temps (s : State) (f : FaultMan → FaultMan) : (s.updFm f).temps = s.temps := rfl
@[simp] theorem updFm_hkOd (s : State) (f : FaultMan → FaultMan) : (s.updFm f).hkOd = s.hkOd := rfl
@[simp] theorem updFm_hkGd (s : State) (f : FaultMan → FaultMan) : (s.updFm f).hkGd = s.hkGd := rfl
@[simp] theorem updFm_hkUncal (s : State) (f : FaultMan → FaultMan) : (s.updFm f).hkUncal = s.hkUncal := rfl
@[simp] theorem updFm_perf (s : State) (f : FaultMan → FaultMan) : (s.updFm f).perf = s.perf := rfl
@[simp] theorem updFm_lk (s : State) (f : FaultMan → FaultMan) : (s.updFm f).lk = s.lk := rfl
@[simp] theorem updFm_eth (s : State) (f : FaultMan → FaultMan) : (s.updFm f).eth = s.eth := rfl
@[simp] theorem updFm_can (s : State) (f : FaultMan → FaultMan) : (s.updFm f).can = s.can := rfl
@[simp] theorem updFm_cores (s : State) (f : FaultMan → FaultMan) : (s.updFm f).cores = s.cores := rfl
@[simp] theorem updFm_arb (s : State) (f : FaultMan → FaultMan) : (s.updFm f).arb = s.arb := rfl
@[simp] theorem updFm_flash (s : State) (f : FaultMan → FaultMan) : (s.updFm f).flash = s.flash := rfl
@[simp] theorem updFm_moor (s : State) (f : FaultMan → FaultMan) : (s.updFm f).moor = s.moor := rfl
@[simp] theorem updFm_pwr (s : State) (f : FaultMan → FaultMan) : (s.updFm f).pwr = s.pwr := rfl

@[simp] theorem updFm_reg (s : State) (f : FaultMan → FaultMan) (x : Nat) : (s.updFm f).reg x = s.reg x := rfl
@[simp] theorem updFm_get (s : State) (f : FaultMan → FaultMan) (x : Fld) : (s.updFm f).get x = s.get x := rfl
@[simp] theorem updFm_bit (s : State) (f : FaultMan → FaultMan) (x : Fld) : (s.updFm f).bit x = s.bit x := rfl
@[simp] theorem updFm_getI (s : State) (f : FaultMan → FaultMan) (x : Fld) : (s.updFm f).getI x = s.getI x := rfl
@[simp] theorem updFm_byte (s : State) (f : FaultMan → FaultMan) (x : Nat) : (s.updFm f).byte x = s.byte x := rfl
@[simp] theorem updFm_axis (s : State) (f : FaultMan → FaultMan) (k : Fin 4) : (s.updFm f).axis k = s.axis k := rfl
@[simp] theorem updFm_carrier (s : State) (f : FaultMan → FaultMan) (k : Fin 4) : (s.updFm f).carrier k = s.carrier k := rfl
@[simp] theorem updFm_leg (s : State) (f : FaultMan → FaultMan) (k : Fin 12) : (s.updFm f).leg k = s.leg k := rfl
@[simp] theorem updFm_gate (s : State) (f : FaultMan → FaultMan) (k : Fin 26) : (s.updFm f).gate k = s.gate k := rfl
@[simp] theorem updFm_engine (s : State) (f : FaultMan → FaultMan) (k : Fin 4) : (s.updFm f).engine k = s.engine k := rfl

/-! ### `updLogb` -/

@[simp] theorem updLogb_pending (s : State) (f : Logb → Logb) : (s.updLogb f).pending = s.pending := rfl
@[simp] theorem updLogb_free (s : State) (f : Logb → Logb) : (s.updLogb f).free = s.free := rfl
@[simp] theorem updLogb_out (s : State) (f : Logb → Logb) : (s.updLogb f).out = s.out := rfl
@[simp] theorem updLogb_tide (s : State) (f : Logb → Logb) : (s.updLogb f).tide = s.tide := rfl
@[simp] theorem updLogb_backup (s : State) (f : Logb → Logb) : (s.updLogb f).backup = s.backup := rfl
@[simp] theorem updLogb_caps (s : State) (f : Logb → Logb) : (s.updLogb f).caps = s.caps := rfl
@[simp] theorem updLogb_zcaps (s : State) (f : Logb → Logb) : (s.updLogb f).zcaps = s.zcaps := rfl
@[simp] theorem updLogb_regs (s : State) (f : Logb → Logb) : (s.updLogb f).regs = s.regs := rfl
@[simp] theorem updLogb_mem (s : State) (f : Logb → Logb) : (s.updLogb f).mem = s.mem := rfl
@[simp] theorem updLogb_mid (s : State) (f : Logb → Logb) : (s.updLogb f).mid = s.mid := rfl
@[simp] theorem updLogb_dl (s : State) (f : Logb → Logb) : (s.updLogb f).dl = s.dl := rfl
@[simp] theorem updLogb_rail (s : State) (f : Logb → Logb) : (s.updLogb f).rail = s.rail := rfl
@[simp] theorem updLogb_asd (s : State) (f : Logb → Logb) : (s.updLogb f).asd = s.asd := rfl
@[simp] theorem updLogb_hm (s : State) (f : Logb → Logb) : (s.updLogb f).hm = s.hm := rfl
@[simp] theorem updLogb_fm (s : State) (f : Logb → Logb) : (s.updLogb f).fm = s.fm := rfl
@[simp] theorem updLogb_axes (s : State) (f : Logb → Logb) : (s.updLogb f).axes = s.axes := rfl
@[simp] theorem updLogb_pwm (s : State) (f : Logb → Logb) : (s.updLogb f).pwm = s.pwm := rfl
@[simp] theorem updLogb_legs (s : State) (f : Logb → Logb) : (s.updLogb f).legs = s.legs := rfl
@[simp] theorem updLogb_gates (s : State) (f : Logb → Logb) : (s.updLogb f).gates = s.gates := rfl
@[simp] theorem updLogb_bw (s : State) (f : Logb → Logb) : (s.updLogb f).bw = s.bw := rfl
@[simp] theorem updLogb_gcZero (s : State) (f : Logb → Logb) : (s.updLogb f).gcZero = s.gcZero := rfl
@[simp] theorem updLogb_eng (s : State) (f : Logb → Logb) : (s.updLogb f).eng = s.eng := rfl
@[simp] theorem updLogb_logb (s : State) (f : Logb → Logb) : (s.updLogb f).logb = f s.logb := rfl
@[simp] theorem updLogb_adc (s : State) (f : Logb → Logb) : (s.updLogb f).adc = s.adc := rfl
@[simp] theorem updLogb_fbk (s : State) (f : Logb → Logb) : (s.updLogb f).fbk = s.fbk := rfl
@[simp] theorem updLogb_temps (s : State) (f : Logb → Logb) : (s.updLogb f).temps = s.temps := rfl
@[simp] theorem updLogb_hkOd (s : State) (f : Logb → Logb) : (s.updLogb f).hkOd = s.hkOd := rfl
@[simp] theorem updLogb_hkGd (s : State) (f : Logb → Logb) : (s.updLogb f).hkGd = s.hkGd := rfl
@[simp] theorem updLogb_hkUncal (s : State) (f : Logb → Logb) : (s.updLogb f).hkUncal = s.hkUncal := rfl
@[simp] theorem updLogb_perf (s : State) (f : Logb → Logb) : (s.updLogb f).perf = s.perf := rfl
@[simp] theorem updLogb_lk (s : State) (f : Logb → Logb) : (s.updLogb f).lk = s.lk := rfl
@[simp] theorem updLogb_eth (s : State) (f : Logb → Logb) : (s.updLogb f).eth = s.eth := rfl
@[simp] theorem updLogb_can (s : State) (f : Logb → Logb) : (s.updLogb f).can = s.can := rfl
@[simp] theorem updLogb_cores (s : State) (f : Logb → Logb) : (s.updLogb f).cores = s.cores := rfl
@[simp] theorem updLogb_arb (s : State) (f : Logb → Logb) : (s.updLogb f).arb = s.arb := rfl
@[simp] theorem updLogb_flash (s : State) (f : Logb → Logb) : (s.updLogb f).flash = s.flash := rfl
@[simp] theorem updLogb_moor (s : State) (f : Logb → Logb) : (s.updLogb f).moor = s.moor := rfl
@[simp] theorem updLogb_pwr (s : State) (f : Logb → Logb) : (s.updLogb f).pwr = s.pwr := rfl

@[simp] theorem updLogb_reg (s : State) (f : Logb → Logb) (x : Nat) : (s.updLogb f).reg x = s.reg x := rfl
@[simp] theorem updLogb_get (s : State) (f : Logb → Logb) (x : Fld) : (s.updLogb f).get x = s.get x := rfl
@[simp] theorem updLogb_bit (s : State) (f : Logb → Logb) (x : Fld) : (s.updLogb f).bit x = s.bit x := rfl
@[simp] theorem updLogb_getI (s : State) (f : Logb → Logb) (x : Fld) : (s.updLogb f).getI x = s.getI x := rfl
@[simp] theorem updLogb_byte (s : State) (f : Logb → Logb) (x : Nat) : (s.updLogb f).byte x = s.byte x := rfl
@[simp] theorem updLogb_axis (s : State) (f : Logb → Logb) (k : Fin 4) : (s.updLogb f).axis k = s.axis k := rfl
@[simp] theorem updLogb_carrier (s : State) (f : Logb → Logb) (k : Fin 4) : (s.updLogb f).carrier k = s.carrier k := rfl
@[simp] theorem updLogb_leg (s : State) (f : Logb → Logb) (k : Fin 12) : (s.updLogb f).leg k = s.leg k := rfl
@[simp] theorem updLogb_gate (s : State) (f : Logb → Logb) (k : Fin 26) : (s.updLogb f).gate k = s.gate k := rfl
@[simp] theorem updLogb_engine (s : State) (f : Logb → Logb) (k : Fin 4) : (s.updLogb f).engine k = s.engine k := rfl

/-! ### `emit` -/

@[simp] theorem emit_pending (s : State) (o : Out) : (s.emit o).pending = s.pending := rfl
@[simp] theorem emit_free (s : State) (o : Out) : (s.emit o).free = s.free := rfl
@[simp] theorem emit_out (s : State) (o : Out) : (s.emit o).out = o :: s.out := rfl
@[simp] theorem emit_tide (s : State) (o : Out) : (s.emit o).tide = s.tide := rfl
@[simp] theorem emit_backup (s : State) (o : Out) : (s.emit o).backup = s.backup := rfl
@[simp] theorem emit_caps (s : State) (o : Out) : (s.emit o).caps = s.caps := rfl
@[simp] theorem emit_zcaps (s : State) (o : Out) : (s.emit o).zcaps = s.zcaps := rfl
@[simp] theorem emit_regs (s : State) (o : Out) : (s.emit o).regs = s.regs := rfl
@[simp] theorem emit_mem (s : State) (o : Out) : (s.emit o).mem = s.mem := rfl
@[simp] theorem emit_mid (s : State) (o : Out) : (s.emit o).mid = s.mid := rfl
@[simp] theorem emit_dl (s : State) (o : Out) : (s.emit o).dl = s.dl := rfl
@[simp] theorem emit_rail (s : State) (o : Out) : (s.emit o).rail = s.rail := rfl
@[simp] theorem emit_asd (s : State) (o : Out) : (s.emit o).asd = s.asd := rfl
@[simp] theorem emit_hm (s : State) (o : Out) : (s.emit o).hm = s.hm := rfl
@[simp] theorem emit_fm (s : State) (o : Out) : (s.emit o).fm = s.fm := rfl
@[simp] theorem emit_axes (s : State) (o : Out) : (s.emit o).axes = s.axes := rfl
@[simp] theorem emit_pwm (s : State) (o : Out) : (s.emit o).pwm = s.pwm := rfl
@[simp] theorem emit_legs (s : State) (o : Out) : (s.emit o).legs = s.legs := rfl
@[simp] theorem emit_gates (s : State) (o : Out) : (s.emit o).gates = s.gates := rfl
@[simp] theorem emit_bw (s : State) (o : Out) : (s.emit o).bw = s.bw := rfl
@[simp] theorem emit_gcZero (s : State) (o : Out) : (s.emit o).gcZero = s.gcZero := rfl
@[simp] theorem emit_eng (s : State) (o : Out) : (s.emit o).eng = s.eng := rfl
@[simp] theorem emit_logb (s : State) (o : Out) : (s.emit o).logb = s.logb := rfl
@[simp] theorem emit_adc (s : State) (o : Out) : (s.emit o).adc = s.adc := rfl
@[simp] theorem emit_fbk (s : State) (o : Out) : (s.emit o).fbk = s.fbk := rfl
@[simp] theorem emit_temps (s : State) (o : Out) : (s.emit o).temps = s.temps := rfl
@[simp] theorem emit_hkOd (s : State) (o : Out) : (s.emit o).hkOd = s.hkOd := rfl
@[simp] theorem emit_hkGd (s : State) (o : Out) : (s.emit o).hkGd = s.hkGd := rfl
@[simp] theorem emit_hkUncal (s : State) (o : Out) : (s.emit o).hkUncal = s.hkUncal := rfl
@[simp] theorem emit_perf (s : State) (o : Out) : (s.emit o).perf = s.perf := rfl
@[simp] theorem emit_lk (s : State) (o : Out) : (s.emit o).lk = s.lk := rfl
@[simp] theorem emit_eth (s : State) (o : Out) : (s.emit o).eth = s.eth := rfl
@[simp] theorem emit_can (s : State) (o : Out) : (s.emit o).can = s.can := rfl
@[simp] theorem emit_cores (s : State) (o : Out) : (s.emit o).cores = s.cores := rfl
@[simp] theorem emit_arb (s : State) (o : Out) : (s.emit o).arb = s.arb := rfl
@[simp] theorem emit_flash (s : State) (o : Out) : (s.emit o).flash = s.flash := rfl
@[simp] theorem emit_moor (s : State) (o : Out) : (s.emit o).moor = s.moor := rfl
@[simp] theorem emit_pwr (s : State) (o : Out) : (s.emit o).pwr = s.pwr := rfl

@[simp] theorem emit_reg (s : State) (o : Out) (x : Nat) : (s.emit o).reg x = s.reg x := rfl
@[simp] theorem emit_get (s : State) (o : Out) (x : Fld) : (s.emit o).get x = s.get x := rfl
@[simp] theorem emit_bit (s : State) (o : Out) (x : Fld) : (s.emit o).bit x = s.bit x := rfl
@[simp] theorem emit_getI (s : State) (o : Out) (x : Fld) : (s.emit o).getI x = s.getI x := rfl
@[simp] theorem emit_byte (s : State) (o : Out) (x : Nat) : (s.emit o).byte x = s.byte x := rfl
@[simp] theorem emit_axis (s : State) (o : Out) (k : Fin 4) : (s.emit o).axis k = s.axis k := rfl
@[simp] theorem emit_carrier (s : State) (o : Out) (k : Fin 4) : (s.emit o).carrier k = s.carrier k := rfl
@[simp] theorem emit_leg (s : State) (o : Out) (k : Fin 12) : (s.emit o).leg k = s.leg k := rfl
@[simp] theorem emit_gate (s : State) (o : Out) (k : Fin 26) : (s.emit o).gate k = s.gate k := rfl
@[simp] theorem emit_engine (s : State) (o : Out) (k : Fin 4) : (s.emit o).engine k = s.engine k := rfl

/-! ### The indexed parts -/

@[simp] theorem updAxis_axis_same (s : State) (n : Fin 4) (f : Axis → Axis) : (s.updAxis n f).axis n = f (s.axis n) := by
  simp [State.updAxis, State.axis, State.setAxis]
theorem updAxis_axis_other (s : State) (n k : Fin 4) (f : Axis → Axis) (h : n ≠ k) :
    (s.updAxis n f).axis k = s.axis k := by
  have : n.val ≠ k.val := fun e => h (Fin.ext e)
  simp [State.updAxis, State.axis, State.setAxis, this]
@[simp] theorem updCarrier_carrier_same (s : State) (n : Fin 4) (f : Carrier → Carrier) : (s.updCarrier n f).carrier n = f (s.carrier n) := by
  simp [State.updCarrier, State.carrier]
theorem updCarrier_carrier_other (s : State) (n k : Fin 4) (f : Carrier → Carrier) (h : n ≠ k) :
    (s.updCarrier n f).carrier k = s.carrier k := by
  have : n.val ≠ k.val := fun e => h (Fin.ext e)
  simp [State.updCarrier, State.carrier, this]
@[simp] theorem updLeg_leg_same (s : State) (n : Fin 12) (f : Leg → Leg) : (s.updLeg n f).leg n = f (s.leg n) := by
  simp [State.updLeg, State.leg]
theorem updLeg_leg_other (s : State) (n k : Fin 12) (f : Leg → Leg) (h : n ≠ k) :
    (s.updLeg n f).leg k = s.leg k := by
  have : n.val ≠ k.val := fun e => h (Fin.ext e)
  simp [State.updLeg, State.leg, this]
@[simp] theorem updGate_gate_same (s : State) (n : Fin 26) (f : Gate → Gate) : (s.updGate n f).gate n = f (s.gate n) := by
  simp [State.updGate, State.gate]
theorem updGate_gate_other (s : State) (n k : Fin 26) (f : Gate → Gate) (h : n ≠ k) :
    (s.updGate n f).gate k = s.gate k := by
  have : n.val ≠ k.val := fun e => h (Fin.ext e)
  simp [State.updGate, State.gate, this]
@[simp] theorem updEng_engine_same (s : State) (n : Fin 4) (f : Eng → Eng) : (s.updEng n f).engine n = f (s.engine n) := by
  simp [State.updEng, State.engine]
theorem updEng_engine_other (s : State) (n k : Fin 4) (f : Eng → Eng) (h : n ≠ k) :
    (s.updEng n f).engine k = s.engine k := by
  have : n.val ≠ k.val := fun e => h (Fin.ext e)
  simp [State.updEng, State.engine, this]

end Sys2Proof.Machine
end

