-- ==== Sys2Proof/Laws/Access.lean ====
section
/-! SUPPORT. What an access to a register does, once the register is known. -/

namespace Sys2Proof.Machine

/-- A local register address leads to its register. -/
theorem place_reg (s : State) {a : Nat} (h : a < 0x120000) : s.place (regAddr a) = .reg a := by
  have h1 : ¬ (0x800000000 ≤ regAddr a ∧ regAddr a < 0xC00000000) := by unfold regAddr; omega
  have h2 : ¬ regAddr a < 0x20000 := by unfold regAddr; omega
  have h3 : ¬ (0x10000000 ≤ regAddr a ∧ regAddr a < 0x10400000) := by unfold regAddr; omega
  have h4 : ¬ (0x20000000 ≤ regAddr a ∧ regAddr a < 0x20400000) := by unfold regAddr; omega
  have h5 : 0x40000000 ≤ regAddr a ∧ regAddr a < 0x41000000 := by unfold regAddr; omega
  have h6 : regAddr a < 0x40120000 := by unfold regAddr; omega
  have h7 : regAddr a - 0x40000000 = a := by unfold regAddr; omega
  unfold State.place localPlace
  rw [if_neg h1, if_neg h2, if_neg h3, if_neg h4, if_pos h5, if_pos h6, h7]

/-- A sample of a core touches PERF_IRQ alone among the registers. -/
theorem coreSample_reg (s : State) (t : Nat) (r : Fin 4) {a : Nat} (h : a ≠ Reg.PERF_IRQ) :
    (s.coreSample t r).reg a = s.reg a := by
  unfold State.coreSample State.perfPut State.freeWord State.freeNat
  dsimp only
  repeat' split
  all_goals first | rfl | exact reg_setReg_other _ h _

/-- The counters of a core are no registers. -/
theorem hpmCount_reg (s : State) (r : Fin 4) (e a : Nat) : (s.hpmCount r e).reg a = s.reg a := by
  unfold State.hpmCount
  split <;> rfl

/-- An access begins without touching a register other than PERF_IRQ. -/
theorem busAt_reg (s : State) (t req : Nat) (st : Bool) {a : Nat} (h : a ≠ Reg.PERF_IRQ) :
    (s.busAt t req st).reg a = s.reg a := by
  unfold State.busAt State.coreAccess
  split
  · rw [coreSample_reg _ _ _ h, hpmCount_reg, hpmCount_reg, hpmCount_reg, upto_reg]
  · rfl

theorem coreSample_plain (s : State) (t : Nat) (r : Fin 4) :
    (s.coreSample t r).mem = s.mem ∧ (s.coreSample t r).pwr = s.pwr := by
  unfold State.coreSample State.perfPut State.freeWord State.freeNat
  dsimp only
  repeat' split
  all_goals exact ⟨rfl, rfl⟩

theorem hpmCount_plain (s : State) (r : Fin 4) (e : Nat) :
    (s.hpmCount r e).mem = s.mem ∧ (s.hpmCount r e).pwr = s.pwr := by
  unfold State.hpmCount
  split <;> exact ⟨rfl, rfl⟩

/-- An access begins without touching memory or the power entry. -/
theorem busAt_plain (s : State) (t req : Nat) (st : Bool) :
    (s.busAt t req st).mem = s.mem ∧ (s.busAt t req st).pwr = s.pwr := by
  unfold State.busAt State.coreAccess
  split
  · simp only [coreSample_plain, hpmCount_plain]
    exact ⟨rfl, rfl⟩
  · exact ⟨rfl, rfl⟩

theorem busAt_byte (s : State) (t req : Nat) (st : Bool) (a : Nat) : (s.busAt t req st).byte a = s.byte a := by
  unfold State.byte; rw [(busAt_plain s t req st).1]

theorem busAt_get (s : State) (t req : Nat) (st : Bool) {f : Fld} (h : f.addr ≠ Reg.PERF_IRQ) :
    (s.busAt t req st).get f = s.get f := by
  unfold State.get; rw [busAt_reg _ _ _ _ h]

theorem busAt_bit (s : State) (t req : Nat) (st : Bool) {f : Fld} (h : f.addr ≠ Reg.PERF_IRQ) :
    (s.busAt t req st).bit f = s.bit f := by
  unfold State.bit; rw [busAt_get _ _ _ _ h]

/-- An access of no core begins at its tick. -/
theorem busAt_upto (s : State) (t : Nat) {req : Nat} (st : Bool) (h : ¬(1 ≤ req ∧ req ≤ 4)) :
    s.busAt t req st = s.upto t := dif_neg h

/-- A register row is the write of its register. -/
theorem regWriteAt_eq (t req : Nat) (w : Word) (s : State) {a : Nat} (h : a < 0x120000) (h4 : a % 4 = 0) :
    regWriteAt t req a w s = ((s.busAt t req true).writeReg req a w).1 := by
  have e : ¬ ((4 : Nat) ≠ 4 ∨ regAddr a % 4 ≠ 0) := by unfold regAddr; omega
  unfold regWriteAt State.busWrite
  simp only [place_reg _ h]
  rw [if_neg e]

/-- An accepted write stores its word and does what the register's write does beside. -/
theorem writeReg_accepted {s v : State} {req a : Nat} {w : Word} {d : RDesc} {ix : List Nat}
    (h : s.accepted req a w = some v) (f : findReg a = some (d, ix)) :
    s.writeReg req a w = (v.wrote req a d ix (s.reg a) w, .ok) := by
  unfold State.accepted at h
  simp only [f] at h
  split at h
  · rename_i c
    simp only [Bool.and_eq_true, Bool.not_eq_true', bne_iff_ne, ne_eq, Option.isNone_iff_eq_none] at c
    obtain ⟨⟨⟨⟨⟨c1, c2⟩, c3⟩, c4⟩, c5⟩, c6⟩ := c
    cases h
    unfold State.writeReg State.writeListed
    simp only [c1, f, c2, c3, c4, c5, c6, Bool.not_true, Bool.false_eq_true, if_false]
  · cases h

/-- A register row whose write is accepted. -/
theorem regWriteAt_accepted {t req : Nat} {w : Word} {s v : State} {a : Nat} {d : RDesc} {ix : List Nat}
    (h : (s.busAt t req true).accepted req a w = some v) (f : findReg a = some (d, ix)) (hp : a ≠ Reg.PERF_IRQ)
    (ha : a < 0x120000) (h4 : a % 4 = 0) : regWriteAt t req a w s = v.wrote req a d ix (s.reg a) w := by
  rw [regWriteAt_eq t req w s ha h4, writeReg_accepted h f, busAt_reg _ _ _ _ hp]

/-- The register of an address with its first instance's address and its indices. -/
theorem find_of {a b : Nat} {ix : List Nat} (h : (findReg a).map (fun p => (p.1.base, p.2)) = some (b, ix)) :
    ∃ d, findReg a = some (d, ix) ∧ d.base = b := by
  cases e : findReg a with
  | none => simp [e] at h
  | some p =>
    simp only [e, Option.map_some, Option.some.injEq, Prod.mk.injEq] at h
    exact ⟨p.1, by rw [← h.2], h.1⟩

theorem find_LE_CTL (n : Fin 4) :
    (findReg (Reg.LE_CTL n)).map (fun p => (p.1.base, p.2)) = some (Reg.LE_CTL 0, [n.val]) := by
  revert n; decide

/-- An accepted write of `LE_CTL`. -/
theorem write_LE_CTL (t req : Nat) (n : Fin 4) (w : Word) {s v : State}
    (h : (s.busAt t req true).accepted req (Reg.LE_CTL n) w = some v) :
    regWriteAt t req (Reg.LE_CTL n) w s =
      v.wroteLe (Reg.LE_CTL 0) n.val (s.reg (Reg.LE_CTL n)) w := by
  obtain ⟨d, f, hb⟩ := find_of (find_LE_CTL n)
  have hq : Reg.LE_CTL n / 0x10000 = 6 := by simp only [Reg.LE_CTL]; omega
  rw [regWriteAt_accepted h f (by simp only [Reg.LE_CTL, Reg.PERF_IRQ]; omega)
    (by simp only [Reg.LE_CTL]; omega) (by simp only [Reg.LE_CTL]; omega)]
  unfold State.wrote
  rw [hq, hb]
  rfl

theorem find_PWM_CTL (n : Fin 4) :
    (findReg (Reg.PWM_CTL n)).map (fun p => (p.1.base, p.2)) = some (Reg.PWM_CTL 0, [n.val]) := by
  revert n; decide

/-- An accepted write of `PWM_CTL`. -/
theorem write_PWM_CTL (t req : Nat) (n : Fin 4) (w : Word) {s v : State}
    (h : (s.busAt t req true).accepted req (Reg.PWM_CTL n) w = some v) :
    regWriteAt t req (Reg.PWM_CTL n) w s =
      v.wrotePwm (Reg.PWM_CTL 0) n.val (s.reg (Reg.PWM_CTL n)) := by
  obtain ⟨d, f, hb⟩ := find_of (find_PWM_CTL n)
  have hq : Reg.PWM_CTL n / 0x10000 = 2 := by simp only [Reg.PWM_CTL]; omega
  rw [regWriteAt_accepted h f (by simp only [Reg.PWM_CTL, Reg.PERF_IRQ]; omega)
    (by simp only [Reg.PWM_CTL]; omega) (by simp only [Reg.PWM_CTL]; omega)]
  unfold State.wrote
  rw [hq, hb]
  rfl

theorem find_PWM_FORCE (n : Fin 4) :
    (findReg (Reg.PWM_FORCE n)).map (fun p => (p.1.base, p.2)) = some (Reg.PWM_FORCE 0, [n.val]) := by
  revert n; decide

/-- An accepted write of `PWM_FORCE`. -/
theorem write_PWM_FORCE (t req : Nat) (n : Fin 4) (w : Word) {s v : State}
    (h : (s.busAt t req true).accepted req (Reg.PWM_FORCE n) w = some v) :
    regWriteAt t req (Reg.PWM_FORCE n) w s =
      v.wrotePwm (Reg.PWM_FORCE 0) n.val (s.reg (Reg.PWM_FORCE n)) := by
  obtain ⟨d, f, hb⟩ := find_of (find_PWM_FORCE n)
  have hq : Reg.PWM_FORCE n / 0x10000 = 2 := by simp only [Reg.PWM_FORCE]; omega
  rw [regWriteAt_accepted h f (by simp only [Reg.PWM_FORCE, Reg.PERF_IRQ]; omega)
    (by simp only [Reg.PWM_FORCE]; omega) (by simp only [Reg.PWM_FORCE]; omega)]
  unfold State.wrote
  rw [hq, hb]
  rfl

theorem find_BW_DSCCTL :
    (findReg Reg.BW_DSCCTL).map (fun p => (p.1.base, p.2)) = some (Reg.BW_DSCCTL, []) := by
  decide

/-- An accepted write of `BW_DSCCTL`. -/
theorem write_BW_DSCCTL (t req : Nat) (w : Word) {s v : State}
    (h : (s.busAt t req true).accepted req Reg.BW_DSCCTL w = some v) :
    regWriteAt t req Reg.BW_DSCCTL w s =
      v.wroteBw Reg.BW_DSCCTL w := by
  obtain ⟨d, f, hb⟩ := find_of (find_BW_DSCCTL)
  have hq : Reg.BW_DSCCTL / 0x10000 = 7 := by decide
  rw [regWriteAt_accepted h f (by decide) (by decide) (by decide)]
  unfold State.wrote
  rw [hq, hb]
  rfl

theorem find_BW_LKDEMAND :
    (findReg Reg.BW_LKDEMAND).map (fun p => (p.1.base, p.2)) = some (Reg.BW_LKDEMAND, []) := by
  decide

/-- An accepted write of `BW_LKDEMAND`. -/
theorem write_BW_LKDEMAND (t req : Nat) (w : Word) {s v : State}
    (h : (s.busAt t req true).accepted req Reg.BW_LKDEMAND w = some v) :
    regWriteAt t req Reg.BW_LKDEMAND w s =
      v.wroteBw Reg.BW_LKDEMAND w := by
  obtain ⟨d, f, hb⟩ := find_of (find_BW_LKDEMAND)
  have hq : Reg.BW_LKDEMAND / 0x10000 = 7 := by decide
  rw [regWriteAt_accepted h f (by decide) (by decide) (by decide)]
  unfold State.wrote
  rw [hq, hb]
  rfl

theorem find_BW_FQCLR :
    (findReg Reg.BW_FQCLR).map (fun p => (p.1.base, p.2)) = some (Reg.BW_FQCLR, []) := by
  decide

/-- An accepted write of `BW_FQCLR`. -/
theorem write_BW_FQCLR (t req : Nat) (w : Word) {s v : State}
    (h : (s.busAt t req true).accepted req Reg.BW_FQCLR w = some v) :
    regWriteAt t req Reg.BW_FQCLR w s =
      v.wroteBw Reg.BW_FQCLR w := by
  obtain ⟨d, f, hb⟩ := find_of (find_BW_FQCLR)
  have hq : Reg.BW_FQCLR / 0x10000 = 7 := by decide
  rw [regWriteAt_accepted h f (by decide) (by decide) (by decide)]
  unfold State.wrote
  rw [hq, hb]
  rfl

theorem find_ETH_GCTL (p : Fin 4) :
    (findReg (Reg.ETH_GCTL p)).map (fun p => (p.1.base, p.2)) = some (Reg.ETH_GCTL 0, [p.val]) := by
  revert p; decide

/-- An accepted write of `ETH_GCTL`. -/
theorem write_ETH_GCTL (t req : Nat) (p : Fin 4) (w : Word) {s v : State}
    (h : (s.busAt t req true).accepted req (Reg.ETH_GCTL p) w = some v) :
    regWriteAt t req (Reg.ETH_GCTL p) w s =
      v.wroteEth (Reg.ETH_GCTL 0) p.val w := by
  obtain ⟨d, f, hb⟩ := find_of (find_ETH_GCTL p)
  have hq : Reg.ETH_GCTL p / 0x10000 = 10 := by simp only [Reg.ETH_GCTL]; omega
  rw [regWriteAt_accepted h f (by simp only [Reg.ETH_GCTL, Reg.PERF_IRQ]; omega)
    (by simp only [Reg.ETH_GCTL]; omega) (by simp only [Reg.ETH_GCTL]; omega)]
  unfold State.wrote
  rw [hq, hb]
  rfl

theorem find_ETH_ASGMSEC :
    (findReg Reg.ETH_ASGMSEC).map (fun p => (p.1.base, p.2)) = some (Reg.ETH_ASGMSEC, []) := by
  decide

/-- An accepted write of `ETH_ASGMSEC`. -/
theorem write_ETH_ASGMSEC (t req : Nat) (w : Word) {s v : State}
    (h : (s.busAt t req true).accepted req Reg.ETH_ASGMSEC w = some v) :
    regWriteAt t req Reg.ETH_ASGMSEC w s =
      v.wroteEth Reg.ETH_ASGMSEC 0 w := by
  obtain ⟨d, f, hb⟩ := find_of (find_ETH_ASGMSEC)
  have hq : Reg.ETH_ASGMSEC / 0x10000 = 10 := by decide
  rw [regWriteAt_accepted h f (by decide) (by decide) (by decide)]
  unfold State.wrote
  rw [hq, hb]
  rfl

theorem find_ETH_RINGPTR (r : Fin 8) :
    (findReg (Reg.ETH_RINGPTR r)).map (fun p => (p.1.base, p.2)) = some (Reg.ETH_RINGPTR 0, [r.val]) := by
  revert r; decide

/-- An accepted write of `ETH_RINGPTR`. -/
theorem write_ETH_RINGPTR (t req : Nat) (r : Fin 8) (w : Word) {s v : State}
    (h : (s.busAt t req true).accepted req (Reg.ETH_RINGPTR r) w = some v) :
    regWriteAt t req (Reg.ETH_RINGPTR r) w s =
      v.wroteEth (Reg.ETH_RINGPTR 0) r.val w := by
  obtain ⟨d, f, hb⟩ := find_of (find_ETH_RINGPTR r)
  have hq : Reg.ETH_RINGPTR r / 0x10000 = 10 := by simp only [Reg.ETH_RINGPTR]; omega
  rw [regWriteAt_accepted h f (by simp only [Reg.ETH_RINGPTR, Reg.PERF_IRQ]; omega)
    (by simp only [Reg.ETH_RINGPTR]; omega) (by simp only [Reg.ETH_RINGPTR]; omega)]
  unfold State.wrote
  rw [hq, hb]
  rfl

theorem find_CAN_TXCTL (c : Fin 4) (b : Fin 16) :
    (findReg (Reg.CAN_TXCTL c b)).map (fun p => (p.1.base, p.2)) = some (Reg.CAN_TXCTL 0 0, [c.val, b.val]) := by
  revert b; revert c; decide

/-- An accepted write of `CAN_TXCTL`. -/
theorem write_CAN_TXCTL (t req : Nat) (c : Fin 4) (b : Fin 16) (w : Word) {s v : State}
    (h : (s.busAt t req true).accepted req (Reg.CAN_TXCTL c b) w = some v) :
    regWriteAt t req (Reg.CAN_TXCTL c b) w s =
      v.wroteCan (Reg.CAN_TXCTL 0 0) [c.val, b.val] (s.reg (Reg.CAN_TXCTL c b)) w := by
  obtain ⟨d, f, hb⟩ := find_of (find_CAN_TXCTL c b)
  have hq : Reg.CAN_TXCTL c b / 0x10000 = 11 := by simp only [Reg.CAN_TXCTL]; omega
  rw [regWriteAt_accepted h f (by simp only [Reg.CAN_TXCTL, Reg.PERF_IRQ]; omega)
    (by simp only [Reg.CAN_TXCTL]; omega) (by simp only [Reg.CAN_TXCTL]; omega)]
  unfold State.wrote
  rw [hq, hb]
  rfl

theorem find_CAN_RXPOP (c : Fin 4) (q : Fin 2) :
    (findReg (Reg.CAN_RXPOP c q)).map (fun p => (p.1.base, p.2)) = some (Reg.CAN_RXPOP 0 0, [c.val, q.val]) := by
  revert q; revert c; decide

/-- An accepted write of `CAN_RXPOP`. -/
theorem write_CAN_RXPOP (t req : Nat) (c : Fin 4) (q : Fin 2) (w : Word) {s v : State}
    (h : (s.busAt t req true).accepted req (Reg.CAN_RXPOP c q) w = some v) :
    regWriteAt t req (Reg.CAN_RXPOP c q) w s =
      v.wroteCan (Reg.CAN_RXPOP 0 0) [c.val, q.val] (s.reg (Reg.CAN_RXPOP c q)) w := by
  obtain ⟨d, f, hb⟩ := find_of (find_CAN_RXPOP c q)
  have hq : Reg.CAN_RXPOP c q / 0x10000 = 11 := by simp only [Reg.CAN_RXPOP]; omega
  rw [regWriteAt_accepted h f (by simp only [Reg.CAN_RXPOP, Reg.PERF_IRQ]; omega)
    (by simp only [Reg.CAN_RXPOP]; omega) (by simp only [Reg.CAN_RXPOP]; omega)]
  unfold State.wrote
  rw [hq, hb]
  rfl

theorem find_CAN_CTL (c : Fin 4) :
    (findReg (Reg.CAN_CTL c)).map (fun p => (p.1.base, p.2)) = some (Reg.CAN_CTL 0, [c.val]) := by
  revert c; decide

/-- An accepted write of `CAN_CTL`. -/
theorem write_CAN_CTL (t req : Nat) (c : Fin 4) (w : Word) {s v : State}
    (h : (s.busAt t req true).accepted req (Reg.CAN_CTL c) w = some v) :
    regWriteAt t req (Reg.CAN_CTL c) w s =
      v.wroteCan (Reg.CAN_CTL 0) [c.val] (s.reg (Reg.CAN_CTL c)) w := by
  obtain ⟨d, f, hb⟩ := find_of (find_CAN_CTL c)
  have hq : Reg.CAN_CTL c / 0x10000 = 11 := by simp only [Reg.CAN_CTL]; omega
  rw [regWriteAt_accepted h f (by simp only [Reg.CAN_CTL, Reg.PERF_IRQ]; omega)
    (by simp only [Reg.CAN_CTL]; omega) (by simp only [Reg.CAN_CTL]; omega)]
  unfold State.wrote
  rw [hq, hb]
  rfl

theorem find_BERTH_ACCTL (r : Fin 4) :
    (findReg (Reg.BERTH_ACCTL r)).map (fun p => (p.1.base, p.2)) = some (Reg.BERTH_ACCTL 0, [r.val]) := by
  revert r; decide

/-- An accepted write of `BERTH_ACCTL`. -/
theorem write_BERTH_ACCTL (t req : Nat) (r : Fin 4) (w : Word) {s v : State}
    (h : (s.busAt t req true).accepted req (Reg.BERTH_ACCTL r) w = some v) :
    regWriteAt t req (Reg.BERTH_ACCTL r) w s =
      v.wroteBerth req (Reg.BERTH_ACCTL 0) [r.val] (s.reg (Reg.BERTH_ACCTL r)) w := by
  obtain ⟨d, f, hb⟩ := find_of (find_BERTH_ACCTL r)
  have hq : Reg.BERTH_ACCTL r / 0x10000 = 9 := by simp only [Reg.BERTH_ACCTL]; omega
  rw [regWriteAt_accepted h f (by simp only [Reg.BERTH_ACCTL, Reg.PERF_IRQ]; omega)
    (by simp only [Reg.BERTH_ACCTL]; omega) (by simp only [Reg.BERTH_ACCTL]; omega)]
  unfold State.wrote
  rw [hq, hb]
  rfl

theorem find_BERTH_ACFLT :
    (findReg Reg.BERTH_ACFLT).map (fun p => (p.1.base, p.2)) = some (Reg.BERTH_ACFLT, []) := by
  decide

/-- An accepted write of `BERTH_ACFLT`. -/
theorem write_BERTH_ACFLT (t req : Nat) (w : Word) {s v : State}
    (h : (s.busAt t req true).accepted req Reg.BERTH_ACFLT w = some v) :
    regWriteAt t req Reg.BERTH_ACFLT w s =
      v.wroteBerth req Reg.BERTH_ACFLT [] (s.reg Reg.BERTH_ACFLT) w := by
  obtain ⟨d, f, hb⟩ := find_of (find_BERTH_ACFLT)
  have hq : Reg.BERTH_ACFLT / 0x10000 = 9 := by decide
  rw [regWriteAt_accepted h f (by decide) (by decide) (by decide)]
  unfold State.wrote
  rw [hq, hb]
  rfl

theorem find_BERTH_CFG (b : Fin 32) :
    (findReg (Reg.BERTH_CFG b)).map (fun p => (p.1.base, p.2)) = some (Reg.BERTH_CFG 0, [b.val]) := by
  revert b; decide

/-- An accepted write of `BERTH_CFG`. -/
theorem write_BERTH_CFG (t req : Nat) (b : Fin 32) (w : Word) {s v : State}
    (h : (s.busAt t req true).accepted req (Reg.BERTH_CFG b) w = some v) :
    regWriteAt t req (Reg.BERTH_CFG b) w s =
      v.wroteBerth req (Reg.BERTH_CFG 0) [b.val] (s.reg (Reg.BERTH_CFG b)) w := by
  obtain ⟨d, f, hb⟩ := find_of (find_BERTH_CFG b)
  have hq : Reg.BERTH_CFG b / 0x10000 = 9 := by simp only [Reg.BERTH_CFG]; omega
  rw [regWriteAt_accepted h f (by simp only [Reg.BERTH_CFG, Reg.PERF_IRQ]; omega)
    (by simp only [Reg.BERTH_CFG]; omega) (by simp only [Reg.BERTH_CFG]; omega)]
  unfold State.wrote
  rw [hq, hb]
  rfl

theorem find_BERTH_KFREE :
    (findReg Reg.BERTH_KFREE).map (fun p => (p.1.base, p.2)) = some (Reg.BERTH_KFREE, []) := by
  decide

/-- An accepted write of `BERTH_KFREE`. -/
theorem write_BERTH_KFREE (t req : Nat) (w : Word) {s v : State}
    (h : (s.busAt t req true).accepted req Reg.BERTH_KFREE w = some v) :
    regWriteAt t req Reg.BERTH_KFREE w s =
      v.wroteBerth req Reg.BERTH_KFREE [] (s.reg Reg.BERTH_KFREE) w := by
  obtain ⟨d, f, hb⟩ := find_of (find_BERTH_KFREE)
  have hq : Reg.BERTH_KFREE / 0x10000 = 9 := by decide
  rw [regWriteAt_accepted h f (by decide) (by decide) (by decide)]
  unfold State.wrote
  rw [hq, hb]
  rfl

theorem find_ARB_SEED :
    (findReg Reg.ARB_SEED).map (fun p => (p.1.base, p.2)) = some (Reg.ARB_SEED, []) := by
  decide

/-- An accepted write of `ARB_SEED`. -/
theorem write_ARB_SEED (t req : Nat) (w : Word) {s v : State}
    (h : (s.busAt t req true).accepted req Reg.ARB_SEED w = some v) :
    regWriteAt t req Reg.ARB_SEED w s =
      v.seedArbiters := by
  obtain ⟨d, f, hb⟩ := find_of (find_ARB_SEED)
  have hq : Reg.ARB_SEED / 0x10000 = 17 := by decide
  rw [regWriteAt_accepted h f (by decide) (by decide) (by decide)]
  unfold State.wrote
  rw [hq, hb]
  exact if_pos rfl

theorem find_LOGB_CTL :
    (findReg Reg.LOGB_CTL).map (fun p => (p.1.base, p.2)) = some (Reg.LOGB_CTL, []) := by
  decide

/-- An accepted write of `LOGB_CTL`. -/
theorem write_LOGB_CTL (t req : Nat) (w : Word) {s v : State}
    (h : (s.busAt t req true).accepted req Reg.LOGB_CTL w = some v) :
    regWriteAt t req Reg.LOGB_CTL w s =
      v.wroteLogb Reg.LOGB_CTL (s.reg Reg.LOGB_CTL) w := by
  obtain ⟨d, f, hb⟩ := find_of (find_LOGB_CTL)
  have hq : Reg.LOGB_CTL / 0x10000 = 13 := by decide
  rw [regWriteAt_accepted h f (by decide) (by decide) (by decide)]
  unfold State.wrote
  rw [hq, hb]
  rfl

theorem find_PERF_SCTL (u : Fin 8) :
    (findReg (Reg.PERF_SCTL u)).map (fun p => (p.1.base, p.2)) = some (Reg.PERF_SCTL 0, [u.val]) := by
  revert u; decide

/-- An accepted write of `PERF_SCTL`. -/
theorem write_PERF_SCTL (t req : Nat) (u : Fin 8) (w : Word) {s v : State}
    (h : (s.busAt t req true).accepted req (Reg.PERF_SCTL u) w = some v) :
    regWriteAt t req (Reg.PERF_SCTL u) w s =
      if w.getLsbD 18 then v.perfClear (Fin.ofNat 8 u.val) else v := by
  obtain ⟨d, f, hb⟩ := find_of (find_PERF_SCTL u)
  have hq : Reg.PERF_SCTL u / 0x10000 = 16 := by simp only [Reg.PERF_SCTL]; omega
  rw [regWriteAt_accepted h f (by simp only [Reg.PERF_SCTL, Reg.PERF_IRQ]; omega)
    (by simp only [Reg.PERF_SCTL]; omega) (by simp only [Reg.PERF_SCTL]; omega)]
  unfold State.wrote
  rw [hq, hb]
  simp only [List.headD_cons, true_and]

theorem find_PWR_RESET :
    (findReg Reg.PWR_RESET).map (fun p => (p.1.base, p.2)) = some (Reg.PWR_RESET, []) := by
  decide

/-- An accepted write of `PWR_RESET`. -/
theorem write_PWR_RESET (t req : Nat) (w : Word) {s v : State}
    (h : (s.busAt t req true).accepted req Reg.PWR_RESET w = some v) :
    regWriteAt t req Reg.PWR_RESET w s =
      if wordGet w 0 16 = 0xB007 then v.updPwr fun p => { p with restart := true } else v := by
  obtain ⟨d, f, hb⟩ := find_of (find_PWR_RESET)
  have hq : Reg.PWR_RESET / 0x10000 = 15 := by decide
  rw [regWriteAt_accepted h f (by decide) (by decide) (by decide)]
  unfold State.wrote
  rw [hq, hb]
  simp only [true_and]

theorem find_BERTH_MSG (b : Fin 32) (i : Fin 16) :
    (findReg (Reg.BERTH_MSG b i)).map (fun p => (p.1.base, p.2)) = some (Reg.BERTH_MSG 0 0, [b.val, i.val]) := by
  revert i; revert b; decide

theorem find_BERTH_K (k : Fin 16) :
    (findReg (Reg.BERTH_K k)).map (fun p => (p.1.base, p.2)) = some (Reg.BERTH_K 0, [k.val]) := by
  revert k; decide

/-- A requester that may write the berth block is not Lookout. -/
theorem role_of_mayWrite {s : State} {req : Nat} (h : s.mayWrite req 9 = true) : role req ≠ 6 := by
  intro e
  simp [State.mayWrite, e] at h

/-- The sender's write of a message word. -/
theorem write_BERTH_MSG (t req : Nat) (b : Fin 32) (i : Fin 16) (w : Word) {s : State}
    (h : (s.busAt t req true).mayWrite req 9 = true) (h1 : s.bit (Reg.BERTH_CFG_EN b) = true)
    (h2 : s.get (Reg.BERTH_CFG_SENDER b) = req) :
    regWriteAt t req (Reg.BERTH_MSG b i) w s = (s.busAt t req true).wroteMessage b i w := by
  obtain ⟨d, f, hb⟩ := find_of (find_BERTH_MSG b i)
  have hq : Reg.BERTH_MSG b i / 0x10000 = 9 := by simp only [Reg.BERTH_MSG]; omega
  have h1' : (s.busAt t req true).bit (Reg.BERTH_CFG_EN b) = true := (busAt_bit _ _ _ _ (by simp only [Reg.BERTH_CFG_EN, Reg.BERTH_CFG, Reg.PERF_IRQ]; omega)).trans h1
  have h2' : (s.busAt t req true).get (Reg.BERTH_CFG_SENDER b) = req := (busAt_get _ _ _ _ (by simp only [Reg.BERTH_CFG_SENDER, Reg.BERTH_CFG, Reg.PERF_IRQ]; omega)).trans h2
  have hr : (role req == 6) = false := by simpa using role_of_mayWrite h
  have hm : ∀ new, (s.busAt t req true).mayWriteReg req (Reg.BERTH_MSG b i) d [b.val, i.val] new = true := by
    intro new
    unfold State.mayWriteReg
    rw [hb]
    simp [role_of_mayWrite h, Reg.BERTH_MSG, Reg.BW_LKDEMAND, Reg.BW_AXCFG, Reg.CAN_TXID, Reg.CAN_TXCTL, Reg.CAN_TXDATA,
      Reg.BERTH_ACCTL, Reg.BERTH_ACBOOT, Reg.BERTH_KFREE, Reg.PWR_RESET, Reg.BERTH_ACFLT]
    exact ⟨h1', h2'⟩
  have hl : legOnly d.base ([b.val, i.val].headD 0) = false := by
    rw [hb]; simp [legOnly, Reg.BERTH_MSG, Reg.GATE_NTCRNOM]
  rw [regWriteAt_eq t req w s (by simp only [Reg.BERTH_MSG]; omega) (by simp only [Reg.BERTH_MSG]; omega)]
  unfold State.writeReg State.writeListed
  rw [hq, h]
  simp only [f, hm, hl, Bool.not_true, Bool.false_eq_true, if_false]
  rw [if_neg (by rw [hb]; decide), if_pos hb]
  simp

/-- A write of a bollard. -/
theorem write_BERTH_K (t req : Nat) (k : Fin 16) (w : Word) {s : State} (h : (s.busAt t req true).mayWrite req 9 = true) :
    regWriteAt t req (Reg.BERTH_K k) w s = (s.busAt t req true).putBollard req k w := by
  obtain ⟨d, f, hb⟩ := find_of (find_BERTH_K k)
  have hq : Reg.BERTH_K k / 0x10000 = 9 := by simp only [Reg.BERTH_K]; omega
  have hm : ∀ new, (s.busAt t req true).mayWriteReg req (Reg.BERTH_K k) d [k.val] new = true := by
    intro new
    unfold State.mayWriteReg
    rw [hb]
    simp [role_of_mayWrite h, Reg.BERTH_MSG, Reg.BW_LKDEMAND, Reg.BW_AXCFG, Reg.CAN_TXID, Reg.CAN_TXCTL, Reg.CAN_TXDATA,
      Reg.BERTH_ACCTL, Reg.BERTH_ACBOOT, Reg.BERTH_KFREE, Reg.PWR_RESET, Reg.BERTH_ACFLT, Reg.BERTH_K]
  have hl : legOnly d.base ([k.val].headD 0) = false := by
    rw [hb]; simp [legOnly, Reg.BERTH_K, Reg.GATE_NTCRNOM]
  rw [regWriteAt_eq t req w s (by simp only [Reg.BERTH_K]; omega) (by simp only [Reg.BERTH_K]; omega)]
  unfold State.writeReg State.writeListed
  rw [hq, h]
  simp only [f, hm, hl, Bool.not_true, Bool.false_eq_true, if_false]
  rw [if_pos hb]
  simp

/-- A register row that reads is the register's read effect. -/
theorem regReadAt_eq (t req : Nat) (s : State) {a : Nat} {d : RDesc} {ix : List Nat} (f : findReg a = some (d, ix))
    (h : a < 0x120000) (h4 : a % 4 = 0) : regReadAt t req a s = (s.busAt t req false).readEffect req a d ix := by
  have e : ¬ ((4 : Nat) ≠ 4 ∨ regAddr a % 4 ≠ 0) := by unfold regAddr; omega
  unfold regReadAt State.busRead
  simp only [place_reg _ h]
  rw [if_neg e]
  unfold State.readReg
  simp only [f]

theorem norc_BERTH_MSG (b : Fin 32) :
    (findReg (Reg.BERTH_MSG b 15)).all (fun p => p.1.fields.all fun f => f.acc != .rc) = true := by
  revert b; decide

theorem norc_BERTH_K (k : Fin 16) :
    (findReg (Reg.BERTH_K k)).all (fun p => p.1.fields.all fun f => f.acc != .rc) = true := by
  revert k; decide

/-- A register without fields that a read clears. -/
theorem norc_of {a : Nat} {d : RDesc} {ix : List Nat} (f : findReg a = some (d, ix))
    (h : (findReg a).all (fun p => p.1.fields.all fun f => f.acc != .rc) = true) :
    (d.fields.any fun f => decide (f.acc = .rc)) = false := by
  rw [f] at h
  simpa using h

/-- A read of the last word of a message. -/
theorem read_BERTH_MSG (t req : Nat) (b : Fin 32) (s : State) :
    regReadAt t req (Reg.BERTH_MSG b 15) s =
      if s.get (Reg.BERTH_CFG_RECEIVER b) = req ∧ req ≠ 0 then (s.busAt t req false).berthTake b else s.busAt t req false := by
  obtain ⟨d, f, hb⟩ := find_of (find_BERTH_MSG b 15)
  have n := norc_of f (norc_BERTH_MSG b)
  have f' : findReg (Reg.BERTH_MSG b 15) = some (d, [b.val, 15]) := f
  rw [regReadAt_eq t req s f' (by simp only [Reg.BERTH_MSG]; omega) (by simp only [Reg.BERTH_MSG]; omega)]
  unfold State.readEffect
  rw [n]
  simp only [Bool.false_eq_true, if_false, hb]
  rw [if_neg (by decide), if_neg (by decide), if_neg (by decide)]
  have e : (s.busAt t req false).get (Reg.BERTH_CFG_RECEIVER b.val) = s.get (Reg.BERTH_CFG_RECEIVER b) :=
    busAt_get _ _ _ _ (by simp only [Reg.BERTH_CFG_RECEIVER, Reg.BERTH_CFG, Reg.PERF_IRQ]; omega)
  simp only [List.headD_cons, e, true_and, List.getD_eq_getElem?_getD, List.getElem?_cons_succ, List.getElem?_cons_zero,
    Option.getD_some]
  have : Fin.ofNat 32 b.val = b := by simp
  rw [this]

/-- A read of a bollard. -/
theorem read_BERTH_K (t req : Nat) (k : Fin 16) (s : State) :
    regReadAt t req (Reg.BERTH_K k) s = ((s.busAt t req false).claimBollard req k).1 := by
  obtain ⟨d, f, hb⟩ := find_of (find_BERTH_K k)
  have n := norc_of f (norc_BERTH_K k)
  rw [regReadAt_eq t req s f (by simp only [Reg.BERTH_K]; omega) (by simp only [Reg.BERTH_K]; omega)]
  unfold State.readEffect
  rw [n]
  simp only [Bool.false_eq_true, if_false, hb]
  rw [if_neg (by decide), if_neg (by decide), if_pos trivial]
  have : Fin.ofNat 16 k.val = k := by simp
  simp only [List.headD_cons, this]

/-- A remote access of a requester that makes one is served and answered. -/
theorem remoteAccess_serve (t req addr : Nat) (b : Bool) (w : Word) (s : State) (h : within 7 10 (role req) = false) :
    remoteAccess t req addr b w s =
      (s.upto t).remoteServe (Fin.ofNat 8 ((reqModule req).getD 0)) req ((s.upto t).ownWindow addr) b w := by
  unfold remoteAccess
  simp only [h, Bool.false_eq_true, if_false]

theorem remoteServe_write (s : State) (back : Fin 8) (req a : Nat) (w : Word) :
    s.remoteServe back req a true w =
      (s.busWrite req a 4 w).1.remoteAnswer back req (s.busWrite req a 4 w).2.toAnswer := rfl

theorem remoteServe_read (s : State) (back : Fin 8) (req a : Nat) (w : Word) :
    s.remoteServe back req a false w =
      (s.busRead req a 4).1.remoteAnswer back req (s.busRead req a 4).2 := rfl

end Sys2Proof.Machine
end

