-- ==== Sys2Proof/Laws/Answer.lean ====
section
/-! SUPPORT. Answering a command changes nothing but Harbourmaster's own state, registers, memory, the CAN
controllers and what leaves the module. -/

namespace Sys2Proof.Machine

variable {s₀ s : State}

theorem State.SameDevice.refl (s : State) : s.SameDevice s :=
  (by constructor <;> rfl)

theorem State.SameDevice.trans {r s t : State} (h : r.SameDevice s) (k : s.SameDevice t) : r.SameDevice t := by
  cases h; cases k; constructor <;> simp_all

@[simp ↓] theorem same_other (h : s₀.SameDevice s)
    (y0 : Nat) (y1 : List Out) (y2 : List (Nat × Word)) (y3 : List Host.Cell) (y4 : Hm) (y5 : Vector CanCtl 4) :
    s₀.SameDevice (State.mk s.pending y0 y1 s.tide s.backup s.caps s.zcaps y2 y3 s.ecc s.mid s.dl s.rail s.asd y4 s.fm s.axes s.pwm
    s.legs s.gates s.bw s.gcZero s.eng s.logb s.adc s.fbk s.temps s.hkOd s.hkGd s.hkUncal s.perf s.lk s.eth y5
    s.cores s.arb s.flash s.moor s.pwr) :=
  h.trans (by constructor <;> rfl)

@[simp ↓] theorem ite_same {c : Prop} [Decidable c] {t : State} (h : s₀.SameDevice s) (k : s₀.SameDevice t) :
    s₀.SameDevice (if c then s else t) := by split <;> assumption

@[simp ↓] theorem foldl_same {α : Type} {f : State → α → State} (hf : ∀ s a, s₀.SameDevice s → s₀.SameDevice (f s a)) :
    ∀ (l : List α) {s : State}, s₀.SameDevice s → s₀.SameDevice (l.foldl f s)
  | [], _, h => h
  | a :: r, s, h => foldl_same hf r (hf s a h)

@[simp ↓] theorem setReg_same (s : State) (a : Nat) (w : Word) (hk : s₀.SameDevice s) :
    s₀.SameDevice (State.setReg s a w) := by
  unfold State.setReg; (try dsimp only); (repeat' split) <;> simp (maxDischargeDepth := 100) +contextual [hk]

@[simp ↓] theorem set_same (s : State) (f : Fld) (v : Nat) (hk : s₀.SameDevice s) :
    s₀.SameDevice (State.set s f v) := by
  unfold State.set; (try dsimp only); (repeat' split) <;> simp (maxDischargeDepth := 100) +contextual [hk]

@[simp ↓] theorem setB_same (s : State) (f : Fld) (b : Bool) (hk : s₀.SameDevice s) :
    s₀.SameDevice (State.setB s f b) := by
  unfold State.setB; (try dsimp only); (repeat' split) <;> simp (maxDischargeDepth := 100) +contextual [hk]

@[simp ↓] theorem setI_same (s : State) (f : Fld) (v : Int) (hk : s₀.SameDevice s) :
    s₀.SameDevice (State.setI s f v) := by
  unfold State.setI; (try dsimp only); (repeat' split) <;> simp (maxDischargeDepth := 100) +contextual [hk]

@[simp ↓] theorem incHold_same (s : State) (f : Fld) (hk : s₀.SameDevice s) :
    s₀.SameDevice (State.incHold s f) := by
  unfold State.incHold; (try dsimp only); (repeat' split) <;> simp (maxDischargeDepth := 100) +contextual [hk]

@[simp ↓] theorem incWrap_same (s : State) (f : Fld) (hk : s₀.SameDevice s) :
    s₀.SameDevice (State.incWrap s f) := by
  unfold State.incWrap; (try dsimp only); (repeat' split) <;> simp (maxDischargeDepth := 100) +contextual [hk]

@[simp ↓] theorem sets_same (s : State) (l : List (Fld × Nat)) (hk : s₀.SameDevice s) :
    s₀.SameDevice (State.sets s l) := by
  unfold State.sets; (try dsimp only); (repeat' (split <;> try (rename_i e; replace e := congrArg Prod.fst e; dsimp only at e; subst e))) <;> (try apply foldl_same) <;> (try intro _ _ _) <;> (try dsimp only) <;> (repeat' (split <;> try (rename_i e; replace e := congrArg Prod.fst e; dsimp only at e; subst e))) <;> simp (maxDischargeDepth := 100) +contextual [*]

@[simp ↓] theorem setByte_same (s : State) (a : Nat) (b : Byte) (hk : s₀.SameDevice s) :
    s₀.SameDevice (State.setByte s a b) := by
  unfold State.setByte; (try dsimp only); (repeat' split) <;> simp (maxDischargeDepth := 100) +contextual [hk]

@[simp ↓] theorem setBytes_same (s : State) (a : Nat) (l : List Byte) (hk : s₀.SameDevice s) :
    s₀.SameDevice (s.setBytes a l) := by
  induction l generalizing s a with
  | nil => exact hk
  | cons b r ih => exact ih _ _ (setByte_same s a b hk)

@[simp ↓] theorem updHm_same (s : State) (f : Hm → Hm) (hk : s₀.SameDevice s) :
    s₀.SameDevice (State.updHm s f) := by
  unfold State.updHm; (try dsimp only); (repeat' split) <;> simp (maxDischargeDepth := 100) +contextual [hk]

@[simp ↓] theorem emit_same (s : State) (o : Out) (hk : s₀.SameDevice s) :
    s₀.SameDevice (State.emit s o) := by
  unfold State.emit; (try dsimp only); (repeat' split) <;> simp (maxDischargeDepth := 100) +contextual [hk]

@[simp ↓] theorem updCan_same (s : State) (c : Fin 4) (f : CanCtl → CanCtl) (hk : s₀.SameDevice s) :
    s₀.SameDevice (State.updCan s c f) := by
  unfold State.updCan; (try dsimp only); (repeat' split) <;> simp (maxDischargeDepth := 100) +contextual [hk]

@[simp ↓] theorem berthSend_same (s : State) (b : Fin 32) (i : Fin 16) (w : Word) (hk : s₀.SameDevice s) :
    s₀.SameDevice (State.berthSend s b i w) := by
  unfold State.berthSend; (try dsimp only); (repeat' split) <;> simp (maxDischargeDepth := 100) +contextual [hk]

@[simp ↓] theorem berthTake_same (s : State) (b : Fin 32) (hk : s₀.SameDevice s) :
    s₀.SameDevice (State.berthTake s b) := by
  unfold State.berthTake; (try dsimp only); (repeat' split) <;> simp (maxDischargeDepth := 100) +contextual [hk]

@[simp ↓] theorem berthMessage_same (s : State) (b : Fin 32) (m : List Byte) (hk : s₀.SameDevice s) :
    s₀.SameDevice (State.berthMessage s b m) := by
  unfold State.berthMessage; (try dsimp only); (repeat' split) <;> simp (maxDischargeDepth := 100) +contextual [hk]

@[simp ↓] theorem freeNat_same (s : State) (hk : s₀.SameDevice s) : s₀.SameDevice s.freeNat.2 := by
  unfold State.freeNat; simp (maxDischargeDepth := 100) +contextual [hk]

@[simp ↓] theorem canLoad_same (s : State) (c : Fin 4) (b : Fin 16) (id : Word) (data : List Byte) (hk : s₀.SameDevice s) :
    s₀.SameDevice (State.canLoad s c b id data) := by
  unfold State.canLoad; (try dsimp only); (repeat' split) <;> simp (maxDischargeDepth := 100) +contextual [hk]

@[simp ↓] theorem canFeed_same (s : State) (c : Fin 4) (hk : s₀.SameDevice s) :
    s₀.SameDevice (State.canFeed s c) := by
  unfold State.canFeed; (try dsimp only); (repeat' split) <;> simp (maxDischargeDepth := 100) +contextual [hk]

@[simp ↓] theorem berthReply_same (s : State) (n : Fin 4) (addr len : Nat) (hk : s₀.SameDevice s) :
    s₀.SameDevice (State.berthReply s n addr len) := by
  unfold State.berthReply; (try dsimp only); (repeat' split) <;> simp (maxDischargeDepth := 100) +contextual [hk]

@[simp ↓] theorem hrdyFell_same (s : State) (hk : s₀.SameDevice s) : s₀.SameDevice s.hrdyFell := by
  unfold State.hrdyFell; split <;> simp [hk]

@[simp ↓] theorem freeBytes_same (s : State) (n : Nat) (hk : s₀.SameDevice s) : s₀.SameDevice (s.freeBytes n).2 := by
  unfold State.freeBytes; simp (maxDischargeDepth := 100) +contextual [hk]

@[simp ↓] theorem groupAxes_same (s : State) (hk : s₀.SameDevice s) : s₀.SameDevice s.groupAxes.2 := by
  unfold State.groupAxes
  refine List.foldlRecOn (motive := fun (r : List Byte × State) => s₀.SameDevice r.2) mids8 _ hk fun r hr m _ => ?_
  dsimp only
  split
  · exact hr
  · split
    · simp [hr]
    · exact hr

@[simp ↓] theorem dressed_same (s : State) (h : Head) (r : Reply) (hk : s₀.SameDevice s) :
    s₀.SameDevice (s.dressed h r).2 := by
  unfold State.dressed; (repeat' split) <;> simp [hk]

@[simp ↓] theorem sendTo_same (s : State) (m : Fin 8) (what : Nat) (args : List Nat) (hk : s₀.SameDevice s) :
    s₀.SameDevice (State.sendTo s m what args) := by
  unfold State.sendTo; (try dsimp only); (repeat' split) <;> simp (maxDischargeDepth := 100) +contextual [hk]

@[simp ↓] theorem transmit_same (s : State) (h : Head) (b : List Byte) (hk : s₀.SameDevice s) :
    s₀.SameDevice (State.transmit s h b) := by
  unfold State.transmit; (try dsimp only); (repeat' split) <;> simp (maxDischargeDepth := 100) +contextual [hk]

@[simp ↓] theorem answer_same (s : State) (h : Head) (r : Reply) (hk : s₀.SameDevice s) :
    s₀.SameDevice (State.answer s h r) := by
  unfold State.answer; (try dsimp only); (repeat' split) <;> simp (maxDischargeDepth := 100) +contextual [hk]

@[simp ↓] theorem putChannel_same (s : State) (c : ChanSt) (hk : s₀.SameDevice s) :
    s₀.SameDevice (State.putChannel s c) := by
  unfold State.putChannel; (try dsimp only); (repeat' split) <;> simp (maxDischargeDepth := 100) +contextual [hk]

@[simp ↓] theorem updChannel_same (s : State) (ch : Chan) (f : ChanSt → ChanSt) (hk : s₀.SameDevice s) :
    s₀.SameDevice (State.updChannel s ch f) := by
  unfold State.updChannel; (try dsimp only); (repeat' split) <;> simp (maxDischargeDepth := 100) +contextual [hk]

@[simp ↓] theorem complete_same (s : State) (p : PendCmd) (r : Reply) (hk : s₀.SameDevice s) :
    s₀.SameDevice (State.complete s p r) := by
  unfold State.complete; (try dsimp only); (repeat' split) <;> simp (maxDischargeDepth := 100) +contextual [hk]

@[simp ↓] theorem completeOp_same (s : State) (op target : Nat) (r : Reply) (hk : s₀.SameDevice s) :
    s₀.SameDevice (State.completeOp s op target r) := by
  unfold State.completeOp; (try dsimp only); (repeat' split) <;> simp (maxDischargeDepth := 100) +contextual [hk]

@[simp ↓] theorem supersede_same (s : State) (op target : Nat) (n : Option (Fin 4)) (hk : s₀.SameDevice s) :
    s₀.SameDevice (State.supersede s op target n) := by
  unfold State.supersede; (try dsimp only); (repeat' split) <;> simp (maxDischargeDepth := 100) +contextual [hk]

@[simp ↓] theorem dropUpdate_same (s : State) (hk : s₀.SameDevice s) :
    s₀.SameDevice (State.dropUpdate s) := by
  unfold State.dropUpdate; (try dsimp only); (repeat' split) <;> simp (maxDischargeDepth := 100) +contextual [hk]

@[simp ↓] theorem dropUpdateOf_same (s : State) (ch : Chan) (hk : s₀.SameDevice s) :
    s₀.SameDevice (State.dropUpdateOf s ch) := by
  unfold State.dropUpdateOf; (try dsimp only); (repeat' split) <;> simp (maxDischargeDepth := 100) +contextual [hk]

@[simp ↓] theorem closeSession_same (s : State) (ch : Chan) (hk : s₀.SameDevice s) :
    s₀.SameDevice (State.closeSession s ch) := by
  unfold State.closeSession; (try dsimp only); (repeat' split) <;> simp (maxDischargeDepth := 100) +contextual [hk]

@[simp ↓] theorem authEnd_same (s : State) (ch : Chan) (hk : s₀.SameDevice s) :
    s₀.SameDevice (State.authEnd s ch) := by
  unfold State.authEnd; (try dsimp only); (repeat' split) <;> simp (maxDischargeDepth := 100) +contextual [hk]

@[simp ↓] theorem authFail_same (s : State) (ch : Chan) (hk : s₀.SameDevice s) :
    s₀.SameDevice (State.authFail s ch) := by
  unfold State.authFail; (try dsimp only); (repeat' split) <;> simp (maxDischargeDepth := 100) +contextual [hk]

@[simp ↓] theorem keepReply_same (s : State) (c : Cmd) (b : List Byte) (pending : Bool) (hk : s₀.SameDevice s) :
    s₀.SameDevice (State.keepReply s c b pending) := by
  unfold State.keepReply; (try dsimp only); (repeat' split) <;> simp (maxDischargeDepth := 100) +contextual [hk]

@[simp ↓] theorem conclude_same (s : State) (c : Cmd) (a : Ans) (hk : s₀.SameDevice s) :
    s₀.SameDevice (State.conclude s c a) := by
  unfold State.conclude; (try dsimp only); (repeat' split) <;> simp (maxDischargeDepth := 100) +contextual [hk]

end Sys2Proof.Machine
end

