-- ==== Sys2Proof/Laws/Command.lean ====
section
/-! SUPPORT. A command row on a packet that passes the common checks is its body and the answer. -/

namespace Sys2Proof.Machine

/-- What holds of the value that an option holds. Cited instead of unfolding `Option.any`, so that no test with a
large literal in it is evaluated. -/
theorem any_of {α : Type} {o : Option α} {p : α} {f : α → Bool} (h : o = some p) (hf : f p = true) :
    o.any f = true := by
  subst h; exact hf

/-- The common part of checks 9-11 lets a command through to its body. -/
theorem judge_ok {u : State} {c : Cmd} (h : u.commonOk c.p = true) (body : State → Cmd → State × Ans) :
    u.judge c body = body u c := by
  rcases (Bool.and_eq_true _ _).mp h with ⟨h, h5⟩
  rcases (Bool.and_eq_true _ _).mp h with ⟨h, h4⟩
  rcases (Bool.and_eq_true _ _).mp h with ⟨h, h3⟩
  rcases (Bool.and_eq_true _ _).mp h with ⟨h1, h2⟩
  rw [Bool.not_eq_true'] at h3 h4 h5
  simp [State.judge, h1, h2, h3, h4, h5]

/-- Check 8 passed: the session stays open, and the command is judged. -/
theorem authorize_ok {v : State} {c : Cmd} (h : v.authCheck c.h.chan c.p = none)
    (k : (v.stayOpen c).commonOk c.p = true) (body : State → Cmd → State × Ans) :
    v.authorize c body = (body (v.stayOpen c) c).1.conclude c (body (v.stayOpen c) c).2 := by
  have := judge_ok k body
  simp only [State.stayOpen] at this
  simp only [State.authorize, h, this, State.stayOpen]

/-- Check 7 passed: the channel takes the sequence number. -/
theorem sequence_ok {s : State} {c : Cmd} (h : s.seqOk c = true) (body : State → Cmd → State × Ans) :
    s.sequence c body = (s.seqTaken c).authorize c body := by
  unfold State.seqOk at h
  unfold State.sequence State.seqTaken
  by_cases hz : c.p.seq = 0
  · rw [if_pos hz] at h
    have : (s.session c.h.chan).isSome = false := by
      cases hs : s.session c.h.chan <;> simp [hs] at h ⊢
    simp [hz, this]
  · rw [if_neg hz] at h
    simp [hz, h]

/-- A row whose packet passes the common checks runs its body on the state they leave, and answers. -/
theorem command_passed {s u : State} {t : Nat} {c : Cmd} (h : s.passed t = some (c, u)) {sel : Pkt → Bool}
    (hs : sel c.p = true) (body : State → Cmd → State × Ans) :
    s.command t sel body = (body u c).1.conclude c (body u c).2 := by
  unfold State.passed at h
  dsimp only at h
  split at h
  · cases h
  · next q r hq =>
    split at h
    · cases h
    · next ha =>
      split at h
      · cases h
      · next s1 hs1 =>
        split at h
        · next hk =>
          cases h
          simp only [Bool.and_eq_true, beq_iff_eq] at hk
          obtain ⟨⟨hk1, hk2⟩, hk3⟩ := hk
          unfold State.command
          dsimp only
          rw [hq]
          have ha' : (s.upto t).sendDue.endStale.answers = true := by simpa using ha
          simp only [ha', hs, Bool.and_self, if_true]
          unfold State.serve
          simp only [hs1]
          rw [sequence_ok hk1, authorize_ok hk2 hk3]
        · cases h

end Sys2Proof.Machine
end

