-- ==== Sys2Proof/Laws/Fields.lean ====
section
/-! SUPPORT. Register fields: a field just set is read back, and every other field keeps its value. -/

namespace Sys2Proof.Machine

theorem fieldMask_getLsbD (len i : Nat) : (fieldMask len).getLsbD i = (decide (i < 32) && decide (i < len)) := by
  simp [fieldMask, BitVec.getLsbD_ofNat, Nat.testBit_two_pow_sub_one]

theorem wordSet_getLsbD (w : Word) (lo len v i : Nat) (h : i < 32) :
    (wordSet w lo len v).getLsbD i = if lo ≤ i ∧ i < lo + len then v.testBit (i - lo) else w.getLsbD i := by
  simp only [wordSet, BitVec.getLsbD_or, BitVec.getLsbD_and, BitVec.getLsbD_not, BitVec.getLsbD_shiftLeft,
    fieldMask_getLsbD, BitVec.getLsbD_ofNat, h, decide_true, Bool.true_and]
  split
  · next c =>
    have h1 : ¬ i < lo := by omega
    have h2 : i - lo < 32 := by omega
    have h3 : i - lo < len := by omega
    simp [h1, h2, h3]
  · next c =>
    by_cases h1 : i < lo
    · simp [h1]
    · have h3 : ¬ i - lo < len := by omega
      simp [h1, h3]

theorem wordGet_getLsbD (w : Word) (lo len i : Nat) :
    (wordGet w lo len).testBit i = (decide (i < len) && w.getLsbD (lo + i)) := by
  have : (wordGet w lo len).testBit i = (((w >>> lo) &&& fieldMask len).getLsbD i) := rfl
  rw [this, BitVec.getLsbD_and, BitVec.getLsbD_ushiftRight, fieldMask_getLsbD]
  by_cases h : i < 32
  · simp [h, Bool.and_comm]
  · have : w.getLsbD (lo + i) = false := BitVec.getLsbD_of_ge _ _ (by omega)
    simp [h, this]

/-- A field just set reads as the low bits of its value. -/
theorem wordGet_wordSet_same (w : Word) (lo len v : Nat) (h : lo + len ≤ 32) :
    wordGet (wordSet w lo len v) lo len = v % 2 ^ len := by
  apply Nat.eq_of_testBit_eq
  intro i
  rw [wordGet_getLsbD, Nat.testBit_mod_two_pow]
  by_cases c : i < len
  · rw [wordSet_getLsbD _ _ _ _ _ (by omega), if_pos (by omega)]
    simp
  · simp [c]

/-- A field is unchanged by setting one that does not overlap it. -/
theorem wordGet_wordSet_other (w : Word) (lo len v lo' len' : Nat) (h : lo + len ≤ lo' ∨ lo' + len' ≤ lo) :
    wordGet (wordSet w lo len v) lo' len' = wordGet w lo' len' := by
  apply Nat.eq_of_testBit_eq
  intro i
  rw [wordGet_getLsbD, wordGet_getLsbD]
  by_cases c : i < len'
  · by_cases d : lo' + i < 32
    · rw [wordSet_getLsbD _ _ _ _ _ d, if_neg (by omega)]
    · rw [BitVec.getLsbD_of_ge _ _ (by omega), BitVec.getLsbD_of_ge _ _ (by omega)]
  · simp [c]

theorem get_set_same (s : State) (f : Fld) (v : Nat) (h : f.lo + f.len ≤ 32) : (s.set f v).get f = v % 2 ^ f.len := by
  unfold State.get State.set
  rw [reg_setReg_same]
  exact wordGet_wordSet_same _ _ _ _ h

/-- Fields of one register that do not overlap, or of different registers. -/
theorem get_set_other (s : State) (f g : Fld) (v : Nat)
    (h : f.addr ≠ g.addr ∨ f.lo + f.len ≤ g.lo ∨ g.lo + g.len ≤ f.lo) : (s.set f v).get g = s.get g := by
  unfold State.get State.set
  by_cases e : g.addr = f.addr
  · rw [e, reg_setReg_same, wordGet_wordSet_other]
    rcases h with h | h
    · exact absurd e.symm h
    · exact h
  · rw [reg_setReg_other _ e]

end Sys2Proof.Machine
end

