-- ==== Sys2Proof/Laws/Keeps.lean ====
section
/-! SUPPORT. What no operation of the model does: it leaves the queue of waiting commands alone, keeps memory
and registers in canonical form, draws free values in order, takes nothing back that has left the module,
and never has FORCE turn on both channels of a leg. `State.Keeps` says so of a state and a later one; one lemma per operation follows in the files of
`Sys2Proof/Laws/`. -/

namespace Sys2Proof.Machine

/-- What every operation keeps from `s` to `t`. -/
structure State.Keeps (s t : State) : Prop where
  pending : t.pending = s.pending
  free : s.free ≤ t.free
  out : s.out <:+ t.out
  mem : Memory.wf s.mem = true → Memory.wf t.mem = true
  regs : Regs.wf s.regs = true → Regs.wf t.regs = true
  force : s.ForceOk → t.ForceOk

theorem State.Keeps.refl (s : State) : s.Keeps s :=
  ⟨rfl, Nat.le_refl _, List.suffix_refl _, id, id, id⟩

theorem State.Keeps.trans {r s t : State} (h : r.Keeps s) (k : s.Keeps t) : r.Keeps t :=
  ⟨k.pending.trans h.pending, Nat.le_trans h.free k.free, h.out.trans k.out, k.mem ∘ h.mem, k.regs ∘ h.regs,
    k.force ∘ h.force⟩

variable {s₀ s : State}

/-- A change of state that is no register, no memory, no queue and no output. -/
@[simp ↓] theorem keeps_other (h : s₀.Keeps s) 
    (x0 : Nat) (x1 : Bool) (x2 : List (Nat × Nat)) (x3 : List (Nat × Nat)) (xe : List Nat) (x4 : Fin 8) (x5 : DLines) (x6
    : Rail) (x7 : AsDisc) (x8 : Hm) (x9 : FaultMan) (x10 : Vector Axis 4) (x11 : Vector Carrier 4)  (x13 : Vector Gate 26) (x14 : Bw) (x15 : Vector (Option Nat) 4) (x16 : Vector Eng 4) (x17 : Logb) (x18
    : Vector Cluster 4) (x19 : Vector Port 4) (x20 : Vector Word 44) (x21 : Int) (x22 : Int) (x23 : List Nat) (x24
    : Vector PerfUnit 8) (x25 : Lk) (x26 : Eth) (x27 : Vector CanCtl 4) (x28 : Vector Core 4) (x29 : Vector Arb 3)
    (x30 : Option FlashJob) (x31 : Moor) (x32 : Pwr) :
    s₀.Keeps (State.mk s.pending s.free s.out x0 x1 x2 x3 s.regs s.mem xe x4 x5 x6 x7 x8 x9 x10 x11 s.legs x13 x14 x15 x16 x17 x18
    x19 x20 x21 x22 x23 x24 x25 x26 x27 x28 x29 x30 x31 x32) :=
  h.trans ⟨rfl, Nat.le_refl _, List.suffix_refl _, id, id, id⟩

/-- Free values are drawn in order. -/
@[simp ↓] theorem keeps_free (h : s₀.Keeps s) (k : Nat)
    (x0 : Nat) (x1 : Bool) (x2 : List (Nat × Nat)) (x3 : List (Nat × Nat)) (xe : List Nat) (x4 : Fin 8) (x5 : DLines) (x6
    : Rail) (x7 : AsDisc) (x8 : Hm) (x9 : FaultMan) (x10 : Vector Axis 4) (x11 : Vector Carrier 4)  (x13 : Vector Gate 26) (x14 : Bw) (x15 : Vector (Option Nat) 4) (x16 : Vector Eng 4) (x17 : Logb) (x18
    : Vector Cluster 4) (x19 : Vector Port 4) (x20 : Vector Word 44) (x21 : Int) (x22 : Int) (x23 : List Nat) (x24
    : Vector PerfUnit 8) (x25 : Lk) (x26 : Eth) (x27 : Vector CanCtl 4) (x28 : Vector Core 4) (x29 : Vector Arb 3)
    (x30 : Option FlashJob) (x31 : Moor) (x32 : Pwr) :
    s₀.Keeps (State.mk s.pending (s.free + k) s.out x0 x1 x2 x3 s.regs s.mem xe x4 x5 x6 x7 x8 x9 x10 x11 s.legs x13 x14 x15 x16
    x17 x18 x19 x20 x21 x22 x23 x24 x25 x26 x27 x28 x29 x30 x31 x32) :=
  h.trans ⟨rfl, Nat.le_add_right .., List.suffix_refl _, id, id, id⟩

/-- What leaves the module is added. -/
@[simp ↓] theorem keeps_emit (h : s₀.Keeps s) (o : Out)
    (x0 : Nat) (x1 : Bool) (x2 : List (Nat × Nat)) (x3 : List (Nat × Nat)) (xe : List Nat) (x4 : Fin 8) (x5 : DLines) (x6
    : Rail) (x7 : AsDisc) (x8 : Hm) (x9 : FaultMan) (x10 : Vector Axis 4) (x11 : Vector Carrier 4)  (x13 : Vector Gate 26) (x14 : Bw) (x15 : Vector (Option Nat) 4) (x16 : Vector Eng 4) (x17 : Logb) (x18
    : Vector Cluster 4) (x19 : Vector Port 4) (x20 : Vector Word 44) (x21 : Int) (x22 : Int) (x23 : List Nat) (x24
    : Vector PerfUnit 8) (x25 : Lk) (x26 : Eth) (x27 : Vector CanCtl 4) (x28 : Vector Core 4) (x29 : Vector Arb 3)
    (x30 : Option FlashJob) (x31 : Moor) (x32 : Pwr) :
    s₀.Keeps (State.mk s.pending s.free (o :: s.out) x0 x1 x2 x3 s.regs s.mem xe x4 x5 x6 x7 x8 x9 x10 x11 s.legs x13 x14 x15 x16
    x17 x18 x19 x20 x21 x22 x23 x24 x25 x26 x27 x28 x29 x30 x31 x32) :=
  h.trans ⟨rfl, Nat.le_refl _, List.suffix_cons .., id, id, id⟩

/-- A change of a leg that does not have FORCE turn on both of its channels. -/
@[simp ↓] theorem updLeg_keeps (s : State) (l : Fin 12) (f : Leg → Leg) (h : s₀.Keeps s)
    (hf : ∀ g, (f g).forceHi = true → (f g).forceLo = true → g.forceHi = true ∧ g.forceLo = true) :
    s₀.Keeps (s.updLeg l f) := by
  refine h.trans ⟨rfl, Nat.le_refl _, List.suffix_refl _, id, id, fun k m hm => ?_⟩
  by_cases e : l = m
  · subst e
    rw [updLeg_leg_same] at hm
    exact k l (hf _ hm.1 hm.2)
  · rw [updLeg_leg_other s l m f e] at hm
    exact k m hm

@[simp ↓] theorem setReg_keeps (h : s₀.Keeps s) (a : Nat) (w : Word) : s₀.Keeps (s.setReg a w) :=
  h.trans ⟨rfl, Nat.le_refl _, List.suffix_refl _, id, fun k => setReg_wf k a w, id⟩

@[simp ↓] theorem setByte_keeps (h : s₀.Keeps s) (a : Nat) (b : Byte) : s₀.Keeps (s.setByte a b) :=
  h.trans ⟨rfl, Nat.le_refl _, List.suffix_refl _, fun k => setByte_wf k a b, id, id⟩

@[simp ↓] theorem setBytes_keeps (h : s₀.Keeps s) (a : Nat) (l : List Byte) : s₀.Keeps (s.setBytes a l) := by
  induction l generalizing s a with
  | nil => exact h
  | cons b r ih => exact ih (setByte_keeps h a b) (a + 1)

@[simp ↓] theorem ite_keeps {c : Prop} [Decidable c] {t : State} (h : s₀.Keeps s) (k : s₀.Keeps t) :
    s₀.Keeps (if c then s else t) := by split <;> assumption

@[simp ↓] theorem ite_keeps_fst {β : Type} {c : Prop} [Decidable c] {x y : State × β} (h : s₀.Keeps x.1)
    (k : s₀.Keeps y.1) : s₀.Keeps (if c then x else y).1 := by split <;> assumption

@[simp ↓] theorem ite_keeps_snd {β : Type} {c : Prop} [Decidable c] {x y : β × State} (h : s₀.Keeps x.2)
    (k : s₀.Keeps y.2) : s₀.Keeps (if c then x else y).2 := by split <;> assumption

/-- A fold keeps what its step keeps. -/
@[simp ↓] theorem foldl_keeps {α : Type} {f : State → α → State} (hf : ∀ s a, s₀.Keeps s → s₀.Keeps (f s a)) :
    ∀ (l : List α) {s : State}, s₀.Keeps s → s₀.Keeps (l.foldl f s)
  | [], _, h => h
  | a :: r, s, h => foldl_keeps hf r (hf s a h)

/-- A fold over a pair keeps what its step keeps in the first component. -/
@[simp ↓] theorem foldl_keeps_fst {α β : Type} {f : State × β → α → State × β}
    (hf : ∀ p a, s₀.Keeps p.1 → s₀.Keeps (f p a).1) :
    ∀ (l : List α) {p : State × β}, s₀.Keeps p.1 → s₀.Keeps (l.foldl f p).1
  | [], _, h => h
  | a :: r, p, h => foldl_keeps_fst hf r (hf p a h)

end Sys2Proof.Machine
end

