-- ==== Sys2Proof/Laws/Keep/Ops.lean ====
section
/-! SUPPORT. What the operations of Machine/Ops.lean keep. -/

namespace Sys2Proof.Machine

@[simp ↓] theorem set_keeps {s₀ : State} (s : State) (f : Fld) (v : Nat) (hk : s₀.Keeps s) :
    s₀.Keeps (State.set s f v) := by
  unfold State.set; simp (maxDischargeDepth := 100) +contextual [hk]

@[simp ↓] theorem sets_keeps {s₀ : State} (s : State) (l : List (Fld × Nat)) (hk : s₀.Keeps s) :
    s₀.Keeps (State.sets s l) := by
  unfold State.sets; simp (maxDischargeDepth := 100) +contextual [hk]

@[simp ↓] theorem setB_keeps {s₀ : State} (s : State) (f : Fld) (b : Bool) (hk : s₀.Keeps s) :
    s₀.Keeps (State.setB s f b) := by
  unfold State.setB; simp (maxDischargeDepth := 100) +contextual [hk]

@[simp ↓] theorem setI_keeps {s₀ : State} (s : State) (f : Fld) (v : Int) (hk : s₀.Keeps s) :
    s₀.Keeps (State.setI s f v) := by
  unfold State.setI; simp (maxDischargeDepth := 100) +contextual [hk]

@[simp ↓] theorem incHold_keeps {s₀ : State} (s : State) (f : Fld) (hk : s₀.Keeps s) :
    s₀.Keeps (State.incHold s f) := by
  unfold State.incHold; simp (maxDischargeDepth := 100) +contextual [hk]

@[simp ↓] theorem incWrap_keeps {s₀ : State} (s : State) (f : Fld) (hk : s₀.Keeps s) :
    s₀.Keeps (State.incWrap s f) := by
  unfold State.incWrap; simp (maxDischargeDepth := 100) +contextual [hk]

@[simp ↓] theorem setW_keeps {s₀ : State} (s : State) (a : Nat) (w : Word) (hk : s₀.Keeps s) :
    s₀.Keeps (State.setW s a w) := by
  unfold State.setW; simp (maxDischargeDepth := 100) +contextual [hk]

@[simp ↓] theorem upto_keeps {s₀ : State} (s : State) (t : Nat) (hk : s₀.Keeps s) :
    s₀.Keeps (State.upto s t) := by
  unfold State.upto; simp (maxDischargeDepth := 100) +contextual [hk]

@[simp ↓] theorem freeNat_keeps {s₀ : State} (s : State) (hk : s₀.Keeps s) :
    s₀.Keeps (State.freeNat s).2 := by
  unfold State.freeNat; simp (maxDischargeDepth := 100) +contextual [hk]

@[simp ↓] theorem freeWord_keeps {s₀ : State} (s : State) (hk : s₀.Keeps s) :
    s₀.Keeps (State.freeWord s).2 := by
  unfold State.freeWord; simp (maxDischargeDepth := 100) +contextual [hk]

@[simp ↓] theorem freeInt_keeps {s₀ : State} (s : State) (hk : s₀.Keeps s) :
    s₀.Keeps (State.freeInt s).2 := by
  unfold State.freeInt; simp (maxDischargeDepth := 100) +contextual [hk]

@[simp ↓] theorem freeBytes_keeps {s₀ : State} (s : State) (n : Nat) (hk : s₀.Keeps s) :
    s₀.Keeps (State.freeBytes s n).2 := by
  unfold State.freeBytes; simp (maxDischargeDepth := 100) +contextual [hk]

@[simp ↓] theorem setAxis_keeps {s₀ : State} (s : State) (n : Fin 4) (a : Axis) (hk : s₀.Keeps s) :
    s₀.Keeps (State.setAxis s n a) := by
  unfold State.setAxis; simp (maxDischargeDepth := 100) +contextual [hk]

@[simp ↓] theorem updAxis_keeps {s₀ : State} (s : State) (n : Fin 4) (f : Axis → Axis) (hk : s₀.Keeps s) :
    s₀.Keeps (State.updAxis s n f) := by
  unfold State.updAxis; simp (maxDischargeDepth := 100) +contextual [hk]

@[simp ↓] theorem updCarrier_keeps {s₀ : State} (s : State) (n : Fin 4) (f : Carrier → Carrier) (hk : s₀.Keeps s) :
    s₀.Keeps (State.updCarrier s n f) := by
  unfold State.updCarrier; simp (maxDischargeDepth := 100) +contextual [hk]

@[simp ↓] theorem updGate_keeps {s₀ : State} (s : State) (g : Fin 26) (f : Gate → Gate) (hk : s₀.Keeps s) :
    s₀.Keeps (State.updGate s g f) := by
  unfold State.updGate; simp (maxDischargeDepth := 100) +contextual [hk]

@[simp ↓] theorem updEng_keeps {s₀ : State} (s : State) (n : Fin 4) (f : Eng → Eng) (hk : s₀.Keeps s) :
    s₀.Keeps (State.updEng s n f) := by
  unfold State.updEng; simp (maxDischargeDepth := 100) +contextual [hk]

@[simp ↓] theorem updBw_keeps {s₀ : State} (s : State) (f : Bw → Bw) (hk : s₀.Keeps s) :
    s₀.Keeps (State.updBw s f) := by
  unfold State.updBw; simp (maxDischargeDepth := 100) +contextual [hk]

@[simp ↓] theorem updHm_keeps {s₀ : State} (s : State) (f : Hm → Hm) (hk : s₀.Keeps s) :
    s₀.Keeps (State.updHm s f) := by
  unfold State.updHm; simp (maxDischargeDepth := 100) +contextual [hk]

@[simp ↓] theorem updFm_keeps {s₀ : State} (s : State) (f : FaultMan → FaultMan) (hk : s₀.Keeps s) :
    s₀.Keeps (State.updFm s f) := by
  unfold State.updFm; simp (maxDischargeDepth := 100) +contextual [hk]

@[simp ↓] theorem updLogb_keeps {s₀ : State} (s : State) (f : Logb → Logb) (hk : s₀.Keeps s) :
    s₀.Keeps (State.updLogb s f) := by
  unfold State.updLogb; simp (maxDischargeDepth := 100) +contextual [hk]

@[simp ↓] theorem emit_keeps {s₀ : State} (s : State) (o : Out) (hk : s₀.Keeps s) :
    s₀.Keeps (State.emit s o) := by
  unfold State.emit; simp (maxDischargeDepth := 100) +contextual [hk]

@[simp ↓] theorem eachAxis_keeps {s₀ : State} (s : State) (f : State → Fin 4 → State) (hk : s₀.Keeps s)
    (hf : ∀ s n, s₀.Keeps s → s₀.Keeps (f s n)) : s₀.Keeps (s.eachAxis f) :=
  foldl_keeps hf _ hk

@[simp ↓] theorem eraseMem_keeps {s₀ : State} (s : State) (a n : Nat) (hk : s₀.Keeps s) : s₀.Keeps (s.eraseMem a n) :=
  hk.trans ⟨rfl, Nat.le_refl _, List.suffix_refl _, fun h => stoFilter_wf h _, id, id⟩

@[simp ↓] theorem logWait_keeps {s₀ : State} (s : State) (i : Nat) (close : Bool) (e : LogItem) (hk : s₀.Keeps s) :
    s₀.Keeps (State.logWait s i close e) := by
  unfold State.logWait; simp (maxDischargeDepth := 100) +contextual [hk]

@[simp ↓] theorem logEvent_keeps {s₀ : State} (s : State) (epoch src stamp : Nat) (sel : LogChan → Option (List Byte)) (hk : s₀.Keeps s) :
    s₀.Keeps (State.logEvent s epoch src stamp sel) := by
  unfold State.logEvent; (try dsimp only); (repeat' (split <;> try (rename_i e; replace e := congrArg Prod.fst e; dsimp only at e; subst e))) <;> (try apply foldl_keeps) <;> (try intro _ _ _) <;> (try dsimp only) <;> (repeat' (split <;> try (rename_i e; replace e := congrArg Prod.fst e; dsimp only at e; subst e))) <;> simp (maxDischargeDepth := 100) +contextual [*]

@[simp ↓] theorem logClose_keeps {s₀ : State} (s : State) (src stamp : Nat) (sel : LogChan → Bool) (hk : s₀.Keeps s) :
    s₀.Keeps (State.logClose s src stamp sel) := by
  unfold State.logClose; simp (maxDischargeDepth := 100) +contextual [hk]

@[simp ↓] theorem gateEv_keeps {s₀ : State} (s : State) (stamp g ev : Nat) (plateau step : Option Nat) (hk : s₀.Keeps s) :
    s₀.Keeps (State.gateEv s stamp g ev plateau step) := by
  unfold State.gateEv; simp (maxDischargeDepth := 100) +contextual [hk]

end Sys2Proof.Machine
end

