-- ==== Sys2Proof/Laws/Keep/Group.lean ====
section
/-! SUPPORT. What the operations of Machine/Group.lean keep. -/

namespace Sys2Proof.Machine

@[simp ↓] theorem updMoor_keeps {s₀ : State} (s : State) (f : Moor → Moor) (hk : s₀.Keeps s) :
    s₀.Keeps (State.updMoor s f) := by
  unfold State.updMoor; simp (maxDischargeDepth := 100) +contextual [hk]

@[simp ↓] theorem sendTo_keeps {s₀ : State} (s : State) (m : Fin 8) (what : Nat) (args : List Nat) (hk : s₀.Keeps s) :
    s₀.Keeps (State.sendTo s m what args) := by
  unfold State.sendTo; simp (maxDischargeDepth := 100) +contextual [hk]

@[simp ↓] theorem sendAll_keeps {s₀ : State} (s : State) (what : Nat) (args : List Nat) (hk : s₀.Keeps s) :
    s₀.Keeps (State.sendAll s what args) := by
  unfold State.sendAll; simp (maxDischargeDepth := 100) +contextual [hk]

@[simp ↓] theorem sendPorts_keeps {s₀ : State} (s : State) (what : Nat) (args : List Nat) (hk : s₀.Keeps s) :
    s₀.Keeps (State.sendPorts s what args) := by
  unfold State.sendPorts; simp (maxDischargeDepth := 100) +contextual [hk]

@[simp ↓] theorem tellLead_keeps {s₀ : State} (s : State) (hk : s₀.Keeps s) :
    s₀.Keeps (State.tellLead s) := by
  unfold State.tellLead; simp (maxDischargeDepth := 100) +contextual [hk]

@[simp ↓] theorem setModState_keeps {s₀ : State} (s : State) (v : Nat) (hk : s₀.Keeps s) :
    s₀.Keeps (State.setModState s v) := by
  unfold State.setModState; simp (maxDischargeDepth := 100) +contextual [hk]

@[simp ↓] theorem recount_keeps {s₀ : State} (s : State) (hk : s₀.Keeps s) :
    s₀.Keeps (State.recount s) := by
  unfold State.recount; simp (maxDischargeDepth := 100) +contextual [hk]

@[simp ↓] theorem remask_keeps {s₀ : State} (s : State) (hk : s₀.Keeps s) :
    s₀.Keeps (State.remask s) := by
  unfold State.remask; simp (maxDischargeDepth := 100) +contextual [hk]

@[simp ↓] theorem reForm_keeps {s₀ : State} (s : State) (hk : s₀.Keeps s) :
    s₀.Keeps (State.reForm s) := by
  unfold State.reForm; simp (maxDischargeDepth := 100) +contextual [hk]

@[simp ↓] theorem startForm_keeps {s₀ : State} (s : State) (hk : s₀.Keeps s) :
    s₀.Keeps (State.startForm s) := by
  unfold State.startForm; simp (maxDischargeDepth := 100) +contextual [hk]

@[simp ↓] theorem announce_keeps {s₀ : State} (s : State) (hk : s₀.Keeps s) :
    s₀.Keeps (State.announce s) := by
  unfold State.announce; simp (maxDischargeDepth := 100) +contextual [hk]

end Sys2Proof.Machine
end

