-- ==== Sys2Proof/Laws/Keep/Queue.lean ====
section
/-! SUPPORT. What the operations of Machine/Queue.lean keep. -/

namespace Sys2Proof.Machine

@[simp ↓] theorem tellEntry_keeps {s₀ : State} (s : State) (what : Nat) (e : Entry) (hk : s₀.Keeps s) :
    s₀.Keeps (State.tellEntry s what e) := by
  unfold State.tellEntry; simp (maxDischargeDepth := 100) +contextual [hk]

@[simp ↓] theorem putQueue_keeps {s₀ : State} (s : State) (q : List Entry) (hk : s₀.Keeps s) :
    s₀.Keeps (State.putQueue s q) := by
  unfold State.putQueue; simp (maxDischargeDepth := 100) +contextual [hk]

end Sys2Proof.Machine
end

