-- ==== Sys2Proof/Laws/Keep/Axes.lean ====
section
/-! SUPPORT. What the operations of Machine/Axes.lean keep. -/

namespace Sys2Proof.Machine

@[simp ↓] theorem blankFrom_keeps {s₀ : State} (s : State) (tick : Nat) (n : Fin 4) (k : Fin 8) (hk : s₀.Keeps s) :
    s₀.Keeps (State.blankFrom s tick n k) := by
  unfold State.blankFrom; simp (maxDischargeDepth := 100) +contextual [hk]

@[simp ↓] theorem noteLine_keeps {s₀ : State} (s : State) (k : Fin 28) (tick : Nat) (hk : s₀.Keeps s) :
    s₀.Keeps (State.noteLine s k tick) := by
  unfold State.noteLine; simp (maxDischargeDepth := 100) +contextual [hk]

@[simp ↓] theorem putEdge_keeps {s₀ : State} (s : State) (e : Edge) (hk : s₀.Keeps s) :
    s₀.Keeps (State.putEdge s e) := by
  unfold State.putEdge; simp (maxDischargeDepth := 100) +contextual [hk]

@[simp ↓] theorem drive_keeps {s₀ : State} (s : State) (x : Nat) (hk : s₀.Keeps s) :
    s₀.Keeps (State.drive s x) := by
  unfold State.drive; simp (maxDischargeDepth := 100) +contextual [hk]

@[simp ↓] theorem driveNow_keeps {s₀ : State} (s : State) (hk : s₀.Keeps s) :
    s₀.Keeps (State.driveNow s) := by
  unfold State.driveNow; simp (maxDischargeDepth := 100) +contextual [hk]

@[simp ↓] theorem updHolds_keeps {s₀ : State} (s : State) (g : Fin 26) (f : Holds → Holds) (hk : s₀.Keeps s) :
    s₀.Keeps (State.updHolds s g f) := by
  unfold State.updHolds; simp (maxDischargeDepth := 100) +contextual [hk]

@[simp ↓] theorem legMode_keeps {s₀ : State} (s : State) (t : Nat) (m : OutMode) (l : Fin 12) (hk : s₀.Keeps s) :
    s₀.Keeps (State.legMode s t m l) := by
  unfold State.legMode; (try dsimp only); (repeat' split) <;> simp (maxDischargeDepth := 100) +contextual [hk]

@[simp ↓] theorem modeEdges_keeps {s₀ : State} (old : State) (t : Nat) (s : State) (l : Fin 12) (hk : s₀.Keeps s) :
    s₀.Keeps (State.modeEdges old t s l) := by
  unfold State.modeEdges; simp (maxDischargeDepth := 100) +contextual [hk]

@[simp ↓] theorem setMode_keeps {s₀ : State} (s : State) (t : Nat) (n : Fin 4) (m : OutMode) (hk : s₀.Keeps s) :
    s₀.Keeps (State.setMode s t n m) := by
  have hd : s₀.Keeps (s.drive (32 * t)) := by simp [hk]
  unfold State.setMode
  split
  · exact hk
  · exact foldl_keeps (fun v l hv => by simp [hv]) _ (by simp (maxDischargeDepth := 100) +contextual [hd])

@[simp ↓] theorem restop_keeps {s₀ : State} (s : State) (n : Fin 4) (hk : s₀.Keeps s) :
    s₀.Keeps (State.restop s n) := by
  unfold State.restop; simp (maxDischargeDepth := 100) +contextual [hk]

@[simp ↓] theorem settleAxis_keeps {s₀ : State} (t : Nat) (s : State) (n : Fin 4) (hk : s₀.Keeps s) :
    s₀.Keeps (State.settleAxis t s n) := by
  unfold State.settleAxis; simp (maxDischargeDepth := 100) +contextual [hk]

@[simp ↓] theorem settle_keeps {s₀ : State} (s : State) (t : Nat) (hk : s₀.Keeps s) :
    s₀.Keeps (State.settle s t) := by
  unfold State.settle; simp (maxDischargeDepth := 100) +contextual [hk]

@[simp ↓] theorem passAbandon_keeps {s₀ : State} (s : State) (n : Fin 4) (hk : s₀.Keeps s) :
    s₀.Keeps (State.passAbandon s n) := by
  unfold State.passAbandon; simp (maxDischargeDepth := 100) +contextual [hk]

@[simp ↓] theorem reModule_keeps {s₀ : State} (s : State) (hk : s₀.Keeps s) :
    s₀.Keeps (State.reModule s) := by
  unfold State.reModule; simp (maxDischargeDepth := 100) +contextual [hk]

@[simp ↓] theorem causeGone_keeps {s₀ : State} (s : State) (name : FName) (src inst : Nat) (hk : s₀.Keeps s) :
    s₀.Keeps (State.causeGone s name src inst) := by
  unfold State.causeGone; simp (maxDischargeDepth := 100) +contextual [hk]

@[simp ↓] theorem obsLeave_keeps {s₀ : State} (s : State) (n : Fin 4) (hk : s₀.Keeps s) :
    s₀.Keeps (State.obsLeave s n) := by
  unfold State.obsLeave; simp (maxDischargeDepth := 100) +contextual [hk]

@[simp ↓] theorem leaveClosed_keeps {s₀ : State} (s : State) (n : Fin 4) (hk : s₀.Keeps s) :
    s₀.Keeps (State.leaveClosed s n) := by
  unfold State.leaveClosed; simp (maxDischargeDepth := 100) +contextual [hk]

@[simp ↓] theorem leaveOff_keeps {s₀ : State} (s : State) (n : Fin 4) (hk : s₀.Keeps s) :
    s₀.Keeps (State.leaveOff s n) := by
  unfold State.leaveOff; simp (maxDischargeDepth := 100) +contextual [hk]

@[simp ↓] theorem moveAxis_keeps {s₀ : State} (s : State) (n : Fin 4) (st : AxState) (holdAsc : Bool) (hk : s₀.Keeps s) :
    s₀.Keeps (State.moveAxis s n st holdAsc) := by
  unfold State.moveAxis; simp (maxDischargeDepth := 100) +contextual [hk]

@[simp ↓] theorem enterClosed_keeps {s₀ : State} (s : State) (n : Fin 4) (st : AxState) (hk : s₀.Keeps s) :
    s₀.Keeps (State.enterClosed s n st) := by
  unfold State.enterClosed; simp (maxDischargeDepth := 100) +contextual [hk]

@[simp ↓] theorem expireToHold_keeps {s₀ : State} (s : State) (n : Fin 4) (hk : s₀.Keeps s) :
    s₀.Keeps (State.expireToHold s n) := by
  unfold State.expireToHold; simp (maxDischargeDepth := 100) +contextual [hk]

end Sys2Proof.Machine
end

