-- ==== Sys2Proof/Laws/Keep/Faults.lean ====
section
/-! SUPPORT. What the operations of Machine/Faults.lean keep. -/

namespace Sys2Proof.Machine

@[simp ↓] theorem logFaults_keeps {s₀ : State} (s : State) (hk : s₀.Keeps s) :
    s₀.Keeps (State.logFaults s) := by
  unfold State.logFaults; simp (maxDischargeDepth := 100) +contextual [hk]

@[simp ↓] theorem lostEntry_keeps {s₀ : State} (s : State) (hk : s₀.Keeps s) :
    s₀.Keeps (State.lostEntry s) := by
  unfold State.lostEntry; simp (maxDischargeDepth := 100) +contextual [hk]

@[simp ↓] theorem enterQueue_keeps {s₀ : State} (s : State) (f : FaultIn) (sev : Nat) (req : Nat) (latched retry : Bool) (hk : s₀.Keeps s) :
    s₀.Keeps (State.enterQueue s f sev req latched retry) := by
  unfold State.enterQueue; simp (maxDischargeDepth := 100) +contextual [hk]

@[simp ↓] theorem activate_keeps {s₀ : State} (s : State) (f : FaultIn) (sev : Nat) (latched : Bool) (hk : s₀.Keeps s) :
    s₀.Keeps (State.activate s f sev latched) := by
  unfold State.activate; simp (maxDischargeDepth := 100) +contextual [hk]

@[simp ↓] theorem faultAxis_keeps {s₀ : State} (s : State) (n : Fin 4) (hk : s₀.Keeps s) :
    s₀.Keeps (State.faultAxis s n) := by
  unfold State.faultAxis; simp (maxDischargeDepth := 100) +contextual [hk]

@[simp ↓] theorem driveGtrip_keeps {s₀ : State} (s : State) (t : Nat) (f : Bw → Bw) (hk : s₀.Keeps s) :
    s₀.Keeps (State.driveGtrip s t f) := by
  unfold State.driveGtrip; simp (maxDischargeDepth := 100) +contextual [hk]

@[simp ↓] theorem seqFresh_keeps {s₀ : State} (s : State) (hk : s₀.Keeps s) :
    s₀.Keeps (State.seqFresh s) := by
  unfold State.seqFresh; simp (maxDischargeDepth := 100) +contextual [hk]

@[simp ↓] theorem moduleSafe_keeps {s₀ : State} (s : State) (t : Nat) (hk : s₀.Keeps s) :
    s₀.Keeps (State.moduleSafe s t) := by
  unfold State.moduleSafe; simp (maxDischargeDepth := 100) +contextual [hk]

@[simp ↓] theorem logTriggerAt_keeps {s₀ : State} (s : State) (stamp : Nat) (hk : s₀.Keeps s) :
    s₀.Keeps (State.logTriggerAt s stamp) := by
  unfold State.logTriggerAt; simp (maxDischargeDepth := 100) +contextual [hk]

@[simp ↓] theorem logTrigger_keeps {s₀ : State} (s : State) (stamp : Nat) (hk : s₀.Keeps s) :
    s₀.Keeps (State.logTrigger s stamp) := by
  unfold State.logTrigger; simp (maxDischargeDepth := 100) +contextual [hk]

@[simp ↓] theorem orderLate_keeps {s₀ : State} (s : State) (epoch stamp src : Nat) (hk : s₀.Keeps s) :
    s₀.Keeps (State.orderLate s epoch stamp src) := by
  unfold State.orderLate; simp (maxDischargeDepth := 100) +contextual [hk]

@[simp ↓] theorem gateReport_keeps {s₀ : State} (s : State) (stamp g ev : Nat) (plateau step : Option Nat) (hk : s₀.Keeps s) :
    s₀.Keeps (State.gateReport s stamp g ev plateau step) := by
  unfold State.gateReport; simp (maxDischargeDepth := 100) +contextual [hk]

@[simp ↓] theorem holdObs_keeps {s₀ : State} (s : State) (src stamp : Nat) (hk : s₀.Keeps s) :
    s₀.Keeps (State.holdObs s src stamp) := by
  unfold State.holdObs; simp (maxDischargeDepth := 100) +contextual [hk]

@[simp ↓] theorem obsReact_keeps {s₀ : State} (s : State) (n : Fin 4) (hk : s₀.Keeps s) :
    s₀.Keeps (State.obsReact s n) := by
  unfold State.obsReact; simp (maxDischargeDepth := 100) +contextual [hk]

@[simp ↓] theorem raiseFull_keeps {s₀ : State} (s : State) (f : FaultIn) (req : Nat) (latched retry : Bool) (hk : s₀.Keeps s) :
    s₀.Keeps (State.raiseFull s f req latched retry) := by
  unfold State.raiseFull; simp (maxDischargeDepth := 100) +contextual [hk]

@[simp ↓] theorem raise_keeps {s₀ : State} (s : State) (name : FName) (src : Nat) (detail : Nat) (stamp : Nat) (axes : BitVec 4) (sev : Nat) (inst : Nat) (latched : Bool) (retry : Bool) (req : Nat) (epoch : Option Nat) (hk : s₀.Keeps s) :
    s₀.Keeps (State.raise s name src detail stamp axes sev inst latched retry req epoch) := by
  unfold State.raise; simp (maxDischargeDepth := 100) +contextual [hk]

@[simp ↓] theorem raiseNew_keeps {s₀ : State} (s : State) (name : FName) (src : Nat) (detail : Nat) (stamp : Nat) (hk : s₀.Keeps s) :
    s₀.Keeps (State.raiseNew s name src detail stamp) := by
  unfold State.raiseNew; simp (maxDischargeDepth := 100) +contextual [hk]

@[simp ↓] theorem raiseOnce_keeps {s₀ : State} (s : State) (name : FName) (src : Nat) (detail : Nat) (stamp : Nat) (hk : s₀.Keeps s) :
    s₀.Keeps (State.raiseOnce s name src detail stamp) := by
  unfold State.raiseOnce; simp (maxDischargeDepth := 100) +contextual [hk]

@[simp ↓] theorem dropObs_keeps {s₀ : State} (s : State) (src : Nat) (hk : s₀.Keeps s) :
    s₀.Keeps (State.dropObs s src) := by
  unfold State.dropObs; simp (maxDischargeDepth := 100) +contextual [hk]

@[simp ↓] theorem liftOf_keeps {s₀ : State} (s : State) (a : Active) (hk : s₀.Keeps s) :
    s₀.Keeps (State.liftOf s a) := by
  unfold State.liftOf; (try dsimp only); (repeat' split) <;> simp (maxDischargeDepth := 100) +contextual [hk]

@[simp ↓] theorem gateBits_keeps {s₀ : State} (s : State) (g : Fin 26) (hk : s₀.Keeps s) :
    s₀.Keeps (State.gateBits s g) := by
  unfold State.gateBits; simp (maxDischargeDepth := 100) +contextual [hk]

@[simp ↓] theorem legBits_keeps {s₀ : State} (s : State) (g : Fin 26) (hk : s₀.Keeps s) :
    s₀.Keeps (State.legBits s g) := by
  unfold State.legBits; (try dsimp only); (repeat' split) <;> simp (maxDischargeDepth := 100) +contextual [hk]

@[simp ↓] theorem clearActive_keeps {s₀ : State} (s : State) (p : Active → Bool) (hk : s₀.Keeps s) :
    s₀.Keeps (State.clearActive s p) := by
  unfold State.clearActive; simp (maxDischargeDepth := 100) +contextual [hk]

@[simp ↓] theorem autoClear_keeps {s₀ : State} (s : State) (name : FName) (src inst : Nat) (hk : s₀.Keeps s) :
    s₀.Keeps (State.autoClear s name src inst) := by
  unfold State.autoClear; simp (maxDischargeDepth := 100) +contextual [hk]

@[simp ↓] theorem faultClear_keeps {s₀ : State} (s : State) (target : Option (Fin 4)) (code : Nat) (hk : s₀.Keeps s) :
    s₀.Keeps (State.faultClear s target code).1 := by
  unfold State.faultClear; simp (maxDischargeDepth := 100) +contextual [hk]

@[simp ↓] theorem leaveSafe_keeps {s₀ : State} (s : State) (hk : s₀.Keeps s) :
    s₀.Keeps (State.leaveSafe s) := by
  unfold State.leaveSafe; simp (maxDischargeDepth := 100) +contextual [hk]

@[simp ↓] theorem eccCorr_keeps {s₀ : State} (s : State) (t a : Nat) (hk : s₀.Keeps s) :
    s₀.Keeps (State.eccCorr s t a) := by
  unfold State.eccCorr; simp (maxDischargeDepth := 100) +contextual [hk]

@[simp ↓] theorem eccFatal_keeps {s₀ : State} (s : State) (t a : Nat) (hk : s₀.Keeps s) :
    s₀.Keeps (State.eccFatal s t a) := by
  unfold State.eccFatal; simp (maxDischargeDepth := 100) +contextual [hk]

@[simp ↓] theorem dmaBytes_keeps {s₀ : State} (s : State) (t a n : Nat) (hk : s₀.Keeps s) :
    s₀.Keeps (State.dmaBytes s t a n).2 := by
  unfold State.dmaBytes; (try dsimp only); (repeat' split) <;> simp (maxDischargeDepth := 100) +contextual [hk]

end Sys2Proof.Machine
end

