-- ==== Sys2Proof/Laws/Keep/Record.lean ====
section
/-! SUPPORT. What the operations of Machine/Record.lean keep. -/

namespace Sys2Proof.Machine

@[simp ↓] theorem queueBlock_keeps {s₀ : State} (s : State) (i : Nat) (hk : s₀.Keeps s) :
    s₀.Keeps (State.queueBlock s i) := by
  unfold State.queueBlock; (try dsimp only); (repeat' split) <;> simp (maxDischargeDepth := 100) +contextual [hk]

@[simp ↓] theorem closeBlock_keeps {s₀ : State} (s : State) (now i : Nat) (hk : s₀.Keeps s) :
    s₀.Keeps (State.closeBlock s now i) := by
  unfold State.closeBlock; (try dsimp only); (repeat' split) <;> simp (maxDischargeDepth := 100) +contextual [hk]

@[simp ↓] theorem loseItem_keeps {s₀ : State} (s : State) (now i : Nat) (hk : s₀.Keeps s) :
    s₀.Keeps (State.loseItem s now i) := by
  unfold State.loseItem; simp (maxDischargeDepth := 100) +contextual [hk]

@[simp ↓] theorem logPut_keeps {s₀ : State} (s : State) (now i : Nat) (e : LogItem) (hk : s₀.Keeps s) :
    s₀.Keeps (State.logPut s now i e) := by
  unfold State.logPut; (try dsimp only); (repeat' split) <;> simp (maxDischargeDepth := 100) +contextual [hk]

end Sys2Proof.Machine
end

