-- ==== Sys2Proof/Laws/Keep/Tide.lean ====
section
/-! SUPPORT. What the operations of Machine/Tide.lean keep. -/

namespace Sys2Proof.Machine

@[simp ↓] theorem idleTick_keeps {s₀ : State} (s : State) (hk : s₀.Keeps s) :
    s₀.Keeps (State.idleTick s) := by
  unfold State.idleTick; simp (maxDischargeDepth := 100) +contextual [hk]

@[simp ↓] theorem pllLockLoss_keeps {s₀ : State} (t : Nat) (s : State) (hk : s₀.Keeps s) :
    s₀.Keeps (pllLockLoss t s) := by
  unfold pllLockLoss; simp (maxDischargeDepth := 100) +contextual [hk]

@[simp ↓] theorem refinLoss_keeps {s₀ : State} (t : Nat) (s : State) (hk : s₀.Keeps s) :
    s₀.Keeps (refinLoss t s) := by
  unfold refinLoss; simp (maxDischargeDepth := 100) +contextual [hk]

@[simp ↓] theorem railTo_keeps {s₀ : State} (s : State) (c : Int) (hk : s₀.Keeps s) :
    s₀.Keeps (State.railTo s c) := by
  unfold State.railTo; simp (maxDischargeDepth := 100) +contextual [hk]

@[simp ↓] theorem guardRail_keeps {s₀ : State} (old s : State) (t : Nat) (hk : s₀.Keeps s) :
    s₀.Keeps (State.guardRail old s t) := by
  unfold State.guardRail; simp (maxDischargeDepth := 100) +contextual [hk]

@[simp ↓] theorem recordRatio_keeps {s₀ : State} (s : State) (b : Fin 5) (q : Q) (hk : s₀.Keeps s) :
    s₀.Keeps (State.recordRatio s b q) := by
  unfold State.recordRatio; simp (maxDischargeDepth := 100) +contextual [hk]

@[simp ↓] theorem railTrim_keeps {s₀ : State} (s : State) (iv : Nat) (hk : s₀.Keeps s) :
    s₀.Keeps (State.railTrim s iv) := by
  unfold State.railTrim; simp (maxDischargeDepth := 100) +contextual [hk]

@[simp ↓] theorem marginLow_keeps {s₀ : State} (t iv : Nat) (w : Vector (List (Nat × Q)) 5) (s : State) (b : Fin 5) (hk : s₀.Keeps s) :
    s₀.Keeps (State.marginLow t iv w s b) := by
  unfold State.marginLow; (try dsimp only); (repeat' split) <;> simp (maxDischargeDepth := 100) +contextual [hk]

@[simp ↓] theorem railInterval_keeps {s₀ : State} (t : Nat) (s : State) (hk : s₀.Keeps s) :
    s₀.Keeps (railInterval t s) := by
  unfold railInterval; simp (maxDischargeDepth := 100) +contextual [hk]

@[simp ↓] theorem railGuard_keeps {s₀ : State} (t : Nat) (b : Fin 5) (canary : Nat) (s : State) (hk : s₀.Keeps s) :
    s₀.Keeps (railGuard t b canary s) := by
  unfold railGuard; simp (maxDischargeDepth := 100) +contextual [hk]

@[simp ↓] theorem boostRelease_keeps {s₀ : State} (t : Nat) (s : State) (hk : s₀.Keeps s) :
    s₀.Keeps (boostRelease t s) := by
  unfold boostRelease; simp (maxDischargeDepth := 100) +contextual [hk]

@[simp ↓] theorem captureBase_keeps {s₀ : State} (s : State) (t : Nat) (asNs : Int) (hk : s₀.Keeps s) :
    s₀.Keeps (State.captureBase s t asNs) := by
  unfold State.captureBase; simp (maxDischargeDepth := 100) +contextual [hk]

@[simp ↓] theorem asTrim_keeps {s₀ : State} (s : State) (t : Nat) (hk : s₀.Keeps s) :
    s₀.Keeps (State.asTrim s t) := by
  unfold State.asTrim; simp (maxDischargeDepth := 100) +contextual [hk]

@[simp ↓] theorem asDone_keeps {s₀ : State} (t : Nat) (err : Int) (far : Bool) (ok : Option Nat) (s : State) (hk : s₀.Keeps s) :
    s₀.Keeps (State.asDone t err far ok s) := by
  unfold State.asDone; simp (maxDischargeDepth := 100) +contextual [hk]

@[simp ↓] theorem asSync_keeps {s₀ : State} (t : Nat) (asNs : Int) (s : State) (hk : s₀.Keeps s) :
    s₀.Keeps (asSync t asNs s) := by
  unfold asSync; simp (maxDischargeDepth := 100) +contextual [hk]

@[simp ↓] theorem asHoldover_keeps {s₀ : State} (t : Nat) (s : State) (hk : s₀.Keeps s) :
    s₀.Keeps (asHoldover t s) := by
  unfold asHoldover; simp (maxDischargeDepth := 100) +contextual [hk]

@[simp ↓] theorem tideCapture_keeps {s₀ : State} (s : State) (req : Nat) (hk : s₀.Keeps s) :
    s₀.Keeps (State.tideCapture s req) := by
  unfold State.tideCapture; simp (maxDischargeDepth := 100) +contextual [hk]

@[simp ↓] theorem zeroCapture_keeps {s₀ : State} (s : State) (req : Nat) (n : Fin 4) (hk : s₀.Keeps s) :
    s₀.Keeps (State.zeroCapture s req n) := by
  unfold State.zeroCapture; simp (maxDischargeDepth := 100) +contextual [hk]

end Sys2Proof.Machine
end

