-- ==== Sys2Proof/Laws/Keep/Brake.lean ====
section
/-! SUPPORT. What the operations of Machine/Brake.lean keep. -/

namespace Sys2Proof.Machine

@[simp ↓] theorem failBrk_keeps {s₀ : State} (s : State) (t cause : Nat) (hk : s₀.Keeps s) :
    s₀.Keeps (State.failBrk s t cause) := by
  unfold State.failBrk; simp (maxDischargeDepth := 100) +contextual [hk]

@[simp ↓] theorem switchBrk_keeps {s₀ : State} (s : State) (t : Nat) (on : Bool) (hk : s₀.Keeps s) :
    s₀.Keeps (State.switchBrk s t on) := by
  unfold State.switchBrk; simp (maxDischargeDepth := 100) +contextual [hk]

@[simp ↓] theorem brkStep_keeps {s₀ : State} (s : State) (t : Nat) (result : Bool) (hk : s₀.Keeps s) :
    s₀.Keeps (State.brkStep s t result) := by
  unfold State.brkStep; simp (maxDischargeDepth := 100) +contextual [hk]

@[simp ↓] theorem brkEnergy_keeps {s₀ : State} (s : State) (t : Nat) (v : Q) (hk : s₀.Keeps s) :
    s₀.Keeps (State.brkEnergy s t v) := by
  unfold State.brkEnergy; simp (maxDischargeDepth := 100) +contextual [hk]

@[simp ↓] theorem dscOff_keeps {s₀ : State} (s : State) (hk : s₀.Keeps s) :
    s₀.Keeps (State.dscOff s) := by
  unfold State.dscOff; simp (maxDischargeDepth := 100) +contextual [hk]

@[simp ↓] theorem dscStartOn_keeps {s₀ : State} (s : State) (hk : s₀.Keeps s) :
    s₀.Keeps (State.dscStartOn s) := by
  unfold State.dscStartOn; simp (maxDischargeDepth := 100) +contextual [hk]

@[simp ↓] theorem dscStop_keeps {s₀ : State} (s : State) (hk : s₀.Keeps s) :
    s₀.Keeps (State.dscStop s) := by
  unfold State.dscStop; simp (maxDischargeDepth := 100) +contextual [hk]

@[simp ↓] theorem dscStep_keeps {s₀ : State} (s : State) (t : Nat) (v : Q) (hk : s₀.Keeps s) :
    s₀.Keeps (State.dscStep s t v) := by
  unfold State.dscStep; simp (maxDischargeDepth := 100) +contextual [hk]

@[simp ↓] theorem dscWritten_keeps {s₀ : State} (s : State) (t : Nat) (w : Word) (hk : s₀.Keeps s) :
    s₀.Keeps (State.dscWritten s t w) := by
  unfold State.dscWritten; simp (maxDischargeDepth := 100) +contextual [hk]

@[simp ↓] theorem dscStart_keeps {s₀ : State} (t : Nat) (s : State) (hk : s₀.Keeps s) :
    s₀.Keeps (dscStart t s) := by
  unfold dscStart; simp (maxDischargeDepth := 100) +contextual [hk]

@[simp ↓] theorem dscWait_keeps {s₀ : State} (t : Nat) (s : State) (hk : s₀.Keeps s) :
    s₀.Keeps (dscWait t s) := by
  unfold dscWait; simp (maxDischargeDepth := 100) +contextual [hk]

@[simp ↓] theorem uvStep_keeps {s₀ : State} (s : State) (t st : Nat) (hk : s₀.Keeps s) :
    s₀.Keeps (State.uvStep s t st) := by
  unfold State.uvStep; simp (maxDischargeDepth := 100) +contextual [hk]

@[simp ↓] theorem ovStep_keeps {s₀ : State} (s : State) (t st : Nat) (hk : s₀.Keeps s) :
    s₀.Keeps (State.ovStep s t st) := by
  unfold State.ovStep; simp (maxDischargeDepth := 100) +contextual [hk]

@[simp ↓] theorem bwResult_keeps {s₀ : State} (s : State) (t st : Nat) (v : Q) (hk : s₀.Keeps s) :
    s₀.Keeps (State.bwResult s t st v) := by
  unfold State.bwResult; simp (maxDischargeDepth := 100) +contextual [hk]

@[simp ↓] theorem brkConfirm_keeps {s₀ : State} (t : Nat) (s : State) (hk : s₀.Keeps s) :
    s₀.Keeps (brkConfirm t s) := by
  unfold brkConfirm; simp (maxDischargeDepth := 100) +contextual [hk]

@[simp ↓] theorem brkLoad_keeps {s₀ : State} (t : Nat) (dsc low : Bool) (s : State) (hk : s₀.Keeps s) :
    s₀.Keeps (brkLoad t dsc low s) := by
  unfold brkLoad; simp (maxDischargeDepth := 100) +contextual [hk]

end Sys2Proof.Machine
end

