-- ==== Sys2Proof/Laws/Keep/Feedback.lean ====
section
/-! SUPPORT. What the operations of Machine/Feedback.lean keep. -/

namespace Sys2Proof.Machine

@[simp ↓] theorem updPort_keeps {s₀ : State} (s : State) (n : Fin 4) (f : Port → Port) (hk : s₀.Keeps s) :
    s₀.Keeps (State.updPort s n f) := by
  unfold State.updPort; simp (maxDischargeDepth := 100) +contextual [hk]

@[simp ↓] theorem portBits_keeps {s₀ : State} (s : State) (n : Fin 4) (hk : s₀.Keeps s) :
    s₀.Keeps (State.portBits s n) := by
  unfold State.portBits; simp (maxDischargeDepth := 100) +contextual [hk]

@[simp ↓] theorem portEnter_keeps {s₀ : State} (s : State) (n : Fin 4) (hk : s₀.Keeps s) :
    s₀.Keeps (State.portEnter s n) := by
  unfold State.portEnter; simp (maxDischargeDepth := 100) +contextual [hk]

@[simp ↓] theorem portStart_keeps {s₀ : State} (s : State) (n : Fin 4) (hk : s₀.Keeps s) :
    s₀.Keeps (State.portStart s n) := by
  unfold State.portStart; simp (maxDischargeDepth := 100) +contextual [hk]

@[simp ↓] theorem fbModeWritten_keeps {s₀ : State} (s : State) (n : Fin 4) (wasOn : Bool) (wasMode : Nat) (hk : s₀.Keeps s) :
    s₀.Keeps (State.fbModeWritten s n wasOn wasMode) := by
  unfold State.fbModeWritten; simp (maxDischargeDepth := 100) +contextual [hk]

@[simp ↓] theorem cprWritten_keeps {s₀ : State} (s : State) (n : Fin 4) (hk : s₀.Keeps s) :
    s₀.Keeps (State.cprWritten s n) := by
  unfold State.cprWritten; simp (maxDischargeDepth := 100) +contextual [hk]

@[simp ↓] theorem eofsWritten_keeps {s₀ : State} (s : State) (n : Fin 4) (hk : s₀.Keeps s) :
    s₀.Keeps (State.eofsWritten s n) := by
  unfold State.eofsWritten; simp (maxDischargeDepth := 100) +contextual [hk]

@[simp ↓] theorem validDelay_keeps {s₀ : State} (t : Nat) (n : Fin 4) (s : State) (hk : s₀.Keeps s) :
    s₀.Keeps (validDelay t n s) := by
  unfold validDelay; simp (maxDischargeDepth := 100) +contextual [hk]

@[simp ↓] theorem portCauseGone_keeps {s₀ : State} (s : State) (f : FName) (src : Nat) (hk : s₀.Keeps s) :
    s₀.Keeps (State.portCauseGone s f src) := by
  unfold State.portCauseGone; simp (maxDischargeDepth := 100) +contextual [hk]

@[simp ↓] theorem fbSupply_keeps {s₀ : State} (t : Nat) (n : Fin 4) (s : State) (hk : s₀.Keeps s) :
    s₀.Keeps (fbSupply t n s) := by
  unfold fbSupply; simp (maxDischargeDepth := 100) +contextual [hk]

@[simp ↓] theorem fbWire_keeps {s₀ : State} (t : Nat) (n : Fin 4) (s : State) (hk : s₀.Keeps s) :
    s₀.Keeps (fbWire t n s) := by
  unfold fbWire; simp (maxDischargeDepth := 100) +contextual [hk]

@[simp ↓] theorem standstill_keeps {s₀ : State} (s : State) (n : Fin 4) (hk : s₀.Keeps s) :
    s₀.Keeps (State.standstill s n) := by
  unfold State.standstill; simp (maxDischargeDepth := 100) +contextual [hk]

@[simp ↓] theorem countEdge_keeps {s₀ : State} (s : State) (st : Nat) (n : Fin 4) (rev : Bool) (hk : s₀.Keeps s) :
    s₀.Keeps (State.countEdge s st n rev) := by
  unfold State.countEdge; (try dsimp only); (repeat' split) <;> simp (maxDischargeDepth := 100) +contextual [hk]

@[simp ↓] theorem speedStandstill_keeps {s₀ : State} (t : Nat) (n : Fin 4) (s : State) (hk : s₀.Keeps s) :
    s₀.Keeps (speedStandstill t n s) := by
  unfold speedStandstill; (try dsimp only); (repeat' split) <;> simp (maxDischargeDepth := 100) +contextual [hk]

@[simp ↓] theorem illegalEdge_keeps {s₀ : State} (s : State) (st : Nat) (n : Fin 4) (hk : s₀.Keeps s) :
    s₀.Keeps (State.illegalEdge s st n) := by
  unfold State.illegalEdge; simp (maxDischargeDepth := 100) +contextual [hk]

@[simp ↓] theorem encoderEdge_keeps {s₀ : State} (t : Nat) (n : Fin 4) (a b : Bool) (s : State) (hk : s₀.Keeps s) :
    s₀.Keeps (encoderEdge t n a b s) := by
  unfold encoderEdge; simp (maxDischargeDepth := 100) +contextual [hk]

@[simp ↓] theorem driftCheck_keeps {s₀ : State} (s : State) (t : Nat) (n : Fin 4) (latch prev : Word) (tainted : Bool) (hk : s₀.Keeps s) :
    s₀.Keeps (State.driftCheck s t n latch prev tainted) := by
  unfold State.driftCheck; simp (maxDischargeDepth := 100) +contextual [hk]

@[simp ↓] theorem encoderIndex_keeps {s₀ : State} (t : Nat) (n : Fin 4) (s : State) (hk : s₀.Keeps s) :
    s₀.Keeps (encoderIndex t n s) := by
  unfold encoderIndex; (try dsimp only); (repeat' split) <;> simp (maxDischargeDepth := 100) +contextual [hk]

@[simp ↓] theorem hallBad_keeps {s₀ : State} (s : State) (t : Nat) (n : Fin 4) (hk : s₀.Keeps s) :
    s₀.Keeps (State.hallBad s t n) := by
  unfold State.hallBad; simp (maxDischargeDepth := 100) +contextual [hk]

@[simp ↓] theorem hallGood_keeps {s₀ : State} (s : State) (n : Fin 4) (hk : s₀.Keeps s) :
    s₀.Keeps (State.hallGood s n) := by
  unfold State.hallGood; simp (maxDischargeDepth := 100) +contextual [hk]

@[simp ↓] theorem hallChange_keeps {s₀ : State} (t : Nat) (n : Fin 4) (h : Fin 8) (s : State) (hk : s₀.Keeps s) :
    s₀.Keeps (hallChange t n h s) := by
  unfold hallChange; (try dsimp only); (repeat' split) <;> simp (maxDischargeDepth := 100) +contextual [hk]

@[simp ↓] theorem resolverLock_keeps {s₀ : State} (t : Nat) (n : Fin 4) (s : State) (hk : s₀.Keeps s) :
    s₀.Keeps (resolverLock t n s) := by
  unfold resolverLock; simp (maxDischargeDepth := 100) +contextual [hk]

@[simp ↓] theorem resolverLoss_keeps {s₀ : State} (t : Nat) (n : Fin 4) (s : State) (hk : s₀.Keeps s) :
    s₀.Keeps (resolverLoss t n s) := by
  unfold resolverLoss; simp (maxDischargeDepth := 100) +contextual [hk]

@[simp ↓] theorem resolverAmp_keeps {s₀ : State} (t : Nat) (n : Fin 4) (amp : Nat) (s : State) (hk : s₀.Keeps s) :
    s₀.Keeps (resolverAmp t n amp s) := by
  unfold resolverAmp; simp (maxDischargeDepth := 100) +contextual [hk]

@[simp ↓] theorem resolverSample_keeps {s₀ : State} (s : State) (n : Fin 4) (r : ResIn) (hk : s₀.Keeps s) :
    s₀.Keeps (State.resolverSample s n r) := by
  unfold State.resolverSample; simp (maxDischargeDepth := 100) +contextual [hk]

@[simp ↓] theorem ssiSample_keeps {s₀ : State} (s : State) (t : Nat) (n : Fin 4) (hk : s₀.Keeps s) :
    s₀.Keeps (State.ssiSample s t n) := by
  unfold State.ssiSample; simp (maxDischargeDepth := 100) +contextual [hk]

@[simp ↓] theorem ssiDiscard_keeps {s₀ : State} (s : State) (t : Nat) (n : Fin 4) (hk : s₀.Keeps s) :
    s₀.Keeps (State.ssiDiscard s t n) := by
  unfold State.ssiDiscard; simp (maxDischargeDepth := 100) +contextual [hk]

@[simp ↓] theorem ssiEnd_keeps {s₀ : State} (t : Nat) (n : Fin 4) (raw : Word) (tailOk : Bool) (s : State) (hk : s₀.Keeps s) :
    s₀.Keeps (ssiEnd t n raw tailOk s) := by
  unfold ssiEnd; (try dsimp only); (repeat' split) <;> simp (maxDischargeDepth := 100) +contextual [hk]

@[simp ↓] theorem obsSample_keeps {s₀ : State} (s : State) (t : Nat) (n : Fin 4) (hk : s₀.Keeps s) :
    s₀.Keeps (State.obsSample s t n) := by
  unfold State.obsSample; simp (maxDischargeDepth := 100) +contextual [hk]

@[simp ↓] theorem latchRecord_keeps {s₀ : State} (s : State) (t : Nat) (n : Fin 4) (r : ResIn) (hk : s₀.Keeps s) :
    s₀.Keeps (State.latchRecord s t n r).1 := by
  unfold State.latchRecord; simp (maxDischargeDepth := 100) +contextual [hk]

@[simp ↓] theorem obsLoss_keeps {s₀ : State} (t : Nat) (n : Fin 4) (s : State) (hk : s₀.Keeps s) :
    s₀.Keeps (obsLoss t n s) := by
  unfold obsLoss; simp (maxDischargeDepth := 100) +contextual [hk]

end Sys2Proof.Machine
end

