-- ==== Sys2Proof/Laws/Keep/Pwm.lean ====
section
/-! SUPPORT. What the operations of Machine/Pwm.lean keep. -/

namespace Sys2Proof.Machine

@[simp ↓] theorem loseLock_keeps {s₀ : State} (s : State) (t : Nat) (m : Fin 4) (hk : s₀.Keeps s) :
    s₀.Keeps (State.loseLock s t m) := by
  unfold State.loseLock; simp (maxDischargeDepth := 100) +contextual [hk]

@[simp ↓] theorem schedCarrier_keeps {s₀ : State} (s : State) (t : Nat) (n : Fin 4) (hk : s₀.Keeps s) :
    s₀.Keeps (State.schedCarrier s t n) := by
  unfold State.schedCarrier; (try dsimp only); (repeat' split) <;> simp (maxDischargeDepth := 100) +contextual [hk]

@[simp ↓] theorem lockEnds_keeps {s₀ : State} (s : State) (t : Nat) (m : Fin 4) (hk : s₀.Keeps s) :
    s₀.Keeps (State.lockEnds s t m) := by
  unfold State.lockEnds; simp (maxDischargeDepth := 100) +contextual [hk]

@[simp ↓] theorem sourceLost_keeps {s₀ : State} (s : State) (t : Nat) (n : Fin 4) (hk : s₀.Keeps s) :
    s₀.Keeps (State.sourceLost s t n) := by
  unfold State.sourceLost; simp (maxDischargeDepth := 100) +contextual [hk]

@[simp ↓] theorem stopCarrier_keeps {s₀ : State} (s : State) (t : Nat) (n : Fin 4) (hk : s₀.Keeps s) :
    s₀.Keeps (State.stopCarrier s t n) := by
  unfold State.stopCarrier; simp (maxDischargeDepth := 100) +contextual [hk]

@[simp ↓] theorem carrierWritten_keeps {s₀ : State} (s : State) (t : Nat) (n : Fin 4) (wasEn : Bool) (changed : Bool) (hk : s₀.Keeps s) :
    s₀.Keeps (State.carrierWritten s t n wasEn changed) := by
  unfold State.carrierWritten; simp (maxDischargeDepth := 100) +contextual [hk]

@[simp ↓] theorem carrierStart_keeps {s₀ : State} (t : Nat) (n : Fin 4) (s : State) (hk : s₀.Keeps s) :
    s₀.Keeps (carrierStart t n s) := by
  unfold carrierStart; (try dsimp only); (repeat' split) <;> simp (maxDischargeDepth := 100) +contextual [hk]

@[simp ↓] theorem carrierIrq_keeps {s₀ : State} (s : State) (n : Fin 4) (pre b : Fld) (hk : s₀.Keeps s) :
    s₀.Keeps (State.carrierIrq s n pre b) := by
  unfold State.carrierIrq; simp (maxDischargeDepth := 100) +contextual [hk]

@[simp ↓] theorem compareEvent_keeps {s₀ : State} (t : Nat) (n : Fin 4) (x : Fin 2) (s : State) (hk : s₀.Keeps s) :
    s₀.Keeps (compareEvent t n x s) := by
  unfold compareEvent; simp (maxDischargeDepth := 100) +contextual [hk]

@[simp ↓] theorem periodEvent_keeps {s₀ : State} (s : State) (n : Fin 4) (hk : s₀.Keeps s) :
    s₀.Keeps (State.periodEvent s n) := by
  unfold State.periodEvent; simp (maxDischargeDepth := 100) +contextual [hk]

@[simp ↓] theorem periodPoint_keeps {s₀ : State} (t : Nat) (n : Fin 4) (s : State) (hk : s₀.Keeps s) :
    s₀.Keeps (periodPoint t n s) := by
  unfold periodPoint; simp (maxDischargeDepth := 100) +contextual [hk]

@[simp ↓] theorem setFrame_keeps {s₀ : State} (s : State) (l : Fin 12) (rise fall : Nat) (hk : s₀.Keeps s) :
    s₀.Keeps (State.setFrame s l rise fall) := by
  unfold State.setFrame; simp (maxDischargeDepth := 100) +contextual [hk]

@[simp ↓] theorem setCarry_keeps {s₀ : State} (s : State) (l : Fin 12) (c : Int) (hk : s₀.Keeps s) :
    s₀.Keeps (State.setCarry s l c) := by
  unfold State.setCarry; simp (maxDischargeDepth := 100) +contextual [hk]

@[simp ↓] theorem carryLeg_keeps {s₀ : State} (s : State) (z : Nat) (entry fromOff : Bool) (l : Fin 12) (f : FramePlan) (hk : s₀.Keeps s) :
    s₀.Keeps (State.carryLeg s z entry fromOff l f) := by
  unfold State.carryLeg; simp (maxDischargeDepth := 100) +contextual [hk]

@[simp ↓] theorem formLeg_keeps {s₀ : State} (s : State) (n : Fin 4) (z : Nat) (pwm entry fromOff : Bool) (l : Fin 12) (hk : s₀.Keeps s) :
    s₀.Keeps (State.formLeg s n z pwm entry fromOff l) := by
  unfold State.formLeg; (try dsimp only); (repeat' split) <;> simp (maxDischargeDepth := 100) +contextual [hk]

@[simp ↓] theorem gsyncPulse_keeps {s₀ : State} (s : State) (t : Nat) (n : Fin 4) (hk : s₀.Keeps s) :
    s₀.Keeps (State.gsyncPulse s t n) := by
  unfold State.gsyncPulse; simp (maxDischargeDepth := 100) +contextual [hk]

@[simp ↓] theorem sendMarker_keeps {s₀ : State} (s : State) (n : Fin 4) (z : Nat) (hk : s₀.Keeps s) :
    s₀.Keeps (State.sendMarker s n z) := by
  unfold State.sendMarker; simp (maxDischargeDepth := 100) +contextual [hk]

@[simp ↓] theorem formAll_keeps {s₀ : State} (s : State) (n : Fin 4) (z : Nat) (pwm entry fromOff : Bool) (hk : s₀.Keeps s) :
    s₀.Keeps (State.formAll s n z pwm entry fromOff) := by
  unfold State.formAll; simp (maxDischargeDepth := 100) +contextual [hk]

@[simp ↓] theorem startSteps_keeps {s₀ : State} (s : State) (n : Fin 4) (hk : s₀.Keeps s) :
    s₀.Keeps (State.startSteps s n) := by
  unfold State.startSteps; simp (maxDischargeDepth := 100) +contextual [hk]

@[simp ↓] theorem zeroPoint_keeps {s₀ : State} (t : Nat) (n : Fin 4) (s : State) (hk : s₀.Keeps s) :
    s₀.Keeps (zeroPoint t n s) := by
  unfold zeroPoint; simp (maxDischargeDepth := 100) +contextual [hk]

@[simp ↓] theorem updateFall_keeps {s₀ : State} (s : State) (n : Fin 4) (l : Fin 12) (hk : s₀.Keeps s) :
    s₀.Keeps (State.updateFall s n l) := by
  unfold State.updateFall; (try dsimp only); (repeat' split) <;> simp (maxDischargeDepth := 100) +contextual [hk]

@[simp ↓] theorem deadlineMiss_keeps {s₀ : State} (s : State) (t : Nat) (n : Fin 4) (hk : s₀.Keeps s) :
    s₀.Keeps (State.deadlineMiss s t n) := by
  unfold State.deadlineMiss; simp (maxDischargeDepth := 100) +contextual [hk]

@[simp ↓] theorem judgeSample_keeps {s₀ : State} (c : Nat) (n : Fin 4) (s : State) (p : Nat × Option Nat) (hk : s₀.Keeps s) :
    s₀.Keeps (State.judgeSample c n s p) := by
  unfold State.judgeSample; simp (maxDischargeDepth := 100) +contextual [hk]

@[simp ↓] theorem claim_keeps {s₀ : State} (s : State) (t : Nat) (n : Fin 4) (toReload : Bool) (hk : s₀.Keeps s) :
    s₀.Keeps (State.claim s t n toReload) := by
  unfold State.claim; simp (maxDischargeDepth := 100) +contextual [hk]

@[simp ↓] theorem reload_keeps {s₀ : State} (t : Nat) (n : Fin 4) (toReload : Bool) (s : State) (hk : s₀.Keeps s) :
    s₀.Keeps (reload t n toReload s) := by
  unfold reload; simp (maxDischargeDepth := 100) +contextual [hk]

@[simp ↓] theorem bootRefresh_keeps {s₀ : State} (t : Nat) (l : Fin 12) (s : State) (hk : s₀.Keeps s) :
    s₀.Keeps (bootRefresh t l s) := by
  unfold bootRefresh; simp (maxDischargeDepth := 100) +contextual [hk]

@[simp ↓] theorem holdForced_keeps {s₀ : State} (s : State) (n : Fin 4) (l : Fin 12) (hi lo : Bool)
    (hk : s₀.Keeps s) (hf : ¬ (hi = true ∧ lo = true)) : s₀.Keeps (s.holdForced n l hi lo) := by
  unfold State.holdForced
  dsimp only
  refine updLeg_keeps _ _ _ ?_ fun g h1 h2 => (hf ⟨h1, h2⟩).elim
  simp (maxDischargeDepth := 100) [hk]

@[simp ↓] theorem forceLeg_keeps {s₀ : State} (s : State) (n : Fin 4) (l : Fin 12) (hk : s₀.Keeps s) :
    s₀.Keeps (s.forceLeg n l) := by
  unfold State.forceLeg
  dsimp only
  split
  · simp (maxDischargeDepth := 100) [hk]
  · next h => exact holdForced_keeps _ _ _ _ _ hk (by simpa using h)

@[simp ↓] theorem forceWritten_keeps {s₀ : State} (s : State) (t : Nat) (n : Fin 4) (hk : s₀.Keeps s) :
    s₀.Keeps (State.forceWritten s t n) := by
  unfold State.forceWritten; simp (maxDischargeDepth := 100) +contextual [hk]

end Sys2Proof.Machine
end

