-- ==== Sys2Proof/Laws/Keep/Gates.lean ====
section
/-! SUPPORT. What the operations of Machine/Gates.lean keep. -/

namespace Sys2Proof.Machine

@[simp ↓] theorem heldChanged_keeps {s₀ : State} (s : State) (t : Nat) (g : Fin 26) (hk : s₀.Keeps s) :
    s₀.Keeps (State.heldChanged s t g) := by
  unfold State.heldChanged; simp (maxDischargeDepth := 100) +contextual [hk]

@[simp ↓] theorem raiseGate_keeps {s₀ : State} (s : State) (t : Nat) (name : FName) (g : Fin 26) (c : Fin 4) (stamp : Nat) (sev : Nat) (epoch : Option Nat) (hk : s₀.Keeps s) :
    s₀.Keeps (State.raiseGate s t name g c stamp sev epoch) := by
  unfold State.raiseGate; simp (maxDischargeDepth := 100) +contextual [hk]

@[simp ↓] theorem softOff_keeps {s₀ : State} (s : State) (t : Nat) (g : Fin 26) (hk : s₀.Keeps s) :
    s₀.Keeps (State.softOff s t g) := by
  unfold State.softOff; simp (maxDischargeDepth := 100) +contextual [hk]

@[simp ↓] theorem desatDetected_keeps {s₀ : State} (t : Nat) (g : Fin 26) (s : State) (hk : s₀.Keeps s) :
    s₀.Keeps (desatDetected t g s) := by
  unfold desatDetected; simp (maxDischargeDepth := 100) +contextual [hk]

@[simp ↓] theorem desatReport_keeps {s₀ : State} (t : Nat) (g : Fin 26) (s : State) (hk : s₀.Keeps s) :
    s₀.Keeps (desatReport t g s) := by
  unfold desatReport; (try dsimp only); (repeat' split) <;> simp (maxDischargeDepth := 100) +contextual [hk]

@[simp ↓] theorem restartSteps_keeps {s₀ : State} (s : State) (g : Fin 26) (hk : s₀.Keeps s) :
    s₀.Keeps (State.restartSteps s g) := by
  unfold State.restartSteps; simp (maxDischargeDepth := 100) +contextual [hk]

@[simp ↓] theorem softEnd_keeps {s₀ : State} (t : Nat) (g : Fin 26) (s : State) (hk : s₀.Keeps s) :
    s₀.Keeps (softEnd t g s) := by
  unfold softEnd; simp (maxDischargeDepth := 100) +contextual [hk]

@[simp ↓] theorem uvClear_keeps {s₀ : State} (s : State) (g : Fin 26) (r : RailIn) (hk : s₀.Keeps s) :
    s₀.Keeps (State.uvClear s g r) := by
  unfold State.uvClear; simp (maxDischargeDepth := 100) +contextual [hk]

@[simp ↓] theorem putRailOk_keeps {s₀ : State} (s : State) (g : Fin 26) (ok : Bool) (hk : s₀.Keeps s) :
    s₀.Keeps (State.putRailOk s g ok) := by
  unfold State.putRailOk; simp (maxDischargeDepth := 100) +contextual [hk]

@[simp ↓] theorem bootRails_keeps {s₀ : State} (s : State) (g : Fin 26) (ok : Bool) (hk : s₀.Keeps s) :
    s₀.Keeps (State.bootRails s g ok) := by
  unfold State.bootRails; (try dsimp only); (repeat' split) <;> simp (maxDischargeDepth := 100) +contextual [hk]

@[simp ↓] theorem takeRails_keeps {s₀ : State} (s : State) (g : Fin 26) (r : RailIn) (hk : s₀.Keeps s) :
    s₀.Keeps (State.takeRails s g r) := by
  unfold State.takeRails; simp (maxDischargeDepth := 100) +contextual [hk]

@[simp ↓] theorem railsUp_keeps {s₀ : State} (s : State) (g : Fin 26) (hk : s₀.Keeps s) :
    s₀.Keeps (State.railsUp s g) := by
  unfold State.railsUp; simp (maxDischargeDepth := 100) +contextual [hk]

@[simp ↓] theorem railOn_keeps {s₀ : State} (s : State) (t : Nat) (g : Fin 26) (hk : s₀.Keeps s) :
    s₀.Keeps (State.railOn s t g) := by
  unfold State.railOn; simp (maxDischargeDepth := 100) +contextual [hk]

@[simp ↓] theorem railOff_keeps {s₀ : State} (s : State) (g : Fin 26) (hk : s₀.Keeps s) :
    s₀.Keeps (State.railOff s g) := by
  unfold State.railOff; simp (maxDischargeDepth := 100) +contextual [hk]

@[simp ↓] theorem bootWritten_keeps {s₀ : State} (s : State) (g : Fin 26) (was : Bool) (hk : s₀.Keeps s) :
    s₀.Keeps (State.bootWritten s g was) := by
  unfold State.bootWritten; simp (maxDischargeDepth := 100) +contextual [hk]

@[simp ↓] theorem railUv_keeps {s₀ : State} (t : Nat) (g : Fin 26) (vp : Bool) (r : RailIn) (s : State) (hk : s₀.Keeps s) :
    s₀.Keeps (railUv t g vp r s) := by
  unfold railUv; simp (maxDischargeDepth := 100) +contextual [hk]

@[simp ↓] theorem bootUv_keeps {s₀ : State} (t : Nat) (g : Fin 26) (s : State) (hk : s₀.Keeps s) :
    s₀.Keeps (bootUv t g s) := by
  unfold bootUv; simp (maxDischargeDepth := 100) +contextual [hk]

@[simp ↓] theorem gateSupply_keeps {s₀ : State} (t : Nat) (g : Fin 26) (r : RailIn) (s : State) (hk : s₀.Keeps s) :
    s₀.Keeps (gateSupply t g r s) := by
  unfold gateSupply; simp (maxDischargeDepth := 100) +contextual [hk]

@[simp ↓] theorem railMissing_keeps {s₀ : State} (s : State) (t : Nat) (g : Fin 26) (hk : s₀.Keeps s) :
    s₀.Keeps (State.railMissing s t g) := by
  unfold State.railMissing; simp (maxDischargeDepth := 100) +contextual [hk]

@[simp ↓] theorem enableX_keeps {s₀ : State} (s : State) (t : Nat) (hk : s₀.Keeps s) :
    s₀.Keeps (State.enableX s t) := by
  unfold State.enableX; simp (maxDischargeDepth := 100) +contextual [hk]

@[simp ↓] theorem startX_keeps {s₀ : State} (s : State) (t : Nat) (ok : Bool) (hk : s₀.Keeps s) :
    s₀.Keeps (State.startX s t ok) := by
  unfold State.startX; simp (maxDischargeDepth := 100) +contextual [hk]

@[simp ↓] theorem railStep_keeps {s₀ : State} (t : Nat) (g : Fin 26) (r : RailIn) (s : State) (hk : s₀.Keeps s) :
    s₀.Keeps (railStep t g r s) := by
  unfold railStep; simp (maxDischargeDepth := 100) +contextual [hk]

@[simp ↓] theorem commandLoss_keeps {s₀ : State} (t : Nat) (g : Fin 26) (back : Bool) (s : State) (hk : s₀.Keeps s) :
    s₀.Keeps (commandLoss t g back s) := by
  unfold commandLoss; simp (maxDischargeDepth := 100) +contextual [hk]

@[simp ↓] theorem statusLoss_keeps {s₀ : State} (t : Nat) (g : Fin 26) (s : State) (hk : s₀.Keeps s) :
    s₀.Keeps (statusLoss t g s) := by
  unfold statusLoss; simp (maxDischargeDepth := 100) +contextual [hk]

@[simp ↓] theorem retryOne_keeps {s₀ : State} (s : State) (t : Nat) (g : Fin 26) (c : Fin 4) (frames : Bool) (name : FName) (hk : s₀.Keeps s) :
    s₀.Keeps (State.retryOne s t g c frames name) := by
  unfold State.retryOne; simp (maxDischargeDepth := 100) +contextual [hk]

@[simp ↓] theorem retryExpiry_keeps {s₀ : State} (t : Nat) (g : Fin 24) (c : Fin 4) (r : RailIn) (frames : Bool) (s : State) (hk : s₀.Keeps s) :
    s₀.Keeps (retryExpiry t g c r frames s) := by
  unfold retryExpiry; simp (maxDischargeDepth := 100) +contextual [hk]

@[simp ↓] theorem gateCauseGone_keeps {s₀ : State} (s : State) (name : FName) (g : Fin 26) (hk : s₀.Keeps s) :
    s₀.Keeps (State.gateCauseGone s name g) := by
  unfold State.gateCauseGone; (try dsimp only); (repeat' split) <;> simp (maxDischargeDepth := 100) +contextual [hk]

@[simp ↓] theorem plateau_keeps {s₀ : State} (t : Nat) (g : Fin 24) (on : Bool) (tp : Option Nat) (s : State) (hk : s₀.Keeps s) :
    s₀.Keeps (plateau t g on tp s) := by
  unfold plateau; (try dsimp only); (repeat' split) <;> simp (maxDischargeDepth := 100) +contextual [hk]

@[simp ↓] theorem blockLeg_keeps {s₀ : State} (s : State) (t : Nat) (l : Fin 12) (hk : s₀.Keeps s) :
    s₀.Keeps (State.blockLeg s t l) := by
  unfold State.blockLeg; simp (maxDischargeDepth := 100) +contextual [hk]

@[simp ↓] theorem freeLeg_keeps {s₀ : State} (s : State) (t : Nat) (l : Fin 12) (hk : s₀.Keeps s) :
    s₀.Keeps (State.freeLeg s t l) := by
  unfold State.freeLeg; simp (maxDischargeDepth := 100) +contextual [hk]

@[simp ↓] theorem shootThrough_keeps {s₀ : State} (t : Nat) (l : Fin 12) (both : Bool) (s : State) (hk : s₀.Keeps s) :
    s₀.Keeps (shootThrough t l both s) := by
  unfold shootThrough; simp (maxDischargeDepth := 100) +contextual [hk]

@[simp ↓] theorem foundGone_keeps {s₀ : State} (s : State) (gone : List (FName × Nat × Nat)) (hk : s₀.Keeps s) :
    s₀.Keeps (State.foundGone s gone) := by
  unfold State.foundGone; simp (maxDischargeDepth := 100) +contextual [hk]

@[simp ↓] theorem findGone_keeps {s₀ : State} (s : State) (hk : s₀.Keeps s) :
    s₀.Keeps (State.findGone s) := by
  unfold State.findGone; (try dsimp only); (repeat' split) <;> simp (maxDischargeDepth := 100) +contextual [hk]

end Sys2Proof.Machine
end

