-- ==== Sys2Proof/Laws/Keep/Thermal.lean ====
section
/-! SUPPORT. What the operations of Machine/Thermal.lean keep. -/

namespace Sys2Proof.Machine

@[simp ↓] theorem sensorRound_keeps {s₀ : State} (t : Nat) (s : State) (c : Fin 44) (hk : s₀.Keeps s) :
    s₀.Keeps (State.sensorRound t s c) := by
  unfold State.sensorRound; simp (maxDischargeDepth := 100) +contextual [hk]

@[simp ↓] theorem thermalRound_keeps {s₀ : State} (s : State) (t : Nat) (hk : s₀.Keeps s) :
    s₀.Keeps (State.thermalRound s t) := by
  unfold State.thermalRound; simp (maxDischargeDepth := 100) +contextual [hk]

@[simp ↓] theorem setThrottle_keeps {s₀ : State} (s : State) (t : Nat) (n : Fin 4) (l : Nat) (hk : s₀.Keeps s) :
    s₀.Keeps (State.setThrottle s t n l) := by
  unfold State.setThrottle; simp (maxDischargeDepth := 100) +contextual [hk]

@[simp ↓] theorem thermalDwell_keeps {s₀ : State} (t : Nat) (s : State) (hk : s₀.Keeps s) :
    s₀.Keeps (thermalDwell t s) := by
  unfold thermalDwell; simp (maxDischargeDepth := 100) +contextual [hk]

@[simp ↓] theorem noteTherm_keeps {s₀ : State} (s : State) (n : Fin 4) (hk : s₀.Keeps s) :
    s₀.Keeps (State.noteTherm s n) := by
  unfold State.noteTherm; simp (maxDischargeDepth := 100) +contextual [hk]

@[simp ↓] theorem thermalTrip_keeps {s₀ : State} (t : Nat) (die : Bool) (s : State) (hk : s₀.Keeps s) :
    s₀.Keeps (thermalTrip t die s) := by
  unfold thermalTrip; simp (maxDischargeDepth := 100) +contextual [hk]

@[simp ↓] theorem restartAxis_keeps {s₀ : State} (t : Nat) (s : State) (n : Fin 4) (hk : s₀.Keeps s) :
    s₀.Keeps (State.restartAxis t s n) := by
  unfold State.restartAxis; (try dsimp only); (repeat' split) <;> simp (maxDischargeDepth := 100) +contextual [hk]

@[simp ↓] theorem thermalRestart_keeps {s₀ : State} (s : State) (t : Nat) (hk : s₀.Keeps s) :
    s₀.Keeps (State.thermalRestart s t) := by
  unfold State.thermalRestart; simp (maxDischargeDepth := 100) +contextual [hk]

@[simp ↓] theorem thermalCool_keeps {s₀ : State} (t : Nat) (s : State) (hk : s₀.Keeps s) :
    s₀.Keeps (thermalCool t s) := by
  unfold thermalCool; simp (maxDischargeDepth := 100) +contextual [hk]

end Sys2Proof.Machine
end

