-- ==== Sys2Proof/Laws/Keep/Breakwater.lean ====
section
/-! SUPPORT. What the operations of Machine/Breakwater.lean keep. -/

namespace Sys2Proof.Machine

@[simp ↓] theorem tripIn_keeps {s₀ : State} (s : State) (t first : Nat) (k : Fin 8) (hk : s₀.Keeps s) :
    s₀.Keeps (State.tripIn s t first k) := by
  unfold State.tripIn; simp (maxDischargeDepth := 100) +contextual [hk]

@[simp ↓] theorem tripOut_keeps {s₀ : State} (s : State) (k : Fin 8) (hk : s₀.Keeps s) :
    s₀.Keeps (State.tripOut s k) := by
  unfold State.tripOut; simp (maxDischargeDepth := 100) +contextual [hk]

@[simp ↓] theorem tripAccepted_keeps {s₀ : State} (t : Nat) (k : Fin 8) (first : Nat) (high : Bool) (s : State) (hk : s₀.Keeps s) :
    s₀.Keeps (tripAccepted t k first high s) := by
  unfold tripAccepted; simp (maxDischargeDepth := 100) +contextual [hk]

@[simp ↓] theorem tripInactive_keeps {s₀ : State} (t : Nat) (k : Fin 8) (first : Nat) (high : Bool) (s : State) (hk : s₀.Keeps s) :
    s₀.Keeps (tripInactive t k first high s) := by
  unfold tripInactive; simp (maxDischargeDepth := 100) +contextual [hk]

@[simp ↓] theorem tripWritten_keeps {s₀ : State} (s : State) (t : Nat) (k : Fin 8) (wasEn : Bool) (hk : s₀.Keeps s) :
    s₀.Keeps (State.tripWritten s t k wasEn) := by
  unfold State.tripWritten; simp (maxDischargeDepth := 100) +contextual [hk]

@[simp ↓] theorem watchSto_keeps {s₀ : State} (s : State) (t : Nat) (b lv : Bool) (hk : s₀.Keeps s) :
    s₀.Keeps (State.watchSto s t b lv) := by
  unfold State.watchSto; simp (maxDischargeDepth := 100) +contextual [hk]

@[simp ↓] theorem stoLow_keeps {s₀ : State} (t : Nat) (b : Bool) (s : State) (hk : s₀.Keeps s) :
    s₀.Keeps (stoLow t b s) := by
  unfold stoLow; simp (maxDischargeDepth := 100) +contextual [hk]

@[simp ↓] theorem stoHigh_keeps {s₀ : State} (t : Nat) (b : Bool) (s : State) (hk : s₀.Keeps s) :
    s₀.Keeps (stoHigh t b s) := by
  unfold stoHigh; simp (maxDischargeDepth := 100) +contextual [hk]

@[simp ↓] theorem gtripLow_keeps {s₀ : State} (t : Nat) (s : State) (hk : s₀.Keeps s) :
    s₀.Keeps (gtripLow t s) := by
  unfold gtripLow; simp (maxDischargeDepth := 100) +contextual [hk]

@[simp ↓] theorem gtripHigh_keeps {s₀ : State} (t : Nat) (s : State) (hk : s₀.Keeps s) :
    s₀.Keeps (gtripHigh t s) := by
  unfold gtripHigh; simp (maxDischargeDepth := 100) +contextual [hk]

@[simp ↓] theorem gtripRelease_keeps {s₀ : State} (t : Nat) (s : State) (hk : s₀.Keeps s) :
    s₀.Keeps (gtripRelease t s) := by
  unfold gtripRelease; simp (maxDischargeDepth := 100) +contextual [hk]

@[simp ↓] theorem faultArrival_keeps {s₀ : State} (t : Nat) (f : FaultIn) (s : State) (hk : s₀.Keeps s) :
    s₀.Keeps (faultArrival t f s) := by
  unfold faultArrival; (try dsimp only); (repeat' split) <;> simp (maxDischargeDepth := 100) +contextual [hk]

end Sys2Proof.Machine
end

