-- ==== Sys2Proof/Laws/Keep/Berths.lean ====
section
/-! SUPPORT. What the operations of Machine/Berths.lean keep. -/

namespace Sys2Proof.Machine

@[simp ↓] theorem claimBollard_keeps {s₀ : State} (s : State) (req : Nat) (k : Fin 16) (hk : s₀.Keeps s) :
    s₀.Keeps (State.claimBollard s req k).1 := by
  unfold State.claimBollard; simp (maxDischargeDepth := 100) +contextual [hk]

@[simp ↓] theorem putBollard_keeps {s₀ : State} (s : State) (req : Nat) (k : Fin 16) (w : Word) (hk : s₀.Keeps s) :
    s₀.Keeps (State.putBollard s req k w) := by
  unfold State.putBollard; simp (maxDischargeDepth := 100) +contextual [hk]

@[simp ↓] theorem freeBollard_keeps {s₀ : State} (s : State) (t : Nat) (k : Fin 16) (hk : s₀.Keeps s) :
    s₀.Keeps (State.freeBollard s t k) := by
  unfold State.freeBollard; simp (maxDischargeDepth := 100) +contextual [hk]

@[simp ↓] theorem freeBollards_keeps {s₀ : State} (s : State) (t : Nat) (p : Nat → Bool) (hk : s₀.Keeps s) :
    s₀.Keeps (State.freeBollards s t p) := by
  unfold State.freeBollards; simp (maxDischargeDepth := 100) +contextual [hk]

@[simp ↓] theorem kfreeWritten_keeps {s₀ : State} (s : State) (t : Nat) (w : Word) (hk : s₀.Keeps s) :
    s₀.Keeps (State.kfreeWritten s t w) := by
  unfold State.kfreeWritten; simp (maxDischargeDepth := 100) +contextual [hk]

@[simp ↓] theorem updCore_keeps {s₀ : State} (s : State) (r : Fin 4) (f : Core → Core) (hk : s₀.Keeps s) :
    s₀.Keeps (State.updCore s r f) := by
  unfold State.updCore; simp (maxDischargeDepth := 100) +contextual [hk]

@[simp ↓] theorem timerLevel_keeps {s₀ : State} (s : State) (r : Fin 4) (hk : s₀.Keeps s) :
    s₀.Keeps (State.timerLevel s r) := by
  unfold State.timerLevel; simp (maxDischargeDepth := 100) +contextual [hk]

@[simp ↓] theorem runWritten_keeps {s₀ : State} (s : State) (t : Nat) (r : Fin 4) (was : Bool) (hk : s₀.Keeps s) :
    s₀.Keeps (State.runWritten s t r was) := by
  unfold State.runWritten; simp (maxDischargeDepth := 100) +contextual [hk]

@[simp ↓] theorem acFault_keeps {s₀ : State} (s : State) (t : Nat) (w : Word) (req : Nat) (hk : s₀.Keeps s) :
    s₀.Keeps (State.acFault s t w req) := by
  unfold State.acFault; simp (maxDischargeDepth := 100) +contextual [hk]

@[simp ↓] theorem patrolScrub_keeps {s₀ : State} (t addr : Nat) (kind : Fin 3) (s : State) (hk : s₀.Keeps s) :
    s₀.Keeps (patrolScrub t addr kind s) := by
  unfold patrolScrub; (try dsimp only); (repeat' split) <;> simp (maxDischargeDepth := 100) +contextual [hk]

@[simp ↓] theorem berthSend_keeps {s₀ : State} (s : State) (b : Fin 32) (i : Fin 16) (w : Word) (hk : s₀.Keeps s) :
    s₀.Keeps (State.berthSend s b i w) := by
  unfold State.berthSend; simp (maxDischargeDepth := 100) +contextual [hk]

@[simp ↓] theorem berthTake_keeps {s₀ : State} (s : State) (b : Fin 32) (hk : s₀.Keeps s) :
    s₀.Keeps (State.berthTake s b) := by
  unfold State.berthTake; simp (maxDischargeDepth := 100) +contextual [hk]

@[simp ↓] theorem berthConfigured_keeps {s₀ : State} (s : State) (b : Nat) (old : Word) (hk : s₀.Keeps s) :
    s₀.Keeps (State.berthConfigured s b old) := by
  unfold State.berthConfigured; simp (maxDischargeDepth := 100) +contextual [hk]

@[simp ↓] theorem berthMessage_keeps {s₀ : State} (s : State) (b : Fin 32) (m : List Byte) (hk : s₀.Keeps s) :
    s₀.Keeps (State.berthMessage s b m) := by
  unfold State.berthMessage; simp (maxDischargeDepth := 100) +contextual [hk]

@[simp ↓] theorem flashDone_keeps {s₀ : State} (s : State) (at_ : Nat) (detail : Option Nat) (off : Nat) (hk : s₀.Keeps s) :
    s₀.Keeps (State.flashDone s at_ detail off) := by
  unfold State.flashDone; simp (maxDischargeDepth := 100) +contextual [hk]

@[simp ↓] theorem flashDescriptor_keeps {s₀ : State} (t : Nat) (s : State) (hk : s₀.Keeps s) :
    s₀.Keeps (flashDescriptor t s) := by
  unfold flashDescriptor; (try dsimp only); (repeat' split) <;> simp (maxDischargeDepth := 100) +contextual [hk]

@[simp ↓] theorem flashComplete_keeps {s₀ : State} (t : Nat) (s : State) (hk : s₀.Keeps s) :
    s₀.Keeps (flashComplete t s) := by
  unfold flashComplete; (try dsimp only); (repeat' split) <;> simp (maxDischargeDepth := 100) +contextual [hk]

@[simp ↓] theorem own_keeps {s₀ : State} (s : State) (a : Fin 3) (w : Fin 8) (hk : s₀.Keeps s) :
    s₀.Keeps (State.own s a w) := by
  unfold State.own; simp (maxDischargeDepth := 100) +contextual [hk]

@[simp ↓] theorem arbiterDraw_keeps {s₀ : State} (t : Nat) (a : Fin 3) (requests : Nat) (s : State) (hk : s₀.Keeps s) :
    s₀.Keeps (arbiterDraw t a requests s) := by
  unfold arbiterDraw; (try dsimp only); (repeat' split) <;> simp (maxDischargeDepth := 100) +contextual [hk]

@[simp ↓] theorem backoffExpiry_keeps {s₀ : State} (t : Nat) (a : Fin 3) (i : Fin 8) (s : State) (hk : s₀.Keeps s) :
    s₀.Keeps (backoffExpiry t a i s) := by
  unfold backoffExpiry; simp (maxDischargeDepth := 100) +contextual [hk]

@[simp ↓] theorem seedArbiters_keeps {s₀ : State} (s : State) (hk : s₀.Keeps s) :
    s₀.Keeps (State.seedArbiters s) := by
  unfold State.seedArbiters; simp (maxDischargeDepth := 100) +contextual [hk]

@[simp ↓] theorem bandwidthEnd_keeps {s₀ : State} (t : Nat) (units : List Nat) (s : State) (hk : s₀.Keeps s) :
    s₀.Keeps (bandwidthEnd t units s) := by
  unfold bandwidthEnd; simp (maxDischargeDepth := 100) +contextual [hk]

@[simp ↓] theorem perfClear_keeps {s₀ : State} (s : State) (u : Fin 8) (hk : s₀.Keeps s) :
    s₀.Keeps (State.perfClear s u) := by
  unfold State.perfClear; simp (maxDischargeDepth := 100) +contextual [hk]

end Sys2Proof.Machine
end

