-- ==== Sys2Proof/Laws/Keep/Image.lean ====
section
/-! SUPPORT. What the operations of Machine/Image.lean keep. -/

namespace Sys2Proof.Machine

@[simp ↓] theorem setStage_keeps {s₀ : State} (s : State) (o : Nat) (l : List Byte) (hk : s₀.Keeps s) :
    s₀.Keeps (State.setStage s o l) := by
  unfold State.setStage; simp (maxDischargeDepth := 100) +contextual [hk]

@[simp ↓] theorem loadStage_keeps {s₀ : State} (s : State) (l : List Byte) (hk : s₀.Keeps s) :
    s₀.Keeps (State.loadStage s l) := by
  unfold State.loadStage; simp (maxDischargeDepth := 100) +contextual [hk]

end Sys2Proof.Machine
end

