-- ==== Sys2Proof/Laws/Keep/Flags.lean ====
section
/-! SUPPORT. What the operations of Machine/Flags.lean keep. -/

namespace Sys2Proof.Machine

@[simp ↓] theorem leCount_keeps {s₀ : State} (s : State) (n : Fin 4) (event k : Nat) (hk : s₀.Keeps s) :
    s₀.Keeps (State.leCount s n event k) := by
  unfold State.leCount; simp (maxDischargeDepth := 100) +contextual [hk]

@[simp ↓] theorem flagLive_keeps {s₀ : State} (s : State) (t : Nat) (n : Fin 4) (w bit : Nat) (hk : s₀.Keeps s) :
    s₀.Keeps (State.flagLive s t n w bit) := by
  unfold State.flagLive; simp (maxDischargeDepth := 100) +contextual [hk]

@[simp ↓] theorem portErrLive_keeps {s₀ : State} (s : State) (t : Nat) (n : Fin 4) (w code : Nat) (hk : s₀.Keeps s) :
    s₀.Keeps (State.portErrLive s t n w code) := by
  unfold State.portErrLive; simp (maxDischargeDepth := 100) +contextual [hk]

@[simp ↓] theorem setFlag_keeps {s₀ : State} (s : State) (t : Nat) (n : Fin 4) (bit : Nat) (hk : s₀.Keeps s) :
    s₀.Keeps (State.setFlag s t n bit) := by
  unfold State.setFlag; simp (maxDischargeDepth := 100) +contextual [hk]

@[simp ↓] theorem flagIf_keeps {s₀ : State} (s : State) (t : Nat) (n : Fin 4) (bit : Nat) (c : Bool) (hk : s₀.Keeps s) :
    s₀.Keeps (State.flagIf s t n bit c) := by
  unfold State.flagIf; simp (maxDischargeDepth := 100) +contextual [hk]

@[simp ↓] theorem portErr_keeps {s₀ : State} (s : State) (t : Nat) (n : Fin 4) (code : Nat) (hk : s₀.Keeps s) :
    s₀.Keeps (State.portErr s t n code) := by
  unfold State.portErr; simp (maxDischargeDepth := 100) +contextual [hk]

@[simp ↓] theorem mergeFlags_keeps {s₀ : State} (s : State) (t : Nat) (n : Fin 4) (hk : s₀.Keeps s) :
    s₀.Keeps (State.mergeFlags s t n) := by
  unfold State.mergeFlags; simp (maxDischargeDepth := 100) +contextual [hk]

@[simp ↓] theorem writeFlags_keeps {s₀ : State} (s : State) (t : Nat) (n : Fin 4) (f : WFlags) (hk : s₀.Keeps s) :
    s₀.Keeps (State.writeFlags s t n f) := by
  unfold State.writeFlags; simp (maxDischargeDepth := 100) +contextual [hk]

end Sys2Proof.Machine
end

