-- ==== Sys2Proof/Laws/Keep/Passes.lean ====
section
/-! SUPPORT. What the operations of Machine/Passes.lean keep. -/

namespace Sys2Proof.Machine

@[simp ↓] theorem setState_keeps {s₀ : State} (s : State) (n : Fin 4) (i : Nat) (w : Word) (hk : s₀.Keeps s) :
    s₀.Keeps (State.setState s n i w) := by
  unfold State.setState; simp (maxDischargeDepth := 100) +contextual [hk]

@[simp ↓] theorem setCoef_keeps {s₀ : State} (s : State) (n : Fin 4) (i : Nat) (w : Word) (hk : s₀.Keeps s) :
    s₀.Keeps (State.setCoef s n i w) := by
  unfold State.setCoef; simp (maxDischargeDepth := 100) +contextual [hk]

@[simp ↓] theorem setPort_keeps {s₀ : State} (s : State) (n : Fin 4) (i : Nat) (w : Word) (hk : s₀.Keeps s) :
    s₀.Keeps (State.setPort s n i w) := by
  unfold State.setPort; simp (maxDischargeDepth := 100) +contextual [hk]

@[simp ↓] theorem setBuf_keeps {s₀ : State} (s : State) (n : Fin 4) (i : Nat) (w : Word) (hk : s₀.Keeps s) :
    s₀.Keeps (State.setBuf s n i w) := by
  unfold State.setBuf; simp (maxDischargeDepth := 100) +contextual [hk]

@[simp ↓] theorem writeState_keeps {s₀ : State} (s : State) (n : Fin 4) (i : Nat) (w : Word) (hk : s₀.Keeps s) :
    s₀.Keeps (State.writeState s n i w) := by
  unfold State.writeState; simp (maxDischargeDepth := 100) +contextual [hk]

@[simp ↓] theorem writePort_keeps {s₀ : State} (s : State) (n : Fin 4) (i : Nat) (w : Word) (hk : s₀.Keeps s) :
    s₀.Keeps (State.writePort s n i w) := by
  unfold State.writePort; simp (maxDischargeDepth := 100) +contextual [hk]

@[simp ↓] theorem writeBuf_keeps {s₀ : State} (s : State) (n : Fin 4) (i : Nat) (w : Word) (hk : s₀.Keeps s) :
    s₀.Keeps (State.writeBuf s n i w) := by
  unfold State.writeBuf; (try dsimp only); (repeat' split) <;> simp (maxDischargeDepth := 100) +contextual [hk]

@[simp ↓] theorem perfPut_keeps {s₀ : State} (s : State) (u : Fin 8) (r : List Word) (hk : s₀.Keeps s) :
    s₀.Keeps (State.perfPut s u r) := by
  unfold State.perfPut; simp (maxDischargeDepth := 100) +contextual [hk]

@[simp ↓] theorem leSample_keeps {s₀ : State} (s : State) (t : Nat) (n : Fin 4) (w : Word64) (pc : Nat) (hk : s₀.Keeps s) :
    s₀.Keeps (State.leSample s t n w pc) := by
  unfold State.leSample; simp (maxDischargeDepth := 100) +contextual [hk]

@[simp ↓] theorem hpmCount_keeps {s₀ : State} (s : State) (r : Fin 4) (event : Nat) (hk : s₀.Keeps s) :
    s₀.Keeps (State.hpmCount s r event) := by
  unfold State.hpmCount; simp (maxDischargeDepth := 100) +contextual [hk]

@[simp ↓] theorem coreSample_keeps {s₀ : State} (s : State) (t : Nat) (r : Fin 4) (hk : s₀.Keeps s) :
    s₀.Keeps (State.coreSample s t r) := by
  unfold State.coreSample; simp (maxDischargeDepth := 100) +contextual [hk]

@[simp ↓] theorem coreAccess_keeps {s₀ : State} (s : State) (t req : Nat) (store : Bool) (hk : s₀.Keeps s) :
    s₀.Keeps (State.coreAccess s t req store) := by
  unfold State.coreAccess; (try dsimp only); (repeat' split) <;> simp (maxDischargeDepth := 100) +contextual [hk]

@[simp ↓] theorem passDone_keeps {s₀ : State} (s : State) (t : Nat) (n : Fin 4) (hk : s₀.Keeps s) :
    s₀.Keeps (State.passDone s t n) := by
  unfold State.passDone; simp (maxDischargeDepth := 100) +contextual [hk]

@[simp ↓] theorem startPass_keeps {s₀ : State} (s : State) (t : Nat) (n : Fin 4) (phase entry : Nat) (hk : s₀.Keeps s) :
    s₀.Keeps (State.startPass s t n phase entry) := by
  unfold State.startPass; simp (maxDischargeDepth := 100) +contextual [hk]

@[simp ↓] theorem startFull_keeps {s₀ : State} (s : State) (t : Nat) (n : Fin 4) (hk : s₀.Keeps s) :
    s₀.Keeps (State.startFull s t n) := by
  unfold State.startFull; simp (maxDischargeDepth := 100) +contextual [hk]

@[simp ↓] theorem startGo_keeps {s₀ : State} (s : State) (t : Nat) (n : Fin 4) (hk : s₀.Keeps s) :
    s₀.Keeps (State.startGo s t n) := by
  unfold State.startGo; simp (maxDischargeDepth := 100) +contextual [hk]

@[simp ↓] theorem squash_keeps {s₀ : State} (s : State) (t : Nat) (n : Fin 4) (hk : s₀.Keeps s) :
    s₀.Keeps (State.squash s t n) := by
  unfold State.squash; simp (maxDischargeDepth := 100) +contextual [hk]

@[simp ↓] theorem startPilot_keeps {s₀ : State} (s : State) (t : Nat) (n : Fin 4) (hk : s₀.Keeps s) :
    s₀.Keeps (State.startPilot s t n) := by
  unfold State.startPilot; simp (maxDischargeDepth := 100) +contextual [hk]

@[simp ↓] theorem engineFree_keeps {s₀ : State} (s : State) (t : Nat) (n : Fin 4) (hk : s₀.Keeps s) :
    s₀.Keeps (State.engineFree s t n) := by
  unfold State.engineFree; simp (maxDischargeDepth := 100) +contextual [hk]

@[simp ↓] theorem endPass_keeps {s₀ : State} (s : State) (t : Nat) (n : Fin 4) (hk : s₀.Keeps s) :
    s₀.Keeps (State.endPass s t n) := by
  unfold State.endPass; simp (maxDischargeDepth := 100) +contextual [hk]

@[simp ↓] theorem endUncommitted_keeps {s₀ : State} (s : State) (t : Nat) (n : Fin 4) (hk : s₀.Keeps s) :
    s₀.Keeps (State.endUncommitted s t n) := by
  unfold State.endUncommitted; simp (maxDischargeDepth := 100) +contextual [hk]

@[simp ↓] theorem goWritten_keeps {s₀ : State} (s : State) (t : Nat) (n : Fin 4) (hk : s₀.Keeps s) :
    s₀.Keeps (State.goWritten s t n) := by
  unfold State.goWritten; simp (maxDischargeDepth := 100) +contextual [hk]

@[simp ↓] theorem resultsArrive_keeps {s₀ : State} (s : State) (t : Nat) (n : Fin 4) (st : Nat) (hk : s₀.Keeps s) :
    s₀.Keeps (State.resultsArrive s t n st) := by
  unfold State.resultsArrive; (try dsimp only); (repeat' split) <;> simp (maxDischargeDepth := 100) +contextual [hk]

@[simp ↓] theorem faultRequest_keeps {s₀ : State} (s : State) (n : Fin 4) (old new st : Nat) (hk : s₀.Keeps s) :
    s₀.Keeps (State.faultRequest s n old new st) := by
  unfold State.faultRequest; (try dsimp only); (repeat' split) <;> simp (maxDischargeDepth := 100) +contextual [hk]

@[simp ↓] theorem hitLive_keeps {s₀ : State} (s : State) (t : Nat) (n : Fin 4) (hk : s₀.Keeps s) :
    s₀.Keeps (State.hitLive s t n) := by
  unfold State.hitLive; simp (maxDischargeDepth := 100) +contextual [hk]

@[simp ↓] theorem obsFound_keeps {s₀ : State} (s : State) (n : Fin 4) (hk : s₀.Keeps s) :
    s₀.Keeps (State.obsFound s n) := by
  unfold State.obsFound; simp (maxDischargeDepth := 100) +contextual [hk]

@[simp ↓] theorem takeObserver_keeps {s₀ : State} (s : State) (n : Fin 4) (set : List (Nat × Word)) (hk : s₀.Keeps s) :
    s₀.Keeps (State.takeObserver s n set) := by
  unfold State.takeObserver; simp (maxDischargeDepth := 100) +contextual [hk]

@[simp ↓] theorem obsSequence_keeps {s₀ : State} (s : State) (n : Fin 4) (set : List (Nat × Word)) (hk : s₀.Keeps s) :
    s₀.Keeps (State.obsSequence s n set) := by
  unfold State.obsSequence; simp (maxDischargeDepth := 100) +contextual [hk]

@[simp ↓] theorem commitPass_keeps {s₀ : State} (s : State) (t : Nat) (n : Fin 4) (hk : s₀.Keeps s) :
    s₀.Keeps (State.commitPass s t n) := by
  unfold State.commitPass; simp (maxDischargeDepth := 100) +contextual [hk]

@[simp ↓] theorem handOver_keeps {s₀ : State} (s : State) (t : Nat) (n : Fin 4) (set : List (Nat × Word)) (duty : DutySet) (hk : s₀.Keeps s) :
    s₀.Keeps (State.handOver s t n set duty) := by
  unfold State.handOver; simp (maxDischargeDepth := 100) +contextual [hk]

@[simp ↓] theorem commitComplete_keeps {s₀ : State} (t : Nat) (n : Fin 4) (s : State) (hk : s₀.Keeps s) :
    s₀.Keeps (commitComplete t n s) := by
  unfold commitComplete; simp (maxDischargeDepth := 100) +contextual [hk]

end Sys2Proof.Machine
end

