-- ==== Sys2Proof/Laws/Keep/Logbook.lean ====
section
/-! SUPPORT. What the operations of Machine/Logbook.lean keep. -/

namespace Sys2Proof.Machine

@[simp ↓] theorem takeWait_keeps {s₀ : State} (now : Nat) (s : State) (w : LogWait) (hk : s₀.Keeps s) :
    s₀.Keeps (State.takeWait now s w) := by
  unfold State.takeWait; simp (maxDischargeDepth := 100) +contextual [hk]

@[simp ↓] theorem drainLog_keeps {s₀ : State} (s : State) (now : Nat) (hk : s₀.Keeps s) :
    s₀.Keeps (State.drainLog s now) := by
  unfold State.drainLog; simp (maxDischargeDepth := 100) +contextual [hk]

@[simp ↓] theorem viewRelease_keeps {s₀ : State} (t : Nat) (s : State) (hk : s₀.Keeps s) :
    s₀.Keeps (viewRelease t s) := by
  unfold viewRelease; simp (maxDischargeDepth := 100) +contextual [hk]

@[simp ↓] theorem writeBlock_keeps {s₀ : State} (s : State) (b : LogBlock) (hk : s₀.Keeps s) :
    s₀.Keeps (State.writeBlock s b) := by
  unfold State.writeBlock; simp (maxDischargeDepth := 100) +contextual [hk]

@[simp ↓] theorem queueFull_keeps {s₀ : State} (s : State) (hk : s₀.Keeps s) :
    s₀.Keeps (State.queueFull s) := by
  unfold State.queueFull; (try dsimp only); (repeat' split) <;> simp (maxDischargeDepth := 100) +contextual [hk]

@[simp ↓] theorem logbookBlockWrite_keeps {s₀ : State} (t : Nat) (s : State) (hk : s₀.Keeps s) :
    s₀.Keeps (logbookBlockWrite t s) := by
  unfold logbookBlockWrite; (try dsimp only); (repeat' split) <;> simp (maxDischargeDepth := 100) +contextual [hk]

@[simp ↓] theorem closeAll_keeps {s₀ : State} (s : State) (now : Nat) (hk : s₀.Keeps s) :
    s₀.Keeps (State.closeAll s now) := by
  unfold State.closeAll; simp (maxDischargeDepth := 100) +contextual [hk]

@[simp ↓] theorem markRing_keeps {s₀ : State} (s : State) (hk : s₀.Keeps s) :
    s₀.Keeps (State.markRing s) := by
  unfold State.markRing; (try dsimp only); (repeat' split) <;> simp (maxDischargeDepth := 100) +contextual [hk]

@[simp ↓] theorem logFreeze_keeps {s₀ : State} (s : State) (now : Nat) (hk : s₀.Keeps s) :
    s₀.Keeps (State.logFreeze s now) := by
  unfold State.logFreeze; (try dsimp only); (repeat' split) <;> simp (maxDischargeDepth := 100) +contextual [hk]

@[simp ↓] theorem logbookFreeze_keeps {s₀ : State} (t : Nat) (s : State) (hk : s₀.Keeps s) :
    s₀.Keeps (logbookFreeze t s) := by
  unfold logbookFreeze; simp (maxDischargeDepth := 100) +contextual [hk]

@[simp ↓] theorem logIdle_keeps {s₀ : State} (s : State) (hk : s₀.Keeps s) :
    s₀.Keeps (State.logIdle s) := by
  unfold State.logIdle; simp (maxDischargeDepth := 100) +contextual [hk]

@[simp ↓] theorem logDisarm_keeps {s₀ : State} (s : State) (now : Nat) (hk : s₀.Keeps s) :
    s₀.Keeps (State.logDisarm s now) := by
  unfold State.logDisarm; (try dsimp only); (repeat' split) <;> simp (maxDischargeDepth := 100) +contextual [hk]

@[simp ↓] theorem logTriggerNow_keeps {s₀ : State} (s : State) (now : Nat) (hk : s₀.Keeps s) :
    s₀.Keeps (State.logTriggerNow s now) := by
  unfold State.logTriggerNow; simp (maxDischargeDepth := 100) +contextual [hk]

@[simp ↓] theorem lwFound_keeps {s₀ : State} (s : State) (hk : s₀.Keeps s) :
    s₀.Keeps (State.lwFound s) := by
  unfold State.lwFound; (try dsimp only); (repeat' split) <;> simp (maxDischargeDepth := 100) +contextual [hk]

@[simp ↓] theorem lastWords_keeps {s₀ : State} (t : Nat) (ok : Bool) (s : State) (hk : s₀.Keeps s) :
    s₀.Keeps (lastWords t ok s) := by
  unfold lastWords; (try dsimp only); (repeat' split) <;> simp (maxDischargeDepth := 100) +contextual [hk]

end Sys2Proof.Machine
end

