-- ==== Sys2Proof/Laws/Keep/NetBase.lean ====
section
/-! SUPPORT. What the operations of Machine/NetBase.lean keep. -/

namespace Sys2Proof.Machine

@[simp ↓] theorem updCan_keeps {s₀ : State} (s : State) (c : Fin 4) (f : CanCtl → CanCtl) (hk : s₀.Keeps s) :
    s₀.Keeps (State.updCan s c f) := by
  unfold State.updCan; simp (maxDischargeDepth := 100) +contextual [hk]

@[simp ↓] theorem canLoad_keeps {s₀ : State} (s : State) (c : Fin 4) (b : Fin 16) (id : Word) (data : List Byte) (hk : s₀.Keeps s) :
    s₀.Keeps (State.canLoad s c b id data) := by
  unfold State.canLoad; simp (maxDischargeDepth := 100) +contextual [hk]

@[simp ↓] theorem canFeed_keeps {s₀ : State} (s : State) (c : Fin 4) (hk : s₀.Keeps s) :
    s₀.Keeps (State.canFeed s c) := by
  unfold State.canFeed; (try dsimp only); (repeat' split) <;> simp (maxDischargeDepth := 100) +contextual [hk]

@[simp ↓] theorem lkCanSend_keeps {s₀ : State} (s : State) (c : Fin 4) (id : Nat) (fr : List Byte) (hk : s₀.Keeps s) :
    s₀.Keeps (State.lkCanSend s c id fr) := by
  unfold State.lkCanSend; simp (maxDischargeDepth := 100) +contextual [hk]

end Sys2Proof.Machine
end

