-- ==== Sys2Proof/Laws/Keep/Front.lean ====
section
/-! SUPPORT. What the operations of Machine/Front.lean keep. -/

namespace Sys2Proof.Machine

@[simp ↓] theorem berthReply_keeps {s₀ : State} (s : State) (n : Fin 4) (addr len : Nat) (hk : s₀.Keeps s) :
    s₀.Keeps (State.berthReply s n addr len) := by
  unfold State.berthReply; simp (maxDischargeDepth := 100) +contextual [hk]

@[simp ↓] theorem hrdyFell_keeps {s₀ : State} (s : State) (hk : s₀.Keeps s) :
    s₀.Keeps (State.hrdyFell s) := by
  unfold State.hrdyFell; simp (maxDischargeDepth := 100) +contextual [hk]

@[simp ↓] theorem transmit_keeps {s₀ : State} (s : State) (h : Head) (b : List Byte) (hk : s₀.Keeps s) :
    s₀.Keeps (State.transmit s h b) := by
  unfold State.transmit; (try dsimp only); (repeat' split) <;> simp (maxDischargeDepth := 100) +contextual [hk]

@[simp ↓] theorem groupAxes_keeps {s₀ : State} (s : State) (hk : s₀.Keeps s) : s₀.Keeps (State.groupAxes s).2 := by
  unfold State.groupAxes
  refine List.foldlRecOn (motive := fun (r : List Byte × State) => s₀.Keeps r.2) mids8 _ hk fun r hr m _ => ?_
  dsimp only
  split
  · exact hr
  · split
    · simp [hr]
    · exact hr

@[simp ↓] theorem dressed_keeps {s₀ : State} (s : State) (h : Head) (r : Reply) (hk : s₀.Keeps s) :
    s₀.Keeps (State.dressed s h r).2 := by
  unfold State.dressed; simp (maxDischargeDepth := 100) +contextual [hk]

@[simp ↓] theorem answer_keeps {s₀ : State} (s : State) (h : Head) (r : Reply) (hk : s₀.Keeps s) :
    s₀.Keeps (State.answer s h r) := by
  unfold State.answer; simp (maxDischargeDepth := 100) +contextual [hk]

@[simp ↓] theorem putChannel_keeps {s₀ : State} (s : State) (c : ChanSt) (hk : s₀.Keeps s) :
    s₀.Keeps (State.putChannel s c) := by
  unfold State.putChannel; simp (maxDischargeDepth := 100) +contextual [hk]

@[simp ↓] theorem updChannel_keeps {s₀ : State} (s : State) (ch : Chan) (f : ChanSt → ChanSt) (hk : s₀.Keeps s) :
    s₀.Keeps (State.updChannel s ch f) := by
  unfold State.updChannel; simp (maxDischargeDepth := 100) +contextual [hk]

@[simp ↓] theorem sendDue_keeps {s₀ : State} (s : State) (hk : s₀.Keeps s) :
    s₀.Keeps (State.sendDue s) := by
  unfold State.sendDue; simp (maxDischargeDepth := 100) +contextual [hk]

@[simp ↓] theorem complete_keeps {s₀ : State} (s : State) (p : PendCmd) (r : Reply) (hk : s₀.Keeps s) :
    s₀.Keeps (State.complete s p r) := by
  unfold State.complete; simp (maxDischargeDepth := 100) +contextual [hk]

@[simp ↓] theorem completeOp_keeps {s₀ : State} (s : State) (op target : Nat) (r : Reply) (hk : s₀.Keeps s) :
    s₀.Keeps (State.completeOp s op target r) := by
  unfold State.completeOp; (try dsimp only); (repeat' split) <;> simp (maxDischargeDepth := 100) +contextual [hk]

@[simp ↓] theorem supersede_keeps {s₀ : State} (s : State) (op target : Nat) (n : Option (Fin 4)) (hk : s₀.Keeps s) :
    s₀.Keeps (State.supersede s op target n) := by
  unfold State.supersede; simp (maxDischargeDepth := 100) +contextual [hk]

@[simp ↓] theorem discard_keeps {s₀ : State} (s : State) (hk : s₀.Keeps s) :
    s₀.Keeps (State.discard s) := by
  unfold State.discard; simp (maxDischargeDepth := 100) +contextual [hk]

@[simp ↓] theorem arrive_keeps {s₀ : State} (s : State) (ch : Chan) (b : List Byte) (buf : Option (Nat × Nat)) (hk : s₀.Keeps s) :
    s₀.Keeps (State.arrive s ch b buf) := by
  unfold State.arrive; simp (maxDischargeDepth := 100) +contextual [hk]

@[simp ↓] theorem hspiWrite_keeps {s₀ : State} (t : Nat) (b : List Byte) (s : State) (hk : s₀.Keeps s) :
    s₀.Keeps (hspiWrite t b s) := by
  unfold hspiWrite; simp (maxDischargeDepth := 100) +contextual [hk]

@[simp ↓] theorem hspiRefill_keeps {s₀ : State} (s : State) (hk : s₀.Keeps s) :
    s₀.Keeps (State.hspiRefill s) := by
  unfold State.hspiRefill; (try dsimp only); (repeat' split) <;> simp (maxDischargeDepth := 100) +contextual [hk]

@[simp ↓] theorem hspiRead_keeps {s₀ : State} (t n : Nat) (s : State) (hk : s₀.Keeps s) :
    s₀.Keeps (hspiRead t n s) := by
  unfold hspiRead; (try dsimp only); (repeat' split) <;> simp (maxDischargeDepth := 100) +contextual [hk]

@[simp ↓] theorem setPartial_keeps {s₀ : State} (s : State) (c : Fin 4) (p : Option CanPartial) (hk : s₀.Keeps s) :
    s₀.Keeps (State.setPartial s c p) := by
  unfold State.setPartial; simp (maxDischargeDepth := 100) +contextual [hk]

@[simp ↓] theorem dropPartial_keeps {s₀ : State} (s : State) (c : Fin 4) (hk : s₀.Keeps s) :
    s₀.Keeps (State.dropPartial s c) := by
  unfold State.dropPartial; simp (maxDischargeDepth := 100) +contextual [hk]

@[simp ↓] theorem canFragment_keeps {s₀ : State} (s : State) (c : Fin 4) (b : List Byte) (hk : s₀.Keeps s) :
    s₀.Keeps (State.canFragment s c b) := by
  unfold State.canFragment; (try dsimp only); (repeat' split) <;> simp (maxDischargeDepth := 100) +contextual [hk]

@[simp ↓] theorem fragmentTimeout_keeps {s₀ : State} (t : Nat) (c : Fin 4) (s : State) (hk : s₀.Keeps s) :
    s₀.Keeps (fragmentTimeout t c s) := by
  unfold fragmentTimeout; simp (maxDischargeDepth := 100) +contextual [hk]

@[simp ↓] theorem berthCommand_keeps {s₀ : State} (t : Nat) (n : Fin 4) (s : State) (hk : s₀.Keeps s) :
    s₀.Keeps (berthCommand t n s) := by
  unfold berthCommand; simp (maxDischargeDepth := 100) +contextual [hk]

@[simp ↓] theorem replyRetry_keeps {s₀ : State} (t : Nat) (n : Fin 4) (s : State) (hk : s₀.Keeps s) :
    s₀.Keeps (replyRetry t n s) := by
  unfold replyRetry; (try dsimp only); (repeat' split) <;> simp (maxDischargeDepth := 100) +contextual [hk]

@[simp ↓] theorem dropUpdate_keeps {s₀ : State} (s : State) (hk : s₀.Keeps s) :
    s₀.Keeps (State.dropUpdate s) := by
  unfold State.dropUpdate; simp (maxDischargeDepth := 100) +contextual [hk]

@[simp ↓] theorem dropUpdateOf_keeps {s₀ : State} (s : State) (ch : Chan) (hk : s₀.Keeps s) :
    s₀.Keeps (State.dropUpdateOf s ch) := by
  unfold State.dropUpdateOf; simp (maxDischargeDepth := 100) +contextual [hk]

@[simp ↓] theorem closeSession_keeps {s₀ : State} (s : State) (ch : Chan) (hk : s₀.Keeps s) :
    s₀.Keeps (State.closeSession s ch) := by
  unfold State.closeSession; simp (maxDischargeDepth := 100) +contextual [hk]

theorem takeChannel_keeps {s₀ : State} (s : State) (ch : Chan) (hk : s₀.Keeps s) :
    ∀ t ∈ State.takeChannel s ch, s₀.Keeps t := by
  unfold State.takeChannel; (try dsimp only); (repeat' split) <;> simp (maxDischargeDepth := 100) +contextual [hk]

@[simp ↓] theorem sessionIdle_keeps {s₀ : State} (t : Nat) (ch : Chan) (s : State) (hk : s₀.Keeps s) :
    s₀.Keeps (sessionIdle t ch s) := by
  unfold sessionIdle; simp (maxDischargeDepth := 100) +contextual [hk]

@[simp ↓] theorem barExpiry_keeps {s₀ : State} (t : Nat) (ch : Chan) (s : State) (hk : s₀.Keeps s) :
    s₀.Keeps (barExpiry t ch s) := by
  unfold barExpiry; simp (maxDischargeDepth := 100) +contextual [hk]

@[simp ↓] theorem updateIdle_keeps {s₀ : State} (t : Nat) (s : State) (hk : s₀.Keeps s) :
    s₀.Keeps (updateIdle t s) := by
  unfold updateIdle; simp (maxDischargeDepth := 100) +contextual [hk]

end Sys2Proof.Machine
end

