-- ==== Sys2Proof/Laws/Keep/SafeSet.lean ====
section
/-! SUPPORT. What the operations of Machine/SafeSet.lean keep. -/

namespace Sys2Proof.Machine

@[simp ↓] theorem writeTrims_keeps {s₀ : State} (s : State) (d : List Byte) (hk : s₀.Keeps s) :
    s₀.Keeps (State.writeTrims s d) := by
  unfold State.writeTrims; simp (maxDischargeDepth := 100) +contextual [hk]

@[simp ↓] theorem updLkAx_keeps {s₀ : State} (s : State) (n : Fin 4) (f : LkAx → LkAx) (hk : s₀.Keeps s) :
    s₀.Keeps (State.updLkAx s n f) := by
  unfold State.updLkAx; simp (maxDischargeDepth := 100) +contextual [hk]

@[simp ↓] theorem writeStosafe_keeps {s₀ : State} (s : State) (n : Fin 4) (hk : s₀.Keeps s) :
    s₀.Keeps (State.writeStosafe s n) := by
  unfold State.writeStosafe; simp (maxDischargeDepth := 100) +contextual [hk]

@[simp ↓] theorem forceSet_keeps {s₀ : State} (s : State) (x : SafetySet) (fresh : Bool) (hk : s₀.Keeps s) :
    s₀.Keeps (State.forceSet s x fresh) := by
  unfold State.forceSet; simp (maxDischargeDepth := 100) +contextual [hk]

end Sys2Proof.Machine
end

