-- ==== Sys2Proof/Laws/Keep/Switch.lean ====
section
/-! SUPPORT. What the operations of Machine/Switch.lean keep. -/

namespace Sys2Proof.Machine

@[simp ↓] theorem updEth_keeps {s₀ : State} (s : State) (f : Eth → Eth) (hk : s₀.Keeps s) :
    s₀.Keeps (State.updEth s f) := by
  unfold State.updEth; simp (maxDischargeDepth := 100) +contextual [hk]

@[simp ↓] theorem countRx_keeps {s₀ : State} (s : State) (p : Fin 5) (n : Nat) (hk : s₀.Keeps s) :
    s₀.Keeps (State.countRx s p n) := by
  unfold State.countRx; simp (maxDischargeDepth := 100) +contextual [hk]

@[simp ↓] theorem countTx_keeps {s₀ : State} (s : State) (p : Fin 5) (n : Nat) (hk : s₀.Keeps s) :
    s₀.Keeps (State.countTx s p n) := by
  unfold State.countTx; simp (maxDischargeDepth := 100) +contextual [hk]

@[simp ↓] theorem learn_keeps {s₀ : State} (s : State) (t vid mac : Nat) (p : Fin 5) (hk : s₀.Keeps s) :
    s₀.Keeps (State.learn s t vid mac p) := by
  unfold State.learn; simp (maxDischargeDepth := 100) +contextual [hk]

@[simp ↓] theorem bufDrop_keeps {s₀ : State} (s : State) (t : Nat) (p : Fin 5) (hk : s₀.Keeps s) :
    s₀.Keeps (State.bufDrop s t p) := by
  unfold State.bufDrop; simp (maxDischargeDepth := 100) +contextual [hk]

@[simp ↓] theorem enqueue_keeps {s₀ : State} (s : State) (t : Nat) (p : Fin 5) (x : QFrame) (prio : Nat) (hk : s₀.Keeps s) :
    s₀.Keeps (State.enqueue s t p x prio) := by
  unfold State.enqueue; simp (maxDischargeDepth := 100) +contextual [hk]

@[simp ↓] theorem switchTo_keeps {s₀ : State} (s : State) (t : Nat) (p : Fin 5) (only : Option (Fin 5)) (f : EthFrame) (hk : s₀.Keeps s) :
    s₀.Keeps (State.switchTo s t p only f) := by
  unfold State.switchTo; simp (maxDischargeDepth := 100) +contextual [hk]

@[simp ↓] theorem switchIn_keeps {s₀ : State} (s : State) (t : Nat) (p : Fin 5) (f : EthFrame) (hk : s₀.Keeps s) :
    s₀.Keeps (State.switchIn s t p f) := by
  unfold State.switchIn; simp (maxDischargeDepth := 100) +contextual [hk]

@[simp ↓] theorem ownIn_keeps {s₀ : State} (s : State) (t : Nat) (only : Option (Fin 5)) (f : EthFrame) (hk : s₀.Keeps s) :
    s₀.Keeps (State.ownIn s t only f) := by
  unfold State.ownIn; simp (maxDischargeDepth := 100) +contextual [hk]

@[simp ↓] theorem ownFrame_keeps {s₀ : State} (s : State) (t : Nat) (vid : Option Nat) (dst etype : Nat) (payload : List Byte) (only : Option (Fin 5)) (hk : s₀.Keeps s) :
    s₀.Keeps (State.ownFrame s t vid dst etype payload only) := by
  unfold State.ownFrame; simp (maxDischargeDepth := 100) +contextual [hk]

@[simp ↓] theorem arpAsk_keeps {s₀ : State} (s : State) (t ip : Nat) (hk : s₀.Keeps s) :
    s₀.Keeps (State.arpAsk s t ip) := by
  unfold State.arpAsk; simp (maxDischargeDepth := 100) +contextual [hk]

@[simp ↓] theorem udpPacket_keeps {s₀ : State} (s : State) (ip port : Nat) (data : List Byte) (hk : s₀.Keeps s) :
    s₀.Keeps (State.udpPacket s ip port data).2 := by
  unfold State.udpPacket; simp (maxDischargeDepth := 100) +contextual [hk]

@[simp ↓] theorem lkEthSend_keeps {s₀ : State} (s : State) (t : Nat) (p : Fin 5) (port : Nat) (fr : List Byte) (hk : s₀.Keeps s) :
    s₀.Keeps (State.lkEthSend s t p port fr) := by
  unfold State.lkEthSend; (try dsimp only); (repeat' split) <;> simp (maxDischargeDepth := 100) +contextual [hk]

end Sys2Proof.Machine
end

