-- ==== Sys2Proof/Laws/Keep/Lookout.lean ====
section
/-! SUPPORT. What the operations of Machine/Lookout.lean keep. -/

namespace Sys2Proof.Machine

@[simp ↓] theorem putLkDemand_keeps {s₀ : State} (s : State) (t : Nat) (w : Word) (hk : s₀.Keeps s) :
    s₀.Keeps (State.putLkDemand s t w) := by
  unfold State.putLkDemand; simp (maxDischargeDepth := 100) +contextual [hk]

@[simp ↓] theorem watchOutputs_keeps {s₀ : State} (s : State) (t : Nat) (rb0 rb1 : Bool) (hk : s₀.Keeps s) :
    s₀.Keeps (State.watchOutputs s t rb0 rb1) := by
  unfold State.watchOutputs; simp (maxDischargeDepth := 100) +contextual [hk]

@[simp ↓] theorem takeSto_keeps {s₀ : State} (s : State) (n : Fin 4) (hk : s₀.Keeps s) :
    s₀.Keeps (State.takeSto s n) := by
  unfold State.takeSto; simp (maxDischargeDepth := 100) +contextual [hk]

@[simp ↓] theorem lkHold_keeps {s₀ : State} (s : State) (n : Fin 4) (name : FName) (hk : s₀.Keeps s) :
    s₀.Keeps (State.lkHold s n name) := by
  unfold State.lkHold; simp (maxDischargeDepth := 100) +contextual [hk]

@[simp ↓] theorem lkNote_keeps {s₀ : State} (s : State) (t : Nat) (n : Fin 4) (name : FName) (hk : s₀.Keeps s) :
    s₀.Keeps (State.lkNote s t n name) := by
  unfold State.lkNote; simp (maxDischargeDepth := 100) +contextual [hk]

@[simp ↓] theorem viol_keeps {s₀ : State} (s : State) (t : Nat) (n : Fin 4) (name : FName) (hk : s₀.Keeps s) :
    s₀.Keeps (State.viol s t n name) := by
  unfold State.viol; simp (maxDischargeDepth := 100) +contextual [hk]

@[simp ↓] theorem ackAxis_keeps {s₀ : State} (s : State) (n : Fin 4) (hk : s₀.Keeps s) :
    s₀.Keeps (State.ackAxis s n) := by
  unfold State.ackAxis; simp (maxDischargeDepth := 100) +contextual [hk]

@[simp ↓] theorem endAcked_keeps {s₀ : State} (s : State) (n : Fin 4) (hk : s₀.Keeps s) :
    s₀.Keeps (State.endAcked s n) := by
  unfold State.endAcked; simp (maxDischargeDepth := 100) +contextual [hk]

@[simp ↓] theorem release_keeps {s₀ : State} (s : State) (n : Fin 4) (ack req : Bool) (hk : s₀.Keeps s) :
    s₀.Keeps (State.release s n ack req) := by
  unfold State.release; simp (maxDischargeDepth := 100) +contextual [hk]

@[simp ↓] theorem readInputs_keeps {s₀ : State} (s : State) (t : Nat) (d : List Byte) (r : CycleIn) (hk : s₀.Keeps s) :
    s₀.Keeps (State.readInputs s t d r) := by
  unfold State.readInputs; simp (maxDischargeDepth := 100) +contextual [hk]

@[simp ↓] theorem discrepancies_keeps {s₀ : State} (s : State) (t : Nat) (d : List Byte) (hk : s₀.Keeps s) :
    s₀.Keeps (State.discrepancies s t d) := by
  unfold State.discrepancies; simp (maxDischargeDepth := 100) +contextual [hk]

@[simp ↓] theorem inputRegs_keeps {s₀ : State} (s : State) (hk : s₀.Keeps s) :
    s₀.Keeps (State.inputRegs s) := by
  unfold State.inputRegs; simp (maxDischargeDepth := 100) +contextual [hk]

@[simp ↓] theorem dropEdges_keeps {s₀ : State} (s : State) (hk : s₀.Keeps s) :
    s₀.Keeps (State.dropEdges s) := by
  unfold State.dropEdges; simp (maxDischargeDepth := 100) +contextual [hk]

@[simp ↓] theorem trackPos_keeps {s₀ : State} (s : State) (n : Fin 4) (hk : s₀.Keeps s) :
    s₀.Keeps (State.trackPos s n) := by
  unfold State.trackPos; simp (maxDischargeDepth := 100) +contextual [hk]

@[simp ↓] theorem currents_keeps {s₀ : State} (s : State) (t : Nat) (d : List Byte) (n : Fin 4) (hk : s₀.Keeps s) :
    s₀.Keeps (State.currents s t d n) := by
  unfold State.currents; simp (maxDischargeDepth := 100) +contextual [hk]

@[simp ↓] theorem dcLink_keeps {s₀ : State} (s : State) (t : Nat) (d : List Byte) (hk : s₀.Keeps s) :
    s₀.Keeps (State.dcLink s t d) := by
  unfold State.dcLink; simp (maxDischargeDepth := 100) +contextual [hk]

@[simp ↓] theorem feedback_keeps {s₀ : State} (s : State) (t : Nat) (d : List Byte) (n : Fin 4) (spd : Option Q) (hk : s₀.Keeps s) :
    s₀.Keeps (State.feedback s t d n spd) := by
  unfold State.feedback; simp (maxDischargeDepth := 100) +contextual [hk]

@[simp ↓] theorem torque_keeps {s₀ : State} (s : State) (t : Nat) (d : List Byte) (n : Fin 4) (hk : s₀.Keeps s) :
    s₀.Keeps (State.torque s t d n) := by
  unfold State.torque; simp (maxDischargeDepth := 100) +contextual [hk]

@[simp ↓] theorem ss1Start_keeps {s₀ : State} (s : State) (t : Nat) (n : Fin 4) (n0 : Q) (hk : s₀.Keeps s) :
    s₀.Keeps (State.ss1Start s t n n0) := by
  unfold State.ss1Start; simp (maxDischargeDepth := 100) +contextual [hk]

@[simp ↓] theorem ss1Step_keeps {s₀ : State} (s : State) (t : Nat) (d : List Byte) (n : Fin 4) (spd : Option Q) (req : Bool) (hk : s₀.Keeps s) :
    s₀.Keeps (State.ss1Step s t d n spd req) := by
  unfold State.ss1Step; (try dsimp only); (repeat' split) <;> simp (maxDischargeDepth := 100) +contextual [hk]

@[simp ↓] theorem slsStep_keeps {s₀ : State} (s : State) (t : Nat) (d : List Byte) (n : Fin 4) (spd : Option Q) (on : Bool) (hk : s₀.Keeps s) :
    s₀.Keeps (State.slsStep s t d n spd on) := by
  unfold State.slsStep; (try dsimp only); (repeat' split) <;> simp (maxDischargeDepth := 100) +contextual [hk]

@[simp ↓] theorem slpStep_keeps {s₀ : State} (s : State) (t : Nat) (d : List Byte) (n : Fin 4) (spd : Option Q) (hk : s₀.Keeps s) :
    s₀.Keeps (State.slpStep s t d n spd) := by
  unfold State.slpStep; (try dsimp only); (repeat' split) <;> simp (maxDischargeDepth := 100) +contextual [hk]

@[simp ↓] theorem sdiStep_keeps {s₀ : State} (s : State) (t : Nat) (d : List Byte) (n : Fin 4) (spd : Option Q) (on : Bool) (hk : s₀.Keeps s) :
    s₀.Keeps (State.sdiStep s t d n spd on) := by
  unfold State.sdiStep; simp (maxDischargeDepth := 100) +contextual [hk]

@[simp ↓] theorem axisRegs_keeps {s₀ : State} (s : State) (t : Nat) (d : List Byte) (n : Fin 4) (spd : Option Q) (hk : s₀.Keeps s) :
    s₀.Keeps (State.axisRegs s t d n spd) := by
  unfold State.axisRegs; simp (maxDischargeDepth := 100) +contextual [hk]

@[simp ↓] theorem lkAxis_keeps {s₀ : State} (t : Nat) (d : List Byte) (s : State) (n : Fin 4) (ack : Bool) (hk : s₀.Keeps s) :
    s₀.Keeps (State.lkAxis t d s n ack) := by
  unfold State.lkAxis; simp (maxDischargeDepth := 100) +contextual [hk]

@[simp ↓] theorem lkBare_keeps {s₀ : State} (t : Nat) (d : List Byte) (s : State) (n : Fin 4) (ack : Bool) (hk : s₀.Keeps s) :
    s₀.Keeps (State.lkBare t d s n ack) := by
  unfold State.lkBare; simp (maxDischargeDepth := 100) +contextual [hk]

@[simp ↓] theorem takePayloads_keeps {s₀ : State} (s : State) (d : List Byte) (hk : s₀.Keeps s) :
    s₀.Keeps (State.takePayloads s d).1 := by
  unfold State.takePayloads; (try dsimp only); refine foldl_keeps_fst (fun p a hp => ?_) _ hk; (try dsimp only); (repeat' split) <;> simp (maxDischargeDepth := 100) +contextual [hp]

@[simp ↓] theorem sendOn_keeps {s₀ : State} (s : State) (d : List Byte) (j : Fin 8) (path : Nat) (fr : List Byte) (hk : s₀.Keeps s) :
    s₀.Keeps (State.sendOn s d j path fr) := by
  unfold State.sendOn; simp (maxDischargeDepth := 100) +contextual [hk]

@[simp ↓] theorem sendFrame_keeps {s₀ : State} (s : State) (t : Nat) (d : List Byte) (j : Fin 8) (hk : s₀.Keeps s) :
    s₀.Keeps (State.sendFrame s t d j) := by
  unfold State.sendFrame; (try dsimp only); (repeat' split) <;> simp (maxDischargeDepth := 100) +contextual [hk]

@[simp ↓] theorem sendFrames_keeps {s₀ : State} (s : State) (t k : Nat) (d : List Byte) (hk : s₀.Keeps s) :
    s₀.Keeps (State.sendFrames s t k d) := by
  unfold State.sendFrames; simp (maxDischargeDepth := 100) +contextual [hk]

@[simp ↓] theorem lkFunctions_keeps {s₀ : State} (s : State) (t : Nat) (d : List Byte) (r : CycleIn) (hk : s₀.Keeps s) :
    s₀.Keeps (State.lkFunctions s t d r) := by
  unfold State.lkFunctions; simp (maxDischargeDepth := 100) +contextual [hk]

@[simp ↓] theorem lookoutCycle_keeps {s₀ : State} (t : Nat) (r : CycleIn) (s : State) (hk : s₀.Keeps s) :
    s₀.Keeps (lookoutCycle t r s) := by
  unfold lookoutCycle; (try dsimp only); (repeat' split) <;> simp (maxDischargeDepth := 100) +contextual [hk]

@[simp ↓] theorem lkInternal_keeps {s₀ : State} (s : State) (t cause : Nat) (hk : s₀.Keeps s) :
    s₀.Keeps (State.lkInternal s t cause) := by
  unfold State.lkInternal; simp (maxDischargeDepth := 100) +contextual [hk]

@[simp ↓] theorem deadlineCheck_keeps {s₀ : State} (t : Nat) (s : State) (hk : s₀.Keeps s) :
    s₀.Keeps (deadlineCheck t s) := by
  unfold deadlineCheck; simp (maxDischargeDepth := 100) +contextual [hk]

@[simp ↓] theorem internalFault_keeps {s₀ : State} (t cause : Nat) (s : State) (hk : s₀.Keeps s) :
    s₀.Keeps (internalFault t cause s) := by
  unfold internalFault; simp (maxDischargeDepth := 100) +contextual [hk]

@[simp ↓] theorem soFailed_keeps {s₀ : State} (s : State) (t : Nat) (o : Fin 2) (hk : s₀.Keeps s) :
    s₀.Keeps (State.soFailed s t o) := by
  unfold State.soFailed; simp (maxDischargeDepth := 100) +contextual [hk]

@[simp ↓] theorem soPulse_keeps {s₀ : State} (t : Nat) (o : Fin 2) (readOff : Bool) (s : State) (hk : s₀.Keeps s) :
    s₀.Keeps (soPulse t o readOff s) := by
  unfold soPulse; simp (maxDischargeDepth := 100) +contextual [hk]

@[simp ↓] theorem soReadback_keeps {s₀ : State} (t : Nat) (o : Fin 2) (s : State) (hk : s₀.Keeps s) :
    s₀.Keeps (soReadback t o s) := by
  unfold soReadback; (try dsimp only); (repeat' split) <;> simp (maxDischargeDepth := 100) +contextual [hk]

@[simp ↓] theorem testDue_keeps {s₀ : State} (t : Nat) (i : Fin 5) (s : State) (hk : s₀.Keeps s) :
    s₀.Keeps (testDue t i s) := by
  unfold testDue; simp (maxDischargeDepth := 100) +contextual [hk]

end Sys2Proof.Machine
end

