-- ==== Sys2Proof/Laws/Keep/LookoutComm.lean ====
section
/-! SUPPORT. What the operations of Machine/LookoutComm.lean keep. -/

namespace Sys2Proof.Machine

@[simp ↓] theorem updConn_keeps {s₀ : State} (s : State) (j : Fin 8) (f : LkConn → LkConn) (hk : s₀.Keeps s) :
    s₀.Keeps (State.updConn s j f) := by
  unfold State.updConn; simp (maxDischargeDepth := 100) +contextual [hk]

@[simp ↓] theorem rejectFrame_keeps {s₀ : State} (s : State) (j : Fin 8) (hk : s₀.Keeps s) :
    s₀.Keeps (State.rejectFrame s j) := by
  unfold State.rejectFrame; simp (maxDischargeDepth := 100) +contextual [hk]

@[simp ↓] theorem acceptFrame_keeps {s₀ : State} (s : State) (t : Nat) (j : Fin 8) (ext : Nat) (pay : List Byte) (age : Int) (single : Nat) (hk : s₀.Keeps s) :
    s₀.Keeps (State.acceptFrame s t j ext pay age single) := by
  unfold State.acceptFrame; simp (maxDischargeDepth := 100) +contextual [hk]

@[simp ↓] theorem lkComm_keeps {s₀ : State} (s : State) (t : Nat) (d : List Byte) (j : Fin 8) (why : CommReason) (hk : s₀.Keeps s) :
    s₀.Keeps (State.lkComm s t d j why) := by
  unfold State.lkComm; simp (maxDischargeDepth := 100) +contextual [hk]

@[simp ↓] theorem dropDual_keeps {s₀ : State} (s : State) (t : Nat) (d : List Byte) (j : Fin 8) (ext : Nat) (why : CommReason) (hk : s₀.Keeps s) :
    s₀.Keeps (State.dropDual s t d j ext why) := by
  unfold State.dropDual; simp (maxDischargeDepth := 100) +contextual [hk]

@[simp ↓] theorem lateSingle_keeps {s₀ : State} (s : State) (t : Nat) (d : List Byte) (j : Fin 8) (h : LkHold) (hk : s₀.Keeps s) :
    s₀.Keeps (State.lateSingle s t d j h) := by
  unfold State.lateSingle; simp (maxDischargeDepth := 100) +contextual [hk]

@[simp ↓] theorem expireHolds_keeps {s₀ : State} (s : State) (t : Nat) (d : List Byte) (j : Fin 8) (hk : s₀.Keeps s) :
    s₀.Keeps (State.expireHolds s t d j) := by
  unfold State.expireHolds; simp (maxDischargeDepth := 100) +contextual [hk]

@[simp ↓] theorem dualCopy_keeps {s₀ : State} (s : State) (t : Nat) (d : List Byte) (j : Fin 8) (path ext : Nat) (b pay : List Byte) (age : Int) (hk : s₀.Keeps s) :
    s₀.Keeps (State.dualCopy s t d j path ext b pay age) := by
  unfold State.dualCopy; (try dsimp only); (repeat' split) <;> simp (maxDischargeDepth := 100) +contextual [hk]

@[simp ↓] theorem frameArrival_keeps {s₀ : State} (t : Nat) (path : Fin 8) (b : List Byte) (s : State) (hk : s₀.Keeps s) :
    s₀.Keeps (frameArrival t path b s) := by
  unfold frameArrival; (try dsimp only); (repeat' split) <;> simp (maxDischargeDepth := 100) +contextual [hk]

@[simp ↓] theorem dualExpiry_keeps {s₀ : State} (t : Nat) (j : Fin 8) (s : State) (hk : s₀.Keeps s) :
    s₀.Keeps (dualExpiry t j s) := by
  unfold dualExpiry; (try dsimp only); (repeat' split) <;> simp (maxDischargeDepth := 100) +contextual [hk]

@[simp ↓] theorem connectionLoss_keeps {s₀ : State} (t : Nat) (j : Fin 8) (s : State) (hk : s₀.Keeps s) :
    s₀.Keeps (connectionLoss t j s) := by
  unfold connectionLoss; (try dsimp only); (repeat' split) <;> simp (maxDischargeDepth := 100) +contextual [hk]

end Sys2Proof.Machine
end

