-- ==== Sys2Proof/Laws/Keep/Can.lean ====
section
/-! SUPPORT. What the operations of Machine/Can.lean keep. -/

namespace Sys2Proof.Machine

@[simp ↓] theorem rxPut_keeps {s₀ : State} (s : State) (t : Nat) (c : Fin 4) (q : Fin 2) (e : List Word) (hk : s₀.Keeps s) :
    s₀.Keeps (State.rxPut s t c q e) := by
  unfold State.rxPut; simp (maxDischargeDepth := 100) +contextual [hk]

@[simp ↓] theorem rxAct_keeps {s₀ : State} (s : State) (t : Nat) (c : Fin 4) (act : Nat) (e : List Word) (hk : s₀.Keeps s) :
    s₀.Keeps (State.rxAct s t c act e) := by
  unfold State.rxAct; (try dsimp only); (repeat' split) <;> simp (maxDischargeDepth := 100) +contextual [hk]

@[simp ↓] theorem canRoute_keeps {s₀ : State} (s : State) (t : Nat) (c : Fin 4) (fr : CanFrame) (hk : s₀.Keeps s) :
    s₀.Keeps (State.canRoute s t c fr) := by
  unfold State.canRoute; (try dsimp only); (repeat' split) <;> simp (maxDischargeDepth := 100) +contextual [hk]

@[simp ↓] theorem txAborted_keeps {s₀ : State} (s : State) (c : Fin 4) (b : Fin 16) (hk : s₀.Keeps s) :
    s₀.Keeps (State.txAborted s c b) := by
  unfold State.txAborted; simp (maxDischargeDepth := 100) +contextual [hk]

@[simp ↓] theorem canCounters_keeps {s₀ : State} (s : State) (c : Fin 4) (hk : s₀.Keeps s) :
    s₀.Keeps (State.canCounters s c) := by
  unfold State.canCounters; simp (maxDischargeDepth := 100) +contextual [hk]

@[simp ↓] theorem canErrState_keeps {s₀ : State} (s : State) (t : Nat) (c : Fin 4) (hk : s₀.Keeps s) :
    s₀.Keeps (State.canErrState s t c) := by
  unfold State.canErrState; (try dsimp only); (repeat' split) <;> simp (maxDischargeDepth := 100) +contextual [hk]

@[simp ↓] theorem canForm_keeps {s₀ : State} (s : State) (t : Nat) (c : Fin 4) (hk : s₀.Keeps s) :
    s₀.Keeps (State.canForm s t c) := by
  unfold State.canForm; simp (maxDischargeDepth := 100) +contextual [hk]

@[simp ↓] theorem canReceived_keeps {s₀ : State} (t : Nat) (c : Fin 4) (fr : CanFrame) (s : State) (hk : s₀.Keeps s) :
    s₀.Keeps (canReceived t c fr s) := by
  unfold canReceived; simp (maxDischargeDepth := 100) +contextual [hk]

@[simp ↓] theorem canStart_keeps {s₀ : State} (t : Nat) (c : Fin 4) (s : State) (hk : s₀.Keeps s) :
    s₀.Keeps (canStart t c s) := by
  unfold canStart; (try dsimp only); (repeat' split) <;> simp (maxDischargeDepth := 100) +contextual [hk]

@[simp ↓] theorem measureDelay_keeps {s₀ : State} (s : State) (c : Fin 4) (fr : CanFrame) (hk : s₀.Keeps s) :
    s₀.Keeps (State.measureDelay s c fr) := by
  unfold State.measureDelay; simp (maxDischargeDepth := 100) +contextual [hk]

@[simp ↓] theorem canComplete_keeps {s₀ : State} (t : Nat) (c : Fin 4) (sent : Bool) (s : State) (hk : s₀.Keeps s) :
    s₀.Keeps (canComplete t c sent s) := by
  unfold canComplete; (try dsimp only); (repeat' split) <;> simp (maxDischargeDepth := 100) +contextual [hk]

@[simp ↓] theorem canError_keeps {s₀ : State} (t : Nat) (c : Fin 4) (kind : Fin 7) (tecUp recUp : Nat) (s : State) (hk : s₀.Keeps s) :
    s₀.Keeps (canError t c kind tecUp recUp s) := by
  unfold canError; simp (maxDischargeDepth := 100) +contextual [hk]

@[simp ↓] theorem canRecovered_keeps {s₀ : State} (t : Nat) (c : Fin 4) (s : State) (hk : s₀.Keeps s) :
    s₀.Keeps (canRecovered t c s) := by
  unfold canRecovered; simp (maxDischargeDepth := 100) +contextual [hk]

@[simp ↓] theorem txctlWritten_keeps {s₀ : State} (s : State) (c : Fin 4) (b : Fin 16) (w : Word) (hk : s₀.Keeps s) :
    s₀.Keeps (State.txctlWritten s c b w) := by
  unfold State.txctlWritten; simp (maxDischargeDepth := 100) +contextual [hk]

@[simp ↓] theorem rxPop_keeps {s₀ : State} (s : State) (c : Fin 4) (q : Fin 2) (hk : s₀.Keeps s) :
    s₀.Keeps (State.rxPop s c q) := by
  unfold State.rxPop; simp (maxDischargeDepth := 100) +contextual [hk]

@[simp ↓] theorem canEnWritten_keeps {s₀ : State} (s : State) (c : Fin 4) (was : Bool) (hk : s₀.Keeps s) :
    s₀.Keeps (State.canEnWritten s c was) := by
  unfold State.canEnWritten; simp (maxDischargeDepth := 100) +contextual [hk]

end Sys2Proof.Machine
end

