-- ==== Sys2Proof/Laws/Keep/Engine.lean ====
section
/-! SUPPORT. What the operations of Machine/Engine.lean keep. -/

namespace Sys2Proof.Machine

@[simp ↓] theorem setVreg_keeps {s₀ : State} (s : State) (n : Fin 4) (k : Fin 32) (x : VReg) (hk : s₀.Keeps s) :
    s₀.Keeps (State.setVreg s n k x) := by
  unfold State.setVreg; simp (maxDischargeDepth := 100) +contextual [hk]

@[simp ↓] theorem setPred_keeps {s₀ : State} (s : State) (n : Fin 4) (p : BitVec 8) (hk : s₀.Keeps s) :
    s₀.Keeps (State.setPred s n p) := by
  unfold State.setPred; simp (maxDischargeDepth := 100) +contextual [hk]

@[simp ↓] theorem advance_keeps {s₀ : State} (s : State) (t : Nat) (n : Fin 4) (hk : s₀.Keeps s) :
    s₀.Keeps (State.advance s t n) := by
  unfold State.advance; simp (maxDischargeDepth := 100) +contextual [hk]

@[simp ↓] theorem writeDst_keeps {s₀ : State} (s : State) (t : Nat) (n : Fin 4) (fixe rtz : Bool) (en : Fin 8 → Bool) (r : Fin 8 → Q) (hk : s₀.Keeps s) :
    s₀.Keeps (State.writeDst s t n fixe rtz en r) := by
  unfold State.writeDst; simp (maxDischargeDepth := 100) +contextual [hk]

@[simp ↓] theorem writeArith_keeps {s₀ : State} (s : State) (t : Nat) (n : Fin 4) (r : Fin 8 → Q) (hk : s₀.Keeps s) :
    s₀.Keeps (State.writeArith s t n r) := by
  unfold State.writeArith; simp (maxDischargeDepth := 100) +contextual [hk]

@[simp ↓] theorem laneOp_keeps {s₀ : State} (s : State) (t : Nat) (n : Fin 4) (op : Nat) (f : Lanes → Lanes → Lanes → Fin 8 → Q) (hk : s₀.Keeps s) :
    s₀.Keeps (State.laneOp s t n op f) := by
  unfold State.laneOp; simp (maxDischargeDepth := 100) +contextual [hk]

@[simp ↓] theorem halt_keeps {s₀ : State} (t : Nat) (n : Fin 4) (s : State) (hk : s₀.Keeps s) :
    s₀.Keeps (halt t n s) := by
  unfold halt; simp (maxDischargeDepth := 100) +contextual [hk]

@[simp ↓] theorem undefinedEnc_keeps {s₀ : State} (t : Nat) (n : Fin 4) (s : State) (hk : s₀.Keeps s) :
    s₀.Keeps (undefinedEnc t n s) := by
  unfold undefinedEnc; simp (maxDischargeDepth := 100) +contextual [hk]

@[simp ↓] theorem mov_keeps {s₀ : State} (t : Nat) (n : Fin 4) (s : State) (hk : s₀.Keeps s) :
    s₀.Keeps (mov t n s) := by
  unfold mov; simp (maxDischargeDepth := 100) +contextual [hk]

@[simp ↓] theorem ld_keeps {s₀ : State} (t : Nat) (n : Fin 4) (s : State) (hk : s₀.Keeps s) :
    s₀.Keeps (ld t n s) := by
  unfold ld; (try dsimp only); (repeat' split) <;> simp (maxDischargeDepth := 100) +contextual [hk]

@[simp ↓] theorem storeLane_keeps {s₀ : State} (s : State) (t : Nat) (n : Fin 4) (w : Word64) (i : Fin 8) (hk : s₀.Keeps s) :
    s₀.Keeps (State.storeLane s t n w i) := by
  unfold State.storeLane; (try dsimp only); (repeat' split) <;> simp (maxDischargeDepth := 100) +contextual [hk]

@[simp ↓] theorem st_keeps {s₀ : State} (t : Nat) (n : Fin 4) (s : State) (hk : s₀.Keeps s) :
    s₀.Keeps (st t n s) := by
  unfold st; simp (maxDischargeDepth := 100) +contextual [hk]

@[simp ↓] theorem predOp_keeps {s₀ : State} (s : State) (t : Nat) (n : Fin 4) (r : Fin 8 → Q) (p : Fin 8 → Bool) (hk : s₀.Keeps s) :
    s₀.Keeps (State.predOp s t n r p) := by
  unfold State.predOp; simp (maxDischargeDepth := 100) +contextual [hk]

@[simp ↓] theorem clamp_keeps {s₀ : State} (t : Nat) (n : Fin 4) (s : State) (hk : s₀.Keeps s) :
    s₀.Keeps (clamp t n s) := by
  unfold clamp; simp (maxDischargeDepth := 100) +contextual [hk]

@[simp ↓] theorem cmp_keeps {s₀ : State} (t : Nat) (n : Fin 4) (s : State) (hk : s₀.Keeps s) :
    s₀.Keeps (cmp t n s) := by
  unfold cmp; simp (maxDischargeDepth := 100) +contextual [hk]

@[simp ↓] theorem sel_keeps {s₀ : State} (t : Nat) (n : Fin 4) (s : State) (hk : s₀.Keeps s) :
    s₀.Keeps (sel t n s) := by
  unfold sel; simp (maxDischargeDepth := 100) +contextual [hk]

@[simp ↓] theorem scale_keeps {s₀ : State} (t : Nat) (n : Fin 4) (s : State) (hk : s₀.Keeps s) :
    s₀.Keeps (scale t n s) := by
  unfold scale; simp (maxDischargeDepth := 100) +contextual [hk]

@[simp ↓] theorem atan2_keeps {s₀ : State} (t : Nat) (n : Fin 4) (s : State) (hk : s₀.Keeps s) :
    s₀.Keeps (atan2 t n s) := by
  unfold atan2; simp (maxDischargeDepth := 100) +contextual [hk]

@[simp ↓] theorem recip_keeps {s₀ : State} (t : Nat) (n : Fin 4) (s : State) (hk : s₀.Keeps s) :
    s₀.Keeps (recip t n s) := by
  unfold recip; simp (maxDischargeDepth := 100) +contextual [hk]

@[simp ↓] theorem rsqrt_keeps {s₀ : State} (t : Nat) (n : Fin 4) (s : State) (hk : s₀.Keeps s) :
    s₀.Keeps (rsqrt t n s) := by
  unfold rsqrt; simp (maxDischargeDepth := 100) +contextual [hk]

@[simp ↓] theorem svm_keeps {s₀ : State} (t : Nat) (n : Fin 4) (s : State) (hk : s₀.Keeps s) :
    s₀.Keeps (svm t n s) := by
  unfold svm; simp (maxDischargeDepth := 100) +contextual [hk]

@[simp ↓] theorem stateLanes_keeps {s₀ : State} (s : State) (t : Nat) (n : Fin 4) (base : Nat) (en : Fin 8 → Bool) (f : Fin 8 → Word × WFlags) (hk : s₀.Keeps s) :
    s₀.Keeps (State.stateLanes s t n base en f) := by
  unfold State.stateLanes; simp (maxDischargeDepth := 100) +contextual [hk]

@[simp ↓] theorem pi_keeps {s₀ : State} (t : Nat) (n : Fin 4) (s : State) (hk : s₀.Keeps s) :
    s₀.Keeps (pi t n s) := by
  unfold pi; simp (maxDischargeDepth := 100) +contextual [hk]

@[simp ↓] theorem lpf_keeps {s₀ : State} (t : Nat) (n : Fin 4) (s : State) (hk : s₀.Keeps s) :
    s₀.Keeps (lpf t n s) := by
  unfold lpf; simp (maxDischargeDepth := 100) +contextual [hk]

@[simp ↓] theorem ramp_keeps {s₀ : State} (t : Nat) (n : Fin 4) (s : State) (hk : s₀.Keeps s) :
    s₀.Keeps (ramp t n s) := by
  unfold ramp; simp (maxDischargeDepth := 100) +contextual [hk]

@[simp ↓] theorem settleWord_keeps {s₀ : State} (s : State) (t : Nat) (n : Fin 4) (hk : s₀.Keeps s) :
    s₀.Keeps (State.settleWord s t n) := by
  unfold State.settleWord; simp (maxDischargeDepth := 100) +contextual [hk]

@[simp ↓] theorem settle_row_keeps {s₀ : State} (t : Nat) (n : Fin 4) (s : State) (hk : s₀.Keeps s) :
    s₀.Keeps (settle t n s) := by
  unfold settle; simp (maxDischargeDepth := 100) +contextual [hk]

@[simp ↓] theorem settleRelease_keeps {s₀ : State} (t : Nat) (n : Fin 4) (s : State) (hk : s₀.Keeps s) :
    s₀.Keeps (settleRelease t n s) := by
  unfold settleRelease; simp (maxDischargeDepth := 100) +contextual [hk]

@[simp ↓] theorem commit_keeps {s₀ : State} (t : Nat) (n : Fin 4) (s : State) (hk : s₀.Keeps s) :
    s₀.Keeps (commit t n s) := by
  unfold commit; simp (maxDischargeDepth := 100) +contextual [hk]

end Sys2Proof.Machine
end

