-- ==== Sys2Proof/Laws/Keep/Programs.lean ====
section
/-! SUPPORT. What the operations of Machine/Programs.lean keep. -/

namespace Sys2Proof.Machine

@[simp ↓] theorem unloadProgram_keeps {s₀ : State} (s : State) (n : Fin 4) (hk : s₀.Keeps s) :
    s₀.Keeps (State.unloadProgram s n) := by
  unfold State.unloadProgram; simp (maxDischargeDepth := 100) +contextual [hk]

@[simp ↓] theorem loadProgram_keeps {s₀ : State} (s : State) (n : Fin 4) (hk : s₀.Keeps s) :
    s₀.Keeps (State.loadProgram s n).1 := by
  unfold State.loadProgram; simp (maxDischargeDepth := 100) +contextual [hk]

@[simp ↓] theorem tuneBegin_keeps {s₀ : State} (s : State) (t : Nat) (n : Fin 4) (loop rule maxMs : Nat) (d hyst : Word) (hk : s₀.Keeps s) :
    s₀.Keeps (State.tuneBegin s t n loop rule maxMs d hyst) := by
  unfold State.tuneBegin; simp (maxDischargeDepth := 100) +contextual [hk]

@[simp ↓] theorem endTune_keeps {s₀ : State} (s : State) (t : Nat) (n : Fin 4) (hk : s₀.Keeps s) :
    s₀.Keeps (State.endTune s t n) := by
  unfold State.endTune; simp (maxDischargeDepth := 100) +contextual [hk]

@[simp ↓] theorem obsHoldExpiry_keeps {s₀ : State} (t : Nat) (n : Fin 4) (s : State) (hk : s₀.Keeps s) :
    s₀.Keeps (obsHoldExpiry t n s) := by
  unfold obsHoldExpiry; simp (maxDischargeDepth := 100) +contextual [hk]

end Sys2Proof.Machine
end

