-- ==== Sys2Proof/Laws/Keep/Eth.lean ====
section
/-! SUPPORT. What the operations of Machine/Eth.lean keep. -/

namespace Sys2Proof.Machine

@[simp ↓] theorem ethReceived_keeps {s₀ : State} (t : Nat) (p : Fin 5) (f : EthFrame) (s : State) (hk : s₀.Keeps s) :
    s₀.Keeps (ethReceived t p f s) := by
  unfold ethReceived; simp (maxDischargeDepth := 100) +contextual [hk]

@[simp ↓] theorem arpLearn_keeps {s₀ : State} (s : State) (t ip mac : Nat) (hk : s₀.Keeps s) :
    s₀.Keeps (State.arpLearn s t ip mac) := by
  unfold State.arpLearn; simp (maxDischargeDepth := 100) +contextual [hk]

@[simp ↓] theorem arpIn_keeps {s₀ : State} (s : State) (t vid : Nat) (b : List Byte) (hk : s₀.Keeps s) :
    s₀.Keeps (State.arpIn s t vid b) := by
  unfold State.arpIn; simp (maxDischargeDepth := 100) +contextual [hk]

@[simp ↓] theorem echoIn_keeps {s₀ : State} (s : State) (t vid src : Nat) (b : List Byte) (hl tot : Nat) (hk : s₀.Keeps s) :
    s₀.Keeps (State.echoIn s t vid src b hl tot) := by
  unfold State.echoIn; simp (maxDischargeDepth := 100) +contextual [hk]

@[simp ↓] theorem advanceHead_keeps {s₀ : State} (s : State) (r : Nat) (hk : s₀.Keeps s) :
    s₀.Keeps (State.advanceHead s r) := by
  unfold State.advanceHead; simp (maxDischargeDepth := 100) +contextual [hk]

@[simp ↓] theorem ringPut_keeps {s₀ : State} (s : State) (r : Fin 4) (x : QFrame) (hk : s₀.Keeps s) :
    s₀.Keeps (State.ringPut s r x) := by
  unfold State.ringPut; simp (maxDischargeDepth := 100) +contextual [hk]

@[simp ↓] theorem classify_keeps {s₀ : State} (s : State) (x : QFrame) (udp : Option Nat) (hk : s₀.Keeps s) :
    s₀.Keeps (State.classify s x udp) := by
  unfold State.classify; (try dsimp only); (repeat' split) <;> simp (maxDischargeDepth := 100) +contextual [hk]

@[simp ↓] theorem relay_keeps {s₀ : State} (s : State) (k : Nat) (ip port : Nat) (b : List Byte) (hk : s₀.Keeps s) :
    s₀.Keeps (State.relay s k ip port b) := by
  unfold State.relay; simp (maxDischargeDepth := 100) +contextual [hk]

@[simp ↓] theorem asIn_keeps {s₀ : State} (s : State) (x : QFrame) (hk : s₀.Keeps s) :
    s₀.Keeps (State.asIn s x) := by
  unfold State.asIn; simp (maxDischargeDepth := 100) +contextual [hk]

@[simp ↓] theorem deliver_keeps {s₀ : State} (s : State) (t : Nat) (x : QFrame) (hk : s₀.Keeps s) :
    s₀.Keeps (State.deliver s t x) := by
  unfold State.deliver; (try dsimp only); (repeat' split) <;> simp (maxDischargeDepth := 100) +contextual [hk]

@[simp ↓] theorem popQueue_keeps {s₀ : State} (s : State) (p : Fin 5) (q : Fin 8) (hk : s₀.Keeps s) :
    s₀.Keeps (State.popQueue s p q) := by
  unfold State.popQueue; simp (maxDischargeDepth := 100) +contextual [hk]

@[simp ↓] theorem ethTransmit_keeps {s₀ : State} (t : Nat) (p : Fin 5) (q : Fin 8) (s : State) (hk : s₀.Keeps s) :
    s₀.Keeps (ethTransmit t p q s) := by
  unfold ethTransmit; (try dsimp only); (repeat' split) <;> simp (maxDischargeDepth := 100) +contextual [hk]

@[simp ↓] theorem swapWritten_keeps {s₀ : State} (s : State) (t : Nat) (p : Fin 4) (hk : s₀.Keeps s) :
    s₀.Keeps (State.swapWritten s t p) := by
  unfold State.swapWritten; simp (maxDischargeDepth := 100) +contextual [hk]

@[simp ↓] theorem putAdmin_keeps {s₀ : State} (s : State) (p : Fin 4) (l : GateList) (hk : s₀.Keeps s) :
    s₀.Keeps (State.putAdmin s p l) := by
  unfold State.putAdmin; simp (maxDischargeDepth := 100) +contextual [hk]

@[simp ↓] theorem gateSwap_keeps {s₀ : State} (t : Nat) (p : Fin 4) (s : State) (hk : s₀.Keeps s) :
    s₀.Keeps (gateSwap t p s) := by
  unfold gateSwap; (try dsimp only); (repeat' split) <;> simp (maxDischargeDepth := 100) +contextual [hk]

@[simp ↓] theorem linkDown_keeps {s₀ : State} (t : Nat) (p : Fin 4) (s : State) (hk : s₀.Keeps s) :
    s₀.Keeps (linkDown t p s) := by
  unfold linkDown; simp (maxDischargeDepth := 100) +contextual [hk]

@[simp ↓] theorem linkUp_keeps {s₀ : State} (t : Nat) (p : Fin 4) (s : State) (hk : s₀.Keeps s) :
    s₀.Keeps (linkUp t p s) := by
  unfold linkUp; simp (maxDischargeDepth := 100) +contextual [hk]

@[simp ↓] theorem macAgeOut_keeps {s₀ : State} (t vid mac : Nat) (s : State) (hk : s₀.Keeps s) :
    s₀.Keeps (macAgeOut t vid mac s) := by
  unfold macAgeOut; simp (maxDischargeDepth := 100) +contextual [hk]

@[simp ↓] theorem arpExpiry_keeps {s₀ : State} (t ip : Nat) (s : State) (hk : s₀.Keeps s) :
    s₀.Keeps (arpExpiry t ip s) := by
  unfold arpExpiry; simp (maxDischargeDepth := 100) +contextual [hk]

@[simp ↓] theorem asSyncSend_keeps {s₀ : State} (t : Nat) (p : Fin 4) (s : State) (hk : s₀.Keeps s) :
    s₀.Keeps (asSyncSend t p s) := by
  unfold asSyncSend; simp (maxDischargeDepth := 100) +contextual [hk]

@[simp ↓] theorem peerDelay_keeps {s₀ : State} (t : Nat) (p : Fin 4) (ns : Nat) (s : State) (hk : s₀.Keeps s) :
    s₀.Keeps (peerDelay t p ns s) := by
  unfold peerDelay; simp (maxDischargeDepth := 100) +contextual [hk]

@[simp ↓] theorem gmSecWritten_keeps {s₀ : State} (s : State) (t : Nat) (hk : s₀.Keeps s) :
    s₀.Keeps (State.gmSecWritten s t) := by
  unfold State.gmSecWritten; simp (maxDischargeDepth := 100) +contextual [hk]

@[simp ↓] theorem ringSend_keeps {s₀ : State} (s : State) (t : Nat) (r : Fin 4) (hk : s₀.Keeps s) :
    s₀.Keeps (State.ringSend s t r) := by
  unfold State.ringSend; simp (maxDischargeDepth := 100) +contextual [hk]

@[simp ↓] theorem ringDrain_keeps {s₀ : State} (t : Nat) (r : Fin 4) (k : Nat) (s : State) (hk : s₀.Keeps s) :
    s₀.Keeps (State.ringDrain t r k s) := by
  induction k generalizing s with
  | zero => exact hk
  | succ k ih =>
    unfold State.ringDrain
    split
    · exact hk
    · exact ih _ (ringSend_keeps _ _ _ hk)

@[simp ↓] theorem tailWritten_keeps {s₀ : State} (s : State) (t : Nat) (r : Fin 4) (hk : s₀.Keeps s) :
    s₀.Keeps (State.tailWritten s t r) := by
  unfold State.tailWritten; simp (maxDischargeDepth := 100) +contextual [hk]

end Sys2Proof.Machine
end

