-- ==== Sys2Proof/Laws/Keep/Rebase.lean ====
section
/-! SUPPORT. What the operations of Machine/Rebase.lean keep. -/

namespace Sys2Proof.Machine

@[simp ↓] theorem rebase_keeps {s₀ : State} (s : State) (d : Int) (hk : s₀.Keeps s) :
    s₀.Keeps (State.rebase s d) := by
  refine hk.trans ⟨rfl, Nat.le_refl _, List.suffix_refl _, id, id, fun k l hl => k l ?_⟩
  simpa [State.rebase, State.leg, Leg.rebase] using hl

end Sys2Proof.Machine
end

