-- ==== Sys2Proof/Laws/Keep/Mooring.lean ====
section
/-! SUPPORT. What the operations of Machine/Mooring.lean keep. -/

namespace Sys2Proof.Machine

@[simp ↓] theorem groupLost_keeps {s₀ : State} (s : State) (t : Nat) (g : Fin 4) (hk : s₀.Keeps s) :
    s₀.Keeps (State.groupLost s t g) := by
  unfold State.groupLost; simp (maxDischargeDepth := 100) +contextual [hk]

@[simp ↓] theorem unalign_keeps {s₀ : State} (s : State) (t : Nat) (hk : s₀.Keeps s) :
    s₀.Keeps (State.unalign s t) := by
  unfold State.unalign; simp (maxDischargeDepth := 100) +contextual [hk]

@[simp ↓] theorem losePath_keeps {s₀ : State} (s : State) (t : Nat) (hk : s₀.Keeps s) :
    s₀.Keeps (State.losePath s t) := by
  unfold State.losePath; simp (maxDischargeDepth := 100) +contextual [hk]

@[simp ↓] theorem loseModule_keeps {s₀ : State} (s : State) (t : Nat) (m : Fin 8) (hk : s₀.Keeps s) :
    s₀.Keeps (State.loseModule s t m) := by
  unfold State.loseModule; simp (maxDischargeDepth := 100) +contextual [hk]

@[simp ↓] theorem gainModule_keeps {s₀ : State} (s : State) (m : MemberIn) (hk : s₀.Keeps s) :
    s₀.Keeps (State.gainModule s m) := by
  unfold State.gainModule; simp (maxDischargeDepth := 100) +contextual [hk]

@[simp ↓] theorem ringBroken_keeps {s₀ : State} (s : State) (t : Nat) (hk : s₀.Keeps s) :
    s₀.Keeps (State.ringBroken s t) := by
  unfold State.ringBroken; simp (maxDischargeDepth := 100) +contextual [hk]

@[simp ↓] theorem membershipUpdate_keeps {s₀ : State} (t : Nat) (ms : List MemberIn) (ring forming : Bool) (s : State) (hk : s₀.Keeps s) :
    s₀.Keeps (membershipUpdate t ms ring forming s) := by
  unfold membershipUpdate; simp (maxDischargeDepth := 100) +contextual [hk]

@[simp ↓] theorem formwaitExpiry_keeps {s₀ : State} (t : Nat) (s : State) (hk : s₀.Keeps s) :
    s₀.Keeps (formwaitExpiry t s) := by
  unfold formwaitExpiry; simp (maxDischargeDepth := 100) +contextual [hk]

@[simp ↓] theorem portUp_keeps {s₀ : State} (t : Nat) (p : Fin 2) (peer : Fin 8) (pp : Fin 2) (serial polinv trips : Nat) (s : State) (hk : s₀.Keeps s) :
    s₀.Keeps (portUp t p peer pp serial polinv trips s) := by
  unfold portUp; simp (maxDischargeDepth := 100) +contextual [hk]

@[simp ↓] theorem reroute_keeps {s₀ : State} (s : State) (p : Fin 2) (hk : s₀.Keeps s) :
    s₀.Keeps (State.reroute s p) := by
  unfold State.reroute; simp (maxDischargeDepth := 100) +contextual [hk]

@[simp ↓] theorem portDown_keeps {s₀ : State} (t : Nat) (p : Fin 2) (lost : Nat) (s : State) (hk : s₀.Keeps s) :
    s₀.Keeps (portDown t p lost s) := by
  unfold portDown; simp (maxDischargeDepth := 100) +contextual [hk]

@[simp ↓] theorem hopCal_keeps {s₀ : State} (t : Nat) (p : Fin 2) (trips : Nat) (s : State) (hk : s₀.Keeps s) :
    s₀.Keeps (hopCal t p trips s) := by
  unfold hopCal; simp (maxDischargeDepth := 100) +contextual [hk]

@[simp ↓] theorem flitRetx_keeps {s₀ : State} (t : Nat) (p : Fin 2) (s : State) (hk : s₀.Keeps s) :
    s₀.Keeps (flitRetx t p s) := by
  unfold flitRetx; simp (maxDischargeDepth := 100) +contextual [hk]

@[simp ↓] theorem moorWritten_keeps {s₀ : State} (s : State) (t : Nat) (was : Bool) (hk : s₀.Keeps s) :
    s₀.Keeps (State.moorWritten s t was) := by
  unfold State.moorWritten; simp (maxDischargeDepth := 100) +contextual [hk]

@[simp ↓] theorem beaconSend_keeps {s₀ : State} (t : Nat) (p : Fin 2) (s : State) (hk : s₀.Keeps s) :
    s₀.Keeps (beaconSend t p s) := by
  unfold beaconSend; simp (maxDischargeDepth := 100) +contextual [hk]

@[simp ↓] theorem restartCarriers_keeps {s₀ : State} (s : State) (t : Nat) (hk : s₀.Keeps s) :
    s₀.Keeps (State.restartCarriers s t) := by
  unfold State.restartCarriers; simp (maxDischargeDepth := 100) +contextual [hk]

@[simp ↓] theorem loadTide_keeps {s₀ : State} (s : State) (own new : Nat) (hk : s₀.Keeps s) :
    s₀.Keeps (State.loadTide s own new) := by
  unfold State.loadTide; simp (maxDischargeDepth := 100) +contextual [hk]

@[simp ↓] theorem noteTideErr_keeps {s₀ : State} (s : State) (err : Int) (hk : s₀.Keeps s) :
    s₀.Keeps (State.noteTideErr s err) := by
  unfold State.noteTideErr; simp (maxDischargeDepth := 100) +contextual [hk]

@[simp ↓] theorem groupRuns_keeps {s₀ : State} (s : State) (t : Nat) (g : Fin 4) (hk : s₀.Keeps s) :
    s₀.Keeps (State.groupRuns s t g) := by
  unfold State.groupRuns; (try dsimp only); (repeat' split) <;> simp (maxDischargeDepth := 100) +contextual [hk]

@[simp ↓] theorem tellQueue_keeps {s₀ : State} (s : State) (hk : s₀.Keeps s) :
    s₀.Keeps (State.tellQueue s) := by
  unfold State.tellQueue; simp (maxDischargeDepth := 100) +contextual [hk]

@[simp ↓] theorem align_keeps {s₀ : State} (s : State) (t : Nat) (hk : s₀.Keeps s) :
    s₀.Keeps (State.align s t) := by
  unfold State.align; simp (maxDischargeDepth := 100) +contextual [hk]

@[simp ↓] theorem moveCount_keeps {s₀ : State} (s : State) (x : Nat) (hk : s₀.Keeps s) :
    s₀.Keeps (State.moveCount s x) := by
  unfold State.moveCount; simp (maxDischargeDepth := 100) +contextual [hk]

@[simp ↓] theorem followBeacon_keeps {s₀ : State} (s : State) (t own : Nat) (err : Int) (hk : s₀.Keeps s) :
    s₀.Keeps (State.followBeacon s t own err) := by
  unfold State.followBeacon; simp (maxDischargeDepth := 100) +contextual [hk]

@[simp ↓] theorem passBeacon_keeps {s₀ : State} (s : State) (p : Fin 2) (beacon path : Nat) (hk : s₀.Keeps s) :
    s₀.Keeps (State.passBeacon s p beacon path) := by
  unfold State.passBeacon; simp (maxDischargeDepth := 100) +contextual [hk]

@[simp ↓] theorem beaconArrival_keeps {s₀ : State} (t : Nat) (p : Fin 2) (beacon path : Nat) (fine : Fin 32) (s : State) (hk : s₀.Keeps s) :
    s₀.Keeps (beaconArrival t p beacon path fine s) := by
  unfold beaconArrival; simp (maxDischargeDepth := 100) +contextual [hk]

@[simp ↓] theorem descSend_keeps {s₀ : State} (t : Nat) (g : Fin 4) (s : State) (hk : s₀.Keeps s) :
    s₀.Keeps (descSend t g s) := by
  unfold descSend; simp (maxDischargeDepth := 100) +contextual [hk]

@[simp ↓] theorem descArrival_keeps {s₀ : State} (t : Nat) (g : Fin 4) (d : CarrierDesc) (s : State) (hk : s₀.Keeps s) :
    s₀.Keeps (descArrival t g d s) := by
  unfold descArrival; (try dsimp only); (repeat' split) <;> simp (maxDischargeDepth := 100) +contextual [hk]

@[simp ↓] theorem markerArrival_keeps {s₀ : State} (t : Nat) (g : Fin 4) (stamp : Int) (s : State) (hk : s₀.Keeps s) :
    s₀.Keeps (markerArrival t g stamp s) := by
  unfold markerArrival; (try dsimp only); (repeat' split) <;> simp (maxDischargeDepth := 100) +contextual [hk]

@[simp ↓] theorem gsTrim_keeps {s₀ : State} (s : State) (hk : s₀.Keeps s) :
    s₀.Keeps (State.gsTrim s) := by
  unfold State.gsTrim; simp (maxDischargeDepth := 100) +contextual [hk]

@[simp ↓] theorem gsyncEdge_keeps {s₀ : State} (t : Nat) (expected : Int) (s : State) (hk : s₀.Keeps s) :
    s₀.Keeps (gsyncEdge t expected s) := by
  unfold gsyncEdge; simp (maxDischargeDepth := 100) +contextual [hk]

@[simp ↓] theorem gsyncLoss_keeps {s₀ : State} (t : Nat) (s : State) (hk : s₀.Keeps s) :
    s₀.Keeps (gsyncLoss t s) := by
  unfold gsyncLoss; simp (maxDischargeDepth := 100) +contextual [hk]

@[simp ↓] theorem remoteDoorbell_keeps {s₀ : State} (t : Nat) (m : Fin 8) (b : Fin 32) (s : State) (hk : s₀.Keeps s) :
    s₀.Keeps (remoteDoorbell t m b s) := by
  unfold remoteDoorbell; simp (maxDischargeDepth := 100) +contextual [hk]

@[simp ↓] theorem relayedCommand_keeps {s₀ : State} (t k ip port : Nat) (b : List Byte) (s : State) (hk : s₀.Keeps s) :
    s₀.Keeps (relayedCommand t k ip port b s) := by
  unfold relayedCommand; simp (maxDischargeDepth := 100) +contextual [hk]

@[simp ↓] theorem groupTrigger_keeps {s₀ : State} (t trig : Nat) (s : State) (hk : s₀.Keeps s) :
    s₀.Keeps (groupTrigger t trig s) := by
  unfold groupTrigger; simp (maxDischargeDepth := 100) +contextual [hk]

@[simp ↓] theorem faultForward_keeps {s₀ : State} (t : Nat) (f : ForwardIn) (s : State) (hk : s₀.Keeps s) :
    s₀.Keeps (faultForward t f s) := by
  unfold faultForward; (try dsimp only); (repeat' split) <;> simp (maxDischargeDepth := 100) +contextual [hk]

end Sys2Proof.Machine
end

