-- ==== Sys2Proof/Laws/Keep/Power.lean ====
section
/-! SUPPORT. What the operations of Machine/Power.lean keep. -/

namespace Sys2Proof.Machine

@[simp ↓] theorem reBudget_keeps {s₀ : State} (s : State) (hk : s₀.Keeps s) :
    s₀.Keeps (State.reBudget s) := by
  unfold State.reBudget; simp (maxDischargeDepth := 100) +contextual [hk]

@[simp ↓] theorem updPwr_keeps {s₀ : State} (s : State) (f : Pwr → Pwr) (hk : s₀.Keeps s) :
    s₀.Keeps (State.updPwr s f) := by
  unfold State.updPwr; simp (maxDischargeDepth := 100) +contextual [hk]

@[simp ↓] theorem enableRails_keeps {s₀ : State} (s : State) (n : Fin 4) (hk : s₀.Keeps s) :
    s₀.Keeps (State.enableRails s n) := by
  unfold State.enableRails; simp (maxDischargeDepth := 100) +contextual [hk]

@[simp ↓] theorem railSlot_keeps {s₀ : State} (t : Nat) (s : State) (hk : s₀.Keeps s) :
    s₀.Keeps (railSlot t s) := by
  unfold railSlot; simp (maxDischargeDepth := 100) +contextual [hk]

@[simp ↓] theorem railsDown_keeps {s₀ : State} (s : State) (n : Fin 4) (hk : s₀.Keeps s) :
    s₀.Keeps (State.railsDown s n) := by
  unfold State.railsDown; simp (maxDischargeDepth := 100) +contextual [hk]

@[simp ↓] theorem dropEnable_keeps {s₀ : State} (s : State) (n : Fin 4) (hk : s₀.Keeps s) :
    s₀.Keeps (State.dropEnable s n) := by
  unfold State.dropEnable; simp (maxDischargeDepth := 100) +contextual [hk]

@[simp ↓] theorem reCond_keeps {s₀ : State} (s : State) (hk : s₀.Keeps s) :
    s₀.Keeps (State.reCond s) := by
  unfold State.reCond; simp (maxDischargeDepth := 100) +contextual [hk]

@[simp ↓] theorem inputValidity_keeps {s₀ : State} (t : Nat) (ka valid : Bool) (s : State) (hk : s₀.Keeps s) :
    s₀.Keeps (inputValidity t ka valid s) := by
  unfold inputValidity; simp (maxDischargeDepth := 100) +contextual [hk]

@[simp ↓] theorem inputCondition_keeps {s₀ : State} (t : Nat) (high : Bool) (s : State) (hk : s₀.Keeps s) :
    s₀.Keeps (inputCondition t high s) := by
  unfold inputCondition; simp (maxDischargeDepth := 100) +contextual [hk]

@[simp ↓] theorem unqueue_keeps {s₀ : State} (s : State) (n : Fin 4) (hk : s₀.Keeps s) :
    s₀.Keeps (State.unqueue s n) := by
  unfold State.unqueue; simp (maxDischargeDepth := 100) +contextual [hk]

@[simp ↓] theorem shed_keeps {s₀ : State} (s : State) (n : Fin 4) (hk : s₀.Keeps s) :
    s₀.Keeps (State.shed s n) := by
  unfold State.shed; simp (maxDischargeDepth := 100) +contextual [hk]

@[simp ↓] theorem eraseLw_keeps {s₀ : State} (s : State) (hk : s₀.Keeps s) :
    s₀.Keeps (State.eraseLw s) := by
  unfold State.eraseLw; simp (maxDischargeDepth := 100) +contextual [hk]

@[simp ↓] theorem finishStart_keeps {s₀ : State} (s : State) (hk : s₀.Keeps s) :
    s₀.Keeps (State.finishStart s) := by
  unfold State.finishStart; simp (maxDischargeDepth := 100) +contextual [hk]

@[simp ↓] theorem unqueueOver_keeps {s₀ : State} (s : State) (n : Fin 4) (hk : s₀.Keeps s) :
    s₀.Keeps (State.unqueueOver s n) := by
  unfold State.unqueueOver; simp (maxDischargeDepth := 100) +contextual [hk]

@[simp ↓] theorem shedOver_keeps {s₀ : State} (s : State) (hk : s₀.Keeps s) :
    s₀.Keeps (State.shedOver s) := by
  unfold State.shedOver; (try dsimp only); (repeat' split) <;> simp (maxDischargeDepth := 100) +contextual [hk]

@[simp ↓] theorem budgetGrace_keeps {s₀ : State} (t : Nat) (s : State) (hk : s₀.Keeps s) :
    s₀.Keeps (budgetGrace t s) := by
  unfold budgetGrace; simp (maxDischargeDepth := 100) +contextual [hk]

@[simp ↓] theorem powerLoss_keeps {s₀ : State} (t : Nat) (s : State) (hk : s₀.Keeps s) :
    s₀.Keeps (powerLoss t s) := by
  unfold powerLoss; simp (maxDischargeDepth := 100) +contextual [hk]

@[simp ↓] theorem busCollapse_keeps {s₀ : State} (t : Nat) (s : State) (hk : s₀.Keeps s) :
    s₀.Keeps (busCollapse t s) := by
  unfold busCollapse; simp (maxDischargeDepth := 100) +contextual [hk]

@[simp ↓] theorem xDomainEnd_keeps {s₀ : State} (t : Nat) (s : State) (hk : s₀.Keeps s) :
    s₀.Keeps (xDomainEnd t s) := by
  unfold xDomainEnd; simp (maxDischargeDepth := 100) +contextual [hk]

@[simp ↓] theorem powerLossClear_keeps {s₀ : State} (t : Nat) (s : State) (hk : s₀.Keeps s) :
    s₀.Keeps (powerLossClear t s) := by
  unfold powerLossClear; simp (maxDischargeDepth := 100) +contextual [hk]

@[simp ↓] theorem railFailure_keeps {s₀ : State} (t ch : Nat) (s : State) (hk : s₀.Keeps s) :
    s₀.Keeps (railFailure t ch s) := by
  unfold railFailure; simp (maxDischargeDepth := 100) +contextual [hk]

end Sys2Proof.Machine
end

