-- ==== Sys2Proof/Laws/Keep/View.lean ====
section
/-! SUPPORT. What the operations of Machine/View.lean keep. -/

namespace Sys2Proof.Machine

@[simp ↓] theorem readEffect_keeps {s₀ : State} (s : State) (req a : Nat) (d : RDesc) (ix : List Nat) (hk : s₀.Keeps s) :
    s₀.Keeps (State.readEffect s req a d ix) := by
  unfold State.readEffect; simp (maxDischargeDepth := 100) +contextual [hk]

@[simp ↓] theorem readReg_keeps {s₀ : State} (s : State) (req a : Nat) (hk : s₀.Keeps s) :
    s₀.Keeps (State.readReg s req a).1 := by
  unfold State.readReg; (try dsimp only); (repeat' split) <;> simp (maxDischargeDepth := 100) +contextual [hk]

end Sys2Proof.Machine
end

