-- ==== Sys2Proof/Laws/Keep/Bus.lean ====
section
/-! SUPPORT. What the operations of Machine/Bus.lean keep. -/

namespace Sys2Proof.Machine

@[simp ↓] theorem engineError_keeps {s₀ : State} (s : State) (req addr : Nat) (write : Bool) (hk : s₀.Keeps s) :
    s₀.Keeps (State.engineError s req addr write) := by
  unfold State.engineError; simp (maxDischargeDepth := 100) +contextual [hk]

@[simp ↓] theorem accessError_keeps {s₀ : State} (s : State) (req addr kind : Nat) (write : Bool) (hk : s₀.Keeps s) :
    s₀.Keeps (State.accessError s req addr kind write) := by
  unfold State.accessError; simp (maxDischargeDepth := 100) +contextual [hk]

@[simp ↓] theorem cfgReject_keeps {s₀ : State} (s : State) (req reason a : Nat) (hk : s₀.Keeps s) :
    s₀.Keeps (State.cfgReject s req reason a) := by
  unfold State.cfgReject; simp (maxDischargeDepth := 100) +contextual [hk]

@[simp ↓] theorem wrotePwm_keeps {s₀ : State} (s : State) (base i : Nat) (old : Word) (hk : s₀.Keeps s) :
    s₀.Keeps (State.wrotePwm s base i old) := by
  unfold State.wrotePwm; simp (maxDischargeDepth := 100) +contextual [hk]

@[simp ↓] theorem stepsFromDrv_keeps {s₀ : State} (s : State) (i : Nat) (hk : s₀.Keeps s) :
    s₀.Keeps (State.stepsFromDrv s i) := by
  unfold State.stepsFromDrv; simp (maxDischargeDepth := 100) +contextual [hk]

@[simp ↓] theorem wroteGate_keeps {s₀ : State} (s : State) (base i : Nat) (old : Word) (hk : s₀.Keeps s) :
    s₀.Keeps (State.wroteGate s base i old) := by
  unfold State.wroteGate; simp (maxDischargeDepth := 100) +contextual [hk]

@[simp ↓] theorem wroteBw_keeps {s₀ : State} (s : State) (base : Nat) (w : Word) (hk : s₀.Keeps s) :
    s₀.Keeps (State.wroteBw s base w) := by
  unfold State.wroteBw; simp (maxDischargeDepth := 100) +contextual [hk]

@[simp ↓] theorem wroteEth_keeps {s₀ : State} (s : State) (base i : Nat) (w : Word) (hk : s₀.Keeps s) :
    s₀.Keeps (State.wroteEth s base i w) := by
  unfold State.wroteEth; simp (maxDischargeDepth := 100) +contextual [hk]

@[simp ↓] theorem wroteCan_keeps {s₀ : State} (s : State) (base : Nat) (ix : List Nat) (old w : Word) (hk : s₀.Keeps s) :
    s₀.Keeps (State.wroteCan s base ix old w) := by
  unfold State.wroteCan; simp (maxDischargeDepth := 100) +contextual [hk]

@[simp ↓] theorem wroteMessage_keeps {s₀ : State} (s : State) (b : Fin 32) (i : Fin 16) (w : Word) (hk : s₀.Keeps s) :
    s₀.Keeps (State.wroteMessage s b i w) := by
  unfold State.wroteMessage; (try dsimp only); (repeat' split) <;> simp (maxDischargeDepth := 100) +contextual [hk]

@[simp ↓] theorem wroteBerth_keeps {s₀ : State} (s : State) (req base : Nat) (ix : List Nat) (old w : Word) (hk : s₀.Keeps s) :
    s₀.Keeps (State.wroteBerth s req base ix old w) := by
  unfold State.wroteBerth; simp (maxDischargeDepth := 100) +contextual [hk]

@[simp ↓] theorem wroteLogb_keeps {s₀ : State} (s : State) (base : Nat) (old w : Word) (hk : s₀.Keeps s) :
    s₀.Keeps (State.wroteLogb s base old w) := by
  unfold State.wroteLogb; simp (maxDischargeDepth := 100) +contextual [hk]

@[simp ↓] theorem wroteMoor_keeps {s₀ : State} (s : State) (base : Nat) (old : Word) (hk : s₀.Keeps s) :
    s₀.Keeps (State.wroteMoor s base old) := by
  unfold State.wroteMoor; simp (maxDischargeDepth := 100) +contextual [hk]

@[simp ↓] theorem wroteTide_keeps {s₀ : State} (s : State) (base : Nat) (hk : s₀.Keeps s) :
    s₀.Keeps (State.wroteTide s base) := by
  unfold State.wroteTide; simp (maxDischargeDepth := 100) +contextual [hk]

@[simp ↓] theorem wroteFbk_keeps {s₀ : State} (s : State) (base i : Nat) (old : Word) (hk : s₀.Keeps s) :
    s₀.Keeps (State.wroteFbk s base i old) := by
  unfold State.wroteFbk; simp (maxDischargeDepth := 100) +contextual [hk]

@[simp ↓] theorem wroteLe_keeps {s₀ : State} (s : State) (base i : Nat) (old w : Word) (hk : s₀.Keeps s) :
    s₀.Keeps (State.wroteLe s base i old w) := by
  unfold State.wroteLe; simp (maxDischargeDepth := 100) +contextual [hk]

@[simp ↓] theorem wrote_keeps {s₀ : State} (s : State) (req a : Nat) (d : RDesc) (ix : List Nat) (old w : Word) (hk : s₀.Keeps s) :
    s₀.Keeps (State.wrote s req a d ix old w) := by
  unfold State.wrote; (try dsimp only); (repeat' split) <;> simp (maxDischargeDepth := 100) +contextual [hk]

@[simp ↓] theorem keepInForce_keeps {s₀ : State} (s : State) (a : Nat) (d : RDesc) (i : Nat) (new : Word) (hk : s₀.Keeps s) :
    s₀.Keeps (State.keepInForce s a d i new) := by
  unfold State.keepInForce; simp (maxDischargeDepth := 100) +contextual [hk]

@[simp ↓] theorem placeFirst_keeps {s₀ : State} (s : State) (a : Nat) (hk : s₀.Keeps s) :
    s₀.Keeps (State.placeFirst s a) := by
  unfold State.placeFirst; simp (maxDischargeDepth := 100) +contextual [hk]

@[simp ↓] theorem writeListed_keeps {s₀ : State} (s : State) (start : Bool) (req a : Nat) (d : RDesc) (ix : List Nat) (w : Word) (addr : Nat) (hk : s₀.Keeps s) :
    s₀.Keeps (State.writeListed s start req a d ix w addr).1 := by
  unfold State.writeListed; (try dsimp only); (repeat' split) <;> simp (maxDischargeDepth := 100) +contextual [hk]

@[simp ↓] theorem writeReg_keeps {s₀ : State} (s : State) (req a : Nat) (w : Word) (addr : Nat) (hk : s₀.Keeps s) :
    s₀.Keeps (State.writeReg s req a w addr).1 := by
  unfold State.writeReg; (try dsimp only); (repeat' split) <;> simp (maxDischargeDepth := 100) +contextual [hk]

theorem writeEngine_keeps {s₀ : State} (s : State) (n : Fin 4) (off : Nat) (w : Word) (hk : s₀.Keeps s) :
    ∀ t ∈ State.writeEngine s n off w, s₀.Keeps t := by
  unfold State.writeEngine; (try dsimp only); (repeat' split) <;> simp (maxDischargeDepth := 100) +contextual [hk]

@[simp ↓] theorem memRead_keeps {s₀ : State} (s : State) (req a : Nat) (hk : s₀.Keeps s) :
    s₀.Keeps (State.memRead s req a).1 := by
  unfold State.memRead; (try dsimp only); (repeat' split) <;> simp (maxDischargeDepth := 100) +contextual [hk]

@[simp ↓] theorem busWrite_keeps {s₀ : State} (s : State) (req addr width : Nat) (w : Word) (hk : s₀.Keeps s) :
    s₀.Keeps (s.busWrite req addr width w).1 := by
  unfold State.busWrite
  dsimp only
  repeat' split
  all_goals first
    | (simp (maxDischargeDepth := 100) [hk]; done)
    | exact writeEngine_keeps _ _ _ _ hk _ ‹_›

@[simp ↓] theorem busRead_keeps {s₀ : State} (s : State) (req addr width : Nat) (hk : s₀.Keeps s) :
    s₀.Keeps (State.busRead s req addr width).1 := by
  unfold State.busRead; (try dsimp only); (repeat' split) <;> simp (maxDischargeDepth := 100) +contextual [hk]

@[simp ↓] theorem busAt_keeps {s₀ : State} (s : State) (t req : Nat) (store : Bool) (hk : s₀.Keeps s) :
    s₀.Keeps (State.busAt s t req store) := by
  unfold State.busAt; simp (maxDischargeDepth := 100) +contextual [hk]

@[simp ↓] theorem regWriteAt_keeps {s₀ : State} (t req a : Nat) (w : Word) (s : State) (hk : s₀.Keeps s) :
    s₀.Keeps (regWriteAt t req a w s) := by
  unfold regWriteAt; simp (maxDischargeDepth := 100) +contextual [hk]

@[simp ↓] theorem regReadAt_keeps {s₀ : State} (t req a : Nat) (s : State) (hk : s₀.Keeps s) :
    s₀.Keeps (regReadAt t req a s) := by
  unfold regReadAt; simp (maxDischargeDepth := 100) +contextual [hk]

@[simp ↓] theorem remoteAnswer_keeps {s₀ : State} (s : State) (back : Fin 8) (req : Nat) (v : Except Nat Word) (hk : s₀.Keeps s) :
    s₀.Keeps (State.remoteAnswer s back req v) := by
  cases v <;> exact sendTo_keeps _ _ _ _ hk

@[simp ↓] theorem remoteServe_keeps {s₀ : State} (s : State) (back : Fin 8) (req a : Nat) (write : Bool) (w : Word) (hk : s₀.Keeps s) :
    s₀.Keeps (State.remoteServe s back req a write w) := by
  cases write
  · exact remoteAnswer_keeps _ _ _ _ (busRead_keeps _ _ _ _ hk)
  · exact remoteAnswer_keeps _ _ _ _ (busWrite_keeps _ _ _ _ _ hk)

@[simp ↓] theorem remoteAccess_keeps {s₀ : State} (t req addr : Nat) (write : Bool) (w : Word) (s : State) (hk : s₀.Keeps s) :
    s₀.Keeps (remoteAccess t req addr write w s) := by
  unfold remoteAccess
  dsimp only
  split
  · exact upto_keeps _ _ hk
  · exact remoteServe_keeps _ _ _ _ _ _ (upto_keeps _ _ hk)

@[simp ↓] theorem hostError_keeps {s₀ : State} (s : State) (req addr : Nat) (write : Bool) (hk : s₀.Keeps s) :
    s₀.Keeps (State.hostError s req addr write) := by
  unfold State.hostError; simp (maxDischargeDepth := 100) +contextual [hk]

@[simp ↓] theorem fabricWatchdog_keeps {s₀ : State} (t req addr : Nat) (write : Bool) (s : State) (hk : s₀.Keeps s) :
    s₀.Keeps (fabricWatchdog t req addr write s) := by
  unfold fabricWatchdog; simp (maxDischargeDepth := 100) +contextual [hk]

@[simp ↓] theorem bwFqclr_keeps {s₀ : State} (t req : Nat) (w : Word) (gone : List (FName × Nat × Nat)) (s : State) (hk : s₀.Keeps s) :
    s₀.Keeps (bwFqclr t req w gone s) := by
  unfold bwFqclr; simp (maxDischargeDepth := 100) +contextual [hk]

end Sys2Proof.Machine
end

