-- ==== Sys2Proof/Laws/Keep/Manifest.lean ====
section
/-! SUPPORT. What the operations of Machine/Manifest.lean keep. -/

namespace Sys2Proof.Machine

@[simp ↓] theorem elemReject_keeps {s₀ : State} (s : State) (reason i : Nat) (hk : s₀.Keeps s) :
    s₀.Keeps (State.elemReject s reason i) := by
  unfold State.elemReject; simp (maxDischargeDepth := 100) +contextual [hk]

@[simp ↓] theorem writeRecord_keeps {s₀ : State} (s : State) (start : Bool) (addr : Nat) (d : RDesc) (ix : List Nat) (mask value : Word) (hk : s₀.Keeps s) :
    s₀.Keeps (State.writeRecord s start addr d ix mask value).1 := by
  unfold State.writeRecord; simp (maxDischargeDepth := 100) +contextual [hk]

@[simp ↓] theorem applyRecord_keeps {s₀ : State} (s : State) (start : Bool) (i : Nat) (b : List Byte) (hk : s₀.Keeps s) :
    s₀.Keeps (s.applyRecord start i b) := by
  unfold State.applyRecord
  extract_lets addr mask value a
  (repeat' split) <;> (try split) <;> simp (maxDischargeDepth := 100) [hk]

@[simp ↓] theorem applyRecords_keeps {s₀ : State} (s : State) (start : Bool) (els : List (Elem × Nat)) (hk : s₀.Keeps s) :
    s₀.Keeps (State.applyRecords s start els) := by
  unfold State.applyRecords; simp (maxDischargeDepth := 100) +contextual [hk]

@[simp ↓] theorem putProgram_keeps {s₀ : State} (s : State) (n : Fin 4) (start : Nat) (ws : List Nat) (hk : s₀.Keeps s) :
    s₀.Keeps (State.putProgram s n start ws) := by
  unfold State.putProgram; simp (maxDischargeDepth := 100) +contextual [hk]

@[simp ↓] theorem putCoefs_keeps {s₀ : State} (s : State) (n : Fin 4) (start : Nat) (ws : List Nat) (hk : s₀.Keeps s) :
    s₀.Keeps (State.putCoefs s n start ws) := by
  unfold State.putCoefs; simp (maxDischargeDepth := 100) +contextual [hk]

@[simp ↓] theorem loadProgramBlob_keeps {s₀ : State} (s : State) (b : Blob) (hk : s₀.Keeps s) :
    s₀.Keeps (State.loadProgramBlob s b).1 := by
  unfold State.loadProgramBlob; (try dsimp only); refine foldl_keeps_fst (fun p a hp => ?_) _ hk; (try dsimp only); (repeat' split) <;> simp (maxDischargeDepth := 100) +contextual [hp]

@[simp ↓] theorem loadBlob_keeps {s₀ : State} (s : State) (b : Blob) (hk : s₀.Keeps s) :
    s₀.Keeps (State.loadBlob s b).1 := by
  unfold State.loadBlob; (try dsimp only); (repeat' split) <;> simp (maxDischargeDepth := 100) +contextual [hk]

@[simp ↓] theorem applyBlobs_keeps {s₀ : State} (s : State) (els : List (Elem × Nat)) (hk : s₀.Keeps s) :
    s₀.Keeps (State.applyBlobs s els) := by
  unfold State.applyBlobs; (try dsimp only); (repeat' (split <;> try (rename_i e; replace e := congrArg Prod.fst e; dsimp only at e; subst e))) <;> (try apply foldl_keeps) <;> (try intro _ _ _) <;> (try dsimp only) <;> (repeat' (split <;> try (rename_i e; replace e := congrArg Prod.fst e; dsimp only at e; subst e))) <;> simp (maxDischargeDepth := 100) +contextual [*]

@[simp ↓] theorem startSet_keeps {s₀ : State} (s : State) (b : Option (List Byte)) (hk : s₀.Keeps s) :
    s₀.Keeps (State.startSet s b) := by
  unfold State.startSet; (try dsimp only); (repeat' split) <;> simp (maxDischargeDepth := 100) +contextual [hk]

@[simp ↓] theorem initials_keeps {s₀ : State} (s : State) (els : List (Elem × Nat)) (hk : s₀.Keeps s) :
    s₀.Keeps (State.initials s els).1 := by
  unfold State.initials; simp (maxDischargeDepth := 100) +contextual [hk]

@[simp ↓] theorem rejectUnknown_keeps {s₀ : State} (s : State) (els : List (Elem × Nat)) (hk : s₀.Keeps s) :
    s₀.Keeps (State.rejectUnknown s els) := by
  unfold State.rejectUnknown; simp (maxDischargeDepth := 100) +contextual [hk]

@[simp ↓] theorem applyManifest_keeps {s₀ : State} (s : State) (hk : s₀.Keeps s) :
    s₀.Keeps (State.applyManifest s).1 := by
  unfold State.applyManifest; (try dsimp only); (repeat' split) <;> simp (maxDischargeDepth := 100) +contextual [hk]

@[simp ↓] theorem stageSafety_keeps {s₀ : State} (s : State) (x : SafetySet) (hk : s₀.Keeps s) :
    s₀.Keeps (State.stageSafety s x) := by
  unfold State.stageSafety; (try dsimp only); (repeat' split) <;> simp (maxDischargeDepth := 100) +contextual [hk]

@[simp ↓] theorem eraseBank_keeps {s₀ : State} (s : State) (b : Fin 2) (hk : s₀.Keeps s) :
    s₀.Keeps (State.eraseBank s b) := by
  unfold State.eraseBank; simp (maxDischargeDepth := 100) +contextual [hk]

end Sys2Proof.Machine
end

