-- ==== Sys2Proof/Laws/Keep/Command.lean ====
section
/-! SUPPORT. What the operations of Machine/Command.lean keep. -/

namespace Sys2Proof.Machine

@[simp ↓] theorem ok_keeps {s₀ : State} (s : State) (data : List Byte) (hk : s₀.Keeps s) :
    s₀.Keeps (State.ok s data).1 := by
  unfold State.ok; simp (maxDischargeDepth := 100) +contextual [hk]

@[simp ↓] theorem no_keeps {s₀ : State} (s : State) (status : Nat) (detail : Nat) (hk : s₀.Keeps s) :
    s₀.Keeps (State.no s status detail).1 := by
  unfold State.no; simp (maxDischargeDepth := 100) +contextual [hk]

@[simp ↓] theorem noState_keeps {s₀ : State} (s : State) (p : Pkt) (hk : s₀.Keeps s) :
    s₀.Keeps (State.noState s p).1 := by
  unfold State.noState; simp (maxDischargeDepth := 100) +contextual [hk]

@[simp ↓] theorem authFail_keeps {s₀ : State} (s : State) (ch : Chan) (hk : s₀.Keeps s) :
    s₀.Keeps (State.authFail s ch) := by
  unfold State.authFail; simp (maxDischargeDepth := 100) +contextual [hk]

@[simp ↓] theorem authEnd_keeps {s₀ : State} (s : State) (ch : Chan) (hk : s₀.Keeps s) :
    s₀.Keeps (State.authEnd s ch) := by
  unfold State.authEnd; simp (maxDischargeDepth := 100) +contextual [hk]

@[simp ↓] theorem keepReply_keeps {s₀ : State} (s : State) (c : Cmd) (b : List Byte) (pending : Bool) (hk : s₀.Keeps s) :
    s₀.Keeps (State.keepReply s c b pending) := by
  unfold State.keepReply; simp (maxDischargeDepth := 100) +contextual [hk]

@[simp ↓] theorem conclude_keeps {s₀ : State} (s : State) (c : Cmd) (a : Ans) (hk : s₀.Keeps s) :
    s₀.Keeps (State.conclude s c a) := by
  unfold State.conclude; (try dsimp only); (repeat' split) <;> simp (maxDischargeDepth := 100) +contextual [hk]

@[simp ↓] theorem judge_keeps {s₀ : State} (s : State) (c : Cmd) (body : State → Cmd → State × Ans) (hk : s₀.Keeps s)
    (hb : ∀ s c, s₀.Keeps s → s₀.Keeps (body s c).1) : s₀.Keeps (s.judge c body).1 := by
  unfold State.judge; (repeat' split) <;> simp (maxDischargeDepth := 100) +contextual [hk, hb]

@[simp ↓] theorem authorize_keeps {s₀ : State} (s : State) (c : Cmd) (body : State → Cmd → State × Ans) (hk : s₀.Keeps s)
    (hb : ∀ s c, s₀.Keeps s → s₀.Keeps (body s c).1) : s₀.Keeps (s.authorize c body) := by
  unfold State.authorize; dsimp only; (repeat' split) <;> simp (maxDischargeDepth := 100) +contextual [hk, hb]

@[simp ↓] theorem sequence_keeps {s₀ : State} (s : State) (c : Cmd) (body : State → Cmd → State × Ans) (hk : s₀.Keeps s)
    (hb : ∀ s c, s₀.Keeps s → s₀.Keeps (body s c).1) : s₀.Keeps (s.sequence c body) := by
  unfold State.sequence; dsimp only; (repeat' split) <;> simp (maxDischargeDepth := 100) +contextual [hk, hb]

@[simp ↓] theorem serve_keeps {s₀ : State} (s : State) (q : Packet) (body : State → Cmd → State × Ans) (hk : s₀.Keeps s)
    (hb : ∀ s c, s₀.Keeps s → s₀.Keeps (body s c).1) : s₀.Keeps (s.serve q body) := by
  unfold State.serve
  dsimp only
  split
  · simp (maxDischargeDepth := 100) +contextual [hk]
  · exact sequence_keeps _ _ _ (takeChannel_keeps _ _ hk _ ‹_›) hb

@[simp ↓] theorem endStale_keeps {s₀ : State} (s : State) (hk : s₀.Keeps s) :
    s₀.Keeps (State.endStale s) := by
  unfold State.endStale; simp (maxDischargeDepth := 100) +contextual [hk]

@[simp ↓] theorem command_keeps {s₀ : State} (s : State) (t : Nat) (sel : Pkt → Bool)
    (body : State → Cmd → State × Ans) (hk : s₀.Keeps s)
    (hb : ∀ s c, s₀.Keeps s → s₀.Keeps (body s c).1) : s₀.Keeps (s.command t sel body) := by
  unfold State.command; dsimp only; (repeat' split) <;> simp (maxDischargeDepth := 100) +contextual [hk, hb]

@[simp ↓] theorem memberInfo_keeps {s₀ : State} (s : State) (m : Fin 8) (hk : s₀.Keeps s) :
    s₀.Keeps (State.memberInfo s m).2 := by
  unfold State.memberInfo; simp (maxDischargeDepth := 100) +contextual [hk]

@[simp ↓] theorem perMember_keeps {s₀ : State} (s : State) (own : List Byte)
    (other : State → Fin 8 → List Byte × State) (hk : s₀.Keeps s)
    (ho : ∀ s m, s₀.Keeps s → s₀.Keeps (other s m).2) : s₀.Keeps (s.perMember own other).2 := by
  unfold State.perMember
  refine List.foldlRecOn (motive := fun (r : List Byte × State) => s₀.Keeps r.2) s.members _ hk fun r hr m _ => ?_
  dsimp only
  split
  · exact hr
  · exact ho _ _ hr

@[simp ↓] theorem cmdInfo_keeps {s₀ : State} (s : State) (c : Cmd) (hk : s₀.Keeps s) :
    s₀.Keeps (cmdInfo s c).1 := by
  unfold cmdInfo; simp (maxDischargeDepth := 100) +contextual [hk]

@[simp ↓] theorem hostRead_keeps {s₀ : State} (s : State) (req a : Nat) (hk : s₀.Keeps s) :
    s₀.Keeps (State.hostRead s req a).1 := by
  unfold State.hostRead; simp (maxDischargeDepth := 100) +contextual [hk]

@[simp ↓] theorem hostWrite_keeps {s₀ : State} (s : State) (req a : Nat) (w : Word) (hk : s₀.Keeps s) :
    s₀.Keeps (State.hostWrite s req a w).1 := by
  unfold State.hostWrite; simp (maxDischargeDepth := 100) +contextual [hk]

@[simp ↓] theorem readWords_keeps {s₀ : State} (req a n : Nat) (s : State) (l : List Byte) (hk : s₀.Keeps s) :
    s₀.Keeps (State.readWords req a n s l).1 := by
  induction n generalizing a s l with
  | zero => exact hk
  | succ k ih =>
    unfold State.readWords
    split <;> (rename_i e; replace e := congrArg Prod.fst e; dsimp only at e; subst e)
    · exact ih _ _ _ (hostRead_keeps _ _ _ hk)
    · exact hostRead_keeps _ _ _ hk

@[simp ↓] theorem cmdRegRead_keeps {s₀ : State} (s : State) (c : Cmd) (hk : s₀.Keeps s) :
    s₀.Keeps (cmdRegRead s c).1 := by
  unfold cmdRegRead; (try dsimp only); (repeat' (split <;> try (rename_i e; replace e := congrArg Prod.fst e; dsimp only at e; subst e))) <;> simp (maxDischargeDepth := 100) +contextual [hk]

@[simp ↓] theorem writeWords_keeps {s₀ : State} (req a : Nat) (l : List Nat) (k : Nat) (s : State) (hk : s₀.Keeps s) :
    s₀.Keeps (State.writeWords req a l k s).1 := by
  induction l generalizing k s with
  | nil => exact hk
  | cons w r ih =>
    unfold State.writeWords
    dsimp only
    split
    · exact hostWrite_keeps _ _ _ _ hk
    · exact ih _ _ (hostWrite_keeps _ _ _ _ hk)

@[simp ↓] theorem cmdRegWrite_keeps {s₀ : State} (s : State) (c : Cmd) (hk : s₀.Keeps s) :
    s₀.Keeps (cmdRegWrite s c).1 := by
  unfold cmdRegWrite; (try dsimp only); (repeat' (split <;> try (rename_i e; replace e := congrArg Prod.fst e; dsimp only at e; subst e))) <;> simp (maxDischargeDepth := 100) +contextual [hk]

@[simp ↓] theorem cmdRegModify_keeps {s₀ : State} (s : State) (c : Cmd) (hk : s₀.Keeps s) :
    s₀.Keeps (cmdRegModify s c).1 := by
  unfold cmdRegModify; (try dsimp only); (repeat' (split <;> try (rename_i e; replace e := congrArg Prod.fst e; dsimp only at e; subst e))) <;> simp (maxDischargeDepth := 100) +contextual [hk]

end Sys2Proof.Machine
end

