-- ==== Sys2Proof/Laws/Keep/CmdAxis.lean ====
section
/-! SUPPORT. What the operations of Machine/CmdAxis.lean keep. -/

namespace Sys2Proof.Machine

@[simp ↓] theorem axisOff_keeps {s₀ : State} (s : State) (n : Fin 4) (hk : s₀.Keeps s) :
    s₀.Keeps (State.axisOff s n) := by
  unfold State.axisOff; simp (maxDischargeDepth := 100) +contextual [hk]

@[simp ↓] theorem axisMove_keeps {s₀ : State} (s : State) (n : Fin 4) (dst : AxState) (asc : Bool) (hk : s₀.Keeps s) :
    s₀.Keeps (State.axisMove s n dst asc) := by
  unfold State.axisMove; simp (maxDischargeDepth := 100) +contextual [hk]

@[simp ↓] theorem axisGo_keeps {s₀ : State} (s : State) (n : Fin 4) (dst : AxState) (asc : Bool) (hk : s₀.Keeps s) :
    s₀.Keeps (State.axisGo s n dst asc).1 := by
  unfold State.axisGo; (try dsimp only); (repeat' split) <;> simp (maxDischargeDepth := 100) +contextual [hk]

@[simp ↓] theorem axisRequest_keeps {s₀ : State} (s : State) (n : Fin 4) (dst : AxState) (option : Nat) (hk : s₀.Keeps s) :
    s₀.Keeps (State.axisRequest s n dst option).1 := by
  unfold State.axisRequest; (try dsimp only); (repeat' split) <;> simp (maxDischargeDepth := 100) +contextual [hk]

@[simp ↓] theorem axisAll_keeps {s₀ : State} (s : State) (dst : AxState) (option : Nat) (hk : s₀.Keeps s) :
    s₀.Keeps (State.axisAll s dst option).1 := by
  unfold State.axisAll; simp (maxDischargeDepth := 100) +contextual [hk]

@[simp ↓] theorem axisGroup_keeps {s₀ : State} (s : State) (dst : AxState) (option : Nat) (hk : s₀.Keeps s) :
    s₀.Keeps (State.axisGroup s dst option) := by
  unfold State.axisGroup; simp (maxDischargeDepth := 100) +contextual [hk]

@[simp ↓] theorem cmdAxisState_keeps {s₀ : State} (s : State) (c : Cmd) (hk : s₀.Keeps s) :
    s₀.Keeps (cmdAxisState s c).1 := by
  unfold cmdAxisState; (try dsimp only); (repeat' (split <;> try (rename_i e; replace e := congrArg Prod.fst e; dsimp only at e; subst e))) <;> simp (maxDischargeDepth := 100) +contextual [hk]

@[simp ↓] theorem enableDone_keeps {s₀ : State} (s : State) (n : Fin 4) (dst : AxState) (prev : Nat) (hk : s₀.Keeps s) :
    s₀.Keeps (State.enableDone s n dst prev) := by
  unfold State.enableDone; simp (maxDischargeDepth := 100) +contextual [hk]

@[simp ↓] theorem axisComplete_keeps {s₀ : State} (t : Nat) (n : Fin 4) (s : State) (hk : s₀.Keeps s) :
    s₀.Keeps (axisComplete t n s) := by
  unfold axisComplete; (try dsimp only); (repeat' split) <;> simp (maxDischargeDepth := 100) +contextual [hk]

@[simp ↓] theorem validFor_keeps {s₀ : State} (s : State) (n : Fin 4) (ms : Nat) (hk : s₀.Keeps s) :
    s₀.Keeps (State.validFor s n ms) := by
  unfold State.validFor; simp (maxDischargeDepth := 100) +contextual [hk]

@[simp ↓] theorem setpoint_keeps {s₀ : State} (s : State) (n : Fin 4) (l : List (Nat × Word)) (ms : Nat) (clamped : Bool) (data : List Byte) (hk : s₀.Keeps s) :
    s₀.Keeps (State.setpoint s n l ms clamped data).1 := by
  unfold State.setpoint; simp (maxDischargeDepth := 100) +contextual [hk]

@[simp ↓] theorem inRun_keeps {s₀ : State} (s : State) (c : Cmd) (f : Fin 4 → State × Ans)
    (hk : s₀.Keeps s) (hf : ∀ n, s₀.Keeps (f n).1) : s₀.Keeps (s.inRun c f).1 := by
  unfold State.inRun; (repeat' split) <;> simp (maxDischargeDepth := 100) +contextual [hk, hf]

@[simp ↓] theorem cmdTorque_keeps {s₀ : State} (s : State) (c : Cmd) (hk : s₀.Keeps s) :
    s₀.Keeps (cmdTorque s c).1 := by
  unfold cmdTorque; simp (maxDischargeDepth := 100) +contextual [hk]

@[simp ↓] theorem cmdSpeed_keeps {s₀ : State} (s : State) (c : Cmd) (hk : s₀.Keeps s) :
    s₀.Keeps (cmdSpeed s c).1 := by
  unfold cmdSpeed; simp (maxDischargeDepth := 100) +contextual [hk]

@[simp ↓] theorem cmdLine_keeps {s₀ : State} (s : State) (c : Cmd) (hk : s₀.Keeps s) :
    s₀.Keeps (cmdLine s c).1 := by
  unfold cmdLine; simp (maxDischargeDepth := 100) +contextual [hk]

@[simp ↓] theorem setpointExpiry_keeps {s₀ : State} (t : Nat) (n : Fin 4) (s : State) (hk : s₀.Keeps s) :
    s₀.Keeps (setpointExpiry t n s) := by
  unfold setpointExpiry; simp (maxDischargeDepth := 100) +contextual [hk]

end Sys2Proof.Machine
end

