-- ==== Sys2Proof/Laws/Keep/CmdEngine.lean ====
section
/-! SUPPORT. What the operations of Machine/CmdEngine.lean keep. -/

namespace Sys2Proof.Machine

@[simp ↓] theorem loopOpen_keeps {s₀ : State} (s : State) (c : Cmd) (f : Fin 4 → State × Ans)
    (hk : s₀.Keeps s) (hf : ∀ n, s₀.Keeps (f n).1) : s₀.Keeps (s.loopOpen c f).1 := by
  unfold State.loopOpen; (repeat' split) <;> simp (maxDischargeDepth := 100) +contextual [hk, hf]

@[simp ↓] theorem loadWords_keeps {s₀ : State} (s : State) (c : Cmd) (n : Fin 4) (hk : s₀.Keeps s) :
    s₀.Keeps (State.loadWords s c n).1 := by
  unfold State.loadWords; simp (maxDischargeDepth := 100) +contextual [hk]

@[simp ↓] theorem loadNamed_keeps {s₀ : State} (s : State) (c : Cmd) (n : Fin 4) (hk : s₀.Keeps s) :
    s₀.Keeps (State.loadNamed s c n).1 := by
  unfold State.loadNamed; (try dsimp only); (repeat' split) <;> simp (maxDischargeDepth := 100) +contextual [hk]

@[simp ↓] theorem cmdProgramLoad_keeps {s₀ : State} (s : State) (c : Cmd) (hk : s₀.Keeps s) :
    s₀.Keeps (cmdProgramLoad s c).1 := by
  unfold cmdProgramLoad; (try dsimp only); (repeat' split) <;> simp (maxDischargeDepth := 100) +contextual [hk]

@[simp ↓] theorem validationComplete_keeps {s₀ : State} (t : Nat) (n : Fin 4) (s : State) (hk : s₀.Keeps s) :
    s₀.Keeps (validationComplete t n s) := by
  unfold validationComplete; (try dsimp only); (repeat' split) <;> simp (maxDischargeDepth := 100) +contextual [hk]

@[simp ↓] theorem cmdCoeffWrite_keeps {s₀ : State} (s : State) (c : Cmd) (hk : s₀.Keeps s) :
    s₀.Keeps (cmdCoeffWrite s c).1 := by
  unfold cmdCoeffWrite; simp (maxDischargeDepth := 100) +contextual [hk]

@[simp ↓] theorem cmdCoeffRead_keeps {s₀ : State} (s : State) (c : Cmd) (hk : s₀.Keeps s) :
    s₀.Keeps (cmdCoeffRead s c).1 := by
  unfold cmdCoeffRead; (try dsimp only); (repeat' split) <;> simp (maxDischargeDepth := 100) +contextual [hk]

@[simp ↓] theorem cmdTuneStart_keeps {s₀ : State} (s : State) (c : Cmd) (hk : s₀.Keeps s) :
    s₀.Keeps (cmdTuneStart s c).1 := by
  unfold cmdTuneStart; (try dsimp only); (repeat' split) <;> simp (maxDischargeDepth := 100) +contextual [hk]

@[simp ↓] theorem tuneEndRow_keeps {s₀ : State} (t : Nat) (n : Fin 4) (s : State) (hk : s₀.Keeps s) :
    s₀.Keeps (tuneEndRow t n s) := by
  unfold tuneEndRow; simp (maxDischargeDepth := 100) +contextual [hk]

@[simp ↓] theorem cmdTuneResult_keeps {s₀ : State} (s : State) (c : Cmd) (hk : s₀.Keeps s) :
    s₀.Keeps (cmdTuneResult s c).1 := by
  unfold cmdTuneResult; (try dsimp only); (repeat' split) <;> simp (maxDischargeDepth := 100) +contextual [hk]

end Sys2Proof.Machine
end

