-- ==== Sys2Proof/Laws/Keep/CmdGroup.lean ====
section
/-! SUPPORT. What the operations of Machine/CmdGroup.lean keep. -/

namespace Sys2Proof.Machine

@[simp ↓] theorem cmdGroupForm_keeps {s₀ : State} (s : State) (c : Cmd) (hk : s₀.Keeps s) :
    s₀.Keeps (cmdGroupForm s c).1 := by
  unfold cmdGroupForm; simp (maxDischargeDepth := 100) +contextual [hk]

@[simp ↓] theorem groupFormComplete_keeps {s₀ : State} (t : Nat) (s : State) (hk : s₀.Keeps s) :
    s₀.Keeps (groupFormComplete t s) := by
  unfold groupFormComplete; (try dsimp only); (repeat' split) <;> simp (maxDischargeDepth := 100) +contextual [hk]

end Sys2Proof.Machine
end

