-- ==== Sys2Proof/Laws/Keep/CmdManifest.lean ====
section
/-! SUPPORT. What the operations of Machine/CmdManifest.lean keep. -/

namespace Sys2Proof.Machine

@[simp ↓] theorem cmdManifestRead_keeps {s₀ : State} (s : State) (c : Cmd) (hk : s₀.Keeps s) :
    s₀.Keeps (cmdManifestRead s c).1 := by
  unfold cmdManifestRead; simp (maxDischargeDepth := 100) +contextual [hk]

@[simp ↓] theorem cmdManifestWrite_keeps {s₀ : State} (s : State) (c : Cmd) (hk : s₀.Keeps s) :
    s₀.Keeps (cmdManifestWrite s c).1 := by
  unfold cmdManifestWrite; simp (maxDischargeDepth := 100) +contextual [hk]

@[simp ↓] theorem startCommit_keeps {s₀ : State} (s : State) (els : List Elem) (n : Nat) (apply : Bool) (hk : s₀.Keeps s) :
    s₀.Keeps (State.startCommit s els n apply).1 := by
  unfold State.startCommit; (try dsimp only); (repeat' split) <;> simp (maxDischargeDepth := 100) +contextual [hk]

@[simp ↓] theorem cmdManifestCommit_keeps {s₀ : State} (s : State) (c : Cmd) (hk : s₀.Keeps s) :
    s₀.Keeps (cmdManifestCommit s c).1 := by
  unfold cmdManifestCommit; simp (maxDischargeDepth := 100) +contextual [hk]

@[simp ↓] theorem writeBank_keeps {s₀ : State} (s : State) (p : PendCmd) (hk : s₀.Keeps s) :
    s₀.Keeps (State.writeBank s p) := by
  unfold State.writeBank; simp (maxDischargeDepth := 100) +contextual [hk]

@[simp ↓] theorem writeFailed_keeps {s₀ : State} (s : State) (p : PendCmd) (hk : s₀.Keeps s) :
    s₀.Keeps (State.writeFailed s p) := by
  unfold State.writeFailed; simp (maxDischargeDepth := 100) +contextual [hk]

@[simp ↓] theorem applyCommitted_keeps {s₀ : State} (s : State) (img : List Byte) (hk : s₀.Keeps s) :
    s₀.Keeps (State.applyCommitted s img) := by
  unfold State.applyCommitted; simp (maxDischargeDepth := 100) +contextual [hk]

@[simp ↓] theorem manifestCommitComplete_keeps {s₀ : State} (t : Nat) (ok : Bool) (s : State) (hk : s₀.Keeps s) :
    s₀.Keeps (manifestCommitComplete t ok s) := by
  unfold manifestCommitComplete; (try dsimp only); (repeat' split) <;> simp (maxDischargeDepth := 100) +contextual [hk]

@[simp ↓] theorem cmdSafetyWrite_keeps {s₀ : State} (s : State) (c : Cmd) (hk : s₀.Keeps s) :
    s₀.Keeps (cmdSafetyWrite s c).1 := by
  unfold cmdSafetyWrite; simp (maxDischargeDepth := 100) +contextual [hk]

@[simp ↓] theorem startSafety_keeps {s₀ : State} (s : State) (x : SafetySet) (hk : s₀.Keeps s) :
    s₀.Keeps (State.startSafety s x).1 := by
  unfold State.startSafety; (try dsimp only); (repeat' split) <;> simp (maxDischargeDepth := 100) +contextual [hk]

@[simp ↓] theorem cmdSafetyVerify_keeps {s₀ : State} (s : State) (c : Cmd) (hk : s₀.Keeps s) :
    s₀.Keeps (cmdSafetyVerify s c).1 := by
  unfold cmdSafetyVerify; (try dsimp only); (repeat' split) <;> simp (maxDischargeDepth := 100) +contextual [hk]

@[simp ↓] theorem safetyVerifyComplete_keeps {s₀ : State} (t : Nat) (ok : Bool) (s : State) (hk : s₀.Keeps s) :
    s₀.Keeps (safetyVerifyComplete t ok s) := by
  unfold safetyVerifyComplete; (try dsimp only); (repeat' split) <;> simp (maxDischargeDepth := 100) +contextual [hk]

end Sys2Proof.Machine
end

