-- ==== Sys2Proof/Laws/Keep/CmdService.lean ====
section
/-! SUPPORT. What the operations of Machine/CmdService.lean keep. -/

namespace Sys2Proof.Machine

@[simp ↓] theorem cmdFaultRead_keeps {s₀ : State} (s : State) (c : Cmd) (hk : s₀.Keeps s) :
    s₀.Keeps (cmdFaultRead s c).1 := by
  unfold cmdFaultRead; simp (maxDischargeDepth := 100) +contextual [hk]

@[simp ↓] theorem cmdFaultClear_keeps {s₀ : State} (gone : List (FName × Nat × Nat)) (s : State) (c : Cmd) (hk : s₀.Keeps s) :
    s₀.Keeps (cmdFaultClear gone s c).1 := by
  unfold cmdFaultClear; (try dsimp only); (repeat' (split <;> try (rename_i e; replace e := congrArg Prod.fst e; dsimp only at e; subst e))) <;> simp (maxDischargeDepth := 100) +contextual [hk]

@[simp ↓] theorem logArm_keeps {s₀ : State} (s : State) (k : Nat) (b : List Byte) (hk : s₀.Keeps s) :
    s₀.Keeps (State.logArm s k b) := by
  unfold State.logArm; simp (maxDischargeDepth := 100) +contextual [hk]

@[simp ↓] theorem logState_keeps {s₀ : State} (s : State) (hk : s₀.Keeps s) :
    s₀.Keeps (State.logState s).1 := by
  unfold State.logState; simp (maxDischargeDepth := 100) +contextual [hk]

@[simp ↓] theorem cmdArm_keeps {s₀ : State} (s : State) (c : Cmd) (hk : s₀.Keeps s) :
    s₀.Keeps (cmdArm s c).1 := by
  unfold cmdArm; (try dsimp only); (repeat' split) <;> simp (maxDischargeDepth := 100) +contextual [hk]

@[simp ↓] theorem recordErrors_keeps {s₀ : State} (s : State) (first o n : Nat) (hk : s₀.Keeps s) :
    s₀.Keeps (State.recordErrors s first o n) := by
  unfold State.recordErrors; (try dsimp only); (repeat' split) <;> simp (maxDischargeDepth := 100) +contextual [hk]

@[simp ↓] theorem cmdLogRead_keeps {s₀ : State} (s : State) (c : Cmd) (hk : s₀.Keeps s) :
    s₀.Keeps (cmdLogRead s c).1 := by
  unfold cmdLogRead; simp (maxDischargeDepth := 100) +contextual [hk]

@[simp ↓] theorem sendBulk_keeps {s₀ : State} (s : State) (ch : Chan) (b : List Byte)
    (hk : s₀.Keeps s) : s₀.Keeps (State.sendBulk s ch b) := by
  unfold State.sendBulk; split <;> simp [hk]

@[simp ↓] theorem sendRecord_keeps {s₀ : State} (ch : Chan) (first fuel : Nat) (o left num : Nat) (s : State)
    (hk : s₀.Keeps s) : s₀.Keeps (State.sendRecord ch first fuel o left num s) := by
  induction fuel generalizing o left num s with
  | zero => exact hk
  | succ k ih => exact ih _ _ _ _ (sendBulk_keeps _ _ _ hk)

@[simp ↓] theorem bulkComplete_keeps {s₀ : State} (t : Nat) (s : State) (hk : s₀.Keeps s) :
    s₀.Keeps (bulkComplete t s) := by
  unfold bulkComplete; (try dsimp only); (repeat' split) <;> simp (maxDischargeDepth := 100) +contextual [hk]

@[simp ↓] theorem cmdDiagRun_keeps {s₀ : State} (s : State) (c : Cmd) (hk : s₀.Keeps s) :
    s₀.Keeps (cmdDiagRun s c).1 := by
  unfold cmdDiagRun; (try dsimp only); (repeat' split) <;> simp (maxDischargeDepth := 100) +contextual [hk]

@[simp ↓] theorem putLegResult_keeps {s₀ : State} (s : State) (n : Fin 4) (mask : Nat) (l : Fin 12) (v : BitVec 8) (hk : s₀.Keeps s) :
    s₀.Keeps (State.putLegResult s n mask l v) := by
  unfold State.putLegResult; simp (maxDischargeDepth := 100) +contextual [hk]

@[simp ↓] theorem putPath_keeps {s₀ : State} (s : State) (n c : Fin 4) (m : Nat) (hk : s₀.Keeps s) :
    s₀.Keeps (State.putPath s n c m) := by
  unfold State.putPath; simp (maxDischargeDepth := 100) +contextual [hk]

@[simp ↓] theorem axisResults_keeps {s₀ : State} (s : State) (n : Fin 4) (mask : Nat) (r : DiagReadings) (hk : s₀.Keeps s) :
    s₀.Keeps (State.axisResults s n mask r).1 := by
  unfold State.axisResults; simp (maxDischargeDepth := 100) +contextual [hk]

@[simp ↓] theorem xResults_keeps {s₀ : State} (s : State) (mask : Nat) (r : DiagReadings) (hk : s₀.Keeps s) :
    s₀.Keeps (State.xResults s mask r).1 := by
  unfold State.xResults; simp (maxDischargeDepth := 100) +contextual [hk]

@[simp ↓] theorem diagComplete_keeps {s₀ : State} (t : Nat) (n : Option (Fin 4)) (r : DiagReadings) (s : State) (hk : s₀.Keeps s) :
    s₀.Keeps (diagComplete t n r s) := by
  unfold diagComplete; (try dsimp only); (repeat' split) <;> simp (maxDischargeDepth := 100) +contextual [hk]

end Sys2Proof.Machine
end

