-- ==== Sys2Proof/Laws/Keep/CmdUpdate.lean ====
section
/-! SUPPORT. What the operations of Machine/CmdUpdate.lean keep. -/

namespace Sys2Proof.Machine

@[simp ↓] theorem setSlot_keeps {s₀ : State} (s : State) (i : Fin 8) (k : KeySlot) (hk : s₀.Keeps s) :
    s₀.Keeps (State.setSlot s i k) := by
  unfold State.setSlot; simp (maxDischargeDepth := 100) +contextual [hk]

@[simp ↓] theorem openSession_keeps {s₀ : State} (s : State) (ch : Chan) (i : Fin 8) (nh : List Byte) (hk : s₀.Keeps s) :
    s₀.Keeps (State.openSession s ch i nh).1 := by
  unfold State.openSession; simp (maxDischargeDepth := 100) +contextual [hk]

@[simp ↓] theorem cmdSessionOpen_keeps {s₀ : State} (s : State) (c : Cmd) (hk : s₀.Keeps s) :
    s₀.Keeps (cmdSessionOpen s c).1 := by
  unfold cmdSessionOpen; (try dsimp only); (repeat' split) <;> simp (maxDischargeDepth := 100) +contextual [hk]

@[simp ↓] theorem cmdProgramSlot_keeps {s₀ : State} (s : State) (c : Cmd) (hk : s₀.Keeps s) :
    s₀.Keeps (cmdProgramSlot s c).1 := by
  unfold cmdProgramSlot; (try dsimp only); (repeat' split) <;> simp (maxDischargeDepth := 100) +contextual [hk]

@[simp ↓] theorem closeSlot_keeps {s₀ : State} (s : State) (i : Fin 8) (ch : Chan) (hk : s₀.Keeps s) :
    s₀.Keeps (State.closeSlot s i ch) := by
  unfold State.closeSlot; simp (maxDischargeDepth := 100) +contextual [hk]

@[simp ↓] theorem cmdRevokeSlot_keeps {s₀ : State} (s : State) (c : Cmd) (hk : s₀.Keeps s) :
    s₀.Keeps (cmdRevokeSlot s c).1 := by
  unfold cmdRevokeSlot; (try dsimp only); (repeat' split) <;> simp (maxDischargeDepth := 100) +contextual [hk]

@[simp ↓] theorem setUpdate_keeps {s₀ : State} (s : State) (u : Update) (hk : s₀.Keeps s) :
    s₀.Keeps (State.setUpdate s u) := by
  unfold State.setUpdate; simp (maxDischargeDepth := 100) +contextual [hk]

@[simp ↓] theorem putUpdate_keeps {s₀ : State} (s : State) (u : Update) (hk : s₀.Keeps s) :
    s₀.Keeps (State.putUpdate s u) := by
  unfold State.putUpdate; simp (maxDischargeDepth := 100) +contextual [hk]

@[simp ↓] theorem ownUpdate_keeps {s₀ : State} (s : State) (c : Cmd) (f : Update → State × Ans)
    (hk : s₀.Keeps s) (hf : ∀ n, s₀.Keeps (f n).1) : s₀.Keeps (s.ownUpdate c f).1 := by
  unfold State.ownUpdate; (repeat' split) <;> simp (maxDischargeDepth := 100) +contextual [hk, hf]

@[simp ↓] theorem cmdFwStart_keeps {s₀ : State} (s : State) (c : Cmd) (hk : s₀.Keeps s) :
    s₀.Keeps (cmdFwStart s c).1 := by
  unfold cmdFwStart; simp (maxDischargeDepth := 100) +contextual [hk]

@[simp ↓] theorem fwErased_keeps {s₀ : State} (t : Nat) (s : State) (hk : s₀.Keeps s) :
    s₀.Keeps (fwErased t s) := by
  unfold fwErased; (try dsimp only); (repeat' split) <;> simp (maxDischargeDepth := 100) +contextual [hk]

@[simp ↓] theorem cmdFwData_keeps {s₀ : State} (s : State) (c : Cmd) (hk : s₀.Keeps s) :
    s₀.Keeps (cmdFwData s c).1 := by
  unfold cmdFwData; simp (maxDischargeDepth := 100) +contextual [hk]

@[simp ↓] theorem cmdFwFinish_keeps {s₀ : State} (s : State) (c : Cmd) (hk : s₀.Keeps s) :
    s₀.Keeps (cmdFwFinish s c).1 := by
  unfold cmdFwFinish; simp (maxDischargeDepth := 100) +contextual [hk]

@[simp ↓] theorem fwFinished_keeps {s₀ : State} (t : Nat) (s : State) (hk : s₀.Keeps s) :
    s₀.Keeps (fwFinished t s) := by
  unfold fwFinished; (try dsimp only); (repeat' split) <;> simp (maxDischargeDepth := 100) +contextual [hk]

@[simp ↓] theorem cmdFwActivate_keeps {s₀ : State} (s : State) (c : Cmd) (hk : s₀.Keeps s) :
    s₀.Keeps (cmdFwActivate s c).1 := by
  unfold cmdFwActivate; simp (maxDischargeDepth := 100) +contextual [hk]

@[simp ↓] theorem cmdFwConfirm_keeps {s₀ : State} (s : State) (c : Cmd) (hk : s₀.Keeps s) :
    s₀.Keeps (cmdFwConfirm s c).1 := by
  unfold cmdFwConfirm; simp (maxDischargeDepth := 100) +contextual [hk]

end Sys2Proof.Machine
end

