-- ==== Sys2Proof/Laws/Keep/Lines.lean ====
section
/-! SUPPORT. What the operations of Machine/Lines.lean keep. -/

namespace Sys2Proof.Machine

@[simp ↓] theorem measureLine_keeps {s₀ : State} (t : Nat) (k : Fin 28) (s : State) (n : Nat) (hk : s₀.Keeps s) :
    s₀.Keeps (State.measureLine t k s n) := by
  unfold State.measureLine; simp (maxDischargeDepth := 100) +contextual [hk]

@[simp ↓] theorem nextLine_keeps {s₀ : State} (s : State) (t : Nat) (hk : s₀.Keeps s) :
    s₀.Keeps (State.nextLine s t) := by
  unfold State.nextLine; simp (maxDischargeDepth := 100) +contextual [hk]

@[simp ↓] theorem delayLine_keeps {s₀ : State} (t : Nat) (k : Fin 28) (launches : List (Nat × Nat)) (s : State) (hk : s₀.Keeps s) :
    s₀.Keeps (delayLine t k launches s) := by
  unfold delayLine; (try dsimp only); (repeat' split) <;> simp (maxDischargeDepth := 100) +contextual [hk]

@[simp ↓] theorem startLine_keeps {s₀ : State} (t : Nat) (taps : List (List Nat)) (s : State) (k : Fin 28) (hk : s₀.Keeps s) :
    s₀.Keeps (State.startLine t taps s k) := by
  unfold State.startLine; simp (maxDischargeDepth := 100) +contextual [hk]

end Sys2Proof.Machine
end

