-- ==== Sys2Proof/Laws/Keep/Start.lean ====
section
/-! SUPPORT. What the operations of Machine/Start.lean keep. -/

namespace Sys2Proof.Machine

@[simp ↓] theorem calFaults_keeps {s₀ : State} (s : State) (t : Nat) (r : StartIn) (hk : s₀.Keeps s) :
    s₀.Keeps (State.calFaults s t r) := by
  unfold State.calFaults; simp (maxDischargeDepth := 100) +contextual [hk]

@[simp ↓] theorem measureSlice_keeps {s₀ : State} (t : Nat) (c : Fin 4) (sl : Fin 9) (n : Nat) (l : List (Int × Int × Int))
    (s : State) (hk : s₀.Keeps s) : s₀.Keeps (State.measureSlice t c sl n l s) := by
  induction n generalizing l s with
  | zero => unfold State.measureSlice; exact retireSlice_keeps _ _ _ _ hk
  | succ n ih =>
    cases l with
    | nil => unfold State.measureSlice; exact ih _ _ (by simp [hk])
    | cons x r =>
      unfold State.measureSlice
      dsimp only
      split
      · simp [hk]
      · exact ih _ _ (by simp [hk])

@[simp ↓] theorem startSlice_keeps {s₀ : State} (t : Nat) (l : List (List (Int × Int × Int))) (c : Fin 4) (s : State) (sl : Fin 9) (hk : s₀.Keeps s) :
    s₀.Keeps (State.startSlice t l c s sl) := by
  unfold State.startSlice; simp (maxDischargeDepth := 100) +contextual [hk]

@[simp ↓] theorem startLookout_keeps {s₀ : State} (s : State) (t : Nat) (ok : Bool) (hk : s₀.Keeps s) :
    s₀.Keeps (State.startLookout s t ok) := by
  unfold State.startLookout; simp (maxDischargeDepth := 100) +contextual [hk]

@[simp ↓] theorem selfTests_keeps {s₀ : State} (s : State) (t : Nat) (r : StartIn) (hk : s₀.Keeps s) :
    s₀.Keeps (State.selfTests s t r) := by
  unfold State.selfTests; (try dsimp only); (repeat' split) <;> simp (maxDischargeDepth := 100) +contextual [hk]

@[simp ↓] theorem startAxis_keeps {s₀ : State} (s : State) (n : Fin 4) (hk : s₀.Keeps s) :
    s₀.Keeps (State.startAxis s n) := by
  unfold State.startAxis; simp (maxDischargeDepth := 100) +contextual [hk]

@[simp ↓] theorem startRails_keeps {s₀ : State} (s : State) (ready : List (Fin 4)) (hk : s₀.Keeps s) :
    s₀.Keeps (State.startRails s ready) := by
  unfold State.startRails; simp (maxDischargeDepth := 100) +contextual [hk]

@[simp ↓] theorem forecast_keeps {s₀ : State} (s : State) (hk : s₀.Keeps s) :
    s₀.Keeps (State.forecast s) := by
  unfold State.forecast; simp (maxDischargeDepth := 100) +contextual [hk]

@[simp ↓] theorem halfModels_keeps {s₀ : State} (s : State) (hk : s₀.Keeps s) :
    s₀.Keeps (State.halfModels s) := by
  unfold State.halfModels; simp (maxDischargeDepth := 100) +contextual [hk]

@[simp ↓] theorem startThrottle_keeps {s₀ : State} (s : State) (hk : s₀.Keeps s) :
    s₀.Keeps (State.startThrottle s) := by
  unfold State.startThrottle; simp (maxDischargeDepth := 100) +contextual [hk]

@[simp ↓] theorem bootSteps_keeps {s₀ : State} (s : State) (t : Nat) (r : StartIn) (por hold : Bool) (hk : s₀.Keeps s) :
    s₀.Keeps (State.bootSteps s t r por hold) := by
  unfold State.bootSteps; (try dsimp only); (repeat' split) <;> simp (maxDischargeDepth := 100) +contextual [hk]

@[simp ↓] theorem porBlank_keeps {s₀ : State} (s : State) (t : Nat) (r : StartIn) (hk : s₀.Keeps s) :
    s₀.Keeps (s.porBlank t r) :=
  hk.trans ⟨rfl, Nat.le_refl _, List.suffix_refl _, fun h => stoFilter_wf h _, fun _ => rfl,
    fun _ l h => by simp [State.leg, State.porBlank] at h⟩

@[simp ↓] theorem powerUp_keeps {s₀ : State} (s : State) (t : Nat) (r : StartIn) (hk : s₀.Keeps s) :
    s₀.Keeps (State.powerUp s t r) := by
  unfold State.powerUp; simp (maxDischargeDepth := 100) +contextual [hk]

@[simp ↓] theorem powerOnReset_keeps {s₀ : State} (t : Nat) (r : StartIn) (s : State) (hk : s₀.Keeps s) :
    s₀.Keeps (powerOnReset t r s) := by
  unfold powerOnReset; simp (maxDischargeDepth := 100) +contextual [hk]

@[simp ↓] theorem brace_keeps {s₀ : State} (s : State) (t : Nat) (hk : s₀.Keeps s) :
    s₀.Keeps (State.brace s t) := by
  unfold State.brace; simp (maxDischargeDepth := 100) +contextual [hk]

@[simp ↓] theorem restartBlank_keeps {s₀ : State} (s : State) (hk : s₀.Keeps s) : s₀.Keeps s.restartBlank :=
  hk.trans ⟨rfl, Nat.le_refl _, List.suffix_refl _, fun h => stoFilter_wf h _, fun h => stoFilter_wf h _,
    fun _ l h => by simp [State.leg, State.restartBlank, Leg.kept] at h⟩

@[simp ↓] theorem wipe_keeps {s₀ : State} (s : State) (hk : s₀.Keeps s) :
    s₀.Keeps (State.wipe s) := by
  unfold State.wipe; simp (maxDischargeDepth := 100) +contextual [hk]

@[simp ↓] theorem putCause_keeps {s₀ : State} (s : State) (c : Cause) (hk : s₀.Keeps s) :
    s₀.Keeps (State.putCause s c) := by
  unfold State.putCause; simp (maxDischargeDepth := 100) +contextual [hk]

@[simp ↓] theorem restart_keeps {s₀ : State} (s : State) (t : Nat) (c : Cause) (r : StartIn) (hk : s₀.Keeps s) :
    s₀.Keeps (State.restart s t c r) := by
  unfold State.restart; simp (maxDischargeDepth := 100) +contextual [hk]

@[simp ↓] theorem restartDue_keeps {s₀ : State} (s : State) (was : Bool) (hk : s₀.Keeps s) :
    s₀.Keeps (State.restartDue s was) := by
  unfold State.restartDue; simp (maxDischargeDepth := 100) +contextual [hk]

@[simp ↓] theorem pwrResetWrite_keeps {s₀ : State} (t req : Nat) (w : Word) (r : StartIn) (s : State) (hk : s₀.Keeps s) :
    s₀.Keeps (pwrResetWrite t req w r s) := by
  unfold pwrResetWrite; simp (maxDischargeDepth := 100) +contextual [hk]

@[simp ↓] theorem watchdogExpiry_keeps {s₀ : State} (t : Nat) (r : StartIn) (s : State) (hk : s₀.Keeps s) :
    s₀.Keeps (watchdogExpiry t r s) := by
  unfold watchdogExpiry; simp (maxDischargeDepth := 100) +contextual [hk]

@[simp ↓] theorem resumedStart_keeps {s₀ : State} (t : Nat) (r : StartIn) (s : State) (hk : s₀.Keeps s) :
    s₀.Keeps (resumedStart t r s) := by
  unfold resumedStart; simp (maxDischargeDepth := 100) +contextual [hk]

@[simp ↓] theorem fwActivate_keeps {s₀ : State} (t : Nat) (r : StartIn) (s : State) (hk : s₀.Keeps s) :
    s₀.Keeps (fwActivate t r s) := by
  unfold fwActivate; simp (maxDischargeDepth := 100) +contextual [hk]

end Sys2Proof.Machine
end

