-- ==== Sys2Proof/Laws/SameMem.lean ====
section
/-! SUPPORT. What does not write memory: one lemma per operation follows in the files of `Sys2Proof/Laws/Mem/`. -/

namespace Sys2Proof.Machine

/-- Memory is as it was. -/
structure State.SameMem (s t : State) : Prop where
  mem : t.mem = s.mem

theorem State.SameMem.refl (s : State) : s.SameMem s := ⟨rfl⟩

theorem State.SameMem.trans {r s t : State} (h : r.SameMem s) (k : s.SameMem t) : r.SameMem t :=
  ⟨k.mem.trans h.mem⟩

variable {s₀ s : State}

/-- A change of state that is not memory. -/
@[simp ↓] theorem smem_other (h : s₀.SameMem s) (y0 : List Instr) (y1 : Nat) (y2 : List Out)
    (x0 : Nat) (x1 : Bool) (x2 : List (Nat × Nat)) (x3 : List (Nat × Nat)) (y3 : List (Nat × Word)) (xe : List Nat) (x4 : Fin 8) (x5 : DLines) (x6
    : Rail) (x7 : AsDisc) (x8 : Hm) (x9 : FaultMan) (x10 : Vector Axis 4) (x11 : Vector Carrier 4) (x12 : Vector Leg 12) (x13 : Vector Gate 26) (x14 : Bw) (x15 : Vector (Option Nat) 4) (x16 : Vector Eng 4) (x17 : Logb) (x18
    : Vector Cluster 4) (x19 : Vector Port 4) (x20 : Vector Word 44) (x21 : Int) (x22 : Int) (x23 : List Nat) (x24
    : Vector PerfUnit 8) (x25 : Lk) (x26 : Eth) (x27 : Vector CanCtl 4) (x28 : Vector Core 4) (x29 : Vector Arb 3)
    (x30 : Option FlashJob) (x31 : Moor) (x32 : Pwr) :
    s₀.SameMem (State.mk y0 y1 y2 x0 x1 x2 x3 y3 s.mem xe x4 x5 x6 x7 x8 x9 x10 x11 x12 x13 x14 x15 x16 x17 x18
    x19 x20 x21 x22 x23 x24 x25 x26 x27 x28 x29 x30 x31 x32) :=
  h.trans ⟨rfl⟩

@[simp ↓] theorem updLeg_smem (s : State) (l : Fin 12) (f : Leg → Leg) (h : s₀.SameMem s) :
    s₀.SameMem (s.updLeg l f) := h.trans ⟨rfl⟩

@[simp ↓] theorem setReg_smem (h : s₀.SameMem s) (a : Nat) (w : Word) : s₀.SameMem (s.setReg a w) := h.trans ⟨rfl⟩

@[simp ↓] theorem ite_smem {c : Prop} [Decidable c] {t : State} (h : s₀.SameMem s) (k : s₀.SameMem t) :
    s₀.SameMem (if c then s else t) := by split <;> assumption

@[simp ↓] theorem ite_smem_fst {β : Type} {c : Prop} [Decidable c] {x y : State × β} (h : s₀.SameMem x.1)
    (k : s₀.SameMem y.1) : s₀.SameMem (if c then x else y).1 := by split <;> assumption

@[simp ↓] theorem ite_smem_snd {β : Type} {c : Prop} [Decidable c] {x y : β × State} (h : s₀.SameMem x.2)
    (k : s₀.SameMem y.2) : s₀.SameMem (if c then x else y).2 := by split <;> assumption

/-- A fold keeps what its step keeps. -/
@[simp ↓] theorem foldl_smem {α : Type} {f : State → α → State} (hf : ∀ s a, s₀.SameMem s → s₀.SameMem (f s a)) :
    ∀ (l : List α) {s : State}, s₀.SameMem s → s₀.SameMem (l.foldl f s)
  | [], _, h => h
  | a :: r, s, h => foldl_smem hf r (hf s a h)

/-- A fold over a pair keeps what its step keeps in the first component. -/
@[simp ↓] theorem foldl_smem_fst {α β : Type} {f : State × β → α → State × β}
    (hf : ∀ p a, s₀.SameMem p.1 → s₀.SameMem (f p a).1) :
    ∀ (l : List α) {p : State × β}, s₀.SameMem p.1 → s₀.SameMem (l.foldl f p).1
  | [], _, h => h
  | a :: r, p, h => foldl_smem_fst hf r (hf p a h)

end Sys2Proof.Machine
end

