-- ==== Sys2Proof/Laws/Mem/Ops.lean ====
section
/-! SUPPORT. The operations of Machine/Ops.lean that do not write memory. -/

namespace Sys2Proof.Machine

@[simp ↓] theorem set_smem {s₀ : State} (s : State) (f : Fld) (v : Nat) (hk : s₀.SameMem s) :
    s₀.SameMem (State.set s f v) := by
  unfold State.set; simp (maxDischargeDepth := 100) +contextual [hk]

@[simp ↓] theorem sets_smem {s₀ : State} (s : State) (l : List (Fld × Nat)) (hk : s₀.SameMem s) :
    s₀.SameMem (State.sets s l) := by
  unfold State.sets; simp (maxDischargeDepth := 100) +contextual [hk]

@[simp ↓] theorem setB_smem {s₀ : State} (s : State) (f : Fld) (b : Bool) (hk : s₀.SameMem s) :
    s₀.SameMem (State.setB s f b) := by
  unfold State.setB; simp (maxDischargeDepth := 100) +contextual [hk]

@[simp ↓] theorem setI_smem {s₀ : State} (s : State) (f : Fld) (v : Int) (hk : s₀.SameMem s) :
    s₀.SameMem (State.setI s f v) := by
  unfold State.setI; simp (maxDischargeDepth := 100) +contextual [hk]

@[simp ↓] theorem incHold_smem {s₀ : State} (s : State) (f : Fld) (hk : s₀.SameMem s) :
    s₀.SameMem (State.incHold s f) := by
  unfold State.incHold; simp (maxDischargeDepth := 100) +contextual [hk]

@[simp ↓] theorem incWrap_smem {s₀ : State} (s : State) (f : Fld) (hk : s₀.SameMem s) :
    s₀.SameMem (State.incWrap s f) := by
  unfold State.incWrap; simp (maxDischargeDepth := 100) +contextual [hk]

@[simp ↓] theorem setW_smem {s₀ : State} (s : State) (a : Nat) (w : Word) (hk : s₀.SameMem s) :
    s₀.SameMem (State.setW s a w) := by
  unfold State.setW; simp (maxDischargeDepth := 100) +contextual [hk]

@[simp ↓] theorem upto_smem {s₀ : State} (s : State) (t : Nat) (hk : s₀.SameMem s) :
    s₀.SameMem (State.upto s t) := by
  unfold State.upto; simp (maxDischargeDepth := 100) +contextual [hk]

@[simp ↓] theorem freeNat_smem {s₀ : State} (s : State) (hk : s₀.SameMem s) :
    s₀.SameMem (State.freeNat s).2 := by
  unfold State.freeNat; simp (maxDischargeDepth := 100) +contextual [hk]

@[simp ↓] theorem freeWord_smem {s₀ : State} (s : State) (hk : s₀.SameMem s) :
    s₀.SameMem (State.freeWord s).2 := by
  unfold State.freeWord; simp (maxDischargeDepth := 100) +contextual [hk]

@[simp ↓] theorem freeInt_smem {s₀ : State} (s : State) (hk : s₀.SameMem s) :
    s₀.SameMem (State.freeInt s).2 := by
  unfold State.freeInt; simp (maxDischargeDepth := 100) +contextual [hk]

@[simp ↓] theorem freeBytes_smem {s₀ : State} (s : State) (n : Nat) (hk : s₀.SameMem s) :
    s₀.SameMem (State.freeBytes s n).2 := by
  unfold State.freeBytes; simp (maxDischargeDepth := 100) +contextual [hk]

@[simp ↓] theorem setAxis_smem {s₀ : State} (s : State) (n : Fin 4) (a : Axis) (hk : s₀.SameMem s) :
    s₀.SameMem (State.setAxis s n a) := by
  unfold State.setAxis; simp (maxDischargeDepth := 100) +contextual [hk]

@[simp ↓] theorem updAxis_smem {s₀ : State} (s : State) (n : Fin 4) (f : Axis → Axis) (hk : s₀.SameMem s) :
    s₀.SameMem (State.updAxis s n f) := by
  unfold State.updAxis; simp (maxDischargeDepth := 100) +contextual [hk]

@[simp ↓] theorem updCarrier_smem {s₀ : State} (s : State) (n : Fin 4) (f : Carrier → Carrier) (hk : s₀.SameMem s) :
    s₀.SameMem (State.updCarrier s n f) := by
  unfold State.updCarrier; simp (maxDischargeDepth := 100) +contextual [hk]

@[simp ↓] theorem updGate_smem {s₀ : State} (s : State) (g : Fin 26) (f : Gate → Gate) (hk : s₀.SameMem s) :
    s₀.SameMem (State.updGate s g f) := by
  unfold State.updGate; simp (maxDischargeDepth := 100) +contextual [hk]

@[simp ↓] theorem updEng_smem {s₀ : State} (s : State) (n : Fin 4) (f : Eng → Eng) (hk : s₀.SameMem s) :
    s₀.SameMem (State.updEng s n f) := by
  unfold State.updEng; simp (maxDischargeDepth := 100) +contextual [hk]

@[simp ↓] theorem updBw_smem {s₀ : State} (s : State) (f : Bw → Bw) (hk : s₀.SameMem s) :
    s₀.SameMem (State.updBw s f) := by
  unfold State.updBw; simp (maxDischargeDepth := 100) +contextual [hk]

@[simp ↓] theorem updHm_smem {s₀ : State} (s : State) (f : Hm → Hm) (hk : s₀.SameMem s) :
    s₀.SameMem (State.updHm s f) := by
  unfold State.updHm; simp (maxDischargeDepth := 100) +contextual [hk]

@[simp ↓] theorem updFm_smem {s₀ : State} (s : State) (f : FaultMan → FaultMan) (hk : s₀.SameMem s) :
    s₀.SameMem (State.updFm s f) := by
  unfold State.updFm; simp (maxDischargeDepth := 100) +contextual [hk]

@[simp ↓] theorem updLogb_smem {s₀ : State} (s : State) (f : Logb → Logb) (hk : s₀.SameMem s) :
    s₀.SameMem (State.updLogb s f) := by
  unfold State.updLogb; simp (maxDischargeDepth := 100) +contextual [hk]

@[simp ↓] theorem emit_smem {s₀ : State} (s : State) (o : Out) (hk : s₀.SameMem s) :
    s₀.SameMem (State.emit s o) := by
  unfold State.emit; simp (maxDischargeDepth := 100) +contextual [hk]

@[simp ↓] theorem eachAxis_smem {s₀ : State} (s : State) (f : State → Fin 4 → State) (hk : s₀.SameMem s)
    (hf : ∀ s n, s₀.SameMem s → s₀.SameMem (f s n)) : s₀.SameMem (s.eachAxis f) :=
  foldl_smem hf _ hk

@[simp ↓] theorem logWait_smem {s₀ : State} (s : State) (i : Nat) (close : Bool) (e : LogItem) (hk : s₀.SameMem s) :
    s₀.SameMem (State.logWait s i close e) := by
  unfold State.logWait; simp (maxDischargeDepth := 100) +contextual [hk]

@[simp ↓] theorem logEvent_smem {s₀ : State} (s : State) (epoch src stamp : Nat) (sel : LogChan → Option (List Byte)) (hk : s₀.SameMem s) :
    s₀.SameMem (State.logEvent s epoch src stamp sel) := by
  unfold State.logEvent; (try dsimp only); (repeat' (split <;> try (rename_i e; replace e := congrArg Prod.fst e; dsimp only at e; subst e))) <;> (try apply foldl_smem) <;> (try intro _ _ _) <;> (try dsimp only) <;> (repeat' (split <;> try (rename_i e; replace e := congrArg Prod.fst e; dsimp only at e; subst e))) <;> simp (maxDischargeDepth := 100) +contextual [*]

@[simp ↓] theorem logClose_smem {s₀ : State} (s : State) (src stamp : Nat) (sel : LogChan → Bool) (hk : s₀.SameMem s) :
    s₀.SameMem (State.logClose s src stamp sel) := by
  unfold State.logClose; simp (maxDischargeDepth := 100) +contextual [hk]

@[simp ↓] theorem gateEv_smem {s₀ : State} (s : State) (stamp g ev : Nat) (plateau step : Option Nat) (hk : s₀.SameMem s) :
    s₀.SameMem (State.gateEv s stamp g ev plateau step) := by
  unfold State.gateEv; simp (maxDischargeDepth := 100) +contextual [hk]

end Sys2Proof.Machine
end

