-- ==== Sys2Proof/Laws/Mem/Group.lean ====
section
/-! SUPPORT. The operations of Machine/Group.lean that do not write memory. -/

namespace Sys2Proof.Machine

@[simp ↓] theorem updMoor_smem {s₀ : State} (s : State) (f : Moor → Moor) (hk : s₀.SameMem s) :
    s₀.SameMem (State.updMoor s f) := by
  unfold State.updMoor; simp (maxDischargeDepth := 100) +contextual [hk]

@[simp ↓] theorem sendTo_smem {s₀ : State} (s : State) (m : Fin 8) (what : Nat) (args : List Nat) (hk : s₀.SameMem s) :
    s₀.SameMem (State.sendTo s m what args) := by
  unfold State.sendTo; simp (maxDischargeDepth := 100) +contextual [hk]

@[simp ↓] theorem sendAll_smem {s₀ : State} (s : State) (what : Nat) (args : List Nat) (hk : s₀.SameMem s) :
    s₀.SameMem (State.sendAll s what args) := by
  unfold State.sendAll; simp (maxDischargeDepth := 100) +contextual [hk]

@[simp ↓] theorem sendPorts_smem {s₀ : State} (s : State) (what : Nat) (args : List Nat) (hk : s₀.SameMem s) :
    s₀.SameMem (State.sendPorts s what args) := by
  unfold State.sendPorts; simp (maxDischargeDepth := 100) +contextual [hk]

@[simp ↓] theorem tellLead_smem {s₀ : State} (s : State) (hk : s₀.SameMem s) :
    s₀.SameMem (State.tellLead s) := by
  unfold State.tellLead; simp (maxDischargeDepth := 100) +contextual [hk]

@[simp ↓] theorem setModState_smem {s₀ : State} (s : State) (v : Nat) (hk : s₀.SameMem s) :
    s₀.SameMem (State.setModState s v) := by
  unfold State.setModState; simp (maxDischargeDepth := 100) +contextual [hk]

@[simp ↓] theorem recount_smem {s₀ : State} (s : State) (hk : s₀.SameMem s) :
    s₀.SameMem (State.recount s) := by
  unfold State.recount; simp (maxDischargeDepth := 100) +contextual [hk]

@[simp ↓] theorem remask_smem {s₀ : State} (s : State) (hk : s₀.SameMem s) :
    s₀.SameMem (State.remask s) := by
  unfold State.remask; simp (maxDischargeDepth := 100) +contextual [hk]

@[simp ↓] theorem reForm_smem {s₀ : State} (s : State) (hk : s₀.SameMem s) :
    s₀.SameMem (State.reForm s) := by
  unfold State.reForm; simp (maxDischargeDepth := 100) +contextual [hk]

@[simp ↓] theorem startForm_smem {s₀ : State} (s : State) (hk : s₀.SameMem s) :
    s₀.SameMem (State.startForm s) := by
  unfold State.startForm; simp (maxDischargeDepth := 100) +contextual [hk]

@[simp ↓] theorem announce_smem {s₀ : State} (s : State) (hk : s₀.SameMem s) :
    s₀.SameMem (State.announce s) := by
  unfold State.announce; simp (maxDischargeDepth := 100) +contextual [hk]

end Sys2Proof.Machine
end

