-- ==== Sys2Proof/Laws/Mem/Queue.lean ====
section
/-! SUPPORT. The operations of Machine/Queue.lean that do not write memory. -/

namespace Sys2Proof.Machine

@[simp ↓] theorem tellEntry_smem {s₀ : State} (s : State) (what : Nat) (e : Entry) (hk : s₀.SameMem s) :
    s₀.SameMem (State.tellEntry s what e) := by
  unfold State.tellEntry; simp (maxDischargeDepth := 100) +contextual [hk]

@[simp ↓] theorem putQueue_smem {s₀ : State} (s : State) (q : List Entry) (hk : s₀.SameMem s) :
    s₀.SameMem (State.putQueue s q) := by
  unfold State.putQueue; simp (maxDischargeDepth := 100) +contextual [hk]

end Sys2Proof.Machine
end

