-- ==== Sys2Proof/Laws/Mem/Axes.lean ====
section
/-! SUPPORT. The operations of Machine/Axes.lean that do not write memory. -/

namespace Sys2Proof.Machine

@[simp ↓] theorem blankFrom_smem {s₀ : State} (s : State) (tick : Nat) (n : Fin 4) (k : Fin 8) (hk : s₀.SameMem s) :
    s₀.SameMem (State.blankFrom s tick n k) := by
  unfold State.blankFrom; simp (maxDischargeDepth := 100) +contextual [hk]

@[simp ↓] theorem noteLine_smem {s₀ : State} (s : State) (k : Fin 28) (tick : Nat) (hk : s₀.SameMem s) :
    s₀.SameMem (State.noteLine s k tick) := by
  unfold State.noteLine; simp (maxDischargeDepth := 100) +contextual [hk]

@[simp ↓] theorem putEdge_smem {s₀ : State} (s : State) (e : Edge) (hk : s₀.SameMem s) :
    s₀.SameMem (State.putEdge s e) := by
  unfold State.putEdge; simp (maxDischargeDepth := 100) +contextual [hk]

@[simp ↓] theorem drive_smem {s₀ : State} (s : State) (x : Nat) (hk : s₀.SameMem s) :
    s₀.SameMem (State.drive s x) := by
  unfold State.drive; simp (maxDischargeDepth := 100) +contextual [hk]

@[simp ↓] theorem driveNow_smem {s₀ : State} (s : State) (hk : s₀.SameMem s) :
    s₀.SameMem (State.driveNow s) := by
  unfold State.driveNow; simp (maxDischargeDepth := 100) +contextual [hk]

@[simp ↓] theorem updHolds_smem {s₀ : State} (s : State) (g : Fin 26) (f : Holds → Holds) (hk : s₀.SameMem s) :
    s₀.SameMem (State.updHolds s g f) := by
  unfold State.updHolds; simp (maxDischargeDepth := 100) +contextual [hk]

@[simp ↓] theorem legMode_smem {s₀ : State} (s : State) (t : Nat) (m : OutMode) (l : Fin 12) (hk : s₀.SameMem s) :
    s₀.SameMem (State.legMode s t m l) := by
  unfold State.legMode; (try dsimp only); (repeat' split) <;> simp (maxDischargeDepth := 100) +contextual [hk]

@[simp ↓] theorem modeEdges_smem {s₀ : State} (old : State) (t : Nat) (s : State) (l : Fin 12) (hk : s₀.SameMem s) :
    s₀.SameMem (State.modeEdges old t s l) := by
  unfold State.modeEdges; simp (maxDischargeDepth := 100) +contextual [hk]

@[simp ↓] theorem setMode_smem {s₀ : State} (s : State) (t : Nat) (n : Fin 4) (m : OutMode) (hk : s₀.SameMem s) :
    s₀.SameMem (State.setMode s t n m) := by
  have hd : s₀.SameMem (s.drive (32 * t)) := by simp [hk]
  unfold State.setMode
  split
  · exact hk
  · exact foldl_smem (fun v l hv => by simp [hv]) _ (by simp (maxDischargeDepth := 100) +contextual [hd])

@[simp ↓] theorem restop_smem {s₀ : State} (s : State) (n : Fin 4) (hk : s₀.SameMem s) :
    s₀.SameMem (State.restop s n) := by
  unfold State.restop; simp (maxDischargeDepth := 100) +contextual [hk]

@[simp ↓] theorem settleAxis_smem {s₀ : State} (t : Nat) (s : State) (n : Fin 4) (hk : s₀.SameMem s) :
    s₀.SameMem (State.settleAxis t s n) := by
  unfold State.settleAxis; simp (maxDischargeDepth := 100) +contextual [hk]

@[simp ↓] theorem settle_smem {s₀ : State} (s : State) (t : Nat) (hk : s₀.SameMem s) :
    s₀.SameMem (State.settle s t) := by
  unfold State.settle; simp (maxDischargeDepth := 100) +contextual [hk]

@[simp ↓] theorem passAbandon_smem {s₀ : State} (s : State) (n : Fin 4) (hk : s₀.SameMem s) :
    s₀.SameMem (State.passAbandon s n) := by
  unfold State.passAbandon; simp (maxDischargeDepth := 100) +contextual [hk]

@[simp ↓] theorem reModule_smem {s₀ : State} (s : State) (hk : s₀.SameMem s) :
    s₀.SameMem (State.reModule s) := by
  unfold State.reModule; simp (maxDischargeDepth := 100) +contextual [hk]

@[simp ↓] theorem causeGone_smem {s₀ : State} (s : State) (name : FName) (src inst : Nat) (hk : s₀.SameMem s) :
    s₀.SameMem (State.causeGone s name src inst) := by
  unfold State.causeGone; simp (maxDischargeDepth := 100) +contextual [hk]

@[simp ↓] theorem obsLeave_smem {s₀ : State} (s : State) (n : Fin 4) (hk : s₀.SameMem s) :
    s₀.SameMem (State.obsLeave s n) := by
  unfold State.obsLeave; simp (maxDischargeDepth := 100) +contextual [hk]

@[simp ↓] theorem leaveClosed_smem {s₀ : State} (s : State) (n : Fin 4) (hk : s₀.SameMem s) :
    s₀.SameMem (State.leaveClosed s n) := by
  unfold State.leaveClosed; simp (maxDischargeDepth := 100) +contextual [hk]

@[simp ↓] theorem leaveOff_smem {s₀ : State} (s : State) (n : Fin 4) (hk : s₀.SameMem s) :
    s₀.SameMem (State.leaveOff s n) := by
  unfold State.leaveOff; simp (maxDischargeDepth := 100) +contextual [hk]

@[simp ↓] theorem moveAxis_smem {s₀ : State} (s : State) (n : Fin 4) (st : AxState) (holdAsc : Bool) (hk : s₀.SameMem s) :
    s₀.SameMem (State.moveAxis s n st holdAsc) := by
  unfold State.moveAxis; simp (maxDischargeDepth := 100) +contextual [hk]

@[simp ↓] theorem enterClosed_smem {s₀ : State} (s : State) (n : Fin 4) (st : AxState) (hk : s₀.SameMem s) :
    s₀.SameMem (State.enterClosed s n st) := by
  unfold State.enterClosed; simp (maxDischargeDepth := 100) +contextual [hk]

@[simp ↓] theorem expireToHold_smem {s₀ : State} (s : State) (n : Fin 4) (hk : s₀.SameMem s) :
    s₀.SameMem (State.expireToHold s n) := by
  unfold State.expireToHold; simp (maxDischargeDepth := 100) +contextual [hk]

end Sys2Proof.Machine
end

