-- ==== Sys2Proof/Laws/Mem/Record.lean ====
section
/-! SUPPORT. The operations of Machine/Record.lean that do not write memory. -/

namespace Sys2Proof.Machine

@[simp ↓] theorem queueBlock_smem {s₀ : State} (s : State) (i : Nat) (hk : s₀.SameMem s) :
    s₀.SameMem (State.queueBlock s i) := by
  unfold State.queueBlock; (try dsimp only); (repeat' split) <;> simp (maxDischargeDepth := 100) +contextual [hk]

@[simp ↓] theorem closeBlock_smem {s₀ : State} (s : State) (now i : Nat) (hk : s₀.SameMem s) :
    s₀.SameMem (State.closeBlock s now i) := by
  unfold State.closeBlock; (try dsimp only); (repeat' split) <;> simp (maxDischargeDepth := 100) +contextual [hk]

@[simp ↓] theorem loseItem_smem {s₀ : State} (s : State) (now i : Nat) (hk : s₀.SameMem s) :
    s₀.SameMem (State.loseItem s now i) := by
  unfold State.loseItem; simp (maxDischargeDepth := 100) +contextual [hk]

@[simp ↓] theorem logPut_smem {s₀ : State} (s : State) (now i : Nat) (e : LogItem) (hk : s₀.SameMem s) :
    s₀.SameMem (State.logPut s now i e) := by
  unfold State.logPut; (try dsimp only); (repeat' split) <;> simp (maxDischargeDepth := 100) +contextual [hk]

end Sys2Proof.Machine
end

