-- ==== Sys2Proof/Laws/Mem/Tide.lean ====
section
/-! SUPPORT. The operations of Machine/Tide.lean that do not write memory. -/

namespace Sys2Proof.Machine

@[simp ↓] theorem idleTick_smem {s₀ : State} (s : State) (hk : s₀.SameMem s) :
    s₀.SameMem (State.idleTick s) := by
  unfold State.idleTick; simp (maxDischargeDepth := 100) +contextual [hk]

@[simp ↓] theorem pllLockLoss_smem {s₀ : State} (t : Nat) (s : State) (hk : s₀.SameMem s) :
    s₀.SameMem (pllLockLoss t s) := by
  unfold pllLockLoss; simp (maxDischargeDepth := 100) +contextual [hk]

@[simp ↓] theorem refinLoss_smem {s₀ : State} (t : Nat) (s : State) (hk : s₀.SameMem s) :
    s₀.SameMem (refinLoss t s) := by
  unfold refinLoss; simp (maxDischargeDepth := 100) +contextual [hk]

@[simp ↓] theorem railTo_smem {s₀ : State} (s : State) (c : Int) (hk : s₀.SameMem s) :
    s₀.SameMem (State.railTo s c) := by
  unfold State.railTo; simp (maxDischargeDepth := 100) +contextual [hk]

@[simp ↓] theorem guardRail_smem {s₀ : State} (old s : State) (t : Nat) (hk : s₀.SameMem s) :
    s₀.SameMem (State.guardRail old s t) := by
  unfold State.guardRail; simp (maxDischargeDepth := 100) +contextual [hk]

@[simp ↓] theorem recordRatio_smem {s₀ : State} (s : State) (b : Fin 5) (q : Q) (hk : s₀.SameMem s) :
    s₀.SameMem (State.recordRatio s b q) := by
  unfold State.recordRatio; simp (maxDischargeDepth := 100) +contextual [hk]

@[simp ↓] theorem railTrim_smem {s₀ : State} (s : State) (iv : Nat) (hk : s₀.SameMem s) :
    s₀.SameMem (State.railTrim s iv) := by
  unfold State.railTrim; simp (maxDischargeDepth := 100) +contextual [hk]

@[simp ↓] theorem marginLow_smem {s₀ : State} (t iv : Nat) (w : Vector (List (Nat × Q)) 5) (s : State) (b : Fin 5) (hk : s₀.SameMem s) :
    s₀.SameMem (State.marginLow t iv w s b) := by
  unfold State.marginLow; (try dsimp only); (repeat' split) <;> simp (maxDischargeDepth := 100) +contextual [hk]

@[simp ↓] theorem railInterval_smem {s₀ : State} (t : Nat) (s : State) (hk : s₀.SameMem s) :
    s₀.SameMem (railInterval t s) := by
  unfold railInterval; simp (maxDischargeDepth := 100) +contextual [hk]

@[simp ↓] theorem railGuard_smem {s₀ : State} (t : Nat) (b : Fin 5) (canary : Nat) (s : State) (hk : s₀.SameMem s) :
    s₀.SameMem (railGuard t b canary s) := by
  unfold railGuard; simp (maxDischargeDepth := 100) +contextual [hk]

@[simp ↓] theorem boostRelease_smem {s₀ : State} (t : Nat) (s : State) (hk : s₀.SameMem s) :
    s₀.SameMem (boostRelease t s) := by
  unfold boostRelease; simp (maxDischargeDepth := 100) +contextual [hk]

@[simp ↓] theorem captureBase_smem {s₀ : State} (s : State) (t : Nat) (asNs : Int) (hk : s₀.SameMem s) :
    s₀.SameMem (State.captureBase s t asNs) := by
  unfold State.captureBase; simp (maxDischargeDepth := 100) +contextual [hk]

@[simp ↓] theorem asTrim_smem {s₀ : State} (s : State) (t : Nat) (hk : s₀.SameMem s) :
    s₀.SameMem (State.asTrim s t) := by
  unfold State.asTrim; simp (maxDischargeDepth := 100) +contextual [hk]

@[simp ↓] theorem asDone_smem {s₀ : State} (t : Nat) (err : Int) (far : Bool) (ok : Option Nat) (s : State)
    (hk : s₀.SameMem s) : s₀.SameMem (State.asDone t err far ok s) := by
  have h : s₀.SameMem { (s.setI Reg.TIDE_ASERR_ERR (sat32 err)).set Reg.TIDE_STATUS_ASHOLD 0 with
      asd := { started := true, lastSync := t, okSince := ok } } := by
    have h : s₀.SameMem ((s.setI Reg.TIDE_ASERR_ERR (sat32 err)).set Reg.TIDE_STATUS_ASHOLD 0) := by simp [hk]
    exact ⟨h.mem⟩
  unfold State.asDone
  dsimp only
  split
  · exact set_smem _ _ _ h
  · split
    · exact set_smem _ _ _ h
    · exact h

@[simp ↓] theorem asSync_smem {s₀ : State} (t : Nat) (asNs : Int) (s : State)
    (hk : s₀.SameMem s) : s₀.SameMem (asSync t asNs s) := by
  unfold asSync
  simp (maxDischargeDepth := 100) +contextual [hk]

@[simp ↓] theorem asHoldover_smem {s₀ : State} (t : Nat) (s : State) (hk : s₀.SameMem s) :
    s₀.SameMem (asHoldover t s) := by
  unfold asHoldover; simp (maxDischargeDepth := 100) +contextual [hk]

@[simp ↓] theorem tideCapture_smem {s₀ : State} (s : State) (req : Nat) (hk : s₀.SameMem s) :
    s₀.SameMem (State.tideCapture s req) := by
  unfold State.tideCapture; simp (maxDischargeDepth := 100) +contextual [hk]

@[simp ↓] theorem zeroCapture_smem {s₀ : State} (s : State) (req : Nat) (n : Fin 4) (hk : s₀.SameMem s) :
    s₀.SameMem (State.zeroCapture s req n) := by
  unfold State.zeroCapture; simp (maxDischargeDepth := 100) +contextual [hk]

end Sys2Proof.Machine
end

