-- ==== Sys2Proof/Laws/Mem/Brake.lean ====
section
/-! SUPPORT. The operations of Machine/Brake.lean that do not write memory. -/

namespace Sys2Proof.Machine

@[simp ↓] theorem failBrk_smem {s₀ : State} (s : State) (t cause : Nat) (hk : s₀.SameMem s) :
    s₀.SameMem (State.failBrk s t cause) := by
  unfold State.failBrk; simp (maxDischargeDepth := 100) +contextual [hk]

@[simp ↓] theorem switchBrk_smem {s₀ : State} (s : State) (t : Nat) (on : Bool) (hk : s₀.SameMem s) :
    s₀.SameMem (State.switchBrk s t on) := by
  unfold State.switchBrk; simp (maxDischargeDepth := 100) +contextual [hk]

@[simp ↓] theorem brkStep_smem {s₀ : State} (s : State) (t : Nat) (result : Bool) (hk : s₀.SameMem s) :
    s₀.SameMem (State.brkStep s t result) := by
  unfold State.brkStep; simp (maxDischargeDepth := 100) +contextual [hk]

@[simp ↓] theorem brkEnergy_smem {s₀ : State} (s : State) (t : Nat) (v : Q) (hk : s₀.SameMem s) :
    s₀.SameMem (State.brkEnergy s t v) := by
  unfold State.brkEnergy; simp (maxDischargeDepth := 100) +contextual [hk]

@[simp ↓] theorem dscOff_smem {s₀ : State} (s : State) (hk : s₀.SameMem s) :
    s₀.SameMem (State.dscOff s) := by
  unfold State.dscOff; simp (maxDischargeDepth := 100) +contextual [hk]

@[simp ↓] theorem dscStartOn_smem {s₀ : State} (s : State) (hk : s₀.SameMem s) :
    s₀.SameMem (State.dscStartOn s) := by
  unfold State.dscStartOn; simp (maxDischargeDepth := 100) +contextual [hk]

@[simp ↓] theorem dscStop_smem {s₀ : State} (s : State) (hk : s₀.SameMem s) :
    s₀.SameMem (State.dscStop s) := by
  unfold State.dscStop; simp (maxDischargeDepth := 100) +contextual [hk]

@[simp ↓] theorem dscStep_smem {s₀ : State} (s : State) (t : Nat) (v : Q) (hk : s₀.SameMem s) :
    s₀.SameMem (State.dscStep s t v) := by
  unfold State.dscStep; simp (maxDischargeDepth := 100) +contextual [hk]

@[simp ↓] theorem dscWritten_smem {s₀ : State} (s : State) (t : Nat) (w : Word) (hk : s₀.SameMem s) :
    s₀.SameMem (State.dscWritten s t w) := by
  unfold State.dscWritten; simp (maxDischargeDepth := 100) +contextual [hk]

@[simp ↓] theorem dscStart_smem {s₀ : State} (t : Nat) (s : State) (hk : s₀.SameMem s) :
    s₀.SameMem (dscStart t s) := by
  unfold dscStart; simp (maxDischargeDepth := 100) +contextual [hk]

@[simp ↓] theorem dscWait_smem {s₀ : State} (t : Nat) (s : State) (hk : s₀.SameMem s) :
    s₀.SameMem (dscWait t s) := by
  unfold dscWait; simp (maxDischargeDepth := 100) +contextual [hk]

@[simp ↓] theorem uvStep_smem {s₀ : State} (s : State) (t st : Nat) (hk : s₀.SameMem s) :
    s₀.SameMem (State.uvStep s t st) := by
  unfold State.uvStep; simp (maxDischargeDepth := 100) +contextual [hk]

@[simp ↓] theorem ovStep_smem {s₀ : State} (s : State) (t st : Nat) (hk : s₀.SameMem s) :
    s₀.SameMem (State.ovStep s t st) := by
  unfold State.ovStep; simp (maxDischargeDepth := 100) +contextual [hk]

@[simp ↓] theorem bwResult_smem {s₀ : State} (s : State) (t st : Nat) (v : Q) (hk : s₀.SameMem s) :
    s₀.SameMem (State.bwResult s t st v) := by
  unfold State.bwResult; simp (maxDischargeDepth := 100) +contextual [hk]

@[simp ↓] theorem brkConfirm_smem {s₀ : State} (t : Nat) (s : State) (hk : s₀.SameMem s) :
    s₀.SameMem (brkConfirm t s) := by
  unfold brkConfirm; simp (maxDischargeDepth := 100) +contextual [hk]

@[simp ↓] theorem brkLoad_smem {s₀ : State} (t : Nat) (dsc low : Bool) (s : State) (hk : s₀.SameMem s) :
    s₀.SameMem (brkLoad t dsc low s) := by
  unfold brkLoad; simp (maxDischargeDepth := 100) +contextual [hk]

end Sys2Proof.Machine
end

