-- ==== Sys2Proof/Laws/Mem/Feedback.lean ====
section
/-! SUPPORT. The operations of Machine/Feedback.lean that do not write memory. -/

namespace Sys2Proof.Machine

@[simp ↓] theorem updPort_smem {s₀ : State} (s : State) (n : Fin 4) (f : Port → Port) (hk : s₀.SameMem s) :
    s₀.SameMem (State.updPort s n f) := by
  unfold State.updPort; simp (maxDischargeDepth := 100) +contextual [hk]

@[simp ↓] theorem portBits_smem {s₀ : State} (s : State) (n : Fin 4) (hk : s₀.SameMem s) :
    s₀.SameMem (State.portBits s n) := by
  unfold State.portBits; simp (maxDischargeDepth := 100) +contextual [hk]

@[simp ↓] theorem portEnter_smem {s₀ : State} (s : State) (n : Fin 4) (hk : s₀.SameMem s) :
    s₀.SameMem (State.portEnter s n) := by
  unfold State.portEnter; simp (maxDischargeDepth := 100) +contextual [hk]

@[simp ↓] theorem portStart_smem {s₀ : State} (s : State) (n : Fin 4) (hk : s₀.SameMem s) :
    s₀.SameMem (State.portStart s n) := by
  unfold State.portStart; simp (maxDischargeDepth := 100) +contextual [hk]

@[simp ↓] theorem fbModeWritten_smem {s₀ : State} (s : State) (n : Fin 4) (wasOn : Bool) (wasMode : Nat) (hk : s₀.SameMem s) :
    s₀.SameMem (State.fbModeWritten s n wasOn wasMode) := by
  unfold State.fbModeWritten; simp (maxDischargeDepth := 100) +contextual [hk]

@[simp ↓] theorem cprWritten_smem {s₀ : State} (s : State) (n : Fin 4) (hk : s₀.SameMem s) :
    s₀.SameMem (State.cprWritten s n) := by
  unfold State.cprWritten; simp (maxDischargeDepth := 100) +contextual [hk]

@[simp ↓] theorem eofsWritten_smem {s₀ : State} (s : State) (n : Fin 4) (hk : s₀.SameMem s) :
    s₀.SameMem (State.eofsWritten s n) := by
  unfold State.eofsWritten; simp (maxDischargeDepth := 100) +contextual [hk]

@[simp ↓] theorem validDelay_smem {s₀ : State} (t : Nat) (n : Fin 4) (s : State) (hk : s₀.SameMem s) :
    s₀.SameMem (validDelay t n s) := by
  unfold validDelay; simp (maxDischargeDepth := 100) +contextual [hk]

@[simp ↓] theorem portCauseGone_smem {s₀ : State} (s : State) (f : FName) (src : Nat) (hk : s₀.SameMem s) :
    s₀.SameMem (State.portCauseGone s f src) := by
  unfold State.portCauseGone; simp (maxDischargeDepth := 100) +contextual [hk]

@[simp ↓] theorem fbSupply_smem {s₀ : State} (t : Nat) (n : Fin 4) (s : State) (hk : s₀.SameMem s) :
    s₀.SameMem (fbSupply t n s) := by
  unfold fbSupply; simp (maxDischargeDepth := 100) +contextual [hk]

@[simp ↓] theorem fbWire_smem {s₀ : State} (t : Nat) (n : Fin 4) (s : State) (hk : s₀.SameMem s) :
    s₀.SameMem (fbWire t n s) := by
  unfold fbWire; simp (maxDischargeDepth := 100) +contextual [hk]

@[simp ↓] theorem standstill_smem {s₀ : State} (s : State) (n : Fin 4) (hk : s₀.SameMem s) :
    s₀.SameMem (State.standstill s n) := by
  unfold State.standstill; simp (maxDischargeDepth := 100) +contextual [hk]

@[simp ↓] theorem countEdge_smem {s₀ : State} (s : State) (st : Nat) (n : Fin 4) (rev : Bool) (hk : s₀.SameMem s) :
    s₀.SameMem (State.countEdge s st n rev) := by
  unfold State.countEdge; (try dsimp only); (repeat' split) <;> simp (maxDischargeDepth := 100) +contextual [hk]

@[simp ↓] theorem speedStandstill_smem {s₀ : State} (t : Nat) (n : Fin 4) (s : State) (hk : s₀.SameMem s) :
    s₀.SameMem (speedStandstill t n s) := by
  unfold speedStandstill; (try dsimp only); (repeat' split) <;> simp (maxDischargeDepth := 100) +contextual [hk]

@[simp ↓] theorem illegalEdge_smem {s₀ : State} (s : State) (st : Nat) (n : Fin 4) (hk : s₀.SameMem s) :
    s₀.SameMem (State.illegalEdge s st n) := by
  unfold State.illegalEdge; simp (maxDischargeDepth := 100) +contextual [hk]

@[simp ↓] theorem encoderEdge_smem {s₀ : State} (t : Nat) (n : Fin 4) (a b : Bool) (s : State) (hk : s₀.SameMem s) :
    s₀.SameMem (encoderEdge t n a b s) := by
  unfold encoderEdge; simp (maxDischargeDepth := 100) +contextual [hk]

@[simp ↓] theorem driftCheck_smem {s₀ : State} (s : State) (t : Nat) (n : Fin 4) (latch prev : Word) (tainted : Bool) (hk : s₀.SameMem s) :
    s₀.SameMem (State.driftCheck s t n latch prev tainted) := by
  unfold State.driftCheck; simp (maxDischargeDepth := 100) +contextual [hk]

@[simp ↓] theorem encoderIndex_smem {s₀ : State} (t : Nat) (n : Fin 4) (s : State) (hk : s₀.SameMem s) :
    s₀.SameMem (encoderIndex t n s) := by
  unfold encoderIndex; (try dsimp only); (repeat' split) <;> simp (maxDischargeDepth := 100) +contextual [hk]

@[simp ↓] theorem hallBad_smem {s₀ : State} (s : State) (t : Nat) (n : Fin 4) (hk : s₀.SameMem s) :
    s₀.SameMem (State.hallBad s t n) := by
  unfold State.hallBad; simp (maxDischargeDepth := 100) +contextual [hk]

@[simp ↓] theorem hallGood_smem {s₀ : State} (s : State) (n : Fin 4) (hk : s₀.SameMem s) :
    s₀.SameMem (State.hallGood s n) := by
  unfold State.hallGood; simp (maxDischargeDepth := 100) +contextual [hk]

@[simp ↓] theorem hallChange_smem {s₀ : State} (t : Nat) (n : Fin 4) (h : Fin 8) (s : State) (hk : s₀.SameMem s) :
    s₀.SameMem (hallChange t n h s) := by
  unfold hallChange; (try dsimp only); (repeat' split) <;> simp (maxDischargeDepth := 100) +contextual [hk]

@[simp ↓] theorem resolverLock_smem {s₀ : State} (t : Nat) (n : Fin 4) (s : State) (hk : s₀.SameMem s) :
    s₀.SameMem (resolverLock t n s) := by
  unfold resolverLock; simp (maxDischargeDepth := 100) +contextual [hk]

@[simp ↓] theorem resolverLoss_smem {s₀ : State} (t : Nat) (n : Fin 4) (s : State) (hk : s₀.SameMem s) :
    s₀.SameMem (resolverLoss t n s) := by
  unfold resolverLoss; simp (maxDischargeDepth := 100) +contextual [hk]

@[simp ↓] theorem resolverAmp_smem {s₀ : State} (t : Nat) (n : Fin 4) (amp : Nat) (s : State) (hk : s₀.SameMem s) :
    s₀.SameMem (resolverAmp t n amp s) := by
  unfold resolverAmp; simp (maxDischargeDepth := 100) +contextual [hk]

@[simp ↓] theorem resolverSample_smem {s₀ : State} (s : State) (n : Fin 4) (r : ResIn) (hk : s₀.SameMem s) :
    s₀.SameMem (State.resolverSample s n r) := by
  unfold State.resolverSample; simp (maxDischargeDepth := 100) +contextual [hk]

@[simp ↓] theorem ssiSample_smem {s₀ : State} (s : State) (t : Nat) (n : Fin 4) (hk : s₀.SameMem s) :
    s₀.SameMem (State.ssiSample s t n) := by
  unfold State.ssiSample; simp (maxDischargeDepth := 100) +contextual [hk]

@[simp ↓] theorem ssiDiscard_smem {s₀ : State} (s : State) (t : Nat) (n : Fin 4) (hk : s₀.SameMem s) :
    s₀.SameMem (State.ssiDiscard s t n) := by
  unfold State.ssiDiscard; simp (maxDischargeDepth := 100) +contextual [hk]

@[simp ↓] theorem ssiEnd_smem {s₀ : State} (t : Nat) (n : Fin 4) (raw : Word) (tailOk : Bool) (s : State) (hk : s₀.SameMem s) :
    s₀.SameMem (ssiEnd t n raw tailOk s) := by
  unfold ssiEnd; (try dsimp only); (repeat' split) <;> simp (maxDischargeDepth := 100) +contextual [hk]

@[simp ↓] theorem obsSample_smem {s₀ : State} (s : State) (t : Nat) (n : Fin 4) (hk : s₀.SameMem s) :
    s₀.SameMem (State.obsSample s t n) := by
  unfold State.obsSample; simp (maxDischargeDepth := 100) +contextual [hk]

@[simp ↓] theorem latchRecord_smem {s₀ : State} (s : State) (t : Nat) (n : Fin 4) (r : ResIn) (hk : s₀.SameMem s) :
    s₀.SameMem (State.latchRecord s t n r).1 := by
  unfold State.latchRecord; simp (maxDischargeDepth := 100) +contextual [hk]

@[simp ↓] theorem obsLoss_smem {s₀ : State} (t : Nat) (n : Fin 4) (s : State) (hk : s₀.SameMem s) :
    s₀.SameMem (obsLoss t n s) := by
  unfold obsLoss; simp (maxDischargeDepth := 100) +contextual [hk]

end Sys2Proof.Machine
end

