-- ==== Sys2Proof/Laws/Mem/Pwm.lean ====
section
/-! SUPPORT. The operations of Machine/Pwm.lean that do not write memory. -/

namespace Sys2Proof.Machine

@[simp ↓] theorem loseLock_smem {s₀ : State} (s : State) (t : Nat) (m : Fin 4) (hk : s₀.SameMem s) :
    s₀.SameMem (State.loseLock s t m) := by
  unfold State.loseLock; simp (maxDischargeDepth := 100) +contextual [hk]

@[simp ↓] theorem schedCarrier_smem {s₀ : State} (s : State) (t : Nat) (n : Fin 4) (hk : s₀.SameMem s) :
    s₀.SameMem (State.schedCarrier s t n) := by
  unfold State.schedCarrier; (try dsimp only); (repeat' split) <;> simp (maxDischargeDepth := 100) +contextual [hk]

@[simp ↓] theorem lockEnds_smem {s₀ : State} (s : State) (t : Nat) (m : Fin 4) (hk : s₀.SameMem s) :
    s₀.SameMem (State.lockEnds s t m) := by
  unfold State.lockEnds; simp (maxDischargeDepth := 100) +contextual [hk]

@[simp ↓] theorem sourceLost_smem {s₀ : State} (s : State) (t : Nat) (n : Fin 4) (hk : s₀.SameMem s) :
    s₀.SameMem (State.sourceLost s t n) := by
  unfold State.sourceLost; simp (maxDischargeDepth := 100) +contextual [hk]

@[simp ↓] theorem stopCarrier_smem {s₀ : State} (s : State) (t : Nat) (n : Fin 4) (hk : s₀.SameMem s) :
    s₀.SameMem (State.stopCarrier s t n) := by
  unfold State.stopCarrier; simp (maxDischargeDepth := 100) +contextual [hk]

@[simp ↓] theorem carrierWritten_smem {s₀ : State} (s : State) (t : Nat) (n : Fin 4) (wasEn : Bool) (changed : Bool) (hk : s₀.SameMem s) :
    s₀.SameMem (State.carrierWritten s t n wasEn changed) := by
  unfold State.carrierWritten; simp (maxDischargeDepth := 100) +contextual [hk]

@[simp ↓] theorem carrierStart_smem {s₀ : State} (t : Nat) (n : Fin 4) (s : State) (hk : s₀.SameMem s) :
    s₀.SameMem (carrierStart t n s) := by
  unfold carrierStart; (try dsimp only); (repeat' split) <;> simp (maxDischargeDepth := 100) +contextual [hk]

@[simp ↓] theorem carrierIrq_smem {s₀ : State} (s : State) (n : Fin 4) (pre b : Fld) (hk : s₀.SameMem s) :
    s₀.SameMem (State.carrierIrq s n pre b) := by
  unfold State.carrierIrq; simp (maxDischargeDepth := 100) +contextual [hk]

@[simp ↓] theorem compareEvent_smem {s₀ : State} (t : Nat) (n : Fin 4) (x : Fin 2) (s : State) (hk : s₀.SameMem s) :
    s₀.SameMem (compareEvent t n x s) := by
  unfold compareEvent; simp (maxDischargeDepth := 100) +contextual [hk]

@[simp ↓] theorem periodEvent_smem {s₀ : State} (s : State) (n : Fin 4) (hk : s₀.SameMem s) :
    s₀.SameMem (State.periodEvent s n) := by
  unfold State.periodEvent; simp (maxDischargeDepth := 100) +contextual [hk]

@[simp ↓] theorem periodPoint_smem {s₀ : State} (t : Nat) (n : Fin 4) (s : State) (hk : s₀.SameMem s) :
    s₀.SameMem (periodPoint t n s) := by
  unfold periodPoint; simp (maxDischargeDepth := 100) +contextual [hk]

@[simp ↓] theorem setFrame_smem {s₀ : State} (s : State) (l : Fin 12) (rise fall : Nat) (hk : s₀.SameMem s) :
    s₀.SameMem (State.setFrame s l rise fall) := by
  unfold State.setFrame; simp (maxDischargeDepth := 100) +contextual [hk]

@[simp ↓] theorem setCarry_smem {s₀ : State} (s : State) (l : Fin 12) (c : Int) (hk : s₀.SameMem s) :
    s₀.SameMem (State.setCarry s l c) := by
  unfold State.setCarry; simp (maxDischargeDepth := 100) +contextual [hk]

@[simp ↓] theorem carryLeg_smem {s₀ : State} (s : State) (z : Nat) (entry fromOff : Bool) (l : Fin 12) (f : FramePlan) (hk : s₀.SameMem s) :
    s₀.SameMem (State.carryLeg s z entry fromOff l f) := by
  unfold State.carryLeg; simp (maxDischargeDepth := 100) +contextual [hk]

@[simp ↓] theorem formLeg_smem {s₀ : State} (s : State) (n : Fin 4) (z : Nat) (pwm entry fromOff : Bool) (l : Fin 12) (hk : s₀.SameMem s) :
    s₀.SameMem (State.formLeg s n z pwm entry fromOff l) := by
  unfold State.formLeg; (try dsimp only); (repeat' split) <;> simp (maxDischargeDepth := 100) +contextual [hk]

@[simp ↓] theorem gsyncPulse_smem {s₀ : State} (s : State) (t : Nat) (n : Fin 4) (hk : s₀.SameMem s) :
    s₀.SameMem (State.gsyncPulse s t n) := by
  unfold State.gsyncPulse; simp (maxDischargeDepth := 100) +contextual [hk]

@[simp ↓] theorem sendMarker_smem {s₀ : State} (s : State) (n : Fin 4) (z : Nat) (hk : s₀.SameMem s) :
    s₀.SameMem (State.sendMarker s n z) := by
  unfold State.sendMarker; simp (maxDischargeDepth := 100) +contextual [hk]

@[simp ↓] theorem formAll_smem {s₀ : State} (s : State) (n : Fin 4) (z : Nat) (pwm entry fromOff : Bool) (hk : s₀.SameMem s) :
    s₀.SameMem (State.formAll s n z pwm entry fromOff) := by
  unfold State.formAll; simp (maxDischargeDepth := 100) +contextual [hk]

@[simp ↓] theorem startSteps_smem {s₀ : State} (s : State) (n : Fin 4) (hk : s₀.SameMem s) :
    s₀.SameMem (State.startSteps s n) := by
  unfold State.startSteps; simp (maxDischargeDepth := 100) +contextual [hk]

@[simp ↓] theorem zeroPoint_smem {s₀ : State} (t : Nat) (n : Fin 4) (s : State) (hk : s₀.SameMem s) :
    s₀.SameMem (zeroPoint t n s) := by
  unfold zeroPoint; simp (maxDischargeDepth := 100) +contextual [hk]

@[simp ↓] theorem updateFall_smem {s₀ : State} (s : State) (n : Fin 4) (l : Fin 12) (hk : s₀.SameMem s) :
    s₀.SameMem (State.updateFall s n l) := by
  unfold State.updateFall; (try dsimp only); (repeat' split) <;> simp (maxDischargeDepth := 100) +contextual [hk]

@[simp ↓] theorem deadlineMiss_smem {s₀ : State} (s : State) (t : Nat) (n : Fin 4) (hk : s₀.SameMem s) :
    s₀.SameMem (State.deadlineMiss s t n) := by
  unfold State.deadlineMiss; simp (maxDischargeDepth := 100) +contextual [hk]

@[simp ↓] theorem judgeSample_smem {s₀ : State} (c : Nat) (n : Fin 4) (s : State) (p : Nat × Option Nat) (hk : s₀.SameMem s) :
    s₀.SameMem (State.judgeSample c n s p) := by
  unfold State.judgeSample; simp (maxDischargeDepth := 100) +contextual [hk]

@[simp ↓] theorem claim_smem {s₀ : State} (s : State) (t : Nat) (n : Fin 4) (toReload : Bool) (hk : s₀.SameMem s) :
    s₀.SameMem (State.claim s t n toReload) := by
  unfold State.claim; simp (maxDischargeDepth := 100) +contextual [hk]

@[simp ↓] theorem reload_smem {s₀ : State} (t : Nat) (n : Fin 4) (toReload : Bool) (s : State) (hk : s₀.SameMem s) :
    s₀.SameMem (reload t n toReload s) := by
  unfold reload; simp (maxDischargeDepth := 100) +contextual [hk]

@[simp ↓] theorem bootRefresh_smem {s₀ : State} (t : Nat) (l : Fin 12) (s : State) (hk : s₀.SameMem s) :
    s₀.SameMem (bootRefresh t l s) := by
  unfold bootRefresh; simp (maxDischargeDepth := 100) +contextual [hk]

@[simp ↓] theorem holdForced_smem {s₀ : State} (s : State) (n : Fin 4) (l : Fin 12) (hi lo : Bool) (hk : s₀.SameMem s) :
    s₀.SameMem (State.holdForced s n l hi lo) := by
  unfold State.holdForced; simp (maxDischargeDepth := 100) +contextual [hk]

@[simp ↓] theorem forceLeg_smem {s₀ : State} (s : State) (n : Fin 4) (l : Fin 12) (hk : s₀.SameMem s) :
    s₀.SameMem (State.forceLeg s n l) := by
  unfold State.forceLeg; simp (maxDischargeDepth := 100) +contextual [hk]

@[simp ↓] theorem forceWritten_smem {s₀ : State} (s : State) (t : Nat) (n : Fin 4) (hk : s₀.SameMem s) :
    s₀.SameMem (State.forceWritten s t n) := by
  unfold State.forceWritten; simp (maxDischargeDepth := 100) +contextual [hk]

end Sys2Proof.Machine
end

