-- ==== Sys2Proof/Laws/Mem/Gates.lean ====
section
/-! SUPPORT. The operations of Machine/Gates.lean that do not write memory. -/

namespace Sys2Proof.Machine

@[simp ↓] theorem heldChanged_smem {s₀ : State} (s : State) (t : Nat) (g : Fin 26) (hk : s₀.SameMem s) :
    s₀.SameMem (State.heldChanged s t g) := by
  unfold State.heldChanged; simp (maxDischargeDepth := 100) +contextual [hk]

@[simp ↓] theorem raiseGate_smem {s₀ : State} (s : State) (t : Nat) (name : FName) (g : Fin 26) (c : Fin 4) (stamp : Nat) (sev : Nat) (epoch : Option Nat) (hk : s₀.SameMem s) :
    s₀.SameMem (State.raiseGate s t name g c stamp sev epoch) := by
  unfold State.raiseGate; simp (maxDischargeDepth := 100) +contextual [hk]

@[simp ↓] theorem softOff_smem {s₀ : State} (s : State) (t : Nat) (g : Fin 26) (hk : s₀.SameMem s) :
    s₀.SameMem (State.softOff s t g) := by
  unfold State.softOff; simp (maxDischargeDepth := 100) +contextual [hk]

@[simp ↓] theorem desatDetected_smem {s₀ : State} (t : Nat) (g : Fin 26) (s : State) (hk : s₀.SameMem s) :
    s₀.SameMem (desatDetected t g s) := by
  unfold desatDetected; simp (maxDischargeDepth := 100) +contextual [hk]

@[simp ↓] theorem desatReport_smem {s₀ : State} (t : Nat) (g : Fin 26) (s : State) (hk : s₀.SameMem s) :
    s₀.SameMem (desatReport t g s) := by
  unfold desatReport; (try dsimp only); (repeat' split) <;> simp (maxDischargeDepth := 100) +contextual [hk]

@[simp ↓] theorem restartSteps_smem {s₀ : State} (s : State) (g : Fin 26) (hk : s₀.SameMem s) :
    s₀.SameMem (State.restartSteps s g) := by
  unfold State.restartSteps; simp (maxDischargeDepth := 100) +contextual [hk]

@[simp ↓] theorem softEnd_smem {s₀ : State} (t : Nat) (g : Fin 26) (s : State) (hk : s₀.SameMem s) :
    s₀.SameMem (softEnd t g s) := by
  unfold softEnd; simp (maxDischargeDepth := 100) +contextual [hk]

@[simp ↓] theorem uvClear_smem {s₀ : State} (s : State) (g : Fin 26) (r : RailIn) (hk : s₀.SameMem s) :
    s₀.SameMem (State.uvClear s g r) := by
  unfold State.uvClear; simp (maxDischargeDepth := 100) +contextual [hk]

@[simp ↓] theorem putRailOk_smem {s₀ : State} (s : State) (g : Fin 26) (ok : Bool) (hk : s₀.SameMem s) :
    s₀.SameMem (State.putRailOk s g ok) := by
  unfold State.putRailOk; simp (maxDischargeDepth := 100) +contextual [hk]

@[simp ↓] theorem bootRails_smem {s₀ : State} (s : State) (g : Fin 26) (ok : Bool) (hk : s₀.SameMem s) :
    s₀.SameMem (State.bootRails s g ok) := by
  unfold State.bootRails; (try dsimp only); (repeat' split) <;> simp (maxDischargeDepth := 100) +contextual [hk]

@[simp ↓] theorem takeRails_smem {s₀ : State} (s : State) (g : Fin 26) (r : RailIn) (hk : s₀.SameMem s) :
    s₀.SameMem (State.takeRails s g r) := by
  unfold State.takeRails; simp (maxDischargeDepth := 100) +contextual [hk]

@[simp ↓] theorem railsUp_smem {s₀ : State} (s : State) (g : Fin 26) (hk : s₀.SameMem s) :
    s₀.SameMem (State.railsUp s g) := by
  unfold State.railsUp; simp (maxDischargeDepth := 100) +contextual [hk]

@[simp ↓] theorem railOn_smem {s₀ : State} (s : State) (t : Nat) (g : Fin 26) (hk : s₀.SameMem s) :
    s₀.SameMem (State.railOn s t g) := by
  unfold State.railOn; simp (maxDischargeDepth := 100) +contextual [hk]

@[simp ↓] theorem railOff_smem {s₀ : State} (s : State) (g : Fin 26) (hk : s₀.SameMem s) :
    s₀.SameMem (State.railOff s g) := by
  unfold State.railOff; simp (maxDischargeDepth := 100) +contextual [hk]

@[simp ↓] theorem bootWritten_smem {s₀ : State} (s : State) (g : Fin 26) (was : Bool) (hk : s₀.SameMem s) :
    s₀.SameMem (State.bootWritten s g was) := by
  unfold State.bootWritten; simp (maxDischargeDepth := 100) +contextual [hk]

@[simp ↓] theorem railUv_smem {s₀ : State} (t : Nat) (g : Fin 26) (vp : Bool) (r : RailIn) (s : State) (hk : s₀.SameMem s) :
    s₀.SameMem (railUv t g vp r s) := by
  unfold railUv; simp (maxDischargeDepth := 100) +contextual [hk]

@[simp ↓] theorem bootUv_smem {s₀ : State} (t : Nat) (g : Fin 26) (s : State) (hk : s₀.SameMem s) :
    s₀.SameMem (bootUv t g s) := by
  unfold bootUv; simp (maxDischargeDepth := 100) +contextual [hk]

@[simp ↓] theorem gateSupply_smem {s₀ : State} (t : Nat) (g : Fin 26) (r : RailIn) (s : State) (hk : s₀.SameMem s) :
    s₀.SameMem (gateSupply t g r s) := by
  unfold gateSupply; simp (maxDischargeDepth := 100) +contextual [hk]

@[simp ↓] theorem railMissing_smem {s₀ : State} (s : State) (t : Nat) (g : Fin 26) (hk : s₀.SameMem s) :
    s₀.SameMem (State.railMissing s t g) := by
  unfold State.railMissing; simp (maxDischargeDepth := 100) +contextual [hk]

@[simp ↓] theorem enableX_smem {s₀ : State} (s : State) (t : Nat) (hk : s₀.SameMem s) :
    s₀.SameMem (State.enableX s t) := by
  unfold State.enableX; simp (maxDischargeDepth := 100) +contextual [hk]

@[simp ↓] theorem startX_smem {s₀ : State} (s : State) (t : Nat) (ok : Bool) (hk : s₀.SameMem s) :
    s₀.SameMem (State.startX s t ok) := by
  unfold State.startX; simp (maxDischargeDepth := 100) +contextual [hk]

@[simp ↓] theorem railStep_smem {s₀ : State} (t : Nat) (g : Fin 26) (r : RailIn) (s : State) (hk : s₀.SameMem s) :
    s₀.SameMem (railStep t g r s) := by
  unfold railStep; simp (maxDischargeDepth := 100) +contextual [hk]

@[simp ↓] theorem commandLoss_smem {s₀ : State} (t : Nat) (g : Fin 26) (back : Bool) (s : State) (hk : s₀.SameMem s) :
    s₀.SameMem (commandLoss t g back s) := by
  unfold commandLoss; simp (maxDischargeDepth := 100) +contextual [hk]

@[simp ↓] theorem statusLoss_smem {s₀ : State} (t : Nat) (g : Fin 26) (s : State) (hk : s₀.SameMem s) :
    s₀.SameMem (statusLoss t g s) := by
  unfold statusLoss; simp (maxDischargeDepth := 100) +contextual [hk]

@[simp ↓] theorem retryOne_smem {s₀ : State} (s : State) (t : Nat) (g : Fin 26) (c : Fin 4) (frames : Bool) (name : FName) (hk : s₀.SameMem s) :
    s₀.SameMem (State.retryOne s t g c frames name) := by
  unfold State.retryOne; simp (maxDischargeDepth := 100) +contextual [hk]

@[simp ↓] theorem retryExpiry_smem {s₀ : State} (t : Nat) (g : Fin 24) (c : Fin 4) (r : RailIn) (frames : Bool) (s : State) (hk : s₀.SameMem s) :
    s₀.SameMem (retryExpiry t g c r frames s) := by
  unfold retryExpiry; simp (maxDischargeDepth := 100) +contextual [hk]

@[simp ↓] theorem gateCauseGone_smem {s₀ : State} (s : State) (name : FName) (g : Fin 26) (hk : s₀.SameMem s) :
    s₀.SameMem (State.gateCauseGone s name g) := by
  unfold State.gateCauseGone; (try dsimp only); (repeat' split) <;> simp (maxDischargeDepth := 100) +contextual [hk]

@[simp ↓] theorem plateau_smem {s₀ : State} (t : Nat) (g : Fin 24) (on : Bool) (tp : Option Nat) (s : State) (hk : s₀.SameMem s) :
    s₀.SameMem (plateau t g on tp s) := by
  unfold plateau; (try dsimp only); (repeat' split) <;> simp (maxDischargeDepth := 100) +contextual [hk]

@[simp ↓] theorem blockLeg_smem {s₀ : State} (s : State) (t : Nat) (l : Fin 12) (hk : s₀.SameMem s) :
    s₀.SameMem (State.blockLeg s t l) := by
  unfold State.blockLeg; simp (maxDischargeDepth := 100) +contextual [hk]

@[simp ↓] theorem freeLeg_smem {s₀ : State} (s : State) (t : Nat) (l : Fin 12) (hk : s₀.SameMem s) :
    s₀.SameMem (State.freeLeg s t l) := by
  unfold State.freeLeg; simp (maxDischargeDepth := 100) +contextual [hk]

@[simp ↓] theorem shootThrough_smem {s₀ : State} (t : Nat) (l : Fin 12) (both : Bool) (s : State) (hk : s₀.SameMem s) :
    s₀.SameMem (shootThrough t l both s) := by
  unfold shootThrough; simp (maxDischargeDepth := 100) +contextual [hk]

@[simp ↓] theorem foundGone_smem {s₀ : State} (s : State) (gone : List (FName × Nat × Nat)) (hk : s₀.SameMem s) :
    s₀.SameMem (State.foundGone s gone) := by
  unfold State.foundGone; simp (maxDischargeDepth := 100) +contextual [hk]

@[simp ↓] theorem findGone_smem {s₀ : State} (s : State) (hk : s₀.SameMem s) :
    s₀.SameMem (State.findGone s) := by
  unfold State.findGone; (try dsimp only); (repeat' split) <;> simp (maxDischargeDepth := 100) +contextual [hk]

end Sys2Proof.Machine
end

