-- ==== Sys2Proof/Laws/Mem/Thermal.lean ====
section
/-! SUPPORT. The operations of Machine/Thermal.lean that do not write memory. -/

namespace Sys2Proof.Machine

@[simp ↓] theorem sensorRound_smem {s₀ : State} (t : Nat) (s : State) (c : Fin 44) (hk : s₀.SameMem s) :
    s₀.SameMem (State.sensorRound t s c) := by
  unfold State.sensorRound; simp (maxDischargeDepth := 100) +contextual [hk]

@[simp ↓] theorem thermalRound_smem {s₀ : State} (s : State) (t : Nat) (hk : s₀.SameMem s) :
    s₀.SameMem (State.thermalRound s t) := by
  unfold State.thermalRound; simp (maxDischargeDepth := 100) +contextual [hk]

@[simp ↓] theorem setThrottle_smem {s₀ : State} (s : State) (t : Nat) (n : Fin 4) (l : Nat) (hk : s₀.SameMem s) :
    s₀.SameMem (State.setThrottle s t n l) := by
  unfold State.setThrottle; simp (maxDischargeDepth := 100) +contextual [hk]

@[simp ↓] theorem thermalDwell_smem {s₀ : State} (t : Nat) (s : State) (hk : s₀.SameMem s) :
    s₀.SameMem (thermalDwell t s) := by
  unfold thermalDwell; simp (maxDischargeDepth := 100) +contextual [hk]

@[simp ↓] theorem noteTherm_smem {s₀ : State} (s : State) (n : Fin 4) (hk : s₀.SameMem s) :
    s₀.SameMem (State.noteTherm s n) := by
  unfold State.noteTherm; simp (maxDischargeDepth := 100) +contextual [hk]

@[simp ↓] theorem thermalTrip_smem {s₀ : State} (t : Nat) (die : Bool) (s : State) (hk : s₀.SameMem s) :
    s₀.SameMem (thermalTrip t die s) := by
  unfold thermalTrip; simp (maxDischargeDepth := 100) +contextual [hk]

@[simp ↓] theorem restartAxis_smem {s₀ : State} (t : Nat) (s : State) (n : Fin 4) (hk : s₀.SameMem s) :
    s₀.SameMem (State.restartAxis t s n) := by
  unfold State.restartAxis; (try dsimp only); (repeat' split) <;> simp (maxDischargeDepth := 100) +contextual [hk]

@[simp ↓] theorem thermalRestart_smem {s₀ : State} (s : State) (t : Nat) (hk : s₀.SameMem s) :
    s₀.SameMem (State.thermalRestart s t) := by
  unfold State.thermalRestart; simp (maxDischargeDepth := 100) +contextual [hk]

@[simp ↓] theorem thermalCool_smem {s₀ : State} (t : Nat) (s : State) (hk : s₀.SameMem s) :
    s₀.SameMem (thermalCool t s) := by
  unfold thermalCool; simp (maxDischargeDepth := 100) +contextual [hk]

end Sys2Proof.Machine
end

