-- ==== Sys2Proof/Laws/Mem/Breakwater.lean ====
section
/-! SUPPORT. The operations of Machine/Breakwater.lean that do not write memory. -/

namespace Sys2Proof.Machine

@[simp ↓] theorem tripIn_smem {s₀ : State} (s : State) (t first : Nat) (k : Fin 8) (hk : s₀.SameMem s) :
    s₀.SameMem (State.tripIn s t first k) := by
  unfold State.tripIn; simp (maxDischargeDepth := 100) +contextual [hk]

@[simp ↓] theorem tripOut_smem {s₀ : State} (s : State) (k : Fin 8) (hk : s₀.SameMem s) :
    s₀.SameMem (State.tripOut s k) := by
  unfold State.tripOut; simp (maxDischargeDepth := 100) +contextual [hk]

@[simp ↓] theorem tripAccepted_smem {s₀ : State} (t : Nat) (k : Fin 8) (first : Nat) (high : Bool) (s : State) (hk : s₀.SameMem s) :
    s₀.SameMem (tripAccepted t k first high s) := by
  unfold tripAccepted; simp (maxDischargeDepth := 100) +contextual [hk]

@[simp ↓] theorem tripInactive_smem {s₀ : State} (t : Nat) (k : Fin 8) (first : Nat) (high : Bool) (s : State) (hk : s₀.SameMem s) :
    s₀.SameMem (tripInactive t k first high s) := by
  unfold tripInactive; simp (maxDischargeDepth := 100) +contextual [hk]

@[simp ↓] theorem tripWritten_smem {s₀ : State} (s : State) (t : Nat) (k : Fin 8) (wasEn : Bool) (hk : s₀.SameMem s) :
    s₀.SameMem (State.tripWritten s t k wasEn) := by
  unfold State.tripWritten; simp (maxDischargeDepth := 100) +contextual [hk]

@[simp ↓] theorem watchSto_smem {s₀ : State} (s : State) (t : Nat) (b lv : Bool) (hk : s₀.SameMem s) :
    s₀.SameMem (State.watchSto s t b lv) := by
  unfold State.watchSto; simp (maxDischargeDepth := 100) +contextual [hk]

@[simp ↓] theorem stoLow_smem {s₀ : State} (t : Nat) (b : Bool) (s : State) (hk : s₀.SameMem s) :
    s₀.SameMem (stoLow t b s) := by
  unfold stoLow; simp (maxDischargeDepth := 100) +contextual [hk]

@[simp ↓] theorem stoHigh_smem {s₀ : State} (t : Nat) (b : Bool) (s : State) (hk : s₀.SameMem s) :
    s₀.SameMem (stoHigh t b s) := by
  unfold stoHigh; simp (maxDischargeDepth := 100) +contextual [hk]

@[simp ↓] theorem gtripLow_smem {s₀ : State} (t : Nat) (s : State) (hk : s₀.SameMem s) :
    s₀.SameMem (gtripLow t s) := by
  unfold gtripLow; simp (maxDischargeDepth := 100) +contextual [hk]

@[simp ↓] theorem gtripHigh_smem {s₀ : State} (t : Nat) (s : State) (hk : s₀.SameMem s) :
    s₀.SameMem (gtripHigh t s) := by
  unfold gtripHigh; simp (maxDischargeDepth := 100) +contextual [hk]

@[simp ↓] theorem gtripRelease_smem {s₀ : State} (t : Nat) (s : State) (hk : s₀.SameMem s) :
    s₀.SameMem (gtripRelease t s) := by
  unfold gtripRelease; simp (maxDischargeDepth := 100) +contextual [hk]

@[simp ↓] theorem faultArrival_smem {s₀ : State} (t : Nat) (f : FaultIn) (s : State) (hk : s₀.SameMem s) :
    s₀.SameMem (faultArrival t f s) := by
  unfold faultArrival; (try dsimp only); (repeat' split) <;> simp (maxDischargeDepth := 100) +contextual [hk]

end Sys2Proof.Machine
end

