-- ==== Sys2Proof/Laws/Mem/Berths.lean ====
section
/-! SUPPORT. The operations of Machine/Berths.lean that do not write memory. -/

namespace Sys2Proof.Machine

@[simp ↓] theorem claimBollard_smem {s₀ : State} (s : State) (req : Nat) (k : Fin 16) (hk : s₀.SameMem s) :
    s₀.SameMem (State.claimBollard s req k).1 := by
  unfold State.claimBollard; simp (maxDischargeDepth := 100) +contextual [hk]

@[simp ↓] theorem putBollard_smem {s₀ : State} (s : State) (req : Nat) (k : Fin 16) (w : Word) (hk : s₀.SameMem s) :
    s₀.SameMem (State.putBollard s req k w) := by
  unfold State.putBollard; simp (maxDischargeDepth := 100) +contextual [hk]

@[simp ↓] theorem freeBollard_smem {s₀ : State} (s : State) (t : Nat) (k : Fin 16) (hk : s₀.SameMem s) :
    s₀.SameMem (State.freeBollard s t k) := by
  unfold State.freeBollard; simp (maxDischargeDepth := 100) +contextual [hk]

@[simp ↓] theorem freeBollards_smem {s₀ : State} (s : State) (t : Nat) (p : Nat → Bool) (hk : s₀.SameMem s) :
    s₀.SameMem (State.freeBollards s t p) := by
  unfold State.freeBollards; simp (maxDischargeDepth := 100) +contextual [hk]

@[simp ↓] theorem kfreeWritten_smem {s₀ : State} (s : State) (t : Nat) (w : Word) (hk : s₀.SameMem s) :
    s₀.SameMem (State.kfreeWritten s t w) := by
  unfold State.kfreeWritten; simp (maxDischargeDepth := 100) +contextual [hk]

@[simp ↓] theorem updCore_smem {s₀ : State} (s : State) (r : Fin 4) (f : Core → Core) (hk : s₀.SameMem s) :
    s₀.SameMem (State.updCore s r f) := by
  unfold State.updCore; simp (maxDischargeDepth := 100) +contextual [hk]

@[simp ↓] theorem timerLevel_smem {s₀ : State} (s : State) (r : Fin 4) (hk : s₀.SameMem s) :
    s₀.SameMem (State.timerLevel s r) := by
  unfold State.timerLevel; simp (maxDischargeDepth := 100) +contextual [hk]

@[simp ↓] theorem runWritten_smem {s₀ : State} (s : State) (t : Nat) (r : Fin 4) (was : Bool) (hk : s₀.SameMem s) :
    s₀.SameMem (State.runWritten s t r was) := by
  unfold State.runWritten; simp (maxDischargeDepth := 100) +contextual [hk]

@[simp ↓] theorem acFault_smem {s₀ : State} (s : State) (t : Nat) (w : Word) (req : Nat) (hk : s₀.SameMem s) :
    s₀.SameMem (State.acFault s t w req) := by
  unfold State.acFault; simp (maxDischargeDepth := 100) +contextual [hk]

@[simp ↓] theorem patrolScrub_smem {s₀ : State} (t addr : Nat) (kind : Fin 3) (s : State) (hk : s₀.SameMem s) :
    s₀.SameMem (patrolScrub t addr kind s) := by
  unfold patrolScrub; (try dsimp only); (repeat' split) <;> simp (maxDischargeDepth := 100) +contextual [hk]

@[simp ↓] theorem berthSend_smem {s₀ : State} (s : State) (b : Fin 32) (i : Fin 16) (w : Word) (hk : s₀.SameMem s) :
    s₀.SameMem (State.berthSend s b i w) := by
  unfold State.berthSend; simp (maxDischargeDepth := 100) +contextual [hk]

@[simp ↓] theorem berthTake_smem {s₀ : State} (s : State) (b : Fin 32) (hk : s₀.SameMem s) :
    s₀.SameMem (State.berthTake s b) := by
  unfold State.berthTake; simp (maxDischargeDepth := 100) +contextual [hk]

@[simp ↓] theorem berthConfigured_smem {s₀ : State} (s : State) (b : Nat) (old : Word) (hk : s₀.SameMem s) :
    s₀.SameMem (State.berthConfigured s b old) := by
  unfold State.berthConfigured; simp (maxDischargeDepth := 100) +contextual [hk]

@[simp ↓] theorem berthMessage_smem {s₀ : State} (s : State) (b : Fin 32) (m : List Byte) (hk : s₀.SameMem s) :
    s₀.SameMem (State.berthMessage s b m) := by
  unfold State.berthMessage; simp (maxDischargeDepth := 100) +contextual [hk]

@[simp ↓] theorem own_smem {s₀ : State} (s : State) (a : Fin 3) (w : Fin 8) (hk : s₀.SameMem s) :
    s₀.SameMem (State.own s a w) := by
  unfold State.own; simp (maxDischargeDepth := 100) +contextual [hk]

@[simp ↓] theorem arbiterDraw_smem {s₀ : State} (t : Nat) (a : Fin 3) (requests : Nat) (s : State) (hk : s₀.SameMem s) :
    s₀.SameMem (arbiterDraw t a requests s) := by
  unfold arbiterDraw; (try dsimp only); (repeat' split) <;> simp (maxDischargeDepth := 100) +contextual [hk]

@[simp ↓] theorem backoffExpiry_smem {s₀ : State} (t : Nat) (a : Fin 3) (i : Fin 8) (s : State) (hk : s₀.SameMem s) :
    s₀.SameMem (backoffExpiry t a i s) := by
  unfold backoffExpiry; simp (maxDischargeDepth := 100) +contextual [hk]

@[simp ↓] theorem seedArbiters_smem {s₀ : State} (s : State) (hk : s₀.SameMem s) :
    s₀.SameMem (State.seedArbiters s) := by
  unfold State.seedArbiters; simp (maxDischargeDepth := 100) +contextual [hk]

@[simp ↓] theorem bandwidthEnd_smem {s₀ : State} (t : Nat) (units : List Nat) (s : State) (hk : s₀.SameMem s) :
    s₀.SameMem (bandwidthEnd t units s) := by
  unfold bandwidthEnd; simp (maxDischargeDepth := 100) +contextual [hk]

@[simp ↓] theorem perfClear_smem {s₀ : State} (s : State) (u : Fin 8) (hk : s₀.SameMem s) :
    s₀.SameMem (State.perfClear s u) := by
  unfold State.perfClear; simp (maxDischargeDepth := 100) +contextual [hk]

end Sys2Proof.Machine
end

