-- ==== Sys2Proof/Laws/Mem/Image.lean ====
section
/-! SUPPORT. The operations of Machine/Image.lean that do not write memory. -/

namespace Sys2Proof.Machine

@[simp ↓] theorem setStage_smem {s₀ : State} (s : State) (o : Nat) (l : List Byte) (hk : s₀.SameMem s) :
    s₀.SameMem (State.setStage s o l) := by
  unfold State.setStage; simp (maxDischargeDepth := 100) +contextual [hk]

@[simp ↓] theorem loadStage_smem {s₀ : State} (s : State) (l : List Byte) (hk : s₀.SameMem s) :
    s₀.SameMem (State.loadStage s l) := by
  unfold State.loadStage; simp (maxDischargeDepth := 100) +contextual [hk]

end Sys2Proof.Machine
end

