-- ==== Sys2Proof/Laws/Mem/Passes.lean ====
section
/-! SUPPORT. The operations of Machine/Passes.lean that do not write memory. -/

namespace Sys2Proof.Machine

@[simp ↓] theorem setState_smem {s₀ : State} (s : State) (n : Fin 4) (i : Nat) (w : Word) (hk : s₀.SameMem s) :
    s₀.SameMem (State.setState s n i w) := by
  unfold State.setState; simp (maxDischargeDepth := 100) +contextual [hk]

@[simp ↓] theorem setCoef_smem {s₀ : State} (s : State) (n : Fin 4) (i : Nat) (w : Word) (hk : s₀.SameMem s) :
    s₀.SameMem (State.setCoef s n i w) := by
  unfold State.setCoef; simp (maxDischargeDepth := 100) +contextual [hk]

@[simp ↓] theorem setPort_smem {s₀ : State} (s : State) (n : Fin 4) (i : Nat) (w : Word) (hk : s₀.SameMem s) :
    s₀.SameMem (State.setPort s n i w) := by
  unfold State.setPort; simp (maxDischargeDepth := 100) +contextual [hk]

@[simp ↓] theorem setBuf_smem {s₀ : State} (s : State) (n : Fin 4) (i : Nat) (w : Word) (hk : s₀.SameMem s) :
    s₀.SameMem (State.setBuf s n i w) := by
  unfold State.setBuf; simp (maxDischargeDepth := 100) +contextual [hk]

@[simp ↓] theorem writeState_smem {s₀ : State} (s : State) (n : Fin 4) (i : Nat) (w : Word) (hk : s₀.SameMem s) :
    s₀.SameMem (State.writeState s n i w) := by
  unfold State.writeState; simp (maxDischargeDepth := 100) +contextual [hk]

@[simp ↓] theorem writePort_smem {s₀ : State} (s : State) (n : Fin 4) (i : Nat) (w : Word) (hk : s₀.SameMem s) :
    s₀.SameMem (State.writePort s n i w) := by
  unfold State.writePort; simp (maxDischargeDepth := 100) +contextual [hk]

@[simp ↓] theorem writeBuf_smem {s₀ : State} (s : State) (n : Fin 4) (i : Nat) (w : Word) (hk : s₀.SameMem s) :
    s₀.SameMem (State.writeBuf s n i w) := by
  unfold State.writeBuf; (try dsimp only); (repeat' split) <;> simp (maxDischargeDepth := 100) +contextual [hk]

@[simp ↓] theorem perfPut_smem {s₀ : State} (s : State) (u : Fin 8) (r : List Word) (hk : s₀.SameMem s) :
    s₀.SameMem (State.perfPut s u r) := by
  unfold State.perfPut; simp (maxDischargeDepth := 100) +contextual [hk]

@[simp ↓] theorem leSample_smem {s₀ : State} (s : State) (t : Nat) (n : Fin 4) (w : Word64) (pc : Nat) (hk : s₀.SameMem s) :
    s₀.SameMem (State.leSample s t n w pc) := by
  unfold State.leSample; simp (maxDischargeDepth := 100) +contextual [hk]

@[simp ↓] theorem hpmCount_smem {s₀ : State} (s : State) (r : Fin 4) (event : Nat) (hk : s₀.SameMem s) :
    s₀.SameMem (State.hpmCount s r event) := by
  unfold State.hpmCount; simp (maxDischargeDepth := 100) +contextual [hk]

@[simp ↓] theorem coreSample_smem {s₀ : State} (s : State) (t : Nat) (r : Fin 4) (hk : s₀.SameMem s) :
    s₀.SameMem (State.coreSample s t r) := by
  unfold State.coreSample; simp (maxDischargeDepth := 100) +contextual [hk]

@[simp ↓] theorem coreAccess_smem {s₀ : State} (s : State) (t req : Nat) (store : Bool) (hk : s₀.SameMem s) :
    s₀.SameMem (State.coreAccess s t req store) := by
  unfold State.coreAccess; (try dsimp only); (repeat' split) <;> simp (maxDischargeDepth := 100) +contextual [hk]

@[simp ↓] theorem passDone_smem {s₀ : State} (s : State) (t : Nat) (n : Fin 4) (hk : s₀.SameMem s) :
    s₀.SameMem (State.passDone s t n) := by
  unfold State.passDone; simp (maxDischargeDepth := 100) +contextual [hk]

@[simp ↓] theorem startPass_smem {s₀ : State} (s : State) (t : Nat) (n : Fin 4) (phase entry : Nat) (hk : s₀.SameMem s) :
    s₀.SameMem (State.startPass s t n phase entry) := by
  unfold State.startPass; simp (maxDischargeDepth := 100) +contextual [hk]

@[simp ↓] theorem startFull_smem {s₀ : State} (s : State) (t : Nat) (n : Fin 4) (hk : s₀.SameMem s) :
    s₀.SameMem (State.startFull s t n) := by
  unfold State.startFull; simp (maxDischargeDepth := 100) +contextual [hk]

@[simp ↓] theorem startGo_smem {s₀ : State} (s : State) (t : Nat) (n : Fin 4) (hk : s₀.SameMem s) :
    s₀.SameMem (State.startGo s t n) := by
  unfold State.startGo; simp (maxDischargeDepth := 100) +contextual [hk]

@[simp ↓] theorem squash_smem {s₀ : State} (s : State) (t : Nat) (n : Fin 4) (hk : s₀.SameMem s) :
    s₀.SameMem (State.squash s t n) := by
  unfold State.squash; simp (maxDischargeDepth := 100) +contextual [hk]

@[simp ↓] theorem startPilot_smem {s₀ : State} (s : State) (t : Nat) (n : Fin 4) (hk : s₀.SameMem s) :
    s₀.SameMem (State.startPilot s t n) := by
  unfold State.startPilot; simp (maxDischargeDepth := 100) +contextual [hk]

@[simp ↓] theorem engineFree_smem {s₀ : State} (s : State) (t : Nat) (n : Fin 4) (hk : s₀.SameMem s) :
    s₀.SameMem (State.engineFree s t n) := by
  unfold State.engineFree; simp (maxDischargeDepth := 100) +contextual [hk]

@[simp ↓] theorem endPass_smem {s₀ : State} (s : State) (t : Nat) (n : Fin 4) (hk : s₀.SameMem s) :
    s₀.SameMem (State.endPass s t n) := by
  unfold State.endPass; simp (maxDischargeDepth := 100) +contextual [hk]

@[simp ↓] theorem endUncommitted_smem {s₀ : State} (s : State) (t : Nat) (n : Fin 4) (hk : s₀.SameMem s) :
    s₀.SameMem (State.endUncommitted s t n) := by
  unfold State.endUncommitted; simp (maxDischargeDepth := 100) +contextual [hk]

@[simp ↓] theorem goWritten_smem {s₀ : State} (s : State) (t : Nat) (n : Fin 4) (hk : s₀.SameMem s) :
    s₀.SameMem (State.goWritten s t n) := by
  unfold State.goWritten; simp (maxDischargeDepth := 100) +contextual [hk]

@[simp ↓] theorem resultsArrive_smem {s₀ : State} (s : State) (t : Nat) (n : Fin 4) (st : Nat) (hk : s₀.SameMem s) :
    s₀.SameMem (State.resultsArrive s t n st) := by
  unfold State.resultsArrive; (try dsimp only); (repeat' split) <;> simp (maxDischargeDepth := 100) +contextual [hk]

@[simp ↓] theorem faultRequest_smem {s₀ : State} (s : State) (n : Fin 4) (old new st : Nat) (hk : s₀.SameMem s) :
    s₀.SameMem (State.faultRequest s n old new st) := by
  unfold State.faultRequest; (try dsimp only); (repeat' split) <;> simp (maxDischargeDepth := 100) +contextual [hk]

@[simp ↓] theorem hitLive_smem {s₀ : State} (s : State) (t : Nat) (n : Fin 4) (hk : s₀.SameMem s) :
    s₀.SameMem (State.hitLive s t n) := by
  unfold State.hitLive; simp (maxDischargeDepth := 100) +contextual [hk]

@[simp ↓] theorem obsFound_smem {s₀ : State} (s : State) (n : Fin 4) (hk : s₀.SameMem s) :
    s₀.SameMem (State.obsFound s n) := by
  unfold State.obsFound; simp (maxDischargeDepth := 100) +contextual [hk]

@[simp ↓] theorem takeObserver_smem {s₀ : State} (s : State) (n : Fin 4) (set : List (Nat × Word)) (hk : s₀.SameMem s) :
    s₀.SameMem (State.takeObserver s n set) := by
  unfold State.takeObserver; simp (maxDischargeDepth := 100) +contextual [hk]

@[simp ↓] theorem obsSequence_smem {s₀ : State} (s : State) (n : Fin 4) (set : List (Nat × Word)) (hk : s₀.SameMem s) :
    s₀.SameMem (State.obsSequence s n set) := by
  unfold State.obsSequence; simp (maxDischargeDepth := 100) +contextual [hk]

@[simp ↓] theorem commitPass_smem {s₀ : State} (s : State) (t : Nat) (n : Fin 4) (hk : s₀.SameMem s) :
    s₀.SameMem (State.commitPass s t n) := by
  unfold State.commitPass; simp (maxDischargeDepth := 100) +contextual [hk]

@[simp ↓] theorem handOver_smem {s₀ : State} (s : State) (t : Nat) (n : Fin 4) (set : List (Nat × Word)) (duty : DutySet) (hk : s₀.SameMem s) :
    s₀.SameMem (State.handOver s t n set duty) := by
  unfold State.handOver; simp (maxDischargeDepth := 100) +contextual [hk]

@[simp ↓] theorem commitComplete_smem {s₀ : State} (t : Nat) (n : Fin 4) (s : State) (hk : s₀.SameMem s) :
    s₀.SameMem (commitComplete t n s) := by
  unfold commitComplete; simp (maxDischargeDepth := 100) +contextual [hk]

end Sys2Proof.Machine
end

