-- ==== Sys2Proof/Laws/Mem/Logbook.lean ====
section
/-! SUPPORT. The operations of Machine/Logbook.lean that do not write memory. -/

namespace Sys2Proof.Machine

@[simp ↓] theorem takeWait_smem {s₀ : State} (now : Nat) (s : State) (w : LogWait) (hk : s₀.SameMem s) :
    s₀.SameMem (State.takeWait now s w) := by
  unfold State.takeWait; simp (maxDischargeDepth := 100) +contextual [hk]

@[simp ↓] theorem drainLog_smem {s₀ : State} (s : State) (now : Nat) (hk : s₀.SameMem s) :
    s₀.SameMem (State.drainLog s now) := by
  unfold State.drainLog; simp (maxDischargeDepth := 100) +contextual [hk]

@[simp ↓] theorem viewRelease_smem {s₀ : State} (t : Nat) (s : State) (hk : s₀.SameMem s) :
    s₀.SameMem (viewRelease t s) := by
  unfold viewRelease; simp (maxDischargeDepth := 100) +contextual [hk]

@[simp ↓] theorem queueFull_smem {s₀ : State} (s : State) (hk : s₀.SameMem s) :
    s₀.SameMem (State.queueFull s) := by
  unfold State.queueFull; (try dsimp only); (repeat' split) <;> simp (maxDischargeDepth := 100) +contextual [hk]

@[simp ↓] theorem closeAll_smem {s₀ : State} (s : State) (now : Nat) (hk : s₀.SameMem s) :
    s₀.SameMem (State.closeAll s now) := by
  unfold State.closeAll; simp (maxDischargeDepth := 100) +contextual [hk]

@[simp ↓] theorem logIdle_smem {s₀ : State} (s : State) (hk : s₀.SameMem s) :
    s₀.SameMem (State.logIdle s) := by
  unfold State.logIdle; simp (maxDischargeDepth := 100) +contextual [hk]

@[simp ↓] theorem logTriggerNow_smem {s₀ : State} (s : State) (now : Nat) (hk : s₀.SameMem s) :
    s₀.SameMem (State.logTriggerNow s now) := by
  unfold State.logTriggerNow; simp (maxDischargeDepth := 100) +contextual [hk]

@[simp ↓] theorem lwFound_smem {s₀ : State} (s : State) (hk : s₀.SameMem s) :
    s₀.SameMem (State.lwFound s) := by
  unfold State.lwFound; (try dsimp only); (repeat' split) <;> simp (maxDischargeDepth := 100) +contextual [hk]

end Sys2Proof.Machine
end

