-- ==== Sys2Proof/Laws/Mem/NetBase.lean ====
section
/-! SUPPORT. The operations of Machine/NetBase.lean that do not write memory. -/

namespace Sys2Proof.Machine

@[simp ↓] theorem updCan_smem {s₀ : State} (s : State) (c : Fin 4) (f : CanCtl → CanCtl) (hk : s₀.SameMem s) :
    s₀.SameMem (State.updCan s c f) := by
  unfold State.updCan; simp (maxDischargeDepth := 100) +contextual [hk]

@[simp ↓] theorem canLoad_smem {s₀ : State} (s : State) (c : Fin 4) (b : Fin 16) (id : Word) (data : List Byte) (hk : s₀.SameMem s) :
    s₀.SameMem (State.canLoad s c b id data) := by
  unfold State.canLoad; simp (maxDischargeDepth := 100) +contextual [hk]

@[simp ↓] theorem canFeed_smem {s₀ : State} (s : State) (c : Fin 4) (hk : s₀.SameMem s) :
    s₀.SameMem (State.canFeed s c) := by
  unfold State.canFeed; (try dsimp only); (repeat' split) <;> simp (maxDischargeDepth := 100) +contextual [hk]

@[simp ↓] theorem lkCanSend_smem {s₀ : State} (s : State) (c : Fin 4) (id : Nat) (fr : List Byte) (hk : s₀.SameMem s) :
    s₀.SameMem (State.lkCanSend s c id fr) := by
  unfold State.lkCanSend; simp (maxDischargeDepth := 100) +contextual [hk]

end Sys2Proof.Machine
end

