-- ==== Sys2Proof/Laws/Mem/Front.lean ====
section
/-! SUPPORT. The operations of Machine/Front.lean that do not write memory. -/

namespace Sys2Proof.Machine

@[simp ↓] theorem berthReply_smem {s₀ : State} (s : State) (n : Fin 4) (addr len : Nat) (hk : s₀.SameMem s) :
    s₀.SameMem (State.berthReply s n addr len) := by
  unfold State.berthReply; simp (maxDischargeDepth := 100) +contextual [hk]

@[simp ↓] theorem hrdyFell_smem {s₀ : State} (s : State) (hk : s₀.SameMem s) :
    s₀.SameMem (State.hrdyFell s) := by
  unfold State.hrdyFell; simp (maxDischargeDepth := 100) +contextual [hk]

@[simp ↓] theorem groupAxes_smem {s₀ : State} (s : State) (hk : s₀.SameMem s) : s₀.SameMem (State.groupAxes s).2 := by
  unfold State.groupAxes
  refine List.foldlRecOn (motive := fun (r : List Byte × State) => s₀.SameMem r.2) mids8 _ hk fun r hr m _ => ?_
  dsimp only
  split
  · exact hr
  · split
    · simp [hr]
    · exact hr

@[simp ↓] theorem dressed_smem {s₀ : State} (s : State) (h : Head) (r : Reply) (hk : s₀.SameMem s) :
    s₀.SameMem (State.dressed s h r).2 := by
  unfold State.dressed; simp (maxDischargeDepth := 100) +contextual [hk]

@[simp ↓] theorem putChannel_smem {s₀ : State} (s : State) (c : ChanSt) (hk : s₀.SameMem s) :
    s₀.SameMem (State.putChannel s c) := by
  unfold State.putChannel; simp (maxDischargeDepth := 100) +contextual [hk]

@[simp ↓] theorem updChannel_smem {s₀ : State} (s : State) (ch : Chan) (f : ChanSt → ChanSt) (hk : s₀.SameMem s) :
    s₀.SameMem (State.updChannel s ch f) := by
  unfold State.updChannel; simp (maxDischargeDepth := 100) +contextual [hk]

@[simp ↓] theorem discard_smem {s₀ : State} (s : State) (hk : s₀.SameMem s) :
    s₀.SameMem (State.discard s) := by
  unfold State.discard; simp (maxDischargeDepth := 100) +contextual [hk]

@[simp ↓] theorem hspiRefill_smem {s₀ : State} (s : State) (hk : s₀.SameMem s) :
    s₀.SameMem (State.hspiRefill s) := by
  unfold State.hspiRefill; (try dsimp only); (repeat' split) <;> simp (maxDischargeDepth := 100) +contextual [hk]

@[simp ↓] theorem setPartial_smem {s₀ : State} (s : State) (c : Fin 4) (p : Option CanPartial) (hk : s₀.SameMem s) :
    s₀.SameMem (State.setPartial s c p) := by
  unfold State.setPartial; simp (maxDischargeDepth := 100) +contextual [hk]

@[simp ↓] theorem dropPartial_smem {s₀ : State} (s : State) (c : Fin 4) (hk : s₀.SameMem s) :
    s₀.SameMem (State.dropPartial s c) := by
  unfold State.dropPartial; simp (maxDischargeDepth := 100) +contextual [hk]

@[simp ↓] theorem fragmentTimeout_smem {s₀ : State} (t : Nat) (c : Fin 4) (s : State) (hk : s₀.SameMem s) :
    s₀.SameMem (fragmentTimeout t c s) := by
  unfold fragmentTimeout; simp (maxDischargeDepth := 100) +contextual [hk]

@[simp ↓] theorem barExpiry_smem {s₀ : State} (t : Nat) (ch : Chan) (s : State) (hk : s₀.SameMem s) :
    s₀.SameMem (barExpiry t ch s) := by
  unfold barExpiry; simp (maxDischargeDepth := 100) +contextual [hk]

end Sys2Proof.Machine
end

