-- ==== Sys2Proof/Laws/Mem/SafeSet.lean ====
section
/-! SUPPORT. The operations of Machine/SafeSet.lean that do not write memory. -/

namespace Sys2Proof.Machine

@[simp ↓] theorem writeTrims_smem {s₀ : State} (s : State) (d : List Byte) (hk : s₀.SameMem s) :
    s₀.SameMem (State.writeTrims s d) := by
  unfold State.writeTrims; simp (maxDischargeDepth := 100) +contextual [hk]

@[simp ↓] theorem updLkAx_smem {s₀ : State} (s : State) (n : Fin 4) (f : LkAx → LkAx) (hk : s₀.SameMem s) :
    s₀.SameMem (State.updLkAx s n f) := by
  unfold State.updLkAx; simp (maxDischargeDepth := 100) +contextual [hk]

@[simp ↓] theorem writeStosafe_smem {s₀ : State} (s : State) (n : Fin 4) (hk : s₀.SameMem s) :
    s₀.SameMem (State.writeStosafe s n) := by
  unfold State.writeStosafe; simp (maxDischargeDepth := 100) +contextual [hk]

@[simp ↓] theorem forceSet_smem {s₀ : State} (s : State) (x : SafetySet) (fresh : Bool) (hk : s₀.SameMem s) :
    s₀.SameMem (State.forceSet s x fresh) := by
  unfold State.forceSet; simp (maxDischargeDepth := 100) +contextual [hk]

end Sys2Proof.Machine
end

