-- ==== Sys2Proof/Laws/Mem/LookoutComm.lean ====
section
/-! SUPPORT. The operations of Machine/LookoutComm.lean that do not write memory. -/

namespace Sys2Proof.Machine

@[simp ↓] theorem updConn_smem {s₀ : State} (s : State) (j : Fin 8) (f : LkConn → LkConn) (hk : s₀.SameMem s) :
    s₀.SameMem (State.updConn s j f) := by
  unfold State.updConn; simp (maxDischargeDepth := 100) +contextual [hk]

@[simp ↓] theorem rejectFrame_smem {s₀ : State} (s : State) (j : Fin 8) (hk : s₀.SameMem s) :
    s₀.SameMem (State.rejectFrame s j) := by
  unfold State.rejectFrame; simp (maxDischargeDepth := 100) +contextual [hk]

@[simp ↓] theorem acceptFrame_smem {s₀ : State} (s : State) (t : Nat) (j : Fin 8) (ext : Nat) (pay : List Byte) (age : Int) (single : Nat) (hk : s₀.SameMem s) :
    s₀.SameMem (State.acceptFrame s t j ext pay age single) := by
  unfold State.acceptFrame; simp (maxDischargeDepth := 100) +contextual [hk]

@[simp ↓] theorem lkComm_smem {s₀ : State} (s : State) (t : Nat) (d : List Byte) (j : Fin 8) (why : CommReason) (hk : s₀.SameMem s) :
    s₀.SameMem (State.lkComm s t d j why) := by
  unfold State.lkComm; simp (maxDischargeDepth := 100) +contextual [hk]

@[simp ↓] theorem dropDual_smem {s₀ : State} (s : State) (t : Nat) (d : List Byte) (j : Fin 8) (ext : Nat) (why : CommReason) (hk : s₀.SameMem s) :
    s₀.SameMem (State.dropDual s t d j ext why) := by
  unfold State.dropDual; simp (maxDischargeDepth := 100) +contextual [hk]

@[simp ↓] theorem lateSingle_smem {s₀ : State} (s : State) (t : Nat) (d : List Byte) (j : Fin 8) (h : LkHold) (hk : s₀.SameMem s) :
    s₀.SameMem (State.lateSingle s t d j h) := by
  unfold State.lateSingle; simp (maxDischargeDepth := 100) +contextual [hk]

@[simp ↓] theorem expireHolds_smem {s₀ : State} (s : State) (t : Nat) (d : List Byte) (j : Fin 8) (hk : s₀.SameMem s) :
    s₀.SameMem (State.expireHolds s t d j) := by
  unfold State.expireHolds; simp (maxDischargeDepth := 100) +contextual [hk]

@[simp ↓] theorem dualCopy_smem {s₀ : State} (s : State) (t : Nat) (d : List Byte) (j : Fin 8) (path ext : Nat) (b pay : List Byte) (age : Int) (hk : s₀.SameMem s) :
    s₀.SameMem (State.dualCopy s t d j path ext b pay age) := by
  unfold State.dualCopy; (try dsimp only); (repeat' split) <;> simp (maxDischargeDepth := 100) +contextual [hk]

@[simp ↓] theorem frameArrival_smem {s₀ : State} (t : Nat) (path : Fin 8) (b : List Byte) (s : State) (hk : s₀.SameMem s) :
    s₀.SameMem (frameArrival t path b s) := by
  unfold frameArrival; (try dsimp only); (repeat' split) <;> simp (maxDischargeDepth := 100) +contextual [hk]

@[simp ↓] theorem dualExpiry_smem {s₀ : State} (t : Nat) (j : Fin 8) (s : State) (hk : s₀.SameMem s) :
    s₀.SameMem (dualExpiry t j s) := by
  unfold dualExpiry; (try dsimp only); (repeat' split) <;> simp (maxDischargeDepth := 100) +contextual [hk]

@[simp ↓] theorem connectionLoss_smem {s₀ : State} (t : Nat) (j : Fin 8) (s : State) (hk : s₀.SameMem s) :
    s₀.SameMem (connectionLoss t j s) := by
  unfold connectionLoss; (try dsimp only); (repeat' split) <;> simp (maxDischargeDepth := 100) +contextual [hk]

end Sys2Proof.Machine
end

