-- ==== Sys2Proof/Laws/Mem/Can.lean ====
section
/-! SUPPORT. The operations of Machine/Can.lean that do not write memory. -/

namespace Sys2Proof.Machine

@[simp ↓] theorem rxPut_smem {s₀ : State} (s : State) (t : Nat) (c : Fin 4) (q : Fin 2) (e : List Word) (hk : s₀.SameMem s) :
    s₀.SameMem (State.rxPut s t c q e) := by
  unfold State.rxPut; simp (maxDischargeDepth := 100) +contextual [hk]

@[simp ↓] theorem rxAct_smem {s₀ : State} (s : State) (t : Nat) (c : Fin 4) (act : Nat) (e : List Word) (hk : s₀.SameMem s) :
    s₀.SameMem (State.rxAct s t c act e) := by
  unfold State.rxAct; (try dsimp only); (repeat' split) <;> simp (maxDischargeDepth := 100) +contextual [hk]

@[simp ↓] theorem txAborted_smem {s₀ : State} (s : State) (c : Fin 4) (b : Fin 16) (hk : s₀.SameMem s) :
    s₀.SameMem (State.txAborted s c b) := by
  unfold State.txAborted; simp (maxDischargeDepth := 100) +contextual [hk]

@[simp ↓] theorem canCounters_smem {s₀ : State} (s : State) (c : Fin 4) (hk : s₀.SameMem s) :
    s₀.SameMem (State.canCounters s c) := by
  unfold State.canCounters; simp (maxDischargeDepth := 100) +contextual [hk]

@[simp ↓] theorem canErrState_smem {s₀ : State} (s : State) (t : Nat) (c : Fin 4) (hk : s₀.SameMem s) :
    s₀.SameMem (State.canErrState s t c) := by
  unfold State.canErrState; (try dsimp only); (repeat' split) <;> simp (maxDischargeDepth := 100) +contextual [hk]

@[simp ↓] theorem canForm_smem {s₀ : State} (s : State) (t : Nat) (c : Fin 4) (hk : s₀.SameMem s) :
    s₀.SameMem (State.canForm s t c) := by
  unfold State.canForm; simp (maxDischargeDepth := 100) +contextual [hk]

@[simp ↓] theorem canStart_smem {s₀ : State} (t : Nat) (c : Fin 4) (s : State) (hk : s₀.SameMem s) :
    s₀.SameMem (canStart t c s) := by
  unfold canStart; (try dsimp only); (repeat' split) <;> simp (maxDischargeDepth := 100) +contextual [hk]

@[simp ↓] theorem measureDelay_smem {s₀ : State} (s : State) (c : Fin 4) (fr : CanFrame) (hk : s₀.SameMem s) :
    s₀.SameMem (State.measureDelay s c fr) := by
  unfold State.measureDelay; simp (maxDischargeDepth := 100) +contextual [hk]

@[simp ↓] theorem canError_smem {s₀ : State} (t : Nat) (c : Fin 4) (kind : Fin 7) (tecUp recUp : Nat) (s : State) (hk : s₀.SameMem s) :
    s₀.SameMem (canError t c kind tecUp recUp s) := by
  unfold canError; simp (maxDischargeDepth := 100) +contextual [hk]

@[simp ↓] theorem canRecovered_smem {s₀ : State} (t : Nat) (c : Fin 4) (s : State) (hk : s₀.SameMem s) :
    s₀.SameMem (canRecovered t c s) := by
  unfold canRecovered; simp (maxDischargeDepth := 100) +contextual [hk]

@[simp ↓] theorem txctlWritten_smem {s₀ : State} (s : State) (c : Fin 4) (b : Fin 16) (w : Word) (hk : s₀.SameMem s) :
    s₀.SameMem (State.txctlWritten s c b w) := by
  unfold State.txctlWritten; simp (maxDischargeDepth := 100) +contextual [hk]

@[simp ↓] theorem rxPop_smem {s₀ : State} (s : State) (c : Fin 4) (q : Fin 2) (hk : s₀.SameMem s) :
    s₀.SameMem (State.rxPop s c q) := by
  unfold State.rxPop; simp (maxDischargeDepth := 100) +contextual [hk]

@[simp ↓] theorem canEnWritten_smem {s₀ : State} (s : State) (c : Fin 4) (was : Bool) (hk : s₀.SameMem s) :
    s₀.SameMem (State.canEnWritten s c was) := by
  unfold State.canEnWritten; simp (maxDischargeDepth := 100) +contextual [hk]

end Sys2Proof.Machine
end

