-- ==== Sys2Proof/Laws/Mem/Engine.lean ====
section
/-! SUPPORT. The operations of Machine/Engine.lean that do not write memory. -/

namespace Sys2Proof.Machine

@[simp ↓] theorem setVreg_smem {s₀ : State} (s : State) (n : Fin 4) (k : Fin 32) (x : VReg) (hk : s₀.SameMem s) :
    s₀.SameMem (State.setVreg s n k x) := by
  unfold State.setVreg; simp (maxDischargeDepth := 100) +contextual [hk]

@[simp ↓] theorem setPred_smem {s₀ : State} (s : State) (n : Fin 4) (p : BitVec 8) (hk : s₀.SameMem s) :
    s₀.SameMem (State.setPred s n p) := by
  unfold State.setPred; simp (maxDischargeDepth := 100) +contextual [hk]

@[simp ↓] theorem advance_smem {s₀ : State} (s : State) (t : Nat) (n : Fin 4) (hk : s₀.SameMem s) :
    s₀.SameMem (State.advance s t n) := by
  unfold State.advance; simp (maxDischargeDepth := 100) +contextual [hk]

@[simp ↓] theorem writeDst_smem {s₀ : State} (s : State) (t : Nat) (n : Fin 4) (fixe rtz : Bool) (en : Fin 8 → Bool) (r : Fin 8 → Q) (hk : s₀.SameMem s) :
    s₀.SameMem (State.writeDst s t n fixe rtz en r) := by
  unfold State.writeDst; simp (maxDischargeDepth := 100) +contextual [hk]

@[simp ↓] theorem writeArith_smem {s₀ : State} (s : State) (t : Nat) (n : Fin 4) (r : Fin 8 → Q) (hk : s₀.SameMem s) :
    s₀.SameMem (State.writeArith s t n r) := by
  unfold State.writeArith; simp (maxDischargeDepth := 100) +contextual [hk]

@[simp ↓] theorem laneOp_smem {s₀ : State} (s : State) (t : Nat) (n : Fin 4) (op : Nat) (f : Lanes → Lanes → Lanes → Fin 8 → Q) (hk : s₀.SameMem s) :
    s₀.SameMem (State.laneOp s t n op f) := by
  unfold State.laneOp; simp (maxDischargeDepth := 100) +contextual [hk]

@[simp ↓] theorem halt_smem {s₀ : State} (t : Nat) (n : Fin 4) (s : State) (hk : s₀.SameMem s) :
    s₀.SameMem (halt t n s) := by
  unfold halt; simp (maxDischargeDepth := 100) +contextual [hk]

@[simp ↓] theorem undefinedEnc_smem {s₀ : State} (t : Nat) (n : Fin 4) (s : State) (hk : s₀.SameMem s) :
    s₀.SameMem (undefinedEnc t n s) := by
  unfold undefinedEnc; simp (maxDischargeDepth := 100) +contextual [hk]

@[simp ↓] theorem mov_smem {s₀ : State} (t : Nat) (n : Fin 4) (s : State) (hk : s₀.SameMem s) :
    s₀.SameMem (mov t n s) := by
  unfold mov; simp (maxDischargeDepth := 100) +contextual [hk]

@[simp ↓] theorem ld_smem {s₀ : State} (t : Nat) (n : Fin 4) (s : State) (hk : s₀.SameMem s) :
    s₀.SameMem (ld t n s) := by
  unfold ld; (try dsimp only); (repeat' split) <;> simp (maxDischargeDepth := 100) +contextual [hk]

@[simp ↓] theorem storeLane_smem {s₀ : State} (s : State) (t : Nat) (n : Fin 4) (w : Word64) (i : Fin 8) (hk : s₀.SameMem s) :
    s₀.SameMem (State.storeLane s t n w i) := by
  unfold State.storeLane; (try dsimp only); (repeat' split) <;> simp (maxDischargeDepth := 100) +contextual [hk]

@[simp ↓] theorem st_smem {s₀ : State} (t : Nat) (n : Fin 4) (s : State) (hk : s₀.SameMem s) :
    s₀.SameMem (st t n s) := by
  unfold st; simp (maxDischargeDepth := 100) +contextual [hk]

@[simp ↓] theorem predOp_smem {s₀ : State} (s : State) (t : Nat) (n : Fin 4) (r : Fin 8 → Q) (p : Fin 8 → Bool) (hk : s₀.SameMem s) :
    s₀.SameMem (State.predOp s t n r p) := by
  unfold State.predOp; simp (maxDischargeDepth := 100) +contextual [hk]

@[simp ↓] theorem clamp_smem {s₀ : State} (t : Nat) (n : Fin 4) (s : State) (hk : s₀.SameMem s) :
    s₀.SameMem (clamp t n s) := by
  unfold clamp; simp (maxDischargeDepth := 100) +contextual [hk]

@[simp ↓] theorem cmp_smem {s₀ : State} (t : Nat) (n : Fin 4) (s : State) (hk : s₀.SameMem s) :
    s₀.SameMem (cmp t n s) := by
  unfold cmp; simp (maxDischargeDepth := 100) +contextual [hk]

@[simp ↓] theorem sel_smem {s₀ : State} (t : Nat) (n : Fin 4) (s : State) (hk : s₀.SameMem s) :
    s₀.SameMem (sel t n s) := by
  unfold sel; simp (maxDischargeDepth := 100) +contextual [hk]

@[simp ↓] theorem scale_smem {s₀ : State} (t : Nat) (n : Fin 4) (s : State) (hk : s₀.SameMem s) :
    s₀.SameMem (scale t n s) := by
  unfold scale; simp (maxDischargeDepth := 100) +contextual [hk]

@[simp ↓] theorem atan2_smem {s₀ : State} (t : Nat) (n : Fin 4) (s : State) (hk : s₀.SameMem s) :
    s₀.SameMem (atan2 t n s) := by
  unfold atan2; simp (maxDischargeDepth := 100) +contextual [hk]

@[simp ↓] theorem recip_smem {s₀ : State} (t : Nat) (n : Fin 4) (s : State) (hk : s₀.SameMem s) :
    s₀.SameMem (recip t n s) := by
  unfold recip; simp (maxDischargeDepth := 100) +contextual [hk]

@[simp ↓] theorem rsqrt_smem {s₀ : State} (t : Nat) (n : Fin 4) (s : State) (hk : s₀.SameMem s) :
    s₀.SameMem (rsqrt t n s) := by
  unfold rsqrt; simp (maxDischargeDepth := 100) +contextual [hk]

@[simp ↓] theorem svm_smem {s₀ : State} (t : Nat) (n : Fin 4) (s : State) (hk : s₀.SameMem s) :
    s₀.SameMem (svm t n s) := by
  unfold svm; simp (maxDischargeDepth := 100) +contextual [hk]

@[simp ↓] theorem stateLanes_smem {s₀ : State} (s : State) (t : Nat) (n : Fin 4) (base : Nat) (en : Fin 8 → Bool) (f : Fin 8 → Word × WFlags) (hk : s₀.SameMem s) :
    s₀.SameMem (State.stateLanes s t n base en f) := by
  unfold State.stateLanes; simp (maxDischargeDepth := 100) +contextual [hk]

@[simp ↓] theorem pi_smem {s₀ : State} (t : Nat) (n : Fin 4) (s : State) (hk : s₀.SameMem s) :
    s₀.SameMem (pi t n s) := by
  unfold pi; simp (maxDischargeDepth := 100) +contextual [hk]

@[simp ↓] theorem lpf_smem {s₀ : State} (t : Nat) (n : Fin 4) (s : State) (hk : s₀.SameMem s) :
    s₀.SameMem (lpf t n s) := by
  unfold lpf; simp (maxDischargeDepth := 100) +contextual [hk]

@[simp ↓] theorem ramp_smem {s₀ : State} (t : Nat) (n : Fin 4) (s : State) (hk : s₀.SameMem s) :
    s₀.SameMem (ramp t n s) := by
  unfold ramp; simp (maxDischargeDepth := 100) +contextual [hk]

@[simp ↓] theorem settleWord_smem {s₀ : State} (s : State) (t : Nat) (n : Fin 4) (hk : s₀.SameMem s) :
    s₀.SameMem (State.settleWord s t n) := by
  unfold State.settleWord; simp (maxDischargeDepth := 100) +contextual [hk]

@[simp ↓] theorem settle_row_smem {s₀ : State} (t : Nat) (n : Fin 4) (s : State) (hk : s₀.SameMem s) :
    s₀.SameMem (settle t n s) := by
  unfold settle; simp (maxDischargeDepth := 100) +contextual [hk]

@[simp ↓] theorem settleRelease_smem {s₀ : State} (t : Nat) (n : Fin 4) (s : State) (hk : s₀.SameMem s) :
    s₀.SameMem (settleRelease t n s) := by
  unfold settleRelease; simp (maxDischargeDepth := 100) +contextual [hk]

@[simp ↓] theorem commit_smem {s₀ : State} (t : Nat) (n : Fin 4) (s : State) (hk : s₀.SameMem s) :
    s₀.SameMem (commit t n s) := by
  unfold commit; simp (maxDischargeDepth := 100) +contextual [hk]

end Sys2Proof.Machine
end

