-- ==== Sys2Proof/Laws/Mem/Programs.lean ====
section
/-! SUPPORT. The operations of Machine/Programs.lean that do not write memory. -/

namespace Sys2Proof.Machine

@[simp ↓] theorem unloadProgram_smem {s₀ : State} (s : State) (n : Fin 4) (hk : s₀.SameMem s) :
    s₀.SameMem (State.unloadProgram s n) := by
  unfold State.unloadProgram; simp (maxDischargeDepth := 100) +contextual [hk]

@[simp ↓] theorem loadProgram_smem {s₀ : State} (s : State) (n : Fin 4) (hk : s₀.SameMem s) :
    s₀.SameMem (State.loadProgram s n).1 := by
  unfold State.loadProgram; simp (maxDischargeDepth := 100) +contextual [hk]

@[simp ↓] theorem tuneBegin_smem {s₀ : State} (s : State) (t : Nat) (n : Fin 4) (loop rule maxMs : Nat) (d hyst : Word) (hk : s₀.SameMem s) :
    s₀.SameMem (State.tuneBegin s t n loop rule maxMs d hyst) := by
  unfold State.tuneBegin; simp (maxDischargeDepth := 100) +contextual [hk]

@[simp ↓] theorem endTune_smem {s₀ : State} (s : State) (t : Nat) (n : Fin 4) (hk : s₀.SameMem s) :
    s₀.SameMem (State.endTune s t n) := by
  unfold State.endTune; simp (maxDischargeDepth := 100) +contextual [hk]

@[simp ↓] theorem obsHoldExpiry_smem {s₀ : State} (t : Nat) (n : Fin 4) (s : State) (hk : s₀.SameMem s) :
    s₀.SameMem (obsHoldExpiry t n s) := by
  unfold obsHoldExpiry; simp (maxDischargeDepth := 100) +contextual [hk]

end Sys2Proof.Machine
end

