-- ==== Sys2Proof/Laws/Mem/Convert.lean ====
section
/-! SUPPORT. The operations of Machine/Convert.lean that do not write memory. -/

namespace Sys2Proof.Machine

@[simp ↓] theorem updCluster_smem {s₀ : State} (s : State) (c : Fin 4) (f : Cluster → Cluster) (hk : s₀.SameMem s) :
    s₀.SameMem (State.updCluster s c f) := by
  unfold State.updCluster; simp (maxDischargeDepth := 100) +contextual [hk]

@[simp ↓] theorem setSlice_smem {s₀ : State} (s : State) (c : Fin 4) (k sl : Nat) (hk : s₀.SameMem s) :
    s₀.SameMem (State.setSlice s c k sl) := by
  unfold State.setSlice; simp (maxDischargeDepth := 100) +contextual [hk]

@[simp ↓] theorem startMeasure_smem {s₀ : State} (s : State) (c : Fin 4) (sl : Nat) (hk : s₀.SameMem s) :
    s₀.SameMem (State.startMeasure s c sl) := by
  unfold State.startMeasure; simp (maxDischargeDepth := 100) +contextual [hk]

@[simp ↓] theorem leaveInput_smem {s₀ : State} (s : State) (c : Fin 4) (h : HandOver) (hk : s₀.SameMem s) :
    s₀.SameMem (State.leaveInput s c h) := by
  unfold State.leaveInput; simp (maxDischargeDepth := 100) +contextual [hk]

@[simp ↓] theorem advanceCluster_smem {s₀ : State} (s : State) (t : Nat) (c : Fin 4) (hk : s₀.SameMem s) :
    s₀.SameMem (State.advanceCluster s t c) := by
  unfold State.advanceCluster; (try dsimp only); (repeat' split) <;> simp (maxDischargeDepth := 100) +contextual [hk]

@[simp ↓] theorem retireSlice_smem {s₀ : State} (s : State) (t : Nat) (c : Fin 4) (sl : Nat) (hk : s₀.SameMem s) :
    s₀.SameMem (State.retireSlice s t c sl) := by
  unfold State.retireSlice; (try dsimp only); (repeat' split) <;> simp (maxDischargeDepth := 100) +contextual [hk]

@[simp ↓] theorem takeInput_smem {s₀ : State} (t : Nat) (c : Fin 4) (p : State × BitVec 8) (k : Fin 8)
    (hk : s₀.SameMem p.1) : s₀.SameMem (State.takeInput t c p k).1 := by
  unfold State.takeInput; (try dsimp only); (repeat' split) <;> simp (maxDischargeDepth := 100) +contextual [hk]

@[simp ↓] theorem testWritten_smem {s₀ : State} (s : State) (t : Nat) (c : Fin 4) (was : Bool) (wasIn : Nat) (hk : s₀.SameMem s) :
    s₀.SameMem (State.testWritten s t c was wasIn) := by
  unfold State.testWritten; simp (maxDischargeDepth := 100) +contextual [hk]

@[simp ↓] theorem takeSample_smem {s₀ : State} (x : Nat) (rec_ : List Word) (s : State) (c : Fin 4) (hk : s₀.SameMem s) :
    s₀.SameMem (State.takeSample x rec_ s c) := by
  unfold State.takeSample; (try dsimp only); (repeat' split) <;> simp (maxDischargeDepth := 100) +contextual [hk]

@[simp ↓] theorem sampleCluster_smem {s₀ : State} (x : Nat) (rec_ : List Word) (s : State) (c : Fin 4) (hk : s₀.SameMem s) :
    s₀.SameMem (State.sampleCluster x rec_ s c) := by
  unfold State.sampleCluster; simp (maxDischargeDepth := 100) +contextual [hk]

@[simp ↓] theorem takeSpeed_smem {s₀ : State} (s : State) (n : Fin 4) (w : Word) (hk : s₀.SameMem s) :
    s₀.SameMem (State.takeSpeed s n w) := by
  unfold State.takeSpeed; simp (maxDischargeDepth := 100) +contextual [hk]

@[simp ↓] theorem sampleAt_smem {s₀ : State} (n : Fin 4) (r : ResIn) (s : State) (x : Nat) (hk : s₀.SameMem s) :
    s₀.SameMem (State.sampleAt n r s x) := by
  unfold State.sampleAt; simp (maxDischargeDepth := 100) +contextual [hk]

@[simp ↓] theorem sampleEvent_smem {s₀ : State} (t : Nat) (n : Fin 4) (r : ResIn) (s : State) (hk : s₀.SameMem s) :
    s₀.SameMem (sampleEvent t n r s) := by
  unfold sampleEvent; simp (maxDischargeDepth := 100) +contextual [hk]

@[simp ↓] theorem bwSpeed_smem {s₀ : State} (t : Nat) (n : Fin 4) (r : ResIn) (s : State) (hk : s₀.SameMem s) :
    s₀.SameMem (bwSpeed t n r s) := by
  unfold bwSpeed; simp (maxDischargeDepth := 100) +contextual [hk]

@[simp ↓] theorem resultOf_smem {s₀ : State} (t : Nat) (c : Fin 4) (p : Sample) (codes : List Int) (ovr : Nat) (s : State) (k : Fin 8) (hk : s₀.SameMem s) :
    s₀.SameMem (State.resultOf t c p codes ovr s k) := by
  unfold State.resultOf; simp (maxDischargeDepth := 100) +contextual [hk]

@[simp ↓] theorem logResults_smem {s₀ : State} (s : State) (c : Fin 4) (st : Nat) (hk : s₀.SameMem s) :
    s₀.SameMem (State.logResults s c st) := by
  unfold State.logResults; simp (maxDischargeDepth := 100) +contextual [hk]

@[simp ↓] theorem conversionComplete_smem {s₀ : State} (t : Nat) (c : Fin 4) (codes : List Int) (ovr : Nat) (s : State) (hk : s₀.SameMem s) :
    s₀.SameMem (conversionComplete t c codes ovr s) := by
  unfold conversionComplete; (try dsimp only); (repeat' split) <;> simp (maxDischargeDepth := 100) +contextual [hk]

@[simp ↓] theorem rejectMeasure_smem {s₀ : State} (s : State) (t : Nat) (c : Fin 4) (sl : Fin 9) (hk : s₀.SameMem s) :
    s₀.SameMem (State.rejectMeasure s t c sl) := by
  unfold State.rejectMeasure; simp (maxDischargeDepth := 100) +contextual [hk]

@[simp ↓] theorem oweHand_smem {s₀ : State} (s : State) (c : Fin 4) (hk : s₀.SameMem s) :
    s₀.SameMem (State.oweHand s c) := by
  unfold State.oweHand; (try dsimp only); (repeat' split) <;> simp (maxDischargeDepth := 100) +contextual [hk]

@[simp ↓] theorem fallowStep_smem {s₀ : State} (t : Nat) (c : Fin 4) (s : State) (hk : s₀.SameMem s) :
    s₀.SameMem (fallowStep t c s) := by
  unfold fallowStep; (try dsimp only); (repeat' split) <;> simp (maxDischargeDepth := 100) +contextual [hk]

@[simp ↓] theorem judgeMeasure_smem {s₀ : State} (s : State) (t : Nat) (c : Fin 4) (sl : Fin 9) (sum0 sumP sumN : Int) (hk : s₀.SameMem s) :
    s₀.SameMem (State.judgeMeasure s t c sl sum0 sumP sumN) := by
  unfold State.judgeMeasure; simp (maxDischargeDepth := 100) +contextual [hk]

@[simp ↓] theorem fallowEnd_smem {s₀ : State} (t : Nat) (c : Fin 4) (sum0 sumP sumN : Int) (s : State) (hk : s₀.SameMem s) :
    s₀.SameMem (fallowEnd t c sum0 sumP sumN s) := by
  unfold fallowEnd; (try dsimp only); (repeat' split) <;> simp (maxDischargeDepth := 100) +contextual [hk]

@[simp ↓] theorem takeVhv_smem {s₀ : State} (s : State) (t : Nat) (code : Int) (change : Bool) (hk : s₀.SameMem s) :
    s₀.SameMem (State.takeVhv s t code change) := by
  unfold State.takeVhv; simp (maxDischargeDepth := 100) +contextual [hk]

@[simp ↓] theorem vhvResult_smem {s₀ : State} (t : Nat) (code : Int) (change : Bool) (s : State) (hk : s₀.SameMem s) :
    s₀.SameMem (vhvResult t code change s) := by
  unfold vhvResult; simp (maxDischargeDepth := 100) +contextual [hk]

@[simp ↓] theorem vhvFail_smem {s₀ : State} (t : Nat) (s : State) (hk : s₀.SameMem s) :
    s₀.SameMem (vhvFail t s) := by
  unfold vhvFail; simp (maxDischargeDepth := 100) +contextual [hk]

@[simp ↓] theorem hkStart_smem {s₀ : State} (t : Nat) (s : State) (hk : s₀.SameMem s) :
    s₀.SameMem (hkStart t s) := by
  unfold hkStart; simp (maxDischargeDepth := 100) +contextual [hk]

@[simp ↓] theorem putTemp_smem {s₀ : State} (s : State) (c : Fin 44) (w : Word) (hk : s₀.SameMem s) :
    s₀.SameMem (State.putTemp s c w) := by
  unfold State.putTemp; simp (maxDischargeDepth := 100) +contextual [hk]

@[simp ↓] theorem tpRound_smem {s₀ : State} (t : Nat) (sums : List Int) (s : State) (p : Fin 8) (hk : s₀.SameMem s) :
    s₀.SameMem (State.tpRound t sums s p) := by
  unfold State.tpRound; simp (maxDischargeDepth := 100) +contextual [hk]

@[simp ↓] theorem ntcRound_smem {s₀ : State} (t : Nat) (ohms : List Word) (s : State) (g : Fin 24) (hk : s₀.SameMem s) :
    s₀.SameMem (State.ntcRound t ohms s g) := by
  unfold State.ntcRound; simp (maxDischargeDepth := 100) +contextual [hk]

@[simp ↓] theorem hkChannel_smem {s₀ : State} (sums : List Int) (round : Nat) (s : State) (c : Fin 64) (hk : s₀.SameMem s) :
    s₀.SameMem (State.hkChannel sums round s c) := by
  unfold State.hkChannel; (try dsimp only); (repeat' split) <;> simp (maxDischargeDepth := 100) +contextual [hk]

@[simp ↓] theorem hkReference_smem {s₀ : State} (s : State) (t : Nat) (s62 s63 : Int) (hk : s₀.SameMem s) :
    s₀.SameMem (State.hkReference s t s62 s63) := by
  unfold State.hkReference; simp (maxDischargeDepth := 100) +contextual [hk]

@[simp ↓] theorem clusterReference_smem {s₀ : State} (t : Nat) (s : State) (c : Fin 4) (hk : s₀.SameMem s) :
    s₀.SameMem (State.clusterReference t s c) := by
  unfold State.clusterReference; simp (maxDischargeDepth := 100) +contextual [hk]

@[simp ↓] theorem hkEnd_smem {s₀ : State} (t : Nat) (r : HkReadings) (s : State) (hk : s₀.SameMem s) :
    s₀.SameMem (hkEnd t r s) := by
  unfold hkEnd; simp (maxDischargeDepth := 100) +contextual [hk]

end Sys2Proof.Machine
end

