-- ==== Sys2Proof/Laws/Mem/Eth.lean ====
section
/-! SUPPORT. The operations of Machine/Eth.lean that do not write memory. -/

namespace Sys2Proof.Machine

@[simp ↓] theorem ethReceived_smem {s₀ : State} (t : Nat) (p : Fin 5) (f : EthFrame) (s : State) (hk : s₀.SameMem s) :
    s₀.SameMem (ethReceived t p f s) := by
  unfold ethReceived; simp (maxDischargeDepth := 100) +contextual [hk]

@[simp ↓] theorem arpLearn_smem {s₀ : State} (s : State) (t ip mac : Nat) (hk : s₀.SameMem s) :
    s₀.SameMem (State.arpLearn s t ip mac) := by
  unfold State.arpLearn; simp (maxDischargeDepth := 100) +contextual [hk]

@[simp ↓] theorem arpIn_smem {s₀ : State} (s : State) (t vid : Nat) (b : List Byte) (hk : s₀.SameMem s) :
    s₀.SameMem (State.arpIn s t vid b) := by
  unfold State.arpIn; simp (maxDischargeDepth := 100) +contextual [hk]

@[simp ↓] theorem echoIn_smem {s₀ : State} (s : State) (t vid src : Nat) (b : List Byte) (hl tot : Nat) (hk : s₀.SameMem s) :
    s₀.SameMem (State.echoIn s t vid src b hl tot) := by
  unfold State.echoIn; simp (maxDischargeDepth := 100) +contextual [hk]

@[simp ↓] theorem advanceHead_smem {s₀ : State} (s : State) (r : Nat) (hk : s₀.SameMem s) :
    s₀.SameMem (State.advanceHead s r) := by
  unfold State.advanceHead; simp (maxDischargeDepth := 100) +contextual [hk]

@[simp ↓] theorem relay_smem {s₀ : State} (s : State) (k : Nat) (ip port : Nat) (b : List Byte) (hk : s₀.SameMem s) :
    s₀.SameMem (State.relay s k ip port b) := by
  unfold State.relay; simp (maxDischargeDepth := 100) +contextual [hk]

@[simp ↓] theorem asIn_smem {s₀ : State} (s : State) (x : QFrame) (hk : s₀.SameMem s) :
    s₀.SameMem (State.asIn s x) := by
  unfold State.asIn; simp (maxDischargeDepth := 100) +contextual [hk]

@[simp ↓] theorem popQueue_smem {s₀ : State} (s : State) (p : Fin 5) (q : Fin 8) (hk : s₀.SameMem s) :
    s₀.SameMem (State.popQueue s p q) := by
  unfold State.popQueue; simp (maxDischargeDepth := 100) +contextual [hk]

@[simp ↓] theorem swapWritten_smem {s₀ : State} (s : State) (t : Nat) (p : Fin 4) (hk : s₀.SameMem s) :
    s₀.SameMem (State.swapWritten s t p) := by
  unfold State.swapWritten; simp (maxDischargeDepth := 100) +contextual [hk]

@[simp ↓] theorem putAdmin_smem {s₀ : State} (s : State) (p : Fin 4) (l : GateList) (hk : s₀.SameMem s) :
    s₀.SameMem (State.putAdmin s p l) := by
  unfold State.putAdmin; simp (maxDischargeDepth := 100) +contextual [hk]

@[simp ↓] theorem gateSwap_smem {s₀ : State} (t : Nat) (p : Fin 4) (s : State) (hk : s₀.SameMem s) :
    s₀.SameMem (gateSwap t p s) := by
  unfold gateSwap; (try dsimp only); (repeat' split) <;> simp (maxDischargeDepth := 100) +contextual [hk]

@[simp ↓] theorem linkDown_smem {s₀ : State} (t : Nat) (p : Fin 4) (s : State) (hk : s₀.SameMem s) :
    s₀.SameMem (linkDown t p s) := by
  unfold linkDown; simp (maxDischargeDepth := 100) +contextual [hk]

@[simp ↓] theorem linkUp_smem {s₀ : State} (t : Nat) (p : Fin 4) (s : State) (hk : s₀.SameMem s) :
    s₀.SameMem (linkUp t p s) := by
  unfold linkUp; simp (maxDischargeDepth := 100) +contextual [hk]

@[simp ↓] theorem macAgeOut_smem {s₀ : State} (t vid mac : Nat) (s : State) (hk : s₀.SameMem s) :
    s₀.SameMem (macAgeOut t vid mac s) := by
  unfold macAgeOut; simp (maxDischargeDepth := 100) +contextual [hk]

@[simp ↓] theorem arpExpiry_smem {s₀ : State} (t ip : Nat) (s : State) (hk : s₀.SameMem s) :
    s₀.SameMem (arpExpiry t ip s) := by
  unfold arpExpiry; simp (maxDischargeDepth := 100) +contextual [hk]

@[simp ↓] theorem asSyncSend_smem {s₀ : State} (t : Nat) (p : Fin 4) (s : State) (hk : s₀.SameMem s) :
    s₀.SameMem (asSyncSend t p s) := by
  unfold asSyncSend; simp (maxDischargeDepth := 100) +contextual [hk]

@[simp ↓] theorem peerDelay_smem {s₀ : State} (t : Nat) (p : Fin 4) (ns : Nat) (s : State) (hk : s₀.SameMem s) :
    s₀.SameMem (peerDelay t p ns s) := by
  unfold peerDelay; simp (maxDischargeDepth := 100) +contextual [hk]

@[simp ↓] theorem gmSecWritten_smem {s₀ : State} (s : State) (t : Nat) (hk : s₀.SameMem s) :
    s₀.SameMem (State.gmSecWritten s t) := by
  unfold State.gmSecWritten; simp (maxDischargeDepth := 100) +contextual [hk]

end Sys2Proof.Machine
end

