-- ==== Sys2Proof/Laws/Mem/Rebase.lean ====
section
/-! SUPPORT. The operations of Machine/Rebase.lean that do not write memory. -/

namespace Sys2Proof.Machine

@[simp ↓] theorem rebase_smem {s₀ : State} (s : State) (d : Int) (hk : s₀.SameMem s) :
    s₀.SameMem (State.rebase s d) := by
  unfold State.rebase; simp (maxDischargeDepth := 100) +contextual [hk]

end Sys2Proof.Machine
end

