-- ==== Sys2Proof/Laws/Mem/Mooring.lean ====
section
/-! SUPPORT. The operations of Machine/Mooring.lean that do not write memory. -/

namespace Sys2Proof.Machine

@[simp ↓] theorem groupLost_smem {s₀ : State} (s : State) (t : Nat) (g : Fin 4) (hk : s₀.SameMem s) :
    s₀.SameMem (State.groupLost s t g) := by
  unfold State.groupLost; simp (maxDischargeDepth := 100) +contextual [hk]

@[simp ↓] theorem unalign_smem {s₀ : State} (s : State) (t : Nat) (hk : s₀.SameMem s) :
    s₀.SameMem (State.unalign s t) := by
  unfold State.unalign; simp (maxDischargeDepth := 100) +contextual [hk]

@[simp ↓] theorem losePath_smem {s₀ : State} (s : State) (t : Nat) (hk : s₀.SameMem s) :
    s₀.SameMem (State.losePath s t) := by
  unfold State.losePath; simp (maxDischargeDepth := 100) +contextual [hk]

@[simp ↓] theorem loseModule_smem {s₀ : State} (s : State) (t : Nat) (m : Fin 8) (hk : s₀.SameMem s) :
    s₀.SameMem (State.loseModule s t m) := by
  unfold State.loseModule; simp (maxDischargeDepth := 100) +contextual [hk]

@[simp ↓] theorem gainModule_smem {s₀ : State} (s : State) (m : MemberIn) (hk : s₀.SameMem s) :
    s₀.SameMem (State.gainModule s m) := by
  unfold State.gainModule; simp (maxDischargeDepth := 100) +contextual [hk]

@[simp ↓] theorem ringBroken_smem {s₀ : State} (s : State) (t : Nat) (hk : s₀.SameMem s) :
    s₀.SameMem (State.ringBroken s t) := by
  unfold State.ringBroken; simp (maxDischargeDepth := 100) +contextual [hk]

@[simp ↓] theorem membershipUpdate_smem {s₀ : State} (t : Nat) (ms : List MemberIn) (ring forming : Bool) (s : State) (hk : s₀.SameMem s) :
    s₀.SameMem (membershipUpdate t ms ring forming s) := by
  unfold membershipUpdate; simp (maxDischargeDepth := 100) +contextual [hk]

@[simp ↓] theorem formwaitExpiry_smem {s₀ : State} (t : Nat) (s : State) (hk : s₀.SameMem s) :
    s₀.SameMem (formwaitExpiry t s) := by
  unfold formwaitExpiry; simp (maxDischargeDepth := 100) +contextual [hk]

@[simp ↓] theorem portUp_smem {s₀ : State} (t : Nat) (p : Fin 2) (peer : Fin 8) (pp : Fin 2) (serial polinv trips : Nat) (s : State) (hk : s₀.SameMem s) :
    s₀.SameMem (portUp t p peer pp serial polinv trips s) := by
  unfold portUp; simp (maxDischargeDepth := 100) +contextual [hk]

@[simp ↓] theorem reroute_smem {s₀ : State} (s : State) (p : Fin 2) (hk : s₀.SameMem s) :
    s₀.SameMem (State.reroute s p) := by
  unfold State.reroute; simp (maxDischargeDepth := 100) +contextual [hk]

@[simp ↓] theorem portDown_smem {s₀ : State} (t : Nat) (p : Fin 2) (lost : Nat) (s : State) (hk : s₀.SameMem s) :
    s₀.SameMem (portDown t p lost s) := by
  unfold portDown; simp (maxDischargeDepth := 100) +contextual [hk]

@[simp ↓] theorem hopCal_smem {s₀ : State} (t : Nat) (p : Fin 2) (trips : Nat) (s : State) (hk : s₀.SameMem s) :
    s₀.SameMem (hopCal t p trips s) := by
  unfold hopCal; simp (maxDischargeDepth := 100) +contextual [hk]

@[simp ↓] theorem flitRetx_smem {s₀ : State} (t : Nat) (p : Fin 2) (s : State) (hk : s₀.SameMem s) :
    s₀.SameMem (flitRetx t p s) := by
  unfold flitRetx; simp (maxDischargeDepth := 100) +contextual [hk]

@[simp ↓] theorem moorWritten_smem {s₀ : State} (s : State) (t : Nat) (was : Bool) (hk : s₀.SameMem s) :
    s₀.SameMem (State.moorWritten s t was) := by
  unfold State.moorWritten; simp (maxDischargeDepth := 100) +contextual [hk]

@[simp ↓] theorem beaconSend_smem {s₀ : State} (t : Nat) (p : Fin 2) (s : State) (hk : s₀.SameMem s) :
    s₀.SameMem (beaconSend t p s) := by
  unfold beaconSend; simp (maxDischargeDepth := 100) +contextual [hk]

@[simp ↓] theorem restartCarriers_smem {s₀ : State} (s : State) (t : Nat) (hk : s₀.SameMem s) :
    s₀.SameMem (State.restartCarriers s t) := by
  unfold State.restartCarriers; simp (maxDischargeDepth := 100) +contextual [hk]

@[simp ↓] theorem loadTide_smem {s₀ : State} (s : State) (own new : Nat) (hk : s₀.SameMem s) :
    s₀.SameMem (State.loadTide s own new) := by
  unfold State.loadTide; simp (maxDischargeDepth := 100) +contextual [hk]

@[simp ↓] theorem noteTideErr_smem {s₀ : State} (s : State) (err : Int) (hk : s₀.SameMem s) :
    s₀.SameMem (State.noteTideErr s err) := by
  unfold State.noteTideErr; simp (maxDischargeDepth := 100) +contextual [hk]

@[simp ↓] theorem groupRuns_smem {s₀ : State} (s : State) (t : Nat) (g : Fin 4) (hk : s₀.SameMem s) :
    s₀.SameMem (State.groupRuns s t g) := by
  unfold State.groupRuns; (try dsimp only); (repeat' split) <;> simp (maxDischargeDepth := 100) +contextual [hk]

@[simp ↓] theorem tellQueue_smem {s₀ : State} (s : State) (hk : s₀.SameMem s) :
    s₀.SameMem (State.tellQueue s) := by
  unfold State.tellQueue; simp (maxDischargeDepth := 100) +contextual [hk]

@[simp ↓] theorem align_smem {s₀ : State} (s : State) (t : Nat) (hk : s₀.SameMem s) :
    s₀.SameMem (State.align s t) := by
  unfold State.align; simp (maxDischargeDepth := 100) +contextual [hk]

@[simp ↓] theorem moveCount_smem {s₀ : State} (s : State) (x : Nat) (hk : s₀.SameMem s) :
    s₀.SameMem (State.moveCount s x) := by
  unfold State.moveCount; simp (maxDischargeDepth := 100) +contextual [hk]

@[simp ↓] theorem followBeacon_smem {s₀ : State} (s : State) (t own : Nat) (err : Int) (hk : s₀.SameMem s) :
    s₀.SameMem (State.followBeacon s t own err) := by
  unfold State.followBeacon; simp (maxDischargeDepth := 100) +contextual [hk]

@[simp ↓] theorem passBeacon_smem {s₀ : State} (s : State) (p : Fin 2) (beacon path : Nat) (hk : s₀.SameMem s) :
    s₀.SameMem (State.passBeacon s p beacon path) := by
  unfold State.passBeacon; simp (maxDischargeDepth := 100) +contextual [hk]

@[simp ↓] theorem beaconArrival_smem {s₀ : State} (t : Nat) (p : Fin 2) (beacon path : Nat) (fine : Fin 32) (s : State) (hk : s₀.SameMem s) :
    s₀.SameMem (beaconArrival t p beacon path fine s) := by
  unfold beaconArrival; simp (maxDischargeDepth := 100) +contextual [hk]

@[simp ↓] theorem descSend_smem {s₀ : State} (t : Nat) (g : Fin 4) (s : State) (hk : s₀.SameMem s) :
    s₀.SameMem (descSend t g s) := by
  unfold descSend; simp (maxDischargeDepth := 100) +contextual [hk]

@[simp ↓] theorem descArrival_smem {s₀ : State} (t : Nat) (g : Fin 4) (d : CarrierDesc) (s : State) (hk : s₀.SameMem s) :
    s₀.SameMem (descArrival t g d s) := by
  unfold descArrival; (try dsimp only); (repeat' split) <;> simp (maxDischargeDepth := 100) +contextual [hk]

@[simp ↓] theorem markerArrival_smem {s₀ : State} (t : Nat) (g : Fin 4) (stamp : Int) (s : State) (hk : s₀.SameMem s) :
    s₀.SameMem (markerArrival t g stamp s) := by
  unfold markerArrival; (try dsimp only); (repeat' split) <;> simp (maxDischargeDepth := 100) +contextual [hk]

@[simp ↓] theorem gsTrim_smem {s₀ : State} (s : State) (hk : s₀.SameMem s) :
    s₀.SameMem (State.gsTrim s) := by
  unfold State.gsTrim; simp (maxDischargeDepth := 100) +contextual [hk]

@[simp ↓] theorem gsyncEdge_smem {s₀ : State} (t : Nat) (expected : Int) (s : State) (hk : s₀.SameMem s) :
    s₀.SameMem (gsyncEdge t expected s) := by
  unfold gsyncEdge; simp (maxDischargeDepth := 100) +contextual [hk]

@[simp ↓] theorem gsyncLoss_smem {s₀ : State} (t : Nat) (s : State) (hk : s₀.SameMem s) :
    s₀.SameMem (gsyncLoss t s) := by
  unfold gsyncLoss; simp (maxDischargeDepth := 100) +contextual [hk]

@[simp ↓] theorem remoteDoorbell_smem {s₀ : State} (t : Nat) (m : Fin 8) (b : Fin 32) (s : State) (hk : s₀.SameMem s) :
    s₀.SameMem (remoteDoorbell t m b s) := by
  unfold remoteDoorbell; simp (maxDischargeDepth := 100) +contextual [hk]

@[simp ↓] theorem groupTrigger_smem {s₀ : State} (t trig : Nat) (s : State) (hk : s₀.SameMem s) :
    s₀.SameMem (groupTrigger t trig s) := by
  unfold groupTrigger; simp (maxDischargeDepth := 100) +contextual [hk]

@[simp ↓] theorem faultForward_smem {s₀ : State} (t : Nat) (f : ForwardIn) (s : State) (hk : s₀.SameMem s) :
    s₀.SameMem (faultForward t f s) := by
  unfold faultForward; (try dsimp only); (repeat' split) <;> simp (maxDischargeDepth := 100) +contextual [hk]

end Sys2Proof.Machine
end

