-- ==== Sys2Proof/Laws/Mem/Power.lean ====
section
/-! SUPPORT. The operations of Machine/Power.lean that do not write memory. -/

namespace Sys2Proof.Machine

@[simp ↓] theorem reBudget_smem {s₀ : State} (s : State) (hk : s₀.SameMem s) :
    s₀.SameMem (State.reBudget s) := by
  unfold State.reBudget; simp (maxDischargeDepth := 100) +contextual [hk]

@[simp ↓] theorem updPwr_smem {s₀ : State} (s : State) (f : Pwr → Pwr) (hk : s₀.SameMem s) :
    s₀.SameMem (State.updPwr s f) := by
  unfold State.updPwr; simp (maxDischargeDepth := 100) +contextual [hk]

@[simp ↓] theorem enableRails_smem {s₀ : State} (s : State) (n : Fin 4) (hk : s₀.SameMem s) :
    s₀.SameMem (State.enableRails s n) := by
  unfold State.enableRails; simp (maxDischargeDepth := 100) +contextual [hk]

@[simp ↓] theorem railSlot_smem {s₀ : State} (t : Nat) (s : State) (hk : s₀.SameMem s) :
    s₀.SameMem (railSlot t s) := by
  unfold railSlot; simp (maxDischargeDepth := 100) +contextual [hk]

@[simp ↓] theorem railsDown_smem {s₀ : State} (s : State) (n : Fin 4) (hk : s₀.SameMem s) :
    s₀.SameMem (State.railsDown s n) := by
  unfold State.railsDown; simp (maxDischargeDepth := 100) +contextual [hk]

@[simp ↓] theorem reCond_smem {s₀ : State} (s : State) (hk : s₀.SameMem s) :
    s₀.SameMem (State.reCond s) := by
  unfold State.reCond; simp (maxDischargeDepth := 100) +contextual [hk]

@[simp ↓] theorem inputValidity_smem {s₀ : State} (t : Nat) (ka valid : Bool) (s : State) (hk : s₀.SameMem s) :
    s₀.SameMem (inputValidity t ka valid s) := by
  unfold inputValidity; simp (maxDischargeDepth := 100) +contextual [hk]

@[simp ↓] theorem inputCondition_smem {s₀ : State} (t : Nat) (high : Bool) (s : State) (hk : s₀.SameMem s) :
    s₀.SameMem (inputCondition t high s) := by
  unfold inputCondition; simp (maxDischargeDepth := 100) +contextual [hk]

@[simp ↓] theorem shed_smem {s₀ : State} (s : State) (n : Fin 4) (hk : s₀.SameMem s) :
    s₀.SameMem (State.shed s n) := by
  unfold State.shed; simp (maxDischargeDepth := 100) +contextual [hk]

@[simp ↓] theorem shedOver_smem {s₀ : State} (s : State) (hk : s₀.SameMem s) :
    s₀.SameMem (State.shedOver s) := by
  unfold State.shedOver; (try dsimp only); (repeat' split) <;> simp (maxDischargeDepth := 100) +contextual [hk]

@[simp ↓] theorem powerLoss_smem {s₀ : State} (t : Nat) (s : State) (hk : s₀.SameMem s) :
    s₀.SameMem (powerLoss t s) := by
  unfold powerLoss; simp (maxDischargeDepth := 100) +contextual [hk]

@[simp ↓] theorem busCollapse_smem {s₀ : State} (t : Nat) (s : State) (hk : s₀.SameMem s) :
    s₀.SameMem (busCollapse t s) := by
  unfold busCollapse; simp (maxDischargeDepth := 100) +contextual [hk]

@[simp ↓] theorem xDomainEnd_smem {s₀ : State} (t : Nat) (s : State) (hk : s₀.SameMem s) :
    s₀.SameMem (xDomainEnd t s) := by
  unfold xDomainEnd; simp (maxDischargeDepth := 100) +contextual [hk]

@[simp ↓] theorem powerLossClear_smem {s₀ : State} (t : Nat) (s : State) (hk : s₀.SameMem s) :
    s₀.SameMem (powerLossClear t s) := by
  unfold powerLossClear; simp (maxDischargeDepth := 100) +contextual [hk]

@[simp ↓] theorem railFailure_smem {s₀ : State} (t ch : Nat) (s : State) (hk : s₀.SameMem s) :
    s₀.SameMem (railFailure t ch s) := by
  unfold railFailure; simp (maxDischargeDepth := 100) +contextual [hk]

end Sys2Proof.Machine
end

