-- ==== Sys2Proof/Laws/Mem/View.lean ====
section
/-! SUPPORT. The operations of Machine/View.lean that do not write memory. -/

namespace Sys2Proof.Machine

@[simp ↓] theorem readEffect_smem {s₀ : State} (s : State) (req a : Nat) (d : RDesc) (ix : List Nat) (hk : s₀.SameMem s) :
    s₀.SameMem (State.readEffect s req a d ix) := by
  unfold State.readEffect; simp (maxDischargeDepth := 100) +contextual [hk]

@[simp ↓] theorem readReg_smem {s₀ : State} (s : State) (req a : Nat) (hk : s₀.SameMem s) :
    s₀.SameMem (State.readReg s req a).1 := by
  unfold State.readReg; (try dsimp only); (repeat' split) <;> simp (maxDischargeDepth := 100) +contextual [hk]

end Sys2Proof.Machine
end

