-- ==== Sys2Proof/Laws/Mem/Bus.lean ====
section
/-! SUPPORT. The operations of Machine/Bus.lean that do not write memory. -/

namespace Sys2Proof.Machine

@[simp ↓] theorem engineError_smem {s₀ : State} (s : State) (req addr : Nat) (write : Bool) (hk : s₀.SameMem s) :
    s₀.SameMem (State.engineError s req addr write) := by
  unfold State.engineError; simp (maxDischargeDepth := 100) +contextual [hk]

@[simp ↓] theorem accessError_smem {s₀ : State} (s : State) (req addr kind : Nat) (write : Bool) (hk : s₀.SameMem s) :
    s₀.SameMem (State.accessError s req addr kind write) := by
  unfold State.accessError; simp (maxDischargeDepth := 100) +contextual [hk]

@[simp ↓] theorem cfgReject_smem {s₀ : State} (s : State) (req reason a : Nat) (hk : s₀.SameMem s) :
    s₀.SameMem (State.cfgReject s req reason a) := by
  unfold State.cfgReject; simp (maxDischargeDepth := 100) +contextual [hk]

@[simp ↓] theorem wrotePwm_smem {s₀ : State} (s : State) (base i : Nat) (old : Word) (hk : s₀.SameMem s) :
    s₀.SameMem (State.wrotePwm s base i old) := by
  unfold State.wrotePwm; simp (maxDischargeDepth := 100) +contextual [hk]

@[simp ↓] theorem stepsFromDrv_smem {s₀ : State} (s : State) (i : Nat) (hk : s₀.SameMem s) :
    s₀.SameMem (State.stepsFromDrv s i) := by
  unfold State.stepsFromDrv; simp (maxDischargeDepth := 100) +contextual [hk]

@[simp ↓] theorem wroteGate_smem {s₀ : State} (s : State) (base i : Nat) (old : Word) (hk : s₀.SameMem s) :
    s₀.SameMem (State.wroteGate s base i old) := by
  unfold State.wroteGate; simp (maxDischargeDepth := 100) +contextual [hk]

@[simp ↓] theorem wroteBw_smem {s₀ : State} (s : State) (base : Nat) (w : Word) (hk : s₀.SameMem s) :
    s₀.SameMem (State.wroteBw s base w) := by
  unfold State.wroteBw; simp (maxDischargeDepth := 100) +contextual [hk]

@[simp ↓] theorem wroteCan_smem {s₀ : State} (s : State) (base : Nat) (ix : List Nat) (old w : Word) (hk : s₀.SameMem s) :
    s₀.SameMem (State.wroteCan s base ix old w) := by
  unfold State.wroteCan; simp (maxDischargeDepth := 100) +contextual [hk]

@[simp ↓] theorem wroteMessage_smem {s₀ : State} (s : State) (b : Fin 32) (i : Fin 16) (w : Word) (hk : s₀.SameMem s) :
    s₀.SameMem (State.wroteMessage s b i w) := by
  unfold State.wroteMessage; (try dsimp only); (repeat' split) <;> simp (maxDischargeDepth := 100) +contextual [hk]

@[simp ↓] theorem wroteBerth_smem {s₀ : State} (s : State) (req base : Nat) (ix : List Nat) (old w : Word) (hk : s₀.SameMem s) :
    s₀.SameMem (State.wroteBerth s req base ix old w) := by
  unfold State.wroteBerth; simp (maxDischargeDepth := 100) +contextual [hk]

@[simp ↓] theorem wroteLogb_smem {s₀ : State} (s : State) (base : Nat) (old w : Word) (hk : s₀.SameMem s) :
    s₀.SameMem (State.wroteLogb s base old w) := by
  unfold State.wroteLogb; simp (maxDischargeDepth := 100) +contextual [hk]

@[simp ↓] theorem wroteMoor_smem {s₀ : State} (s : State) (base : Nat) (old : Word) (hk : s₀.SameMem s) :
    s₀.SameMem (State.wroteMoor s base old) := by
  unfold State.wroteMoor; simp (maxDischargeDepth := 100) +contextual [hk]

@[simp ↓] theorem wroteTide_smem {s₀ : State} (s : State) (base : Nat) (hk : s₀.SameMem s) :
    s₀.SameMem (State.wroteTide s base) := by
  unfold State.wroteTide; simp (maxDischargeDepth := 100) +contextual [hk]

@[simp ↓] theorem wroteFbk_smem {s₀ : State} (s : State) (base i : Nat) (old : Word) (hk : s₀.SameMem s) :
    s₀.SameMem (State.wroteFbk s base i old) := by
  unfold State.wroteFbk; simp (maxDischargeDepth := 100) +contextual [hk]

@[simp ↓] theorem wroteLe_smem {s₀ : State} (s : State) (base i : Nat) (old w : Word) (hk : s₀.SameMem s) :
    s₀.SameMem (State.wroteLe s base i old w) := by
  unfold State.wroteLe; simp (maxDischargeDepth := 100) +contextual [hk]

@[simp ↓] theorem keepInForce_smem {s₀ : State} (s : State) (a : Nat) (d : RDesc) (i : Nat) (new : Word) (hk : s₀.SameMem s) :
    s₀.SameMem (State.keepInForce s a d i new) := by
  unfold State.keepInForce; simp (maxDischargeDepth := 100) +contextual [hk]

@[simp ↓] theorem placeFirst_smem {s₀ : State} (s : State) (a : Nat) (hk : s₀.SameMem s) :
    s₀.SameMem (State.placeFirst s a) := by
  unfold State.placeFirst; simp (maxDischargeDepth := 100) +contextual [hk]

theorem writeEngine_smem {s₀ : State} (s : State) (n : Fin 4) (off : Nat) (w : Word) (hk : s₀.SameMem s) :
    ∀ t ∈ State.writeEngine s n off w, s₀.SameMem t := by
  unfold State.writeEngine; (try dsimp only); (repeat' split) <;> simp (maxDischargeDepth := 100) +contextual [hk]

@[simp ↓] theorem memRead_smem {s₀ : State} (s : State) (req a : Nat) (hk : s₀.SameMem s) :
    s₀.SameMem (State.memRead s req a).1 := by
  unfold State.memRead; (try dsimp only); (repeat' split) <;> simp (maxDischargeDepth := 100) +contextual [hk]

@[simp ↓] theorem busRead_smem {s₀ : State} (s : State) (req addr width : Nat) (hk : s₀.SameMem s) :
    s₀.SameMem (State.busRead s req addr width).1 := by
  unfold State.busRead; (try dsimp only); (repeat' split) <;> simp (maxDischargeDepth := 100) +contextual [hk]

@[simp ↓] theorem busAt_smem {s₀ : State} (s : State) (t req : Nat) (store : Bool) (hk : s₀.SameMem s) :
    s₀.SameMem (State.busAt s t req store) := by
  unfold State.busAt; simp (maxDischargeDepth := 100) +contextual [hk]

@[simp ↓] theorem regReadAt_smem {s₀ : State} (t req a : Nat) (s : State) (hk : s₀.SameMem s) :
    s₀.SameMem (regReadAt t req a s) := by
  unfold regReadAt; simp (maxDischargeDepth := 100) +contextual [hk]

@[simp ↓] theorem hostError_smem {s₀ : State} (s : State) (req addr : Nat) (write : Bool) (hk : s₀.SameMem s) :
    s₀.SameMem (State.hostError s req addr write) := by
  unfold State.hostError; simp (maxDischargeDepth := 100) +contextual [hk]

@[simp ↓] theorem fabricWatchdog_smem {s₀ : State} (t req addr : Nat) (write : Bool) (s : State) (hk : s₀.SameMem s) :
    s₀.SameMem (fabricWatchdog t req addr write s) := by
  unfold fabricWatchdog; simp (maxDischargeDepth := 100) +contextual [hk]

end Sys2Proof.Machine
end

