-- ==== Sys2Proof/Laws/Mem/Manifest.lean ====
section
/-! SUPPORT. The operations of Machine/Manifest.lean that do not write memory. -/

namespace Sys2Proof.Machine

@[simp ↓] theorem elemReject_smem {s₀ : State} (s : State) (reason i : Nat) (hk : s₀.SameMem s) :
    s₀.SameMem (State.elemReject s reason i) := by
  unfold State.elemReject; simp (maxDischargeDepth := 100) +contextual [hk]

@[simp ↓] theorem putProgram_smem {s₀ : State} (s : State) (n : Fin 4) (start : Nat) (ws : List Nat) (hk : s₀.SameMem s) :
    s₀.SameMem (State.putProgram s n start ws) := by
  unfold State.putProgram; simp (maxDischargeDepth := 100) +contextual [hk]

@[simp ↓] theorem putCoefs_smem {s₀ : State} (s : State) (n : Fin 4) (start : Nat) (ws : List Nat) (hk : s₀.SameMem s) :
    s₀.SameMem (State.putCoefs s n start ws) := by
  unfold State.putCoefs; simp (maxDischargeDepth := 100) +contextual [hk]

@[simp ↓] theorem loadProgramBlob_smem {s₀ : State} (s : State) (b : Blob) (hk : s₀.SameMem s) :
    s₀.SameMem (State.loadProgramBlob s b).1 := by
  unfold State.loadProgramBlob; (try dsimp only); refine foldl_smem_fst (fun p a hp => ?_) _ hk; (try dsimp only); (repeat' split) <;> simp (maxDischargeDepth := 100) +contextual [hp]

@[simp ↓] theorem loadBlob_smem {s₀ : State} (s : State) (b : Blob) (hk : s₀.SameMem s) :
    s₀.SameMem (State.loadBlob s b).1 := by
  unfold State.loadBlob; (try dsimp only); (repeat' split) <;> simp (maxDischargeDepth := 100) +contextual [hk]

@[simp ↓] theorem applyBlobs_smem {s₀ : State} (s : State) (els : List (Elem × Nat)) (hk : s₀.SameMem s) :
    s₀.SameMem (State.applyBlobs s els) := by
  unfold State.applyBlobs; (try dsimp only); (repeat' (split <;> try (rename_i e; replace e := congrArg Prod.fst e; dsimp only at e; subst e))) <;> (try apply foldl_smem) <;> (try intro _ _ _) <;> (try dsimp only) <;> (repeat' (split <;> try (rename_i e; replace e := congrArg Prod.fst e; dsimp only at e; subst e))) <;> simp (maxDischargeDepth := 100) +contextual [*]

@[simp ↓] theorem startSet_smem {s₀ : State} (s : State) (b : Option (List Byte)) (hk : s₀.SameMem s) :
    s₀.SameMem (State.startSet s b) := by
  unfold State.startSet; (try dsimp only); (repeat' split) <;> simp (maxDischargeDepth := 100) +contextual [hk]

@[simp ↓] theorem initials_smem {s₀ : State} (s : State) (els : List (Elem × Nat)) (hk : s₀.SameMem s) :
    s₀.SameMem (State.initials s els).1 := by
  unfold State.initials; simp (maxDischargeDepth := 100) +contextual [hk]

@[simp ↓] theorem rejectUnknown_smem {s₀ : State} (s : State) (els : List (Elem × Nat)) (hk : s₀.SameMem s) :
    s₀.SameMem (State.rejectUnknown s els) := by
  unfold State.rejectUnknown; simp (maxDischargeDepth := 100) +contextual [hk]

@[simp ↓] theorem stageSafety_smem {s₀ : State} (s : State) (x : SafetySet) (hk : s₀.SameMem s) :
    s₀.SameMem (State.stageSafety s x) := by
  unfold State.stageSafety; (try dsimp only); (repeat' split) <;> simp (maxDischargeDepth := 100) +contextual [hk]

end Sys2Proof.Machine
end

