-- ==== Sys2Proof/Laws/Mem/Command.lean ====
section
/-! SUPPORT. The operations of Machine/Command.lean that do not write memory. -/

namespace Sys2Proof.Machine

@[simp ↓] theorem ok_smem {s₀ : State} (s : State) (data : List Byte) (hk : s₀.SameMem s) :
    s₀.SameMem (State.ok s data).1 := by
  unfold State.ok; simp (maxDischargeDepth := 100) +contextual [hk]

@[simp ↓] theorem no_smem {s₀ : State} (s : State) (status : Nat) (detail : Nat) (hk : s₀.SameMem s) :
    s₀.SameMem (State.no s status detail).1 := by
  unfold State.no; simp (maxDischargeDepth := 100) +contextual [hk]

@[simp ↓] theorem noState_smem {s₀ : State} (s : State) (p : Pkt) (hk : s₀.SameMem s) :
    s₀.SameMem (State.noState s p).1 := by
  unfold State.noState; simp (maxDischargeDepth := 100) +contextual [hk]

@[simp ↓] theorem authEnd_smem {s₀ : State} (s : State) (ch : Chan) (hk : s₀.SameMem s) :
    s₀.SameMem (State.authEnd s ch) := by
  unfold State.authEnd; simp (maxDischargeDepth := 100) +contextual [hk]

@[simp ↓] theorem keepReply_smem {s₀ : State} (s : State) (c : Cmd) (b : List Byte) (pending : Bool) (hk : s₀.SameMem s) :
    s₀.SameMem (State.keepReply s c b pending) := by
  unfold State.keepReply; simp (maxDischargeDepth := 100) +contextual [hk]

@[simp ↓] theorem judge_smem {s₀ : State} (s : State) (c : Cmd) (body : State → Cmd → State × Ans) (hk : s₀.SameMem s)
    (hb : ∀ s c, s₀.SameMem s → s₀.SameMem (body s c).1) : s₀.SameMem (s.judge c body).1 := by
  unfold State.judge; (repeat' split) <;> simp (maxDischargeDepth := 100) +contextual [hk, hb]

@[simp ↓] theorem memberInfo_smem {s₀ : State} (s : State) (m : Fin 8) (hk : s₀.SameMem s) :
    s₀.SameMem (State.memberInfo s m).2 := by
  unfold State.memberInfo; simp (maxDischargeDepth := 100) +contextual [hk]

@[simp ↓] theorem perMember_smem {s₀ : State} (s : State) (own : List Byte)
    (other : State → Fin 8 → List Byte × State) (hk : s₀.SameMem s)
    (ho : ∀ s m, s₀.SameMem s → s₀.SameMem (other s m).2) : s₀.SameMem (s.perMember own other).2 := by
  unfold State.perMember
  refine List.foldlRecOn (motive := fun (r : List Byte × State) => s₀.SameMem r.2) s.members _ hk fun r hr m _ => ?_
  dsimp only
  split
  · exact hr
  · exact ho _ _ hr

@[simp ↓] theorem cmdInfo_smem {s₀ : State} (s : State) (c : Cmd) (hk : s₀.SameMem s) :
    s₀.SameMem (cmdInfo s c).1 := by
  unfold cmdInfo; simp (maxDischargeDepth := 100) +contextual [hk]

@[simp ↓] theorem hostRead_smem {s₀ : State} (s : State) (req a : Nat) (hk : s₀.SameMem s) :
    s₀.SameMem (State.hostRead s req a).1 := by
  unfold State.hostRead; simp (maxDischargeDepth := 100) +contextual [hk]

@[simp ↓] theorem readWords_smem {s₀ : State} (req a n : Nat) (s : State) (l : List Byte) (hk : s₀.SameMem s) :
    s₀.SameMem (State.readWords req a n s l).1 := by
  induction n generalizing a s l with
  | zero => exact hk
  | succ k ih =>
    unfold State.readWords
    split <;> (rename_i e; replace e := congrArg Prod.fst e; dsimp only at e; subst e)
    · exact ih _ _ _ (hostRead_smem _ _ _ hk)
    · exact hostRead_smem _ _ _ hk

@[simp ↓] theorem cmdRegRead_smem {s₀ : State} (s : State) (c : Cmd) (hk : s₀.SameMem s) :
    s₀.SameMem (cmdRegRead s c).1 := by
  unfold cmdRegRead; (try dsimp only); (repeat' (split <;> try (rename_i e; replace e := congrArg Prod.fst e; dsimp only at e; subst e))) <;> simp (maxDischargeDepth := 100) +contextual [hk]

end Sys2Proof.Machine
end

