-- ==== Sys2Proof/Laws/Mem/CmdAxis.lean ====
section
/-! SUPPORT. The operations of Machine/CmdAxis.lean that do not write memory. -/

namespace Sys2Proof.Machine

@[simp ↓] theorem axisGroup_smem {s₀ : State} (s : State) (dst : AxState) (option : Nat) (hk : s₀.SameMem s) :
    s₀.SameMem (State.axisGroup s dst option) := by
  unfold State.axisGroup; simp (maxDischargeDepth := 100) +contextual [hk]

@[simp ↓] theorem validFor_smem {s₀ : State} (s : State) (n : Fin 4) (ms : Nat) (hk : s₀.SameMem s) :
    s₀.SameMem (State.validFor s n ms) := by
  unfold State.validFor; simp (maxDischargeDepth := 100) +contextual [hk]

@[simp ↓] theorem setpoint_smem {s₀ : State} (s : State) (n : Fin 4) (l : List (Nat × Word)) (ms : Nat) (clamped : Bool) (data : List Byte) (hk : s₀.SameMem s) :
    s₀.SameMem (State.setpoint s n l ms clamped data).1 := by
  unfold State.setpoint; simp (maxDischargeDepth := 100) +contextual [hk]

@[simp ↓] theorem inRun_smem {s₀ : State} (s : State) (c : Cmd) (f : Fin 4 → State × Ans)
    (hk : s₀.SameMem s) (hf : ∀ n, s₀.SameMem (f n).1) : s₀.SameMem (s.inRun c f).1 := by
  unfold State.inRun; (repeat' split) <;> simp (maxDischargeDepth := 100) +contextual [hk, hf]

@[simp ↓] theorem cmdTorque_smem {s₀ : State} (s : State) (c : Cmd) (hk : s₀.SameMem s) :
    s₀.SameMem (cmdTorque s c).1 := by
  unfold cmdTorque; simp (maxDischargeDepth := 100) +contextual [hk]

@[simp ↓] theorem cmdSpeed_smem {s₀ : State} (s : State) (c : Cmd) (hk : s₀.SameMem s) :
    s₀.SameMem (cmdSpeed s c).1 := by
  unfold cmdSpeed; simp (maxDischargeDepth := 100) +contextual [hk]

@[simp ↓] theorem cmdLine_smem {s₀ : State} (s : State) (c : Cmd) (hk : s₀.SameMem s) :
    s₀.SameMem (cmdLine s c).1 := by
  unfold cmdLine; simp (maxDischargeDepth := 100) +contextual [hk]

@[simp ↓] theorem setpointExpiry_smem {s₀ : State} (t : Nat) (n : Fin 4) (s : State) (hk : s₀.SameMem s) :
    s₀.SameMem (setpointExpiry t n s) := by
  unfold setpointExpiry; simp (maxDischargeDepth := 100) +contextual [hk]

end Sys2Proof.Machine
end

