-- ==== Sys2Proof/Laws/Mem/CmdEngine.lean ====
section
/-! SUPPORT. The operations of Machine/CmdEngine.lean that do not write memory. -/

namespace Sys2Proof.Machine

@[simp ↓] theorem loopOpen_smem {s₀ : State} (s : State) (c : Cmd) (f : Fin 4 → State × Ans)
    (hk : s₀.SameMem s) (hf : ∀ n, s₀.SameMem (f n).1) : s₀.SameMem (s.loopOpen c f).1 := by
  unfold State.loopOpen; (repeat' split) <;> simp (maxDischargeDepth := 100) +contextual [hk, hf]

@[simp ↓] theorem loadWords_smem {s₀ : State} (s : State) (c : Cmd) (n : Fin 4) (hk : s₀.SameMem s) :
    s₀.SameMem (State.loadWords s c n).1 := by
  unfold State.loadWords; simp (maxDischargeDepth := 100) +contextual [hk]

@[simp ↓] theorem loadNamed_smem {s₀ : State} (s : State) (c : Cmd) (n : Fin 4) (hk : s₀.SameMem s) :
    s₀.SameMem (State.loadNamed s c n).1 := by
  unfold State.loadNamed; (try dsimp only); (repeat' split) <;> simp (maxDischargeDepth := 100) +contextual [hk]

@[simp ↓] theorem cmdProgramLoad_smem {s₀ : State} (s : State) (c : Cmd) (hk : s₀.SameMem s) :
    s₀.SameMem (cmdProgramLoad s c).1 := by
  unfold cmdProgramLoad; (try dsimp only); (repeat' split) <;> simp (maxDischargeDepth := 100) +contextual [hk]

@[simp ↓] theorem cmdCoeffWrite_smem {s₀ : State} (s : State) (c : Cmd) (hk : s₀.SameMem s) :
    s₀.SameMem (cmdCoeffWrite s c).1 := by
  unfold cmdCoeffWrite; simp (maxDischargeDepth := 100) +contextual [hk]

@[simp ↓] theorem cmdCoeffRead_smem {s₀ : State} (s : State) (c : Cmd) (hk : s₀.SameMem s) :
    s₀.SameMem (cmdCoeffRead s c).1 := by
  unfold cmdCoeffRead; (try dsimp only); (repeat' split) <;> simp (maxDischargeDepth := 100) +contextual [hk]

@[simp ↓] theorem cmdTuneStart_smem {s₀ : State} (s : State) (c : Cmd) (hk : s₀.SameMem s) :
    s₀.SameMem (cmdTuneStart s c).1 := by
  unfold cmdTuneStart; (try dsimp only); (repeat' split) <;> simp (maxDischargeDepth := 100) +contextual [hk]

@[simp ↓] theorem cmdTuneResult_smem {s₀ : State} (s : State) (c : Cmd) (hk : s₀.SameMem s) :
    s₀.SameMem (cmdTuneResult s c).1 := by
  unfold cmdTuneResult; (try dsimp only); (repeat' split) <;> simp (maxDischargeDepth := 100) +contextual [hk]

end Sys2Proof.Machine
end

