-- ==== Sys2Proof/Laws/Mem/CmdGroup.lean ====
section
/-! SUPPORT. The operations of Machine/CmdGroup.lean that do not write memory. -/

namespace Sys2Proof.Machine

@[simp ↓] theorem cmdGroupForm_smem {s₀ : State} (s : State) (c : Cmd) (hk : s₀.SameMem s) :
    s₀.SameMem (cmdGroupForm s c).1 := by
  unfold cmdGroupForm; simp (maxDischargeDepth := 100) +contextual [hk]

end Sys2Proof.Machine
end

