-- ==== Sys2Proof/Laws/Mem/CmdManifest.lean ====
section
/-! SUPPORT. The operations of Machine/CmdManifest.lean that do not write memory. -/

namespace Sys2Proof.Machine

@[simp ↓] theorem cmdManifestRead_smem {s₀ : State} (s : State) (c : Cmd) (hk : s₀.SameMem s) :
    s₀.SameMem (cmdManifestRead s c).1 := by
  unfold cmdManifestRead; simp (maxDischargeDepth := 100) +contextual [hk]

@[simp ↓] theorem cmdManifestWrite_smem {s₀ : State} (s : State) (c : Cmd) (hk : s₀.SameMem s) :
    s₀.SameMem (cmdManifestWrite s c).1 := by
  unfold cmdManifestWrite; simp (maxDischargeDepth := 100) +contextual [hk]

@[simp ↓] theorem cmdSafetyWrite_smem {s₀ : State} (s : State) (c : Cmd) (hk : s₀.SameMem s) :
    s₀.SameMem (cmdSafetyWrite s c).1 := by
  unfold cmdSafetyWrite; simp (maxDischargeDepth := 100) +contextual [hk]

end Sys2Proof.Machine
end

