-- ==== Sys2Proof/Laws/Mem/CmdService.lean ====
section
/-! SUPPORT. The operations of Machine/CmdService.lean that do not write memory. -/

namespace Sys2Proof.Machine

@[simp ↓] theorem cmdFaultRead_smem {s₀ : State} (s : State) (c : Cmd) (hk : s₀.SameMem s) :
    s₀.SameMem (cmdFaultRead s c).1 := by
  unfold cmdFaultRead; simp (maxDischargeDepth := 100) +contextual [hk]

@[simp ↓] theorem cmdFaultClear_smem {s₀ : State} (gone : List (FName × Nat × Nat)) (s : State) (c : Cmd) (hk : s₀.SameMem s) :
    s₀.SameMem (cmdFaultClear gone s c).1 := by
  unfold cmdFaultClear; (try dsimp only); (repeat' (split <;> try (rename_i e; replace e := congrArg Prod.fst e; dsimp only at e; subst e))) <;> simp (maxDischargeDepth := 100) +contextual [hk]

@[simp ↓] theorem logArm_smem {s₀ : State} (s : State) (k : Nat) (b : List Byte) (hk : s₀.SameMem s) :
    s₀.SameMem (State.logArm s k b) := by
  unfold State.logArm; simp (maxDischargeDepth := 100) +contextual [hk]

@[simp ↓] theorem logState_smem {s₀ : State} (s : State) (hk : s₀.SameMem s) :
    s₀.SameMem (State.logState s).1 := by
  unfold State.logState; simp (maxDischargeDepth := 100) +contextual [hk]

@[simp ↓] theorem cmdArm_smem {s₀ : State} (s : State) (c : Cmd) (hk : s₀.SameMem s) :
    s₀.SameMem (cmdArm s c).1 := by
  unfold cmdArm; (try dsimp only); (repeat' split) <;> simp (maxDischargeDepth := 100) +contextual [hk]

@[simp ↓] theorem recordErrors_smem {s₀ : State} (s : State) (first o n : Nat) (hk : s₀.SameMem s) :
    s₀.SameMem (State.recordErrors s first o n) := by
  unfold State.recordErrors; (try dsimp only); (repeat' split) <;> simp (maxDischargeDepth := 100) +contextual [hk]

@[simp ↓] theorem cmdLogRead_smem {s₀ : State} (s : State) (c : Cmd) (hk : s₀.SameMem s) :
    s₀.SameMem (cmdLogRead s c).1 := by
  unfold cmdLogRead; simp (maxDischargeDepth := 100) +contextual [hk]

@[simp ↓] theorem sendBulk_smem {s₀ : State} (s : State) (ch : Chan) (b : List Byte)
    (hk : s₀.SameMem s) : s₀.SameMem (State.sendBulk s ch b) := by
  unfold State.sendBulk; split <;> simp [hk]

@[simp ↓] theorem sendRecord_smem {s₀ : State} (ch : Chan) (first fuel : Nat) (o left num : Nat) (s : State)
    (hk : s₀.SameMem s) : s₀.SameMem (State.sendRecord ch first fuel o left num s) := by
  induction fuel generalizing o left num s with
  | zero => exact hk
  | succ k ih => exact ih _ _ _ _ (sendBulk_smem _ _ _ hk)

@[simp ↓] theorem cmdDiagRun_smem {s₀ : State} (s : State) (c : Cmd) (hk : s₀.SameMem s) :
    s₀.SameMem (cmdDiagRun s c).1 := by
  unfold cmdDiagRun; (try dsimp only); (repeat' split) <;> simp (maxDischargeDepth := 100) +contextual [hk]

@[simp ↓] theorem putLegResult_smem {s₀ : State} (s : State) (n : Fin 4) (mask : Nat) (l : Fin 12) (v : BitVec 8) (hk : s₀.SameMem s) :
    s₀.SameMem (State.putLegResult s n mask l v) := by
  unfold State.putLegResult; simp (maxDischargeDepth := 100) +contextual [hk]

@[simp ↓] theorem putPath_smem {s₀ : State} (s : State) (n c : Fin 4) (m : Nat) (hk : s₀.SameMem s) :
    s₀.SameMem (State.putPath s n c m) := by
  unfold State.putPath; simp (maxDischargeDepth := 100) +contextual [hk]

@[simp ↓] theorem axisResults_smem {s₀ : State} (s : State) (n : Fin 4) (mask : Nat) (r : DiagReadings) (hk : s₀.SameMem s) :
    s₀.SameMem (State.axisResults s n mask r).1 := by
  unfold State.axisResults; simp (maxDischargeDepth := 100) +contextual [hk]

@[simp ↓] theorem xResults_smem {s₀ : State} (s : State) (mask : Nat) (r : DiagReadings) (hk : s₀.SameMem s) :
    s₀.SameMem (State.xResults s mask r).1 := by
  unfold State.xResults; simp (maxDischargeDepth := 100) +contextual [hk]

end Sys2Proof.Machine
end

