-- ==== Sys2Proof/Laws/Mem/CmdUpdate.lean ====
section
/-! SUPPORT. The operations of Machine/CmdUpdate.lean that do not write memory. -/

namespace Sys2Proof.Machine

@[simp ↓] theorem setSlot_smem {s₀ : State} (s : State) (i : Fin 8) (k : KeySlot) (hk : s₀.SameMem s) :
    s₀.SameMem (State.setSlot s i k) := by
  unfold State.setSlot; simp (maxDischargeDepth := 100) +contextual [hk]

@[simp ↓] theorem cmdProgramSlot_smem {s₀ : State} (s : State) (c : Cmd) (hk : s₀.SameMem s) :
    s₀.SameMem (cmdProgramSlot s c).1 := by
  unfold cmdProgramSlot; (try dsimp only); (repeat' split) <;> simp (maxDischargeDepth := 100) +contextual [hk]

@[simp ↓] theorem setUpdate_smem {s₀ : State} (s : State) (u : Update) (hk : s₀.SameMem s) :
    s₀.SameMem (State.setUpdate s u) := by
  unfold State.setUpdate; simp (maxDischargeDepth := 100) +contextual [hk]

@[simp ↓] theorem putUpdate_smem {s₀ : State} (s : State) (u : Update) (hk : s₀.SameMem s) :
    s₀.SameMem (State.putUpdate s u) := by
  unfold State.putUpdate; simp (maxDischargeDepth := 100) +contextual [hk]

@[simp ↓] theorem ownUpdate_smem {s₀ : State} (s : State) (c : Cmd) (f : Update → State × Ans)
    (hk : s₀.SameMem s) (hf : ∀ n, s₀.SameMem (f n).1) : s₀.SameMem (s.ownUpdate c f).1 := by
  unfold State.ownUpdate; (repeat' split) <;> simp (maxDischargeDepth := 100) +contextual [hk, hf]

@[simp ↓] theorem cmdFwFinish_smem {s₀ : State} (s : State) (c : Cmd) (hk : s₀.SameMem s) :
    s₀.SameMem (cmdFwFinish s c).1 := by
  unfold cmdFwFinish; simp (maxDischargeDepth := 100) +contextual [hk]

@[simp ↓] theorem cmdFwActivate_smem {s₀ : State} (s : State) (c : Cmd) (hk : s₀.SameMem s) :
    s₀.SameMem (cmdFwActivate s c).1 := by
  unfold cmdFwActivate; simp (maxDischargeDepth := 100) +contextual [hk]

@[simp ↓] theorem cmdFwConfirm_smem {s₀ : State} (s : State) (c : Cmd) (hk : s₀.SameMem s) :
    s₀.SameMem (cmdFwConfirm s c).1 := by
  unfold cmdFwConfirm; simp (maxDischargeDepth := 100) +contextual [hk]

end Sys2Proof.Machine
end

