-- ==== Sys2Proof/Laws/Mem/Lines.lean ====
section
/-! SUPPORT. The operations of Machine/Lines.lean that do not write memory. -/

namespace Sys2Proof.Machine

@[simp ↓] theorem measureLine_smem {s₀ : State} (t : Nat) (k : Fin 28) (s : State) (n : Nat) (hk : s₀.SameMem s) :
    s₀.SameMem (State.measureLine t k s n) := by
  unfold State.measureLine; simp (maxDischargeDepth := 100) +contextual [hk]

@[simp ↓] theorem nextLine_smem {s₀ : State} (s : State) (t : Nat) (hk : s₀.SameMem s) :
    s₀.SameMem (State.nextLine s t) := by
  unfold State.nextLine; simp (maxDischargeDepth := 100) +contextual [hk]

@[simp ↓] theorem delayLine_smem {s₀ : State} (t : Nat) (k : Fin 28) (launches : List (Nat × Nat)) (s : State) (hk : s₀.SameMem s) :
    s₀.SameMem (delayLine t k launches s) := by
  unfold delayLine; (try dsimp only); (repeat' split) <;> simp (maxDischargeDepth := 100) +contextual [hk]

@[simp ↓] theorem startLine_smem {s₀ : State} (t : Nat) (taps : List (List Nat)) (s : State) (k : Fin 28) (hk : s₀.SameMem s) :
    s₀.SameMem (State.startLine t taps s k) := by
  unfold State.startLine; simp (maxDischargeDepth := 100) +contextual [hk]

end Sys2Proof.Machine
end

