-- ==== Sys2Proof/Laws/Mem/Start.lean ====
section
/-! SUPPORT. The operations of Machine/Start.lean that do not write memory. -/

namespace Sys2Proof.Machine

@[simp ↓] theorem calFaults_smem {s₀ : State} (s : State) (t : Nat) (r : StartIn) (hk : s₀.SameMem s) :
    s₀.SameMem (State.calFaults s t r) := by
  unfold State.calFaults; simp (maxDischargeDepth := 100) +contextual [hk]

@[simp ↓] theorem measureSlice_smem {s₀ : State} (t : Nat) (c : Fin 4) (sl : Fin 9) (n : Nat) (l : List (Int × Int × Int))
    (s : State) (hk : s₀.SameMem s) : s₀.SameMem (State.measureSlice t c sl n l s) := by
  induction n generalizing l s with
  | zero => unfold State.measureSlice; exact retireSlice_smem _ _ _ _ hk
  | succ n ih =>
    cases l with
    | nil => unfold State.measureSlice; exact ih _ _ (by simp [hk])
    | cons x r =>
      unfold State.measureSlice
      dsimp only
      split
      · simp [hk]
      · exact ih _ _ (by simp [hk])

@[simp ↓] theorem startSlice_smem {s₀ : State} (t : Nat) (l : List (List (Int × Int × Int))) (c : Fin 4) (s : State) (sl : Fin 9) (hk : s₀.SameMem s) :
    s₀.SameMem (State.startSlice t l c s sl) := by
  unfold State.startSlice; simp (maxDischargeDepth := 100) +contextual [hk]

@[simp ↓] theorem startLookout_smem {s₀ : State} (s : State) (t : Nat) (ok : Bool) (hk : s₀.SameMem s) :
    s₀.SameMem (State.startLookout s t ok) := by
  unfold State.startLookout; simp (maxDischargeDepth := 100) +contextual [hk]

@[simp ↓] theorem selfTests_smem {s₀ : State} (s : State) (t : Nat) (r : StartIn) (hk : s₀.SameMem s) :
    s₀.SameMem (State.selfTests s t r) := by
  unfold State.selfTests; (try dsimp only); (repeat' split) <;> simp (maxDischargeDepth := 100) +contextual [hk]

@[simp ↓] theorem startAxis_smem {s₀ : State} (s : State) (n : Fin 4) (hk : s₀.SameMem s) :
    s₀.SameMem (State.startAxis s n) := by
  unfold State.startAxis; simp (maxDischargeDepth := 100) +contextual [hk]

@[simp ↓] theorem startRails_smem {s₀ : State} (s : State) (ready : List (Fin 4)) (hk : s₀.SameMem s) :
    s₀.SameMem (State.startRails s ready) := by
  unfold State.startRails; simp (maxDischargeDepth := 100) +contextual [hk]

@[simp ↓] theorem forecast_smem {s₀ : State} (s : State) (hk : s₀.SameMem s) :
    s₀.SameMem (State.forecast s) := by
  unfold State.forecast; simp (maxDischargeDepth := 100) +contextual [hk]

@[simp ↓] theorem halfModels_smem {s₀ : State} (s : State) (hk : s₀.SameMem s) :
    s₀.SameMem (State.halfModels s) := by
  unfold State.halfModels; simp (maxDischargeDepth := 100) +contextual [hk]

@[simp ↓] theorem startThrottle_smem {s₀ : State} (s : State) (hk : s₀.SameMem s) :
    s₀.SameMem (State.startThrottle s) := by
  unfold State.startThrottle; simp (maxDischargeDepth := 100) +contextual [hk]

@[simp ↓] theorem brace_smem {s₀ : State} (s : State) (t : Nat) (hk : s₀.SameMem s) :
    s₀.SameMem (State.brace s t) := by
  unfold State.brace; simp (maxDischargeDepth := 100) +contextual [hk]

@[simp ↓] theorem putCause_smem {s₀ : State} (s : State) (c : Cause) (hk : s₀.SameMem s) :
    s₀.SameMem (State.putCause s c) := by
  unfold State.putCause; simp (maxDischargeDepth := 100) +contextual [hk]

end Sys2Proof.Machine
end

