-- ==== Sys2Proof/Tests/Small.lean ====
section
/-! SUPPORT. Small states and packets that the tests and the witnesses are built from, and the two steps their proofs
share. -/

namespace Sys2Proof.Tests
open Sys2Proof.Machine

/-- A packet: header, payload, CRC (R75); sequence number 1, no tag. -/
def pkt (op target : Nat) (pay : List Byte) : List Byte :=
  let b := beBytes 2 0x4C58 ++ [1, 0] ++ beBytes 2 pay.length ++ [BitVec.ofNat 8 target, 0] ++ beBytes 4 1 ++
    beBytes 2 op ++ pay
  b ++ beBytes 4 (crc32c b).toNat

/-- A module after its start: supplied, Harbourmaster running, STANDBY. -/
def up : State := { State.reset.set Reg.SYS_MODSTATE_STATE 2 with pwr := { up := true, off := false } }

/-- A packet waits in the front-end queue. -/
def hold (s : State) (op target : Nat) (pay : List Byte := []) : State :=
  s.updHm fun h => { h with feq := [{ chan := .hspi, bytes := pkt op target pay, at_ := 0, buf := none }] }

/-- A record of one block is frozen. -/
def frozenOne : State := (up.set Reg.LOGB_STAT_STATE 3).updLogb fun l => { l with frozen := some (0, 1) }

/-- Key slot 3 holds an all-zero key of every role, and a session of the host port uses it. -/
def inSession : State :=
  up.updHm fun h => { h with
    slots := h.slots.set 3 { key := List.replicate 32 0, role := 0x1F, st := .programmed }
    sess := [{ chan := .hspi, slot := 3, sid := List.replicate 8 0, key := List.replicate 32 0, lastAt := 0 }] }

/-- A packet with the tag of that session waits. -/
def holdTagged (s : State) (op target : Nat) (pay : List Byte := []) : State :=
  let b := beBytes 2 0x4C58 ++ [1, 2] ++ beBytes 2 pay.length ++ [BitVec.ofNat 8 target, 0] ++ beBytes 4 1 ++
    beBytes 2 op ++ pay
  let b := b ++ mac16 (List.replicate 32 0) b
  s.updHm fun h => { h with feq := [{ chan := .hspi, bytes := b ++ [0, 0, 0, 0], at_ := 0, buf := none }] }

/-- An axis segment of a safety set with every field in range. -/
def axisSeg : List Byte :=
  let one := beBytes 4 (bf qOne).1.toNat
  let z (n : Nat) : List Byte := List.replicate n 0
  z 8 ++ one ++ [1, 1, 0, 0, 0, 0, 0, 4] ++ z 12 ++ one ++ [0, 1, 0, 0] ++ one ++ [0, 1] ++ z 6 ++ one ++ [0, 1, 0,
    0] ++
    one ++ [0, 0, 0, 100] ++ one ++ one ++ one ++ one ++ z 12 ++ one ++ z 12 ++ one ++ z 32 ++ one ++ z 24

/-- Safety set data with no axis in use and these connection records: every field in range (R345). -/
def setData (conns : List (List Byte)) : List Byte :=
  [0, 1, 0, BitVec.ofNat 8 conns.length, 0, 0, 0, 0, 0, 1, 0, 1, 0, 1, 0, 1, 0, 1] ++ List.replicate 8 0 ++
    [0, 5, 0, 0, 0, 0] ++ beBytes 4 (bf qOne).1.toNat ++ [0, 1] ++ List.replicate 26 0 ++ axisSeg ++
    axisSeg ++ axisSeg ++ axisSeg ++ conns.flatten

/-- A connection record: direction, dual, payload bytes (R361). -/
def connRec (dir dual bytes : Byte) : List Byte :=
  [0, 0, 0, 1, dir, dual, 0, 1] ++ List.replicate 8 0 ++ beBytes 4 100 ++ beBytes 4 500 ++
    [0, 50, 1, 1, bytes, 0, 0, 0, 1, 0, 0, 0]

/-- A set with these connections. -/
def setOf (conns : List (List Byte)) : SafetySet :=
  { ver := 1, code := 0, crc := (crc32c (setData conns)).toNat, mac := [], data := setData conns }

/-- The set is in force. -/
def withSet (s : State) (conns : List (List Byte) := []) : State :=
  { s with lk := { s.lk with inForce := some (setOf conns), fresh := false } }

/-- A VHV reading. -/
def volts (s : State) (v : Nat) : State := s.updBw fun b => { b with v := qInt v }

/-- An axis in a state. -/
def inState (s : State) (n : Fin 4) (x : AxState) : State := s.updAxis n fun a => { a with st := x }

/-- A firmware update of `size` bytes is open on the host port. -/
def updating (size next : Nat) (finished : Bool) : State :=
  up.updHm fun h =>
    { h with
      upd := some { chan := .hspi, size := size, next := next, lastAt := 0, finished := finished, busy := false } }

/-- An image with the blob `P`: a program of no words. -/
def blobImage : List Byte :=
  emptyImage.take 8 ++ beBytes 4 1 ++ beBytes 4 76 ++ (emptyImage.take 32).drop 16 ++
    [2, 0, 0, 0, 0, 0, 0, 24] ++ (0x50 :: List.replicate 15 0) ++ [1, 0, 0, 0, 0, 0, 0, 0] ++ List.replicate 8 0 ++
    beBytes 4 0xA1C64A36

/-- That image stands in bank A. -/
def withImage : State := { up with mem := blobImage.zipIdx.map fun p => (bankBase 0 + p.2, p.1) }

/-- A frame of CAN or a datagram with a PING. -/
def ping : List Byte := pkt 1 0 []

/-- Key slot 3 holds a key. -/
def oneKey : State :=
  up.updHm fun h => { h with slots := h.slots.set 3 { key := List.replicate 32 0, role := 0x1F, st := .programmed } }

/-- A second key slot with every role, beside that of the session. -/
def twoKeys : State :=
  inSession.updHm fun h =>
    { h with slots := h.slots.set 4 { key := List.replicate 32 1, role := 0x1F, st := .programmed } }

/-- Core 1 has sent a PING of 18 bytes at the start of shared SRAM, with a reply buffer of 46 bytes behind it. -/
def descState : State :=
  let d := leBytes 8 0x10000000 ++ leBytes 2 18 ++ leBytes 2 46 ++ List.replicate 4 0 ++ leBytes 8 0x10000040 ++
    List.replicate 40 0
  let s := up.setBytes 0x10000000 ping
  ((List.range 16).foldl (fun (s : State) k => s.setReg (Reg.BERTH_MSG 1 k) (BitVec.ofNat 32 (leAt d (4 * k) 4)))
    s).set
    (Reg.BERTH_STAT_FULL 1) 1

/-- A reply to core 1 waits for its berth. -/
def waiting : State :=
  up.updHm fun h => { h with waits := [{ chan := .berth 1, bytes := leBytes 2 30, since := 0, addr := 0x10000040 }] }

/-- A command of the host port is pending. -/
def pend (s : State) (op target : Nat) (args : List Nat := []) (data : List Byte := []) : State :=
  s.updHm fun h => { h with pend :=
    [{ chan := .hspi, op := op, target := target, seq := 1, flags := 0, buf := none, args := args, data := data
       at_ := 0, hold := none }] }

/-- A program word: opcode and the bits below it (R212). -/
def word (op : Nat) (rest : Nat := 0) : Word64 := BitVec.ofNat 64 (op * 2 ^ 58 + rest)

/-- Engine 1 is in a phase of a pass, at this word. -/
def pass (phase : Nat) (w : Word64) : State :=
  ((inState up 1 .run).updEng 1 fun e => { e with prog := stoPut [] 0 w 0 }).set (Reg.LE_STATUS_PHASE 1) phase

/-- A Lookout frame of connection 1 with four payload bytes 0 and stamp 0, without its CRC (R359). -/
def lkBody (low : Nat) : List Byte := beBytes 4 1 ++ beBytes 2 low ++ beBytes 4 0 ++ [4, 0, 0, 0, 0, 0]

/-- Its CRC under the upper half `h` of the extended sequence. -/
def lkCrc (low h : Nat) : Word := crcLookout (virtHeader 0 h ++ lkBody low)

def lkFrame (low h : Nat) : List Byte := lkBody low ++ beBytes 4 (lkCrc low h).toNat

def lkRead (low h : Nat) : LkFrameIn :=
  { ident := 1, low := low, stamp := 0, len := 4, body := lkBody low, payload := [0, 0, 0, 0], crc := lkCrc low h }

/-- Connection 0 of a set, with this state. -/
def linked (dual : Byte) (c : LkConn) : State := (withSet up [connRec 0 dual 4]).updConn 0 fun _ => c

/-- An Ethernet frame of `n` bytes after its EtherType. -/
def eth (etype n : Nat) (ok : Bool := true) : EthFrame :=
  { dst := 1, src := 2, tag := none, etype := etype, payload := List.replicate n 0, fcsOk := ok, sfd := 0 }

/-- One frame waits in each queue of each port, and every port is up. -/
def queues : State :=
  let s := { up with eth := { up.eth with
    q := Vector.replicate 5 (Vector.replicate 8
      [{ f := eth 0x800 46, vid := 1, ing := 4, arr := 0, done := 0, len := 64 }]) } }
  s.sets [(Reg.ETH_PCFG_EN 1, 1), (Reg.ETH_PSTAT_LINK 1, 1), (Reg.ETH_PCFG_EN 4, 1)]

/-- A fault of Mooring. -/
def moorFault : FaultIn :=
  { name := .moorTideErr, src := 54, detail := 0, stamp := 4, sev := 1, inst := 0, axes := 0, epoch := 5 }

/-- What member 1 forwards of it. -/
def forward (what : Fin 4) : ForwardIn :=
  { mid := 1, epoch := 5, mstate := 2, what := what, fault := moorFault, cause := true, latched := false,
    retry := false, ovfl := false, lost := 0 }

/-- An entry of it in the fault queue. -/
def entry (stamp : Nat) : Entry :=
  { name := .moorTideErr, src := 54, inst := 0, sev := 1, cause := true, latched := false, retry := false, mid := 0,
    epoch := 0, req := 0, stamp := stamp, detail := 0, axes := 0, modScope := false }

/-- The command and the state that `passed` gives, where it gives them. -/
def got (s : State) (t : Nat) : Cmd × State :=
  let s := (s.upto t).sendDue.endStale
  match s.hm.feq with
  | [] => ({ p := readPkt [], h := (readPkt []).head .hspi none, at_ := 0 }, s)
  | q :: r =>
    let c : Cmd := { p := readPkt q.bytes, h := (readPkt q.bytes).head q.chan q.buf, at_ := q.at_ }
    match (s.updHm fun h => { h with feq := r }).takeChannel q.chan with
    | none => (c, s)
    | some s => (c, (s.seqTaken c).stayOpen c)

theorem passed_got {s : State} {t : Nat} (h : (s.passed t).isSome = true) :
    s.passed t = some ((got s t).1, (got s t).2) := by
  unfold State.passed got at *
  revert h
  dsimp only
  cases hq : (s.upto t).sendDue.endStale.hm.feq with
  | nil => intro h; cases h
  | cons q r =>
    dsimp only
    cases (s.upto t).sendDue.endStale.answers with
    | false => intro h; cases h
    | true =>
      cases ((s.upto t).sendDue.endStale.updHm fun h => { h with feq := r }).takeChannel q.chan with
      | none => intro h; cases h
      | some x =>
        simp only [Bool.not_true, Bool.false_eq_true, ↓reduceIte]
        split
        · intro; rfl
        · intro h; cases h

theorem some_get {α : Type} {x : Option α} (h : x.isSome = true) : x = some (x.get h) := by
  cases x with
  | none => cases h
  | some y => rfl

theorem some_triple {α β γ : Type} {x : Option (α × β × γ)} (d : α × β × γ) (h : x.isSome = true) :
    x = some ((x.getD d).1, (x.getD d).2.1, (x.getD d).2.2) := by
  cases x with
  | none => cases h
  | some y => rfl

theorem some_pair {α β : Type} {x : Option (α × β)} (d : α × β) (h : x.isSome = true) :
    x = some ((x.getD d).1, (x.getD d).2) := by
  cases x with
  | none => cases h
  | some y => rfl

/-- Some register. -/
def someReg : RDesc × List Nat := (findReg Reg.SYS_ID).get (by decide +kernel)

theorem pair_snd {α β : Type} {x : α × β} {b : β} (h : x.2 = b) : x = (x.1, b) := by rw [← h]

theorem triple_last {α β γ : Type} {x : α × β × γ} {c : γ} (h : x.2.2 = c) : x = (x.1, x.2.1, c) := by rw [← h]

theorem quad_last {α β γ δ : Type} {x : α × β × γ × δ} {d : δ} (h : x.2.2.2 = d) :
    x = (x.1, x.2.1, x.2.2.1, d) := by rw [← h]

/-- CRC-32C with every intermediate value forced, for the kernel. -/
def crcSteps : List Byte → Nat → Nat
  | [], c => c
  | b :: r, c =>
    let d := (crcByte 0x82F63B78 (BitVec.ofNat 32 c) b).toNat
    match Nat.decEq d 0 with
    | isTrue _ => crcSteps r 0
    | isFalse _ => crcSteps r d

theorem crcSteps_eq (l : List Byte) (c : Word) :
    crcSteps l c.toNat = (l.foldl (crcByte 0x82F63B78) c).toNat := by
  induction l generalizing c with
  | nil => rfl
  | cons b r ih =>
    have e : BitVec.ofNat 32 c.toNat = c := by simp
    rw [crcSteps, e, List.foldl_cons]
    split
    · rename_i h _
      rw [← ih, h]
    · rw [← ih]

theorem crc_of {l : List Byte} {n : Nat} (h : crcSteps l 0xFFFFFFFF = n) :
    (crc32c l).toNat = (~~~(BitVec.ofNat 32 n) : Word).toNat := by
  have e := crcSteps_eq l 0xFFFFFFFF
  rw [show ((0xFFFFFFFF : Word).toNat) = 0xFFFFFFFF from rfl, h] at e
  unfold crc32c crcOf
  rw [show List.foldl (crcByte 0x82F63B78) 0xFFFFFFFF l = BitVec.ofNat 32 n by rw [e]; simp]

/-- The set that a verification of the staged data makes. -/
def made (s : State) (crc code : Nat) : SafetySet :=
  let ver := ((s.lk.inForce.map SafetySet.ver).getD 0 + 1) % 2 ^ 32
  { ver := ver, code := code, crc := crc, mac := sealOf ver crc, data := s.lk.staged }

theorem verify_of {s : State} {crc code : Nat} (h1 : (crc32c s.lk.staged).toNat = crc)
    (h2 : beAt s.lk.staged 4 4 = code) (h3 : s.lk.staged.length = 768 + 36 * beAt s.lk.staged 3 1)
    (h4 : s.badContent s.lk.staged = none) :
    s.verifySet crc code = .ok (made s crc code) := by
  simp [State.verifySet, made, h1, h2, ← h3, h4]

/-- SAFETY_PARAM_VERIFY waits, on a set that passes. -/
def verifying : State :=
  holdTagged { inSession with lk := { inSession.lk with staged := setData [] } } 177 0xF0
    (beBytes 4 1086570236 ++ [0, 0, 0, 0])

def verified : SafetySet :=
  let c := got verifying 7
  made c.2 (beAt c.1.p.payload 0 4) (beAt c.1.p.payload 4 4)

theorem read_ok {α β ε : Type} {x : α × Except ε β} (h : x.2.toOption.isSome = true) :
    x = (x.1, .ok (x.2.toOption.get h)) := by
  obtain ⟨a, e⟩ := x
  cases e with
  | error e => cases h
  | ok b => rfl

theorem noForce {s : State} (h : ((List.finRange 12).all fun l => !((s.leg l).forceHi && (s.leg l).forceLo)) = true) :
    s.ForceOk := by
  intro l hl
  have := List.all_eq_true.mp h l (List.mem_finRange l)
  simp [hl.1, hl.2] at this

/-- Bytes that pass the checks of R81 and find room, as one test. -/
def fitsTest (s : State) (b : List Byte) : List Bool :=
  [s.answers, decide (18 ≤ b.length), decide (beAt b 0 2 = 0x4C58), (readPkt b).flags.getLsbD 7 == false,
    decide (b.length = declared b), decide ((readPkt b).len ≤ 1024),
    decide ((crc32c (b.take (b.length - 4))).toNat = (readPkt b).crc), decide (beAt b 2 1 = 1),
    opcodes.contains (readPkt b).op, decide (s.hm.feq.length < 32)]

theorem fits_of {s : State} {b : List Byte} (h : (fitsTest s b).all (fun x => x) = true) : s.Fits b :=
  have nth (k : Fin 10) : (fitsTest s b)[k.val]'k.isLt = true := List.all_eq_true.mp h _ (List.getElem_mem _)
  { answers := nth 0
    long := of_decide_eq_true (nth 1)
    magic := of_decide_eq_true (nth 2)
    request := eq_of_beq (nth 3)
    length := of_decide_eq_true (nth 4)
    payload := of_decide_eq_true (nth 5)
    crc := of_decide_eq_true (nth 6)
    version := of_decide_eq_true (nth 7)
    opcode := nth 8
    room := of_decide_eq_true (nth 9) }

/-- An event of cluster 1 with nothing marked. -/
def quiet (n : Nat) : Sample := 
  { stamp := 4, placed := (4, 0), dac := none, seq := n, map := 0, test := 0, fallow := 0, record := [] }

/-- What the result of an unmarked code leaves alone. -/
structure Quiet (s v : State) : Prop where
  cfg : v.reg Reg.SYS_AXCFG = s.reg Reg.SYS_AXCFG
  log : v.reg Reg.LOGB_CTL = s.reg Reg.LOGB_CTL
  pend : ∀ d, (v.cluster d).pend = (s.cluster d).pend

theorem quiet_refl (s : State) : Quiet s s := ⟨rfl, rfl, fun _ => rfl⟩

theorem quiet_setReg {s v : State} (h : Quiet s v) {a : Nat} (w : Word) (h1 : Reg.SYS_AXCFG ≠ a)
    (h2 : Reg.LOGB_CTL ≠ a) : Quiet s (v.setReg a w) :=
  ⟨(reg_setReg_other v h1 w).trans h.cfg, (reg_setReg_other v h2 w).trans h.log, h.pend⟩

theorem quiet_stuck {s v : State} (h : Quiet s v) (k : Fin 8) :
    Quiet s (v.updCluster 1 fun x => { x with stuck := x.stuck.set k 0 }) := by
  refine ⟨h.cfg, h.log, fun d => ?_⟩
  rw [← h.pend d]
  simp only [State.updCluster, State.cluster, Fin.getElem_fin, Vector.getElem_set]
  split
  · rename_i e
    obtain rfl : (1 : Fin 4) = d := Fin.ext e
    rfl
  · rfl

theorem quiet_result {s v : State} (h : Quiet s v) (n : Nat) (k : Fin 8) :
    Quiet s (State.resultOf 7 1 (quiet n) (List.replicate 8 0) 0 v k) := by
  have hc : ((List.replicate 8 (0 : Int))[k.val]?).getD 0 = 0 := by revert k; decide
  have hf : (quiet n).fallow.getLsbD k.val = false := by simp [quiet]
  have e1 : ∀ k : Fin 8, Reg.SYS_AXCFG ≠ Reg.ADC_RES 1 k ∧ Reg.SYS_AXCFG ≠ Reg.ADC_VAL 1 k ∧
      Reg.LOGB_CTL ≠ Reg.ADC_RES 1 k ∧ Reg.LOGB_CTL ≠ Reg.ADC_VAL 1 k := by decide
  obtain ⟨a, b, c, d⟩ := e1 k
  unfold State.resultOf
  simp only [hc, hf, Nat.zero_testBit, show (quiet n).code k 0 = 0 from rfl]
  exact quiet_stuck (quiet_setReg (quiet_setReg h _ a c) _ b d) k

theorem quiet_fold {s v : State} (h : Quiet s v) (n : Nat) (l : List (Fin 8)) :
    Quiet s (l.foldl (State.resultOf 7 1 (quiet n) (List.replicate 8 0) 0) v) := by
  induction l generalizing v with
  | nil => exact h
  | cons k r ih => exact ih (quiet_result h n k)

theorem axisOfCluster_congr {s v : State} (h : v.reg Reg.SYS_AXCFG = s.reg Reg.SYS_AXCFG) (c : Fin 4) :
    v.axisOfCluster c = s.axisOfCluster c := by
  have e (f : Fld) (hf : f.addr = Reg.SYS_AXCFG) : v.bit f = s.bit f := by simp only [State.bit, State.get, hf, h]
  unfold State.axisOfCluster
  rw [e _ rfl, e _ rfl, e _ rfl]

theorem clustersOf_congr {s v : State} (h : v.reg Reg.SYS_AXCFG = s.reg Reg.SYS_AXCFG) (n : Fin 4) :
    v.clustersOf n = s.clustersOf n := by
  have e (f : Fld) (hf : f.addr = Reg.SYS_AXCFG) : v.bit f = s.bit f := by simp only [State.bit, State.get, hf, h]
  unfold State.clustersOf State.idle State.legsOf
  rw [e _ rfl, e _ rfl, e _ rfl]
  simp only [axisOfCluster_congr h]

/-- Whether the axis of cluster 1 still waits for an event with the stamp of this one. -/
theorem quiet_waits {s v : State} (h : Quiet s v) (hl : s.bit Reg.LOGB_CTL_EN = false) (n : Nat) (b : Bool)
    (hb : ((s.clustersOf (s.axisOfCluster 1)).any fun d => (s.cluster d).pend.any fun q => q.stamp == 4) = b) :
    let y := v.logResults 1 (quiet n).stamp
    ((y.clustersOf (y.axisOfCluster 1)).any fun d => (y.cluster d).pend.any fun q => q.stamp == (quiet n).stamp) = b
      := by
  have r : v.recording = false := by
    have this : v.bit Reg.LOGB_CTL_EN = false := by
      unfold State.bit State.get at *
      rw [show v.reg Reg.LOGB_CTL_EN.addr = s.reg Reg.LOGB_CTL_EN.addr from h.log]
      exact hl
    simp [State.recording, this]
  have e : v.logResults 1 (quiet n).stamp = v := by simp [State.logResults, State.logEvent, r]
  simp only [e, clustersOf_congr h.cfg, axisOfCluster_congr h.cfg, h.pend]
  exact hb

theorem result_waits (rest : List Sample) (b : Bool)
    (hb : ((up.clustersOf (up.axisOfCluster 1)).any fun d =>
      ((up.updCluster 1 fun x => { x with pend := rest }).cluster d).pend.any fun q => q.stamp == 4) = b) :
    let u := (up.updCluster 1 fun k => { k with pend := quiet 0 :: rest }).upto 7
    let v := (List.foldl (State.resultOf 7 1 (quiet 0) (List.replicate 8 0) 0)
      (u.updCluster 1 fun x => { x with pend := rest }) inputs).set (Reg.ADC_STATUS_SEQ (1 : Fin 4)) (quiet 0).seq
    let x := if 0 % 256 ≠ 0 then v.raiseOnce .adcOvr (adcSource 1) 0 7 else v
    let y := x.logResults 1 (quiet 0).stamp
    let n := y.axisOfCluster 1
    ((y.clustersOf n).any fun d => (y.cluster d).pend.any fun q => q.stamp == (quiet 0).stamp) = b := by
  intro u v x
  have h : Quiet (u.updCluster 1 fun x => { x with pend := rest }) x := by
    have e : x = v := if_neg (by decide)
    rw [e]
    exact quiet_setReg (quiet_fold (quiet_refl _) 0 inputs) _ (by decide) (by decide)
  have c : ∀ d, ((u.updCluster 1 fun x => { x with pend := rest }).cluster d).pend =
      ((up.updCluster 1 fun x => { x with pend := rest }).cluster d).pend := by
    intro d
    simp only [u, State.upto, State.updCluster, State.cluster, Fin.getElem_fin, Vector.getElem_set]
    split <;> rfl
  refine quiet_waits h (show up.bit Reg.LOGB_CTL_EN = false by decide +kernel) 0 b ?_
  simp only [c]
  exact hb

end Sys2Proof.Tests
end

