-- ==== Sys2Proof/WellFormed.lean ====
section
/-! DEFINITION. When the operands of a command lie in the ranges that the manual gives what they stand for. The
meanings are total: they answer for every operand; a run of the hardware sends only well-formed commands. -/

namespace Sys2Proof

/-- Requester numbers (R37): 1-11, and 16 + 12 x M-ID + local number for other modules. -/
def reqOk (r : Nat) : Bool := decide ((1 ≤ r ∧ r ≤ 11) ∨ (16 < r ∧ r ≤ 111 ∧ (r - 16) % 12 ≠ 0))

/-- An address of 40 bits. -/
def addrOk40 (a : Nat) : Bool := decide (a < 2 ^ 40)

/-- Width of an access in bytes (R26). -/
def widthOk (w : Nat) : Bool := w == 1 || w == 2 || w == 4 || w == 8

def codeOk (bits : Nat) (v : Int) : Bool := decide (-(2 ^ (bits - 1)) ≤ v ∧ v < 2 ^ (bits - 1))

/-- IPv4 address and UDP port. -/
def udpOk (ip port : Nat) : Bool := decide (ip < 2 ^ 32 ∧ port < 2 ^ 16)

/-- A UDP payload that one frame can carry (R86). -/
def datagramOk (b : List Byte) : Bool := decide (b.length ≤ 1472)

/-- Data bytes of a CAN FD frame (R384). -/
def canDataOk (n : Nat) : Bool := decide (n ≤ 8) || ([12, 16, 20, 24, 32, 48, 64] : List Nat).contains n

def chanOk : Chan → Bool
  | .udp ip port | .udpRelay ip port => udpOk ip port
  | .hspi | .can _ | .berth _ => true

def faultOk (f : FaultIn) : Bool := decide (f.src < 64 ∧ f.detail < 2 ^ 32 ∧ f.sev ≤ 5 ∧ f.inst < 64 ∧ f.epoch < 256)

/-- Round readings of R162: 64 sums of 8 codes of 12 bits, 24 resistances. -/
def hkOk (r : HkReadings) : Bool :=
  decide (r.sums.length = 64 ∧ r.ohms.length = 24) && r.sums.all (codeOk 15)

def frameOk (f : EthFrame) : Bool :=
  decide (f.dst < 2 ^ 48 ∧ f.src < 2 ^ 48 ∧ f.etype < 2 ^ 16 ∧ f.payload.length < 2 ^ 14) &&
    f.tag.all fun t => decide (t.1 < 4096 ∧ t.2 < 8)

def canFrameOk (f : CanFrame) : Bool :=
  decide (f.id < (if f.ide then 2 ^ 29 else 2 ^ 11)) && canDataOk f.data.length &&
    (f.fdf || (decide (f.data.length ≤ 8) && !f.brs && !f.esi)) && !(f.fdf && f.rtr)

/-- Readings of DIAG_RUN: one per leg, per input, per channel; a test that was not taken has none. -/
def diagOk (r : DiagReadings) : Bool :=
  let n (k len : Nat) : Bool := len == 0 || len == k
  n 12 r.t0.length && n 12 r.t1.length && n 12 r.t2.length && r.t2.all (fun l => l.length == 12) && n 12 r.t3.length &&
    n 32 r.path.length && r.path.all (fun l => l.length == 3 &&
      l.all fun x => (x.map PathPart.n).sum == 64) && n 2 r.x.length

/-- Rails of a gate channel: 10 bits of 50 mV (R311). -/
def railOk (r : RailIn) : Bool := decide (r.vp < 1024 ∧ r.vn < 1024)

/-- What a start reads: 28 lines, 36 slices, measured at most twice, one HK round, keys of two 256-bit coordinates. -/
def startOk (r : StartIn) : Bool :=
  decide (r.taps.length = 28 ∧ r.slices.length = 36) && r.slices.all (fun l => decide (l.length ≤ 2)) && r.calHk.all (fun c => decide (c < 64)) && hkOk r.hk &&
    r.keys.toList.all fun k => k.all fun q => decide (q.1 < 2 ^ 256 ∧ q.2 < 2 ^ 256)

def descOk (d : CarrierDesc) : Bool := decide (d.mode < 2 ∧ d.period < 2 ^ 24 ∧ d.phase < 2 ^ 29)

/-- Causes found gone: sources and instances in range. -/
def goneOk (l : List (FName × Nat × Nat)) : Bool := l.all fun g => decide (g.2.1 < 64 ∧ g.2.2 < 64)

/-- Operands in range. Commands without an operand that can leave its range are well-formed. -/
def WellFormed : Instr → Bool
  | .udpDatagram _ ip port b => udpOk ip port && datagramOk b
  | .canCommandFragment _ _ b => canDataOk b.length && !b.isEmpty
  | .sessionIdleTimeout _ ch | .channelBarExpiry _ ch => chanOk ch
  | .faultClear _ gone => goneOk gone
  | .diagRunComplete _ _ r => diagOk r
  | .fwUpdateActivate _ r | .powerOnReset _ r | .supervisorWatchdogExpiry _ r | .resumedStart _ r => startOk r
  | .pwrResetWrite _ req _ r => reqOk req && startOk r
  | .conversionComplete _ _ codes ovr => decide (codes.length = 8 ∧ ovr < 256) && codes.all (codeOk 16)
  | .hkRoundEnd _ r => hkOk r
  | .railUndervoltage _ c _ | .gateSupplyTimeout _ c | .railSettingStep _ c => railOk c.r
  | .retryWaitExpiry _ _ _ i => railOk i.r
  | .bwFqclrWrite _ req c => reqOk req && goneOk c.gone
  | .faultArrival _ f => faultOk f
  | .railGuardBoost _ _ canary => decide (canary < 2 ^ 16)
  | .lookoutFrameArrival _ _ b => decide (b.length ≤ 1500)
  | .ethFrameReceived _ _ f => frameOk f
  | .macTableAgeOut _ vid mac => decide (vid < 4096 ∧ mac < 2 ^ 48)
  | .arpEntryExpiry _ ip => decide (ip < 2 ^ 32)
  | .canFrameReceived _ _ f => canFrameOk f
  | .fabricWatchdogExpiry _ req a _ | .readClearAccess _ req a | .engineMemoryWrite _ req a _
  | .remoteAccess _ req a _ _ => reqOk req && addrOk40 a
  | .registerWrite _ req a k _ | .accessErrorRead _ req a k => reqOk req && addrOk40 a && widthOk k
  | .patrolScrubRead _ a _ => addrOk40 a
  | .arbiterDraw _ _ m => decide (0 < m ∧ m < 256)
  | .railFailure _ ch => decide (47 ≤ ch ∧ ch ≤ 53)
  | .carrierDescriptorArrival _ _ d => descOk d
  | .membershipUpdate _ ms _ _ => decide (ms.length ≤ 8) && ms.all fun m => decide (m.hops < 8 ∧ m.epoch < 256)
  | .relayedCommand _ k ip port b => decide (k < 8) && udpOk ip port && datagramOk b
  | .faultForward _ f => faultOk f.fault && decide (f.epoch < 256 ∧ f.lost < 2 ^ 16)
  | .goPass _ req _ _ | .carrierEnable _ req _ _ | .carrierDisable _ req _ _ | .pwmForceWrite _ req _ _
  | .dscRequest _ req _ | .dscStopWrite _ req _ | .bwLkdemandWrite _ req _
  | .tideNowLRead _ req | .pwmZerolRead _ req _ | .gateListSwapRequest _ req _ _ | .ethAsgmsecWrite _ req _
  | .txRingTailWrite _ req _ _ | .canTxArm _ req _ _ _ | .canTxAbort _ req _ _ _ | .canRxPop _ req _ _ _
  | .canDisable _ req _ _ | .coreStart _ req _ _ | .coreReset _ req _ _ | .berthAcfltWrite _ req _
  | .berthMessageWrite _ req _ _ _ | .berthReceiveRead _ req _ | .berthCfgWrite _ req _ _
  | .bollardClaimRead _ req _ | .bollardWrite _ req _ _ | .bollardFreeWrite _ req _ | .arbSeedWrite _ req _
  | .logbTrigWrite _ req _ | .logbDisable _ req _ | .perfSampleClear _ req _ _ => reqOk req
  | _ => true

end Sys2Proof
end

