-- ==== Sys2Proof/Tests/Slice0.lean ====
section
/-! SUPPORT. Tests of the model: ill-formed commands that the checks refuse, and the worked examples of the manual. -/

namespace Sys2Proof.Tests
open Sys2Proof.Machine

/-! ### Ill-formed commands -/

theorem test_no_row_has_bits : decodeTableWord 32 0 = none := rfl

theorem test_ill_requester : WellFormed (.logbDisable 0 28 0) = false ∧ WellFormed (.bollardClaimRead 0 12 1) = false := by
  decide

theorem test_ill_address : WellFormed (.remoteAccess 0 17 (2 ^ 40) false 0) = false := by decide

theorem test_ill_width : WellFormed (.registerWrite 0 11 0x40000000 3 0) = false := by decide

theorem test_ill_code :
    WellFormed (.conversionComplete 0 1 [0, 0, 0, 0, 0, 0, 0, 32768] 0) = false ∧
    WellFormed (.conversionComplete 0 1 [0, 0, 0, 0, 0, 0, 0] 0) = false := by decide

theorem test_ill_datagram :
    WellFormed (.udpDatagram 0 (2 ^ 32) 7 []) = false ∧ WellFormed (.udpDatagram 0 1 (2 ^ 16) []) = false ∧
    WellFormed (.udpDatagram 0 1 7 (List.replicate 1473 0)) = false := by decide +kernel

theorem test_ill_fragment :
    WellFormed (.canCommandFragment 0 1 (List.replicate 9 0)) = false ∧ WellFormed (.canCommandFragment 0 1 []) = false := by
  decide

theorem test_ill_channel : WellFormed (.channelBarExpiry 0 (.udp 1 65536)) = false := by decide

theorem test_ill_fault : WellFormed (.faultArrival 0 { moorFault with src := 64 }) = false := by decide

theorem test_ill_round : WellFormed (.hkRoundEnd 0 { sums := List.replicate 63 0, ohms := [] }) = false := by
  decide +kernel

theorem test_ill_frame :
    WellFormed (.ethFrameReceived 0 1 { eth 0x800 0 with src := 2 ^ 48 }) = false ∧
    WellFormed (.ethFrameReceived 0 1 { eth 0x800 46 with tag := some (4096, 0) }) = false := by decide +kernel

theorem test_ill_can_frame :
    WellFormed (.canFrameReceived 0 1
      { sof := 0, ide := false, id := 2048, fdf := false, brs := false, rtr := false, esi := false, data := [] }) = false ∧
    WellFormed (.canFrameReceived 0 1
      { sof := 0, ide := true, id := 2048, fdf := true, brs := true, rtr := true, esi := false, data := [] }) = false := by
  decide

theorem test_ill_readings :
    WellFormed (.diagRunComplete 0 none { t0 := [.high], t1 := [], t2 := [], t3 := [], path := [], x := [] }) = false := by
  decide

theorem test_ill_descriptor :
    WellFormed (.carrierDescriptorArrival 0 1 { running := true, mode := 2, period := 1, phase := 0, zero := 0 }) = false := by
  decide

theorem test_ill_rails :
    WellFormed (.railSettingStep 0 { g := 1, r := { vp := 1024, vn := 0 } }) = false ∧
    WellFormed (.retryWaitExpiry 0 1 1 { r := { vp := 0, vn := 1024 }, frames := true }) = false := by decide

theorem test_ill_gone :
    WellFormed (.bwFqclrWrite 0 11 { w := 0, gone := [(.xcmd, 64, 0)] }) = false ∧
    WellFormed (.faultClear 0 [(.tripIn, 5, 64)]) = false := by decide

theorem test_ill_start :
    WellFormed (.powerOnReset 0
      { straps := 1, fwA := true, fwB := true, dramOk := true, calC := 0, calVhv := false, calHk := [], ac := true,
        ka := true, high := false, vhv := none, lookoutOk := true, taps := [], slices := [],
        hk := { sums := [], ohms := [] }, xOk := true, keys := Vector.replicate 2 none }) = false := by decide

theorem test_ill_rest :
    WellFormed (.railFailure 0 46) = false ∧ WellFormed (.arbiterDraw 0 1 0) = false ∧
    WellFormed (.arpEntryExpiry 0 (2 ^ 32)) = false ∧ WellFormed (.macTableAgeOut 0 4096 0) = false := by decide

/-! ### Numbers and packets -/

/-- R12: 1.0 and -1.0; 250 N·m of the example at R76. -/
theorem test_bf32 : bfInt 1 = 0x01400000 ∧ bfInt (-1) = 0x01C00000 ∧ bfInt 250 = 0x087D0000 := by decide

/-- R76: the check value of the CRC. -/
theorem test_crc : crc32c [0x31, 0x32, 0x33, 0x34, 0x35, 0x36, 0x37, 0x38, 0x39] = 0xE3069283 := by decide +kernel

/-- The packet of the example at R76. -/
theorem test_packet :
    let p := readPkt [0x4C, 0x58, 1, 1, 0, 6, 1, 0, 0, 0, 0, 0x2A, 0, 0x31, 8, 0x7D, 0, 0, 0, 0x14, 1, 2, 3, 4]
    p.len = 6 ∧ p.seq = 42 ∧ p.op = 0x31 ∧ p.axis = some 1 ∧ p.payload = [8, 0x7D, 0, 0, 0, 0x14] ∧ p.crc = 0x01020304 := by
  decide +kernel

/-! ### Conversion (examples at R148 and R150) -/

theorem test_effective_gain : geff 1050000 (-1000) (-3592) = 1045405 := by decide

theorem test_current_value : bfRound (corrected (32 * 25692 - 448) 1045405 25 0xFC400000) = 0x0A640059 := by
  decide +kernel

theorem test_result_word : resultWord 25692 false false false false 0 0x2B = 0x2B00645C := by decide

/-! ### Engine (worked examples after R225) -/

/-- Engine 1 is about to execute `w`, with registers and entries set. -/
def running (w : Word64) (f : Eng → Eng) : State := (pass 4 w).updEng 1 f

def setV (k : Fin 32) (e : Int) (a b : Nat) (x : Eng) : Eng :=
  { x with v := x.v.set k { m := ((Vector.replicate 8 0).set 0 (BitVec.ofNat 24 a)).set 1 (BitVec.ofNat 24 b), e := BitVec.ofInt 8 e } }

def after (i : Instr) (s : State) : State := match exec i s with | .next u => u | _ => s

def lanes (s : State) (k : Fin 32) : Int × Nat × Nat :=
  let x := s.vreg 1 k
  (x.exp, x.m[0].toNat, x.m[1].toNat)

theorem test_mac :
    lanes (after (.mac 9 1) (running 0x1C61100003000000 fun x =>
      setV 3 8 0x730000 0xFE8000 (setV 2 (-6) 0x418937 0x418937 (setV 1 10 0x640000 0xFE7000 x)))) 3 =
      (8, 0x763333, 0xFE7333) := by decide +kernel

theorem test_sincos :
    lanes (after (.sincos 9 1) (running (word 0x11 (5 * 2 ^ 53 + 4 * 2 ^ 48 + 3 * 2 ^ 24)) fun x =>
      setV 4 (-3) 0x555555 0 x)) 5 = (0, 0x6ED9EC, 0x400000) := by decide +kernel

theorem test_park :
    lanes (after (.park 9 1) (running 0x5CC3280003000000 fun x =>
      setV 3 9 0xBA0000 0x4B0000 (setV 5 0 0x6ED9EC 0x400000 x))) 6 = (9, 0xE8E0D3, 0x63F3B0) := by decide +kernel

theorem test_sub :
    let v := (after (.sub 9 1) (running (word 5 (7 * 2 ^ 53 + 9 * 2 ^ 48 + 6 * 2 ^ 43 + 3 * 2 ^ 24)) fun x =>
      setV 9 9 0xE70000 0x640000 (setV 6 9 0xE8E0D3 0x63F3B0 x))).vreg 1 7
    v.exp = 3 ∧ v.m[0].toInt = -7877824 ∧ v.m[1].toInt = 201728 := by decide +kernel

theorem test_pi :
    let u := after (.pi 9 1) (running 0x6907010002000040 fun x =>
      { setV 7 3 0x87CB40 201728 x with
        coef := [(257, 0x01700000), (265, 0xF651EB85), (273, 0x0993C000), (281, 0x096C4000)]
        state := [(65, 0x07780000)] })
    lanes u 8 = (7, 0, 0x785638) ∧ u.readState 1 65 = 0x07780008 ∧ (u.engine 1).pred.getLsbD 1 = false := by
  decide +kernel

/-! ### PWM (examples at R271 and R274) -/

def frame : FrameIn :=
  { centre := true, p := 32 * 20000, h := 10000, t := 32 * 140, extend := false, loRun := 0, hiOn := false, fromOff := false }

theorem test_dropped_pulse : formFrame frame (32 * 80) = (32 * 10000, 32 * 10000, true) := by decide

theorem test_carried_pulse : formFrame frame (32 * 160) = (32 * 9920, 32 * 10080, false) := by decide

theorem test_extended_pulse : formFrame { frame with extend := true } (32 * 80) = (32 * 9930, 32 * 10070, true) := by
  decide

theorem test_window_shift :
    bestShift frame (sampleWindows [0, 32 * 10000] (32 * 240) (32 * 20000)) (32 * 100) (32 * 9850) (32 * 10150) =
      some 5057 := by decide +kernel

/-! ### Faults (R63, R331 and the examples at R69) -/

theorem test_fault_codes :
    faultCode .gateDesat 23 = 0x75C1 ∧ faultCode .dcOv2 3 = 0x80C3 ∧ faultCode .leDeadline 8 = 0x1204 ∧
    faultCode .gateDesat 17 = 0x7441 := by decide

theorem test_order :
    let g7 := { entry 1000002 with src := 23 }
    let trip := { entry 1000004 with src := 5 }
    let g2 := { entry 1000005 with src := 18, mid := 1 }
    insertEntry g2 (insertEntry trip [g7]) = [trip, g7, g2] := by decide

theorem test_release :
    slotReleased 3356 (1000005 + 3355) 1000002 = false ∧ slotReleased 3356 (1000005 + 3356) 1000002 = true := by decide

/-! ### Power, brake chopper, arbiters, Logbook -/

/-- R318: BRK at 820 V adds 0.8405 J, 4 Ω; the fall of a result with 60 s is below half a millijoule here. -/
theorem test_brake_energy : energyStep 0 600 400 (qInt 820) true = 840 ∧ energyStep 5000 600 400 (qInt 820) true = 5840 := by
  decide +kernel

/-- The gates of Example A at 100 kHz, AC at 90 V (example at R462). -/
def exampleA : State :=
  let s := ((List.finRange 24).foldl (fun (s : State) (g : Fin 24) =>
    s.sets [(Reg.GATE_QG_QG g, 1800), (Reg.GATE_CFG_VP g, 6), (Reg.GATE_CFG_VN g, 6)]) up).set Reg.PWR_BUDGET_BUDGET 1500
  (List.finRange 4).foldl (fun (s : State) (n : Fin 4) => s.set (Reg.PWM_PERIOD_PERIOD n) 4000) s

theorem test_budget :
    exampleA.demandWith #v[.full, .none, .none, .none] = 788 ∧ exampleA.demandWith #v[.full, .full, .none, .none] = 1095 ∧
    exampleA.demandWith #v[.full, .full, .full, .none] = 1402 ∧
    exampleA.shortfall #v[.full, .full, .full, .full] = some 209 := by decide +kernel

theorem test_lfsr : lfsrStep 0xACE1 = 0xE270 := by decide

/-- AC0, the Logbook and the switch request DRAM (example at R416): slots 0, 5 and 6. -/
theorem test_lottery :
    drawWinner (fun i => if i = 0 then 32 else if i = 5 then 128 else if i = 6 then 64 else 0) 0xE270 0 [0, 5, 6] = some 6 := by
  decide

/-- Example A samples twice and reloads twice in 20 000 ticks. -/
def sampling : State :=
  up.sets [(Reg.PWM_PERIOD_PERIOD 1, 20000), (Reg.PWM_SOFS0_EN 1, 1), (Reg.PWM_SOFS1_EN 1, 1), (Reg.PWM_SOFS1_TICK 1, 10000),
    (Reg.PWM_CTL_RELOAD 1, 3)]

theorem test_log_items :
    let c (k b2 : Nat) : LogChan := { kind := k, b1 := 1, b2 := b2, b3 := 0, k := 1, first := 0 }
    qEq (sampling.blockRate (c 1 255)) ⟨40000, 127⟩ = true ∧ qEq (sampling.blockRate (c 4 0)) ⟨40000, 169⟩ = true ∧
    qEq (sampling.blockRate (c 5 0)) ⟨240000, 254⟩ = true := by decide +kernel

/-! ### Registers (the settings the examples give) -/

theorem test_register_fields :
    ((up.setReg Reg.SYS_AXCFG 0x100).get (Reg.SYS_AXCFG_TYPE 0) = 1 ∧ (up.setReg Reg.SYS_AXCFG 0x10).bit Reg.SYS_AXCFG_SIXDBL = true) ∧
    (let s := up.setReg (Reg.FBK_RESCFG 0) 0x05509C40
     s.get (Reg.FBK_RESCFG_EXCPER 0) = 40000 ∧ s.get (Reg.FBK_RESCFG_AMP 0) = 40 ∧ s.get (Reg.FBK_RESCFG_BW 0) = 1 ∧
     s.bit (Reg.FBK_RESCFG_EXCEN 0) = true) ∧
    (let s := up.setReg (Reg.GATE_CFG 0) 0x966
     s.swing 0 = 46 ∧ s.bit (Reg.GATE_CFG_MODE 0) = true ∧ s.bit (Reg.GATE_CFG_CLAMPEN 0) = true) := by decide +kernel

end Sys2Proof.Tests
end

