-- ==== Sys2Proof/Tests/Witness.lean ====
section
/-! SUPPORT. The witnesses: for every statement with hypotheses one theorem, which shows for each of its clauses a
concrete state and operands that meet all hypotheses of the clause together. The names in front of a clause are its
variables and abbreviations, in the statement's order. -/

namespace Sys2Proof.Tests
open Sys2Proof.Machine

section
set_option Elab.async false
set_option linter.unusedVariables false

theorem wit_StepRunsFront :
    (∃ (c : Instr) (r : List Instr) (s : State), s.pending = c :: r) ∧
    (∃ (s : State), s.pending = []) :=
  ⟨⟨.boostRelease 5, [.boostRelease 6], { up with pending := [.boostRelease 5, .boostRelease 6] }, rfl⟩,
   ⟨up, rfl⟩⟩

theorem wit_EveryStepKeepsTheInvariant :
    ∃ (s : State) (t : State), s.Inv ∧ step s = Host.Outcome.next t :=
  ⟨{ up with pending := [.boostRelease 5] }, _, ⟨⟨by decide +kernel, by decide +kernel⟩, noForce rfl⟩, rfl⟩

theorem wit_NeverBothOn :
    ∃ (s : State), s.ForceOk :=
  ⟨up, noForce rfl⟩

theorem wit_ReadCommands :
    (∃ (t : Nat) (s : State) (u : State) (c : Cmd), s.passed t = some (c, u) ∧ c.p.op = 1) ∧
    (∃ (t : Nat) (s : State) (u : State) (c : Cmd), s.passed t = some (c, u) ∧ c.p.op = 2 ∧ toGroup c.p = false) ∧
    (∃ (t : Nat) (s : State) (u : State) (c : Cmd), s.passed t = some (c, u) ∧ c.p.op = 2 ∧ toGroup c.p = true) ∧
    (∃ (t : Nat) (s : State) (u : State) (c : Cmd) (v : State) (l : List Byte), s.passed t = some (c, u) ∧ c.p.op =
      16 ∧ addrOk (beAt c.p.payload 0 8) = true ∧ 1 ≤ beAt c.p.payload 8 2 ∧ beAt c.p.payload 8 2 ≤ 253 ∧
      State.readWords (requesterOf c.h.chan) (beAt c.p.payload 0 8) (beAt c.p.payload 8 2) u [] = (v, l, true)) ∧
    (∃ (t : Nat) (s : State) (u : State) (c : Cmd), s.passed t = some (c, u) ∧ c.p.op = 32 ∧ beAt c.p.payload 0 1 ≤ 2
      ∧ 1 ≤ beAt c.p.payload 8 2 ∧ beAt c.p.payload 8 2 ≤ 1012 ∧ beAt c.p.payload 4 4 + beAt c.p.payload 8 2 ≤
      bankSize) ∧
    (∃ (t : Nat) (s : State) (u : State) (c : Cmd) (n : Fin 4), s.passed t = some (c, u) ∧ c.p.op = 66 ∧ c.p.axis =
      some n ∧ beAt c.p.payload 0 1 ≤ 1 ∧ 1 ≤ beAt c.p.payload 4 2 ∧ beAt c.p.payload 4 2 ≤ 253 ∧ beAt c.p.payload 2
      2 + beAt c.p.payload 4 2 ≤ 4096) ∧
    (∃ (t : Nat) (s : State) (u : State) (c : Cmd), s.passed t = some (c, u) ∧ c.p.op = 80 ∧ beAt c.p.payload 3 1 = 0
      ∧ beAt c.p.payload 0 2 ≤ 63 ∧ 1 ≤ beAt c.p.payload 2 1 ∧ beAt c.p.payload 2 1 ≤ 50) ∧
    (∃ (t : Nat) (s : State) (u : State) (c : Cmd), s.passed t = some (c, u) ∧ c.p.op = 80 ∧ beAt c.p.payload 3 1 = 1
      ∧ u.mid = 0 ∧ beAt c.p.payload 0 2 ≤ 511 ∧ 1 ≤ beAt c.p.payload 2 1 ∧ beAt c.p.payload 2 1 ≤ 50) ∧
    (∃ (t : Nat) (s : State) (u : State) (c : Cmd), s.passed t = some (c, u) ∧ c.p.op = 97 ∧ u.get
      Reg.LOGB_STAT_STATE = 3 ∧ beAt c.p.payload 0 1 = 0 ∧ 1 ≤ beAt c.p.payload 12 4 ∧ beAt c.p.payload 12 4 ≤ 1012 ∧
      beAt c.p.payload 16 4 = 0 ∧ beAt c.p.payload 20 2 = 0 ∧ beAt c.p.payload 4 8 + beAt c.p.payload 12 4 ≤
      u.record.snd) ∧
    (∃ (t : Nat) (s : State) (u : State) (c : Cmd), s.passed t = some (c, u) ∧ c.p.op = 97 ∧ u.get
      Reg.LOGB_STAT_STATE = 3 ∧ beAt c.p.payload 0 1 = 1 ∧ beAt c.p.payload 4 8 + beAt c.p.payload 12 4 ≤
      u.record.snd) ∧
    (∃ (t : Nat) (s : State) (u : State) (c : Cmd) (n : Fin 4), s.passed t = some (c, u) ∧ c.p.op = 129 ∧ c.p.axis =
      some n) :=
  ⟨⟨7, hold up 1 0 ([]), _, _, passed_got (by decide +kernel), by decide +kernel⟩,
   ⟨7, hold up 2 240 ([]), _, _, passed_got (by decide +kernel), by decide +kernel⟩,
   ⟨7, hold up 2 255 ([]), _, _, passed_got (by decide +kernel), by decide +kernel⟩,
   ⟨7, hold up 16 240 (beBytes 8 (regAddr Reg.SYS_ID) ++ [0, 1, 0, 0]), _, _, _, _, passed_got (by decide +kernel),
     by decide +kernel, by decide +kernel, by decide +kernel, by decide +kernel, triple_last (by decide +kernel)⟩,
   ⟨7, hold up 32 240 ([2, 0, 0, 0] ++ beBytes 4 (bankSize - 1012) ++ beBytes 2 1012 ++ [0, 0]), _, _, passed_got
     (by decide +kernel), by decide +kernel⟩,
   ⟨7, hold up 66 1 ([1, 0] ++ beBytes 2 (4096 - 253) ++ [0, 253, 0, 0]), _, _, 1, passed_got (by decide +kernel),
     by decide +kernel⟩,
   ⟨7, hold up 80 240 ([0, 63, 50, 0]), _, _, passed_got (by decide +kernel), by decide +kernel⟩,
   ⟨7, hold up 80 240 ([1, 255, 50, 1]), _, _, passed_got (by decide +kernel), by decide +kernel⟩,
   ⟨7, hold frozenOne 97 240 ([0, 0, 0, 0] ++ beBytes 8 (4096 - 1012) ++ beBytes 4 1012 ++ List.replicate 8 0), _, _,
     passed_got (by decide +kernel), by decide +kernel⟩,
   ⟨7, hold frozenOne 97 240 ([1, 0, 0, 0] ++ beBytes 8 4096 ++ List.replicate 12 0), _, _, passed_got
     (by decide +kernel), by decide +kernel⟩,
   ⟨7, hold up 129 1 ([]), _, _, 1, passed_got (by decide +kernel), by decide +kernel⟩⟩

theorem wit_WriteCommands :
    (∃ (t : Nat) (s : State) (u : State) (c : Cmd) (v : State), s.passed t = some (c, u) ∧ c.p.op = 17 ∧ addrOk (beAt
      c.p.payload 0 8) = true ∧ 1 ≤ beAt c.p.payload 8 2 ∧ beAt c.p.payload 8 2 ≤ 253 ∧ State.writeWords (requesterOf
      c.h.chan) (beAt c.p.payload 0 8) (beWords 4 (List.drop 12 c.p.payload)) 0 u = (v, none)) ∧
    (∃ (t : Nat) (s : State) (u : State) (c : Cmd) (v : State) (w : State) (old : Word), s.passed t = some (c, u) ∧
      c.p.op = 18 ∧ addrOk (beAt c.p.payload 0 8) = true ∧ u.hostRead (requesterOf c.h.chan) (beAt c.p.payload 0 8) =
      (v, Except.ok old) ∧ v.hostWrite (requesterOf c.h.chan) (beAt c.p.payload 0 8) (old &&& ~~~BitVec.ofNat 32
      (beAt c.p.payload 8 4) ||| BitVec.ofNat 32 (beAt c.p.payload 12 4) &&& BitVec.ofNat 32 (beAt c.p.payload 8 4))
      = (w, WRes.ok)) ∧
    (∃ (t : Nat) (s : State) (u : State) (c : Cmd), s.passed t = some (c, u) ∧ c.p.op = 33 ∧ u.flashBusy = false ∧ 1
      ≤ beAt c.p.payload 4 2 ∧ beAt c.p.payload 4 2 ≤ 1016 ∧ beAt c.p.payload 0 4 + beAt c.p.payload 4 2 ≤ bankSize) ∧
    (∃ (t : Nat) (s : State) (u : State) (c : Cmd) (n : Fin 4), s.passed t = some (c, u) ∧ c.p.op = 64 ∧ c.p.axis =
      some n ∧ (u.axis n).st.closed = false ∧ beAt c.p.payload 0 1 = 0 ∧ 1 ≤ beAt c.p.payload 4 2 ∧ beAt c.p.payload
      4 2 ≤ 127 ∧ beAt c.p.payload 2 2 + beAt c.p.payload 4 2 ≤ 8192) ∧
    (∃ (t : Nat) (s : State) (u : State) (c : Cmd) (n : Fin 4), s.passed t = some (c, u) ∧ c.p.op = 65 ∧ c.p.axis =
      some n ∧ (u.axis n).st.closed = false ∧ 1 ≤ beAt c.p.payload 2 2 ∧ beAt c.p.payload 2 2 ≤ 255 ∧ beAt
      c.p.payload 0 2 + beAt c.p.payload 2 2 ≤ 4096) ∧
    (∃ (t : Nat) (s : State) (u : State) (c : Cmd) (gone : List (FName × Nat × Nat)) (v : State) (cleared : Nat)
      (still : Nat), s.passed t = some (c, u) ∧ c.p.op = 81 ∧ u.clearWaits = false ∧ (u.foundGone gone).faultClear
      c.p.axis (beAt c.p.payload 0 2) = (v, cleared, still, false)) ∧
    (∃ (t : Nat) (s : State) (u : State) (c : Cmd), s.passed t = some (c, u) ∧ c.p.op = 176 ∧ u.allSafe = true ∧ 1 ≤
      beAt c.p.payload 2 2 ∧ beAt c.p.payload 2 2 ≤ 1020 ∧ beAt c.p.payload 0 2 + beAt c.p.payload 2 2 ≤ maxSet) :=
  ⟨⟨7, hold up 17 240 (beBytes 8 (regAddr Reg.ARB_SEED) ++ [0, 1, 0, 0, 0, 0, 0, 1]), _, _, _, passed_got
    (by decide +kernel), by decide +kernel, by decide +kernel, by decide +kernel, by decide +kernel, pair_snd
    (by decide +kernel)⟩,
   ⟨7, hold up 18 240 (beBytes 8 (regAddr Reg.ARB_SEED) ++ [0, 0, 0, 15, 0, 0, 0, 9]), _, _, _, _, _, passed_got
     (by decide +kernel), by decide +kernel, by decide +kernel, read_ok (by decide +kernel), pair_snd
     (by decide +kernel)⟩,
   ⟨7, hold up 33 240 (beBytes 4 (bankSize - 1016) ++ beBytes 2 1016 ++ [0, 0] ++ List.replicate 1016 0xAB), _, _,
     passed_got (by decide +kernel), by decide +kernel⟩,
   ⟨7, hold up 64 1 ([0, 0] ++ beBytes 2 (8192 - 127) ++ [0, 127, 0, 0] ++ List.replicate 1016 0), _, _, 1,
     passed_got (by decide +kernel), by decide +kernel⟩,
   ⟨7, hold up 65 1 (beBytes 2 (4096 - 255) ++ [0, 255] ++ List.replicate 1020 0), _, _, 1, passed_got
     (by decide +kernel), by decide +kernel⟩,
   ⟨7, hold up 81 1 ([0, 0, 0, 0]), _, _, [], _, _, _, passed_got (by decide +kernel), by decide +kernel,
     by decide +kernel, quad_last (by decide +kernel)⟩,
   ⟨7, holdTagged inSession 176 0xF0 (beBytes 2 (maxSet - 1) ++ [0, 1, 0]), _, _, passed_got (by decide +kernel),
     by decide +kernel⟩⟩

theorem wit_LongCommands :
    (∃ (t : Nat) (s : State) (u : State) (c : Cmd) (b : Fin 2) (v : Nat) (full : List Byte), s.passed t = some (c, u)
      ∧ c.p.op = 34 ∧ u.flashBusy = false ∧ beAt c.p.payload 0 4 + 4 ≤ bankSize ∧ BitVec.toNat (crc32c (takeFrom
      u.stageByte 0 (beAt c.p.payload 0 4))) = beAt c.p.payload 4 4 ∧ structureOk u.stageByte (beAt c.p.payload 0 4)
      = true ∧ let els := ((Option.map Prod.fst (elemsIn u.stageByte (beAt c.p.payload 0 4))).getD []); distinct
      (blobNames els) = true ∧ (els.any fun e ↦ decide (4 < e.typ)) = false ∧ u.sameSafety els = true ∧
      (u.commitImage els (beAt c.p.payload 0 4)).length + 4 ≤ bankSize ∧ u.commitPlan (u.commitImage els (beAt
      c.p.payload 0 4)) = some (b, v, full)) ∧
    (∃ (t : Nat) (s : State) (u : State) (c : Cmd) (n : Fin 4), s.passed t = some (c, u) ∧ c.p.op = 64 ∧ c.p.axis =
      some n ∧ (u.axis n).st.closed = false ∧ beAt c.p.payload 0 1 = 0 ∧ beAt c.p.payload 4 2 = 0 ∧ beAt c.p.payload
      2 2 ≤ 8191 ∧ u.validating n = false) ∧
    (∃ (t : Nat) (s : State) (u : State) (c : Cmd) (n : Fin 4) (b : Blob), s.passed t = some (c, u) ∧ c.p.op = 64 ∧
      c.p.axis = some n ∧ (u.axis n).st.closed = false ∧ beAt c.p.payload 0 1 = 1 ∧ u.validating n = false ∧
      u.namedBlob (List.drop 8 c.p.payload) = some b ∧ b.kind = 1 ∧ b.data.length % 8 = 0 ∧ b.data.length ≤ 65536) ∧
    (∃ (t : Nat) (s : State) (u : State) (c : Cmd) (n : Fin 4), s.passed t = some (c, u) ∧ c.p.op = 112 ∧ c.p.axis =
      some n ∧ u.pendOf 112 c.p.target = none ∧ u.diagOk n (beAt c.p.payload 0 2) = true ∧ beAt c.p.payload 0 2 < 64)
      ∧
    (∃ (t : Nat) (s : State) (u : State) (c : Cmd), s.passed t = some (c, u) ∧ c.p.op = 112 ∧ c.p.axis = none ∧
      u.pendOf 112 c.p.target = none ∧ u.diagXOk = true) ∧
    (∃ (t : Nat) (s : State) (u : State) (c : Cmd) (n : Fin 4), s.passed t = some (c, u) ∧ c.p.op = 128 ∧ c.p.axis =
      some n ∧ u.tuneOk n (beAt c.p.payload 0 1) = true ∧ u.lk.fresh = false ∧ beAt c.p.payload 0 1 ≤ 2 ∧ beAt
      c.p.payload 1 1 ≤ 1 ∧ 100 ≤ beAt c.p.payload 2 2 ∧ beAt c.p.payload 2 2 ≤ 60000 ∧ qLt (u.relayMax n (beAt
      c.p.payload 0 1)) (qAbs (bfVal (payWord c 4))) = false ∧ u.pwr.res[n] ≠ Resv.standby) ∧
    (∃ (t : Nat) (s : State) (u : State) (c : Cmd), s.passed t = some (c, u) ∧ c.p.op = 144 ∧ beAt c.p.payload 0 1 =
      0 ∧ Option.any (fun x ↦ x.chan != c.h.chan || x.busy) u.hm.upd = false ∧ 128 ≤ beAt c.p.payload 4 4 ∧ beAt
      c.p.payload 4 4 ≤ fwSize) ∧
    (∃ (t : Nat) (s : State) (u : State) (c : Cmd) (x : Update), s.passed t = some (c, u) ∧ c.p.op = 144 ∧ beAt
      c.p.payload 0 1 = 2 ∧ u.hm.upd = some x ∧ x.chan = c.h.chan ∧ x.busy = false) ∧
    (∃ (t : Nat) (s : State) (u : State) (c : Cmd) (x : SafetySet) (b : Fin 2) (v : Nat) (full : List Byte), s.passed
      t = some (c, u) ∧ c.p.op = 177 ∧ u.allSafe = true ∧ u.flashBusy = false ∧ u.verifySet (beAt c.p.payload 0 4)
      (beAt c.p.payload 4 4) = Verified.ok x ∧ u.commitPlan (u.safetyImage x) = some (b, v, full) ∧ full.length ≤
      bankSize) ∧
    (∃ (t : Nat) (s : State) (u : State) (c : Cmd), s.passed t = some (c, u) ∧ c.p.op = 192 ∧ u.isLead = true ∧
      u.pendOf 192 255 = none ∧ 1 ≤ beAt c.p.payload 0 1 ∧ beAt c.p.payload 0 1 ≤ 8 ∧ beAt c.p.payload 1 1 ≤ 1) ∧
    (∃ (t : Nat) (s : State) (u : State) (c : Cmd) (n : Fin 4) (dst : AxState) (v : State), s.passed t = some (c, u)
      ∧ c.p.op = 48 ∧ c.p.axis = some n ∧ stateOf (beAt c.p.payload 0 1) = some dst ∧ u.axisRequest n dst (beAt
      c.p.payload 1 1) = (v, Req.pending)) :=
  ⟨⟨7, hold (up.loadStage emptyImage) 34 240 (beBytes 4 40 ++ beBytes 4 (crc32c emptyImage).toNat ++ [0, 0, 0, 0]),
    _, _, 0, 1, emptyImage.take 8 ++ beBytes 4 1 ++ beBytes 4 44 ++ emptyImage.drop 16 ++ beBytes 4 (crc32c
    (emptyImage.take 8 ++ beBytes 4 1 ++ beBytes 4 44 ++ emptyImage.drop 16)).toNat, passed_got (by decide +kernel),
    by decide +kernel⟩,
   ⟨7, hold up 64 1 ([0, 0] ++ beBytes 2 8191 ++ [0, 0, 0, 0]), _, _, 1, passed_got (by decide +kernel),
     by decide +kernel⟩,
   ⟨7, hold withImage 64 1 ([1, 0, 0, 0, 0, 0, 0, 0] ++ (0x50 :: List.replicate 15 0)), _, _, 1,
     { name := 0x50 :: List.replicate 15 0, kind := 1, mask := 0, data := [] }, passed_got (by decide +kernel),
     by decide +kernel⟩,
   ⟨7, hold (volts (inState up 1 .diag) 50) 112 1 ([0, 16, 0, 0]), _, _, 1, passed_got (by decide +kernel),
     by decide +kernel⟩,
   ⟨7, hold (volts (inState up 1 .diag) 2000) 112 240 ([0, 32, 0, 0]), _, _, passed_got (by decide +kernel),
     by decide +kernel⟩,
   ⟨7, hold ((inState up 1 .ready).set (Reg.PWM_CTL_EN 1) 1) 128 1 ([2, 1] ++ beBytes 2 60000 ++ List.replicate 8 0),
     _, _, 1, passed_got (by decide +kernel), by decide +kernel⟩,
   ⟨7, hold up 144 240 ([0, 0, 0, 0] ++ beBytes 4 fwSize), _, _, passed_got (by decide +kernel), by decide +kernel⟩,
   ⟨7, hold (updating 128 128 false) 144 240 ([2, 0, 0, 0]), _, _, _, passed_got (by decide +kernel),
     by decide +kernel, by decide +kernel, rfl, by decide +kernel⟩,
   ⟨7, verifying, _, _, verified, _, _, _, passed_got (by decide +kernel), by decide +kernel, by decide +kernel,
     by decide +kernel, verify_of ((crc_of (n := 3208397059) (by decide +kernel)).trans (by decide +kernel))
     (by decide +kernel) (by decide +kernel) (by decide +kernel), some_triple (0, 0, []) (by decide +kernel),
     by decide +kernel⟩,
   ⟨7, hold (up.set Reg.MOOR_CTL_EN 1) 192 255 ([8, 1, 0, 0]), _, _, passed_got (by decide +kernel),
     by decide +kernel⟩,
   ⟨7, hold (up.set Reg.PWR_BUDGET_BUDGET 1402) 48 1 ([2, 0, 0, 0]), _, _, 1, .ready, _, passed_got
     (by decide +kernel), by decide +kernel, by decide +kernel, by decide +kernel, pair_snd (by decide +kernel)⟩⟩

theorem wit_SetpointCommands :
    (∃ (t : Nat) (s : State) (u : State) (c : Cmd) (n : Fin 4) (w : Word) (k : Bool), s.passed t = some (c, u) ∧
      c.p.axis = some n ∧ (u.axis n).st = AxState.run ∧ c.p.op = 49 ∧ clampTo (payWord c 0) (qAbs (bfVal (u.coefEntry
      n 49))) = (w, k)) ∧
    (∃ (t : Nat) (s : State) (u : State) (c : Cmd) (n : Fin 4) (w : Word) (k : Bool), s.passed t = some (c, u) ∧
      c.p.axis = some n ∧ (u.axis n).st = AxState.run ∧ c.p.op = 50 ∧ clampTo (payWord c 0) (u.spdLimit n) = (w, k)) ∧
    (∃ (t : Nat) (s : State) (u : State) (c : Cmd) (n : Fin 4), s.passed t = some (c, u) ∧ c.p.axis = some n ∧
      (u.axis n).st = AxState.run ∧ c.p.op = 51) :=
  ⟨⟨7, hold (inState up 1 .run) 49 1 ([0, 0, 0, 0, 0, 0]), _, _, 1, _, _, passed_got (by decide +kernel),
    by decide +kernel, by decide +kernel, by decide +kernel, rfl⟩,
   ⟨7, hold (inState up 1 .run) 50 1 (List.replicate 16 0), _, _, 1, _, _, passed_got (by decide +kernel),
     by decide +kernel, by decide +kernel, by decide +kernel, rfl⟩,
   ⟨7, hold ((inState up 1 .run).set (Reg.SYS_AXCFG_TYPE 1) 2) 51 1 (List.replicate 12 0), _, _, 1, passed_got
     (by decide +kernel), by decide +kernel⟩⟩

theorem wit_SessionCommands :
    (∃ (t : Nat) (s : State) (u : State) (c : Cmd) (i : Fin 8), s.passed t = some (c, u) ∧ c.p.op = 160 ∧ beAt
      c.p.payload 0 1 = 0 ∧ c.slot = some i ∧ (u.slot i).live = true ∧ (List.filter (fun x ↦ x.chan != c.h.chan)
      u.hm.sess).length < 4) ∧
    (∃ (t : Nat) (s : State) (u : State) (c : Cmd) (i : Fin 8), s.passed t = some (c, u) ∧ c.p.op = 160 ∧ beAt
      c.p.payload 0 1 = 1 ∧ c.h.chan = Chan.hspi ∧ (u.hasKeys Chan.hspi = true ∨ (u.hm.slots.toList.all fun k ↦ k.st
      == SlotState.blank) = true) ∧ c.slot = some i ∧ (u.slot i).st = SlotState.blank) ∧
    (∃ (t : Nat) (s : State) (u : State) (c : Cmd) (i : Fin 8), s.passed t = some (c, u) ∧ c.p.op = 160 ∧ beAt
      c.p.payload 0 1 = 2 ∧ c.h.chan = Chan.hspi ∧ u.hasKeys Chan.hspi = true ∧ c.slot = some i ∧ (u.slot i).live =
      true ∧ u.lastKeys i = false ∧ Option.any (fun x ↦ x.slot == i) (u.session Chan.hspi) = false) ∧
    (∃ (t : Nat) (s : State) (u : State) (c : Cmd) (i : Fin 8), s.passed t = some (c, u) ∧ c.p.op = 160 ∧ beAt
      c.p.payload 0 1 = 2 ∧ c.h.chan = Chan.hspi ∧ u.hasKeys Chan.hspi = true ∧ c.slot = some i ∧ (u.slot i).live =
      true ∧ u.lastKeys i = false ∧ Option.any (fun x ↦ x.slot == i) (u.session Chan.hspi) = true) ∧
    (∃ (t : Nat) (s : State) (u : State) (c : Cmd), s.passed t = some (c, u) ∧ c.p.op = 161) :=
  ⟨⟨7, hold oneKey 160 240 ([0, 3] ++ List.replicate 18 0), _, _, 3, passed_got (by decide +kernel),
    by decide +kernel⟩,
   ⟨7, hold up 160 240 ([1, 7] ++ List.replicate 51 0), _, _, 7, passed_got (by decide +kernel), by decide +kernel⟩,
   ⟨7, holdTagged twoKeys 160 0xF0 [2, 4, 0, 0], _, _, 4, passed_got (by decide +kernel), by decide +kernel⟩,
   ⟨7, holdTagged twoKeys 160 0xF0 [2, 3, 0, 0], _, _, 3, passed_got (by decide +kernel), by decide +kernel⟩,
   ⟨7, hold up 161 240 ([]), _, _, passed_got (by decide +kernel), by decide +kernel⟩⟩

theorem wit_UpdateAndLogCommands :
    (∃ (t : Nat) (s : State) (u : State) (c : Cmd) (x : Update), s.passed t = some (c, u) ∧ c.p.op = 144 ∧ beAt
      c.p.payload 0 1 = 1 ∧ u.hm.upd = some x ∧ x.chan = c.h.chan ∧ x.busy = false ∧ beAt c.p.payload 4 4 = x.next ∧
      x.next + (List.drop 8 c.p.payload).length ≤ x.size) ∧
    (∃ (t : Nat) (s : State) (u : State) (c : Cmd) (x : Update), s.passed t = some (c, u) ∧ c.p.op = 144 ∧ beAt
      c.p.payload 0 1 = 3 ∧ u.hm.upd = some x ∧ x.chan = c.h.chan ∧ x.busy = false ∧ x.finished = true ∧ (beAt
      c.p.payload 1 1).testBit 0 = false) ∧
    (∃ (t : Nat) (s : State) (u : State) (c : Cmd) (x : Update), s.passed t = some (c, u) ∧ c.p.op = 144 ∧ beAt
      c.p.payload 0 1 = 3 ∧ u.hm.upd = some x ∧ x.chan = c.h.chan ∧ x.busy = false ∧ x.finished = true ∧ (beAt
      c.p.payload 1 1).testBit 0 = true ∧ (u.axes.toList.any fun a ↦ a.st != AxState.off) = false) ∧
    (∃ (t : Nat) (s : State) (u : State) (c : Cmd), s.passed t = some (c, u) ∧ c.p.op = 144 ∧ beAt c.p.payload 0 1 =
      4) ∧
    (∃ (t : Nat) (s : State) (u : State) (c : Cmd), s.passed t = some (c, u) ∧ c.p.op = 144 ∧ beAt c.p.payload 0 1 =
      5 ∧ u.hm.fw.runsTrial = true) ∧
    (∃ (t : Nat) (s : State) (u : State) (c : Cmd) (p : Nat × List Byte), s.passed t = some (c, u) ∧ c.p.op = 96 ∧
      beAt c.p.payload 0 1 = 0 ∧ u.bit Reg.LOGB_CTL_EN = true ∧ u.get Reg.LOGB_STAT_STATE = 0 ∧ List.find? (fun p ↦
      p.fst == beAt c.p.payload 1 1) u.logb.plans = some p ∧ u.planTooLong p.snd = false) ∧
    (∃ (t : Nat) (s : State) (u : State) (c : Cmd), s.passed t = some (c, u) ∧ c.p.op = 96 ∧ beAt c.p.payload 0 1 =
      1) ∧
    (∃ (t : Nat) (s : State) (u : State) (c : Cmd), s.passed t = some (c, u) ∧ c.p.op = 96 ∧ beAt c.p.payload 0 1 =
      2) ∧
    (∃ (t : Nat) (s : State) (u : State) (c : Cmd) (n : Fin 4) (dst : AxState) (v : State), s.passed t = some (c, u)
      ∧ c.p.op = 48 ∧ c.p.axis = some n ∧ stateOf (beAt c.p.payload 0 1) = some dst ∧ u.axisRequest n dst (beAt
      c.p.payload 1 1) = (v, Req.ok)) ∧
    (∃ (t : Nat) (s : State) (u : State) (c : Cmd) (dst : AxState) (v : State), s.passed t = some (c, u) ∧ c.p.op =
      48 ∧ c.p.axis = none ∧ toGroup c.p = false ∧ stateOf (beAt c.p.payload 0 1) = some dst ∧ u.axisAll dst (beAt
      c.p.payload 1 1) = (v, none)) ∧
    (∃ (t : Nat) (s : State) (u : State) (c : Cmd) (dst : AxState) (v : State), s.passed t = some (c, u) ∧ c.p.op =
      48 ∧ c.p.axis = none ∧ toGroup c.p = false ∧ stateOf (beAt c.p.payload 0 1) = some dst ∧ u.axisAll dst (beAt
      c.p.payload 1 1) = (v, none) ∧ c.h.op = 48 ∧ c.h.target = 240) :=
  ⟨⟨7, hold (updating 128 124 false) 144 240 ([1, 0, 0, 0] ++ beBytes 4 124 ++ [1, 2, 3, 4]), _, _, _, passed_got
    (by decide +kernel), by decide +kernel, by decide +kernel, rfl, by decide +kernel⟩,
   ⟨7, hold (updating 128 128 true) 144 240 ([3, 0, 0, 0]), _, _, _, passed_got (by decide +kernel),
     by decide +kernel, by decide +kernel, rfl, by decide +kernel⟩,
   ⟨7, hold (updating 128 128 true) 144 240 ([3, 1, 0, 0]), _, _, _, passed_got (by decide +kernel),
     by decide +kernel, by decide +kernel, rfl, by decide +kernel⟩,
   ⟨7, hold up 144 240 ([4, 0, 0, 0]), _, _, passed_got (by decide +kernel), by decide +kernel⟩,
   ⟨7, hold (up.updHm fun h => { h with fw := { h.fw with trial := true } }) 144 240 ([5, 0, 0, 0]), _, _, passed_got
     (by decide +kernel), by decide +kernel⟩,
   ⟨7, hold ((up.set Reg.LOGB_CTL_EN 1).updLogb fun l => { l with plans := [(5, [])] }) 96 240 ([0, 5, 0, 0]), _, _,
     _, passed_got (by decide +kernel), by decide +kernel, by decide +kernel, by decide +kernel, by decide +kernel,
     rfl, by decide +kernel⟩,
   ⟨7, hold up 96 240 ([1, 0, 0, 0]), _, _, passed_got (by decide +kernel), by decide +kernel⟩,
   ⟨7, hold up 96 240 ([2, 0, 0, 0]), _, _, passed_got (by decide +kernel), by decide +kernel⟩,
   ⟨7, hold up 48 1 ([0, 0, 0, 0]), _, _, 1, .off, _, passed_got (by decide +kernel), by decide +kernel,
     by decide +kernel, by decide +kernel, pair_snd (by decide +kernel)⟩,
   ⟨7, hold up 48 240 ([0, 0, 0, 0]), _, _, .off, _, passed_got (by decide +kernel), by decide +kernel,
     by decide +kernel, by decide +kernel, by decide +kernel, pair_snd (by decide +kernel)⟩,
   ⟨7, hold up 48 240 ([0, 0, 0, 0]), _, _, .off, _, passed_got (by decide +kernel), by decide +kernel,
     by decide +kernel, by decide +kernel, by decide +kernel, pair_snd (by decide +kernel), by decide +kernel⟩⟩

theorem wit_Transports :
    (∃ (t : Nat) (s : State) (b : List Byte), let u := ((s.upto t).sendDue); u.Fits b) ∧
    (∃ (t : Nat) (s : State) (b : List Byte), (s.upto t).hrdy = true ∧ let v := (((s.upto t).emit (Out.hrdy
      false)).sendDue); v.Fits b) ∧
    (∃ (t : Nat) (s : State) (n : Nat) (b : List Byte) (r : List (List Byte)), let u := ((s.upto t).sendDue);
      u.hm.hspiQ = b :: r ∧ 2 + b.length ≤ n) ∧
    (∃ (t : Nat) (s : State) (n : Nat) (b : List Byte) (r : List (List Byte)), let u := ((s.upto t).sendDue);
      u.hm.hspiQ = b :: r ∧ n < 2 + b.length) ∧
    (∃ (t : Nat) (s : State) (c : Fin 4) (h : Byte) (d : List Byte), let u := ((s.upto t).sendDue); BitVec.getLsbD h
      7 = true ∧ BitVec.getLsbD h 6 = true ∧ BitVec.toNat h % 32 = 0 ∧ u.hm.canRx[c] = none ∧ u.Fits (unpad d
      (d.length + 1))) ∧
    (∃ (t : Nat) (s : State) (c : Fin 4) (h : Byte), let u := ((s.upto t).sendDue); BitVec.getLsbD h 7 = true ∧
      BitVec.getLsbD h 6 = false ∧ BitVec.toNat h % 32 = 0 ∧ u.hm.canRx[c] = none) ∧
    (∃ (t : Nat) (s : State) (c : Fin 4) (h : Byte) (p : CanPartial), let u := ((s.upto t).sendDue); BitVec.getLsbD h
      7 = false ∧ BitVec.getLsbD h 6 = false ∧ u.hm.canRx[c] = some p ∧ BitVec.toNat h % 32 = p.next ∧ u.tide ≤
      p.lastAt + 20 * Config.ms) ∧
    (∃ (t : Nat) (s : State) (n : Fin 4), let u := ((s.upto t).sendDue); u.bit (Reg.BERTH_STAT_FULL ↑(commandBerth
      n)) = true ∧ let d := (u.berthBytes ↑(commandBerth n)); 46 ≤ leAt d 10 2 ∧ (u.berthTake (commandBerth
      n)).writableMem (leAt d 16 8) (leAt d 10 2) = true ∧ (u.berthTake (commandBerth n)).plainMem (leAt d 0 8) (leAt
      d 8 2) = true ∧ let b := (u.bytes (leAt d 0 8) (leAt d 8 2)); (u.berthTake (commandBerth n)).Fits b) ∧
    (∃ (t : Nat) (s : State) (c : Fin 4) (p : CanPartial), s.hm.canRx[c] = some p ∧ p.lastAt + 20 * Config.ms <
      (s.upto t).tide) ∧
    (∃ (t : Nat) (s : State) (n : Fin 4) (w : WaitReply), let u := ((s.upto t).sendDue); List.find? (fun w ↦ w.chan
      == Chan.berth n) u.hm.waits = some w ∧ u.bit (Reg.BERTH_STAT_FULL ↑(replyBerth n)) = false) ∧
    (∃ (t : Nat) (s : State) (n : Fin 4) (w : WaitReply), let u := ((s.upto t).sendDue); List.find? (fun w ↦ w.chan
      == Chan.berth n) u.hm.waits = some w ∧ u.bit (Reg.BERTH_STAT_FULL ↑(replyBerth n)) = true ∧ w.since + 100 *
      Config.ms ≤ u.tide) :=
  ⟨⟨7, up, ping, fits_of (by decide +kernel)⟩,
   ⟨7, up, ping, by decide +kernel, fits_of (by decide +kernel)⟩,
   ⟨7, up.updHm fun h => { h with hspiQ := [ping] }, 20, _, _, rfl, by decide +kernel⟩,
   ⟨7, up.updHm fun h => { h with hspiQ := [ping] }, 19, _, _, rfl, by decide +kernel⟩,
   ⟨7, up, 1, 0xC0, ping, by decide +kernel, by decide +kernel, by decide +kernel, by decide +kernel, fits_of
     (by decide +kernel)⟩,
   ⟨7, up, 1, 0x80, by decide +kernel⟩,
   ⟨20 * Config.ms, up.setPartial 1 (some { bytes := [], next := 1, lastAt := 0 }), 1, 1, _, by decide +kernel,
     by decide +kernel, rfl, by decide +kernel⟩,
   ⟨7, descState, 1, by decide +kernel, by decide +kernel, by decide +kernel, by decide +kernel, fits_of
     (by decide +kernel)⟩,
   ⟨20 * Config.ms + 1, up.setPartial 1 (some { bytes := [], next := 1, lastAt := 0 }), 1, _, rfl, by decide +kernel⟩,
   ⟨7, waiting, 1, _, rfl, by decide +kernel⟩,
   ⟨100 * Config.ms, waiting.set (Reg.BERTH_STAT_FULL 5) 1, 1, _, rfl, by decide +kernel⟩⟩

theorem wit_Completions :
    (∃ (s : State) (p : PendCmd), s.pendOf 34 240 = some p ∧ p.args.getD 2 0 ≠ 1) ∧
    (∃ (s : State) (p : PendCmd), s.pendOf 34 240 = some p ∧ p.args.getD 2 0 = 1) ∧
    (∃ (s : State) (p : PendCmd), s.pendOf 34 240 = some p) ∧
    (∃ (t : Nat) (s : State) (p : PendCmd) (n : Fin 4) (v : State), let u := (s.upto t); s.pendOf 64 ↑n = some p ∧
      u.loadProgram n = (v, none)) ∧
    (∃ (s : State) (p : PendCmd), s.pendOf 97 240 = some p ∧ s.get Reg.LOGB_STAT_STATE = 3 ∧ s.logVia = false ∧
      p.args.getD 0 0 + p.args.getD 1 0 ≤ s.record.snd) ∧
    (∃ (s : State) (p : PendCmd), s.pendOf 112 240 = some p) ∧
    (∃ (s : State) (p : PendCmd) (n : Fin 4), s.pendOf 112 ↑n = some p ∧ (s.axis n).diag.isSome = true) ∧
    (∃ (t : Nat) (s : State) (n : Fin 4), let u := (s.upto t); (s.axis n).st = AxState.tune ∧ (u.handedNat n 176 = 2
      ∨ (s.axis n).tune.startAt + (s.axis n).tune.maxMs * Config.ms ≤ t)) ∧
    (∃ (s : State) (p : PendCmd) (x : Update), s.pendPhase 0 = some p ∧ s.hm.upd = some x) ∧
    (∃ (s : State) (p : PendCmd) (x : Update), s.pendPhase 2 = some p ∧ s.hm.upd = some x) ∧
    (∃ (s : State) (p : PendCmd), s.pendOf 177 240 = some p ∧ p.data ≠ []) ∧
    (∃ (t : Nat) (s : State) (p : PendCmd), let u := (s.upto t); s.pendOf 192 255 = some p ∧ s.isLead = true ∧
      u.matchesCfg = true) ∧
    (∃ (s : State) (p : PendCmd) (n : Fin 4) (dst : AxState), s.pendOf 48 ↑n = some p ∧ (s.axis n).pendTo = some dst
      ∧ (s.axis n).st.code = p.args.getD 0 0 ∧ ((s.channelsOf n).any fun g ↦ (s.gate g).holds.supply) = false ∧
      s.railsRisen n = true ∧ s.lk.fresh = false) :=
  ⟨⟨pend up 34 240 [] [], _, rfl, by decide +kernel⟩,
   ⟨pend up 34 240 [0, 1, 1] [], _, rfl, by decide +kernel⟩,
   ⟨pend up 34 240 [] [], _, rfl⟩,
   ⟨7, pend (up.updEng 1 fun e => { e with prog := [(0, word opSettle), (1, word opCommit)] }) 64 1 [] [], _, 1, _,
     rfl, pair_snd (by decide +kernel)⟩,
   ⟨pend frozenOne 97 240 [0, 4096] [], _, rfl, by decide +kernel⟩,
   ⟨pend up 112 240 [] [], _, rfl⟩,
   ⟨pend (up.updAxis 1 fun a => { a with diag := some 3 }) 112 1 [] [], _, 1, rfl, by decide +kernel⟩,
   ⟨7, inState up 1 .tune, 1, by decide +kernel⟩,
   ⟨pend (updating 128 0 false) 144 240 [0] [], _, _, rfl, rfl⟩,
   ⟨pend (updating 128 128 false) 144 240 [2] [], _, _, rfl, rfl⟩,
   ⟨pend up 177 240 [] [1], _, rfl, by decide +kernel⟩,
   ⟨7, pend ((up.set Reg.MOOR_CTL_EN 1).sets [(Reg.MOOR_GSTAT_COUNT, 2), (Reg.MOOR_GCFG_EXPECT, 2)]) 192 255 [] [],
     _, rfl, by decide +kernel⟩,
   ⟨pend ({ up with gates := Vector.replicate 26 { en := true } }.updAxis 1 fun a => { a with
     pendTo := some .ready }) 48 1 [0] [], _, 1, _, rfl, rfl, by decide +kernel⟩⟩

theorem wit_LaneArithmetic :
    (∃ (n : Fin 4) (s : State), s.reached n opAdd = true) ∧
    (∃ (n : Fin 4) (s : State), s.reached n opSub = true) ∧
    (∃ (n : Fin 4) (s : State), s.reached n opMul = true) ∧
    (∃ (n : Fin 4) (s : State), s.reached n opMac = true) ∧
    (∃ (n : Fin 4) (s : State), s.reached n opNeg = true) ∧
    (∃ (n : Fin 4) (s : State), s.reached n opAbs = true) ∧
    (∃ (n : Fin 4) (s : State), s.reached n opMin = true) ∧
    (∃ (n : Fin 4) (s : State), s.reached n opMax = true) ∧
    (∃ (n : Fin 4) (s : State), s.reached n opSel = true) ∧
    (∃ (n : Fin 4) (s : State), s.reached n opScale = true) ∧
    (∃ (n : Fin 4) (s : State), s.reached n opNorm = true) ∧
    (∃ (n : Fin 4) (s : State), s.reached n opMov = true) :=
  ⟨⟨1, pass 4 (word opAdd), by decide +kernel⟩,
   ⟨1, pass 4 (word opSub), by decide +kernel⟩,
   ⟨1, pass 4 (word opMul), by decide +kernel⟩,
   ⟨1, pass 4 (word opMac), by decide +kernel⟩,
   ⟨1, pass 4 (word opNeg), by decide +kernel⟩,
   ⟨1, pass 4 (word opAbs), by decide +kernel⟩,
   ⟨1, pass 4 (word opMin), by decide +kernel⟩,
   ⟨1, pass 4 (word opMax), by decide +kernel⟩,
   ⟨1, pass 4 (word opSel), by decide +kernel⟩,
   ⟨1, pass 4 (word opScale), by decide +kernel⟩,
   ⟨1, pass 4 (word opNorm), by decide +kernel⟩,
   ⟨1, pass 4 (word opMov), by decide +kernel⟩⟩

theorem wit_LaneFunctions :
    (∃ (n : Fin 4) (s : State), s.reached n opSincos = true) ∧
    (∃ (n : Fin 4) (s : State), s.reached n opPark = true) ∧
    (∃ (n : Fin 4) (s : State), s.reached n opIpark = true) ∧
    (∃ (n : Fin 4) (s : State), s.reached n opClarke = true) ∧
    (∃ (n : Fin 4) (s : State), s.reached n opIclarke = true) ∧
    (∃ (n : Fin 4) (s : State), s.reached n opAtan2 = true) ∧
    (∃ (n : Fin 4) (s : State), s.reached n opRecip = true) ∧
    (∃ (n : Fin 4) (s : State), s.reached n opRsqrt = true) ∧
    (∃ (n : Fin 4) (s : State), let b := (s.lanesB n); s.reached n opSvm = true ∧ ↑0 < b[0].num) ∧
    (∃ (n : Fin 4) (s : State), let b := (s.lanesB n); s.reached n opSvm = true ∧ b[0].num ≤ 0) :=
  ⟨⟨1, pass 3 (word opSincos), by decide +kernel⟩,
   ⟨1, pass 3 (word opPark), by decide +kernel⟩,
   ⟨1, pass 3 (word opIpark), by decide +kernel⟩,
   ⟨1, pass 3 (word opClarke), by decide +kernel⟩,
   ⟨1, pass 3 (word opIclarke), by decide +kernel⟩,
   ⟨1, pass 3 (word opAtan2), by decide +kernel⟩,
   ⟨1, pass 3 (word opRecip), by decide +kernel⟩,
   ⟨1, pass 3 (word opRsqrt), by decide +kernel⟩,
   ⟨1, (pass 4 (word opSvm)).setVreg 1 0 { m := Vector.replicate 8 1 }, by decide +kernel⟩,
   ⟨1, pass 4 (word opSvm), by decide +kernel⟩⟩

theorem wit_PredicateAndStateWords :
    (∃ (n : Fin 4) (s : State) (r : Fin 8 → Q), let a := (s.lanesA n); let c := (wIndex (s.progWord n)); (∀ (i : Fin
      8), r i = qMax (s.coef n c ↑i) (qMin a[i] (s.coef n c (8 + ↑i)))) ∧ s.reached n opClamp = true) ∧
    (∃ (n : Fin 4) (s : State) (h : Fin 8 → Bool), let a := (s.lanesA n); let b := (s.lanesB n); (∀ (i : Fin 8), h i
      = cmpHolds (wBits (s.progWord n) 0 3) a[i] b[i]) ∧ s.reached n opCmp = true) ∧
    (∃ (n : Fin 4) (s : State) (l : Fin 8 → (Word × WFlags) × Bool × Q), let a := (s.lanesA n); let c := (wIndex
      (s.progWord n)); let k := (wState (s.progWord n)); (∀ (i : Fin 8), l i = piLane (s.coef n c ↑i) (s.coef n c (8
      + ↑i)) (s.coef n c (16 + ↑i)) (s.coef n c (24 + ↑i)) a[i] (s.readState n (k + ↑i)) (wRtz (s.progWord n))) ∧
      s.reached n opPi = true) ∧
    (∃ (n : Fin 4) (s : State) (y : Fin 8 → Q) (l : Fin 8 → Word × WFlags), let a := (s.lanesA n); let c := (wIndex
      (s.progWord n)); let k := (wState (s.progWord n)); (∀ (i : Fin 8), y i = bfVal (s.readState n (k + ↑i))) ∧ (∀
      (i : Fin 8), l i = bf (qAdd (y i) (qMul (s.coef n c ↑i) (qSub a[i] (y i)))) (wRtz (s.progWord n))) ∧ s.reached
      n opLpf = true) ∧
    (∃ (n : Fin 4) (s : State) (y : Fin 8 → Q) (want : Fin 8 → Q) (d : Fin 8 → Q) (l : Fin 8 → Word × WFlags), let a
      := (s.lanesA n); let c := (wIndex (s.progWord n)); let k := (wState (s.progWord n)); (∀ (i : Fin 8), y i =
      bfVal (s.readState n (k + ↑i))) ∧ (∀ (i : Fin 8), want i = qSub a[i] (y i)) ∧ (∀ (i : Fin 8), d i = qMax (qNeg
      (qMax (s.coef n c (8 + ↑i)) qZero)) (qMin (want i) (qMax (s.coef n c ↑i) qZero))) ∧ (∀ (i : Fin 8), l i = bf
      (qAdd (y i) (d i)) (wRtz (s.progWord n))) ∧ s.reached n opRamp = true) :=
  ⟨⟨1, pass 4 (word opClamp), _, fun _ => rfl, by decide +kernel⟩,
   ⟨1, pass 4 (word opCmp 5), _, fun _ => rfl, by decide +kernel⟩,
   ⟨1, pass 4 (word opPi), _, fun _ => rfl, by decide +kernel⟩,
   ⟨1, pass 4 (word opLpf), _, _, fun _ => rfl, fun _ => rfl, by decide +kernel⟩,
   ⟨1, pass 4 (word opRamp), _, _, _, _, fun _ => rfl, fun _ => rfl, fun _ => rfl, fun _ => rfl, by decide +kernel⟩⟩

theorem wit_MemoryWords :
    (∃ (n : Fin 4) (s : State), let w := (s.progWord n); s.reached n opLd = true ∧ s.badEntry n = none ∧ (∀ (i : Fin
      8), (wMask w).getLsbD ↑i = true → laneEntry w ↑i < spaceSize (wSpace w))) ∧
    (∃ (n : Fin 4) (s : State) (a : Nat), s.reached n opLd = true ∧ s.badEntry n = some a) ∧
    (∃ (n : Fin 4) (s : State) (i : Fin 8), let w := (s.progWord n); s.reached n opLd = true ∧ s.badEntry n = none ∧
      List.find? (fun (i : Fin 8) ↦ decide (spaceSize (wSpace w) ≤ laneEntry w ↑i)) (maskLanes w) = some i) ∧
    (∃ (n : Fin 4) (s : State), s.reached n opSt = true) ∧
    (∃ (n : Fin 4) (s : State) (v : State) (i : Fin 8) (x : Word) (f : WFlags), let w := (s.progWord n); laneEntry w
      ↑i < 4096 ∧ wSpace w = 1 ∧ storeWord (wInt w) ((v.vreg n (wA w)).lane i) = (x, f)) ∧
    (∃ (n : Fin 4) (s : State) (v : State) (i : Fin 8) (x : Word) (f : WFlags), let w := (s.progWord n); portWritable
      (laneEntry w ↑i) = true ∧ wSpace w = 2 ∧ storeWord (wInt w) ((v.vreg n (wA w)).lane i) = (x, f)) ∧
    (∃ (n : Fin 4) (s : State) (v : State) (i : Fin 8) (x : Word) (f : WFlags), let w := (s.progWord n); wSpace w = 2
      ∧ portWritable (laneEntry w ↑i) = false ∧ storeWord (wInt w) ((v.vreg n (wA w)).lane i) = (x, f)) ∧
    (∃ (n : Fin 4) (s : State) (v : State) (i : Fin 8) (x : Word) (f : WFlags), let w := (s.progWord n); wSpace w = 0
      ∧ storeWord (wInt w) ((v.vreg n (wA w)).lane i) = (x, f)) ∧
    (∃ (n : Fin 4) (s : State) (v : State), let w := (s.progWord n); wSpace w = 3 ∧ (v.phase n = 1 ∨ v.phase n = 2))
      :=
  ⟨⟨1, pass 4 (word opLd (8761733283840 + 4096 + 4278190080 + 0 + 0)), by decide +kernel⟩,
   ⟨1, { pass 4 (word opLd (8761733283840 + 4096 + 4278190080)) with
     ecc := [eccUnit ((entryAddr 1 (wSpace (word opLd (8761733283840 + 4096 + 4278190080))) (laneEntry (word opLd
       (8761733283840 + 4096 + 4278190080)) 0)).getD 0)] }, _, by decide +kernel, some_get (by decide +kernel)⟩,
   ⟨1, pass 4 (word opLd (8766028251136 + 4096 + 4278190080 + 0 + 0)), 7, by decide +kernel⟩,
   ⟨1, pass 4 (word opSt (0 + 0 + 4278190080 + 4194304 + 0)), by decide +kernel⟩,
   ⟨1, pass 4 (word opSt (8761733283840 + 4096 + 4278190080 + 4194304 + 0)), up, 7, _, _, by decide +kernel,
     by decide +kernel, rfl⟩,
   ⟨1, pass 4 (word opSt (790273982464 + 0 + 4278190080 + 8388608 + 0)), up, 7, _, _, by decide +kernel,
     by decide +kernel, rfl⟩,
   ⟨1, pass 4 (word opSt (794568949760 + 0 + 4278190080 + 8388608 + 0)), up, 7, _, _, by decide +kernel,
     by decide +kernel, rfl⟩,
   ⟨1, pass 4 (word opSt (0 + 0 + 4278190080 + 0 + 0)), up, 1, _, _, by decide +kernel, rfl⟩,
   ⟨1, pass 1 (word opSt (0 + 0 + 4278190080 + 12582912 + 0)), pass 1 (word opSt (0 + 0 + 4278190080 + 12582912 +
     0)), by decide +kernel⟩⟩

theorem wit_PassWords :
    (∃ (n : Fin 4) (s : State), s.reached n opHalt = true) ∧
    (∃ (n : Fin 4) (s : State), s.badWord n = true) ∧
    (∃ (n : Fin 4) (s : State), s.reached n opSettle = true ∧ s.phase n = 1) ∧
    (∃ (n : Fin 4) (s : State), s.reached n opSettle = true ∧ s.phase n ≠ 1) ∧
    (∃ (n : Fin 4) (s : State), s.phase n = 2 ∧ (s.engine n).settles ≠ 0 ∧ s.settleHit n = true) ∧
    (∃ (n : Fin 4) (s : State), s.phase n = 2 ∧ (s.engine n).settles ≠ 0 ∧ s.settleHit n = false) ∧
    (∃ (n : Fin 4) (s : State) (a : Nat), s.phase n = 2 ∧ (s.engine n).settles = 0 ∧ (s.engine n).arrived = some a) ∧
    (∃ (n : Fin 4) (s : State), s.reached n opCommit = true) ∧
    (∃ (n : Fin 4) (s : State), let pc := ((s.engine n).pc); s.passRuns n = true ∧ s.badWord n = false ∧ pc < 8192 ∧
      wUndefined (s.progWord n) = true) ∧
    (∃ (n : Fin 4) (s : State), let pc := ((s.engine n).pc); s.passRuns n = true ∧ 8192 ≤ pc) ∧
    (∃ (n : Fin 4) (s : State), (s.engine n).crossing = true ∧ ((s.engine n).orphan = true ∨ (s.axis n).st.closed =
      false)) ∧
    (∃ (n : Fin 4) (s : State), (s.engine n).crossing = true ∧ (s.engine n).orphan = false ∧ (s.axis n).st.closed =
      true) :=
  ⟨⟨1, pass 5 (word opHalt), by decide +kernel⟩,
   ⟨1, { pass 5 (word opHalt) with ecc := [eccUnit (engineAddr 1 0)] }, by decide +kernel⟩,
   ⟨1, pass 1 (word opSettle), by decide +kernel⟩,
   ⟨1, pass 4 (word opSettle), by decide +kernel⟩,
   ⟨1, (pass 2 (word opSettle)).updEng 1 fun e => { e with settles := 1 }, by decide +kernel⟩,
   ⟨1, (pass 2 (word opSettle 0x1000000)).updEng 1 fun e => { e with settles := 1, view := [(32, (bf qOne).1)] },
     by decide +kernel⟩,
   ⟨1, (pass 2 (word opSettle)).updEng 1 fun e => { e with arrived := some 3 }, _, by decide +kernel,
     by decide +kernel, rfl⟩,
   ⟨1, pass 4 (word opCommit), by decide +kernel⟩,
   ⟨1, pass 4 (word 31), by decide +kernel⟩,
   ⟨1, (pass 4 (word opHalt)).updEng 1 fun e => { e with pc := 8192 }, by decide +kernel⟩,
   ⟨1, up.updEng 1 fun e => { e with crossing := true }, by decide +kernel⟩,
   ⟨1, (inState up 1 .run).updEng 1 fun e => { e with crossing := true }, by decide +kernel⟩⟩

theorem wit_EngineAndCarrierWrites :
    (∃ (t : Nat) (req : Nat) (n : Fin 4) (w : Word) (s : State) (v : State), let u := (s.busAt t req true);
      u.accepted req (Reg.LE_CTL ↑n) w = some v ∧ BitVec.getLsbD (s.reg (Reg.LE_CTL ↑n)) 0 = v.bit
      (Reg.LE_CTL_PILOTEN ↑n) ∧ BitVec.getLsbD w 1 = true ∧ v.phase n = 0) ∧
    (∃ (t : Nat) (req : Nat) (n : Fin 4) (w : Word) (s : State) (v : State), let u := (s.busAt t req true);
      u.accepted req (Reg.LE_CTL ↑n) w = some v ∧ BitVec.getLsbD (s.reg (Reg.LE_CTL ↑n)) 0 = v.bit
      (Reg.LE_CTL_PILOTEN ↑n) ∧ BitVec.getLsbD w 1 = true ∧ v.phase n ≠ 0) ∧
    (∃ (t : Nat) (req : Nat) (n : Fin 4) (w : Word) (s : State) (v : State), let u := (s.busAt t req true);
      u.accepted req (Reg.PWM_CTL ↑n) w = some v ∧ BitVec.getLsbD (s.reg (Reg.PWM_CTL ↑n)) 0 = false ∧ v.bit
      (Reg.PWM_CTL_EN ↑n) = true) ∧
    (∃ (t : Nat) (req : Nat) (n : Fin 4) (w : Word) (s : State) (v : State), let u := (s.busAt t req true);
      u.accepted req (Reg.PWM_CTL ↑n) w = some v ∧ BitVec.getLsbD (s.reg (Reg.PWM_CTL ↑n)) 0 = true ∧ v.bit
      (Reg.PWM_CTL_EN ↑n) = false) ∧
    (∃ (t : Nat) (req : Nat) (n : Fin 4) (w : Word) (s : State) (v : State), let u := (s.busAt t req true);
      u.accepted req (Reg.PWM_FORCE ↑n) w = some v ∧ v.bit (Reg.PWM_FORCE_FEN ↑n) = true ∧ (List.foldl (fun x1 x2 ↦
      x1.forceLeg n x2) (v.settle v.tide) ((v.settle v.tide).legsOf n)).forceBoth n = false) ∧
    (∃ (t : Nat) (req : Nat) (n : Fin 4) (w : Word) (s : State) (v : State), let u := (s.busAt t req true);
      u.accepted req (Reg.PWM_FORCE ↑n) w = some v ∧ v.bit (Reg.PWM_FORCE_FEN ↑n) = true ∧ (List.foldl (fun x1 x2 ↦
      x1.forceLeg n x2) (v.settle v.tide) ((v.settle v.tide).legsOf n)).forceBoth n = true) ∧
    (∃ (t : Nat) (req : Nat) (n : Fin 4) (w : Word) (s : State) (v : State), let u := (s.busAt t req true);
      u.accepted req (Reg.PWM_FORCE ↑n) w = some v ∧ v.bit (Reg.PWM_FORCE_FEN ↑n) = false) :=
  ⟨⟨7, 11, 1, 3, up, _, some_get (by decide +kernel), by decide +kernel⟩,
   ⟨7, 11, 1, 3, up.set (Reg.LE_STATUS_PHASE 1) 1, _, some_get (by decide +kernel), by decide +kernel⟩,
   ⟨7, 11, 1, 5, up, _, some_get (by decide +kernel), by decide +kernel⟩,
   ⟨7, 11, 1, 4, up.set (Reg.PWM_CTL_EN 1) 1, _, some_get (by decide +kernel), by decide +kernel⟩,
   ⟨7, 11, 1, 0x80000000, inState up 1 .diag, _, some_get (by decide +kernel), by decide +kernel⟩,
   ⟨7, 11, 1, 0x80000003, inState up 1 .diag, _, some_get (by decide +kernel), by decide +kernel⟩,
   ⟨7, 11, 1, 0, inState up 1 .diag, _, some_get (by decide +kernel), by decide +kernel⟩⟩

theorem wit_BreakwaterWrites :
    (∃ (t : Nat) (req : Nat) (w : Word) (s : State) (v : State), let u := (s.busAt t req true); u.accepted req
      Reg.BW_DSCCTL w = some v ∧ wordGet w 0 1 = 1 ∧ wordGet w 1 1 = 0 ∧ (v.axes.toList.any fun a ↦ a.st ==
      AxState.diag || a.st == AxState.run || a.st == AxState.tune) = false) ∧
    (∃ (t : Nat) (req : Nat) (w : Word) (s : State) (v : State), let u := (s.busAt t req true); u.accepted req
      Reg.BW_DSCCTL w = some v ∧ wordGet w 0 1 = 0 ∧ wordGet w 1 1 = 1 ∧ v.bw.trgCmd = true ∧ v.bw.trgLoss = false ∧
      v.bw.trgSafe = false) ∧
    (∃ (t : Nat) (req : Nat) (w : Word) (s : State) (v : State), let u := (s.busAt t req true); u.accepted req
      Reg.BW_DSCCTL w = some v ∧ wordGet w 0 1 = 0 ∧ wordGet w 1 1 = 1 ∧ v.bw.trgCmd = true ∧ (v.bw.trgLoss = true ∨
      v.bw.trgSafe = true)) ∧
    (∃ (t : Nat) (req : Nat) (w : Word) (s : State) (v : State), let u := (s.busAt t req true); u.accepted req
      Reg.BW_LKDEMAND w = some v) ∧
    (∃ (t : Nat) (req : Nat) (w : Word) (s : State) (v : State) (gone : List (FName × Nat × Nat)), ((s.updFm fun m ↦
      { m with found := some gone }).busAt t req true).accepted req Reg.BW_FQCLR w = some v ∧ v.clearWaits = false) ∧
    (∃ (t : Nat) (req : Nat) (w : Word) (s : State) (v : State) (gone : List (FName × Nat × Nat)), ((s.updFm fun m ↦
      { m with found := some gone }).busAt t req true).accepted req Reg.BW_FQCLR w = some v ∧ v.clearWaits = true) :=
  ⟨⟨7, 11, 1, up, _, some_get (by decide +kernel), by decide +kernel⟩,
   ⟨7, 11, 2, up.updBw fun b => { b with trgCmd := true }, _, some_get (by decide +kernel), by decide +kernel⟩,
   ⟨7, 11, 2, up.updBw fun b => { b with trgCmd := true, trgLoss := true }, _, some_get (by decide +kernel),
     by decide +kernel⟩,
   ⟨7, 6, 1, up, _, some_get (by decide +kernel)⟩,
   ⟨7, 11, 0xFFFF, up, _, [], some_get (by decide +kernel), by decide +kernel⟩,
   ⟨7, 11, 0xFFFF, up.updBw fun b => { b with pllStop := true }, _, [], some_get (by decide +kernel),
     by decide +kernel⟩⟩

theorem wit_NetworkWrites :
    (∃ (t : Nat) (req : Nat) (w : Word) (s : State) (v : State) (p : Fin 4), let u := (s.busAt t req true);
      u.accepted req (Reg.ETH_GCTL ↑p) w = some v ∧ BitVec.getLsbD w 31 = true ∧ let cyc := ((List.map Prod.snd
      (List.take ((v.adminList p).len + 1) (v.adminList p).entries)).sum); (v.adminList p).len ≤ 127 ∧ 4 ≤ cyc ∧ cyc
      ≤ 400000000) ∧
    (∃ (t : Nat) (req : Nat) (w : Word) (s : State) (v : State), let u := (s.busAt t req true); u.accepted req
      Reg.ETH_ASGMSEC w = some v ∧ v.bit Reg.ETH_ASCFG_GM = true) ∧
    (∃ (t : Nat) (req : Nat) (w : Word) (s : State) (v : State) (r : Fin 4), let u := (s.busAt t req true);
      u.accepted req (Reg.ETH_RINGPTR (↑r + 4)) w = some v ∧ v.bit (Reg.ETH_RINGBASE_EN (↑r + 4)) = true) ∧
    (∃ (t : Nat) (req : Nat) (w : Word) (s : State) (v : State) (c : Fin 4) (b : Fin 16), let u := (s.busAt t req
      true); u.accepted req (Reg.CAN_TXCTL ↑c ↑b) w = some v ∧ BitVec.getLsbD w 8 = true ∧ BitVec.getLsbD w 9 = false
      ∧ dlcLengths.contains (v.get (Reg.CAN_TXCTL_LEN ↑c ↑b)) = true ∧ (v.bit (Reg.CAN_TXID_FDF ↑c ↑b) = true ∨ v.get
      (Reg.CAN_TXCTL_LEN ↑c ↑b) ≤ 8) ∧ v.txPending c b = false) ∧
    (∃ (t : Nat) (req : Nat) (w : Word) (s : State) (v : State) (c : Fin 4) (b : Fin 16), let u := (s.busAt t req
      true); u.accepted req (Reg.CAN_TXCTL ↑c ↑b) w = some v ∧ BitVec.getLsbD w 8 = false ∧ BitVec.getLsbD w 9 = true
      ∧ v.txPending c b = true ∧ (v.canCtl c).cur ≠ some b) ∧
    (∃ (t : Nat) (req : Nat) (w : Word) (s : State) (v : State) (c : Fin 4) (b : Fin 16), let u := (s.busAt t req
      true); u.accepted req (Reg.CAN_TXCTL ↑c ↑b) w = some v ∧ BitVec.getLsbD w 8 = false ∧ BitVec.getLsbD w 9 = true
      ∧ v.txPending c b = true ∧ (v.canCtl c).cur = some b) ∧
    (∃ (t : Nat) (req : Nat) (w : Word) (s : State) (v : State) (c : Fin 4) (q : Fin 2), let u := (s.busAt t req
      true); u.accepted req (Reg.CAN_RXPOP ↑c ↑q) w = some v ∧ BitVec.getLsbD w 0 = true) ∧
    (∃ (t : Nat) (req : Nat) (w : Word) (s : State) (v : State) (c : Fin 4), let u := (s.busAt t req true);
      u.accepted req (Reg.CAN_CTL ↑c) w = some v ∧ BitVec.getLsbD (s.reg (Reg.CAN_CTL ↑c)) 0 = true ∧ v.bit
      (Reg.CAN_CTL_EN ↑c) = false) :=
  ⟨⟨7, 11, 0x80000000, up.set (Reg.ETH_GCL_TICKS 1 0) 400000000, _, 1, some_get (by decide +kernel),
    by decide +kernel⟩,
   ⟨7, 11, 5, up.set Reg.ETH_ASCFG_GM 1, _, some_get (by decide +kernel), by decide +kernel⟩,
   ⟨7, 11, 0x10000, up.set (Reg.ETH_RINGBASE_EN 5) 1, _, 1, some_get (by decide +kernel), by decide +kernel⟩,
   ⟨7, 11, (0x100 + 8), up, _, 1, 1, some_get (by decide +kernel), by decide +kernel⟩,
   ⟨7, 11, 0x200, up.set (Reg.CAN_TXCTL_STATE 1 1) 1, _, 1, 1, some_get (by decide +kernel), by decide +kernel⟩,
   ⟨7, 11, 0x200, (up.set (Reg.CAN_TXCTL_STATE 1 1) 1).updCan 1 fun x => { x with cur := some 1 }, _, 1, 1, some_get
     (by decide +kernel), by decide +kernel⟩,
   ⟨7, 11, 1, up, _, 1, 1, some_get (by decide +kernel), by decide +kernel⟩,
   ⟨7, 11, 8, up.set (Reg.CAN_CTL_EN 1) 1, _, 1, some_get (by decide +kernel), by decide +kernel⟩⟩

theorem wit_BerthAndBollardAccesses :
    (∃ (t : Nat) (req : Nat) (w : Word) (s : State) (v : State) (r : Fin 4), let u := (s.busAt t req true);
      u.accepted req (Reg.BERTH_ACCTL ↑r) w = some v ∧ BitVec.getLsbD (s.reg (Reg.BERTH_ACCTL ↑r)) 0 = false ∧ v.bit
      (Reg.BERTH_ACCTL_RUN ↑r) = true) ∧
    (∃ (t : Nat) (req : Nat) (w : Word) (s : State) (v : State) (r : Fin 4), let u := (s.busAt t req true);
      u.accepted req (Reg.BERTH_ACCTL ↑r) w = some v ∧ BitVec.getLsbD (s.reg (Reg.BERTH_ACCTL ↑r)) 0 = true ∧ v.bit
      (Reg.BERTH_ACCTL_RUN ↑r) = false) ∧
    (∃ (t : Nat) (req : Nat) (w : Word) (s : State) (v : State), let u := (s.busAt t req true); u.accepted req
      Reg.BERTH_ACFLT w = some v ∧ BitVec.getLsbD w 31 = true) ∧
    (∃ (t : Nat) (req : Nat) (w : Word) (s : State) (v : State), let u := (s.busAt t req true); u.accepted req
      Reg.BERTH_ACFLT w = some v ∧ BitVec.getLsbD w 31 = false) ∧
    (∃ (t : Nat) (req : Nat) (w : Word) (s : State) (v : State) (b : Fin 32), let u := (s.busAt t req true);
      u.accepted req (Reg.BERTH_CFG ↑b) w = some v ∧ s.reg (Reg.BERTH_CFG ↑b) &&& 98175 ≠ v.reg (Reg.BERTH_CFG ↑b)
      &&& 98175 ∧ v.bit (Reg.BERTH_STAT_FULL ↑b) = true) ∧
    (∃ (t : Nat) (req : Nat) (w : Word) (s : State) (v : State) (b : Fin 32), let u := (s.busAt t req true);
      u.accepted req (Reg.BERTH_CFG ↑b) w = some v ∧ (s.reg (Reg.BERTH_CFG ↑b) &&& 98175 = v.reg (Reg.BERTH_CFG ↑b)
      &&& 98175 ∨ v.bit (Reg.BERTH_STAT_FULL ↑b) = false)) ∧
    (∃ (t : Nat) (req : Nat) (w : Word) (s : State) (v : State), let u := (s.busAt t req true); u.accepted req
      Reg.BERTH_KFREE w = some v) ∧
    (∃ (t : Nat) (req : Nat) (w : Word) (s : State) (v : State), let u := (s.busAt t req true); u.accepted req
      Reg.ARB_SEED w = some v) ∧
    (∃ (t : Nat) (req : Nat) (w : Word) (s : State) (v : State), let u := (s.busAt t req true); u.accepted req
      Reg.LOGB_CTL w = some v ∧ v.bit Reg.LOGB_CTL_EN = true ∧ BitVec.getLsbD w 1 = true) ∧
    (∃ (t : Nat) (req : Nat) (w : Word) (s : State) (v : State), let u := (s.busAt t req true); u.accepted req
      Reg.LOGB_CTL w = some v ∧ BitVec.getLsbD (s.reg Reg.LOGB_CTL) 0 = true ∧ v.bit Reg.LOGB_CTL_EN = false) ∧
    (∃ (t : Nat) (req : Nat) (w : Word) (s : State) (v : State) (k : Fin 8), let u := (s.busAt t req true);
      u.accepted req (Reg.PERF_SCTL ↑k) w = some v ∧ BitVec.getLsbD w 18 = true) ∧
    (∃ (t : Nat) (req : Nat) (w : Word) (s : State) (v : State), let u := (s.busAt t req true); u.accepted req
      Reg.PWR_RESET w = some v ∧ wordGet w 0 16 = 45063) :=
  ⟨⟨7, 11, 1, up, _, 1, some_get (by decide +kernel), by decide +kernel⟩,
   ⟨7, 11, 0, up.set (Reg.BERTH_ACCTL_RUN 1) 1, _, 1, some_get (by decide +kernel), by decide +kernel⟩,
   ⟨7, 1, 0x80000000, up, _, some_get (by decide +kernel), by decide +kernel⟩,
   ⟨7, 4, 0x7FFFFFFF, up, _, some_get (by decide +kernel), by decide +kernel⟩,
   ⟨7, 11, 0, up.sets [(Reg.BERTH_CFG_EN 31, 1), (Reg.BERTH_STAT_FULL 31, 1)], _, 31, some_get (by decide +kernel),
     by decide +kernel⟩,
   ⟨7, 11, 0, up, _, 31, some_get (by decide +kernel), by decide +kernel⟩,
   ⟨7, 11, 3, up, _, some_get (by decide +kernel)⟩,
   ⟨7, 11, 1, up, _, some_get (by decide +kernel)⟩,
   ⟨7, 11, 3, up, _, some_get (by decide +kernel), by decide +kernel⟩,
   ⟨7, 11, 0, up.set Reg.LOGB_CTL_EN 1, _, some_get (by decide +kernel), by decide +kernel⟩,
   ⟨7, 11, 0x40000, up, _, 1, some_get (by decide +kernel), by decide +kernel⟩,
   ⟨7, 11, 45063, up, _, some_get (by decide +kernel), by decide +kernel⟩⟩

theorem wit_RegisterAccesses :
    (∃ (t : Nat) (req : Nat) (a : Nat) (w : Word) (s : State) (d : RDesc) (ix : List Nat) (v : State), let u :=
      (s.busAt t req true); a < 1179648 ∧ a % 4 = 0 ∧ findReg a = some (d, ix) ∧ u.accepted req a w = some v) ∧
    (∃ (t : Nat) (req : Nat) (a : Nat) (w : Word) (s : State) (d : RDesc) (ix : List Nat) (reason : Nat) (k : Bool),
      let u := (s.busAt t req true); a < 1179648 ∧ a % 4 = 0 ∧ findReg a = some (d, ix) ∧ let new := (newWord d ix
      (u.reg a) w); u.mayWrite req (a / 65536) = true ∧ u.mayWriteReg req a d ix new = true ∧ legOnly d.base
      (ix.headD 0) = false ∧ d.base ≠ Reg.BERTH_K 0 ∧ d.base ≠ Reg.BERTH_MSG 0 0 ∧ u.refusal false req a d ix w new =
      some (reason, k)) ∧
    (∃ (t : Nat) (req : Nat) (a : Nat) (s : State), let u := (s.busAt t req true); a < 1179648 ∧ a % 4 = 0 ∧
      u.mayWrite req (a / 65536) = false) ∧
    (∃ (t : Nat) (req : Nat) (a : Nat) (s : State), let u := (s.busAt t req true); a < 1179648 ∧ a % 4 = 0 ∧
      u.mayWrite req (a / 65536) = true ∧ findReg a = none ∧ (role req ≠ 6 ∨ a / 65536 = 8)) ∧
    (∃ (t : Nat) (req : Nat) (a : Nat) (s : State), let u := (s.busAt t req true); a < 1179648 ∧ a % 4 = 0 ∧
      u.mayWrite req (a / 65536) = true ∧ findReg a = none ∧ role req = 6 ∧ a / 65536 ≠ 8) ∧
    (∃ (a : Nat) (width : Nat), a < 1179648 ∧ a % 4 = 0 ∧ width ≠ 4) ∧
    (∃ (a : Nat) (d : RDesc) (ix : List Nat), a < 1179648 ∧ a % 4 = 0 ∧ findReg a = some (d, ix)) ∧
    (∃ (a : Nat), a < 1179648 ∧ a % 4 = 0 ∧ findReg a = none) ∧
    (∃ (a : Nat), a < 1179648 ∧ a % 4 = 0) :=
  ⟨⟨7, 11, Reg.ARB_SEED, 1, up, _, _, _, by decide +kernel, by decide +kernel, some_pair someReg (by decide +kernel),
    some_get (by decide +kernel)⟩,
   ⟨7, 11, (Reg.SYS_AXCFG), 1, inState up 1 .run, _, _, _, _, by decide +kernel, by decide +kernel, some_pair someReg
     (by decide +kernel), by decide +kernel, by decide +kernel, by decide +kernel, by decide +kernel,
     by decide +kernel, some_pair (0, false) (by decide +kernel)⟩,
   ⟨7, 11, Reg.LOOKOUT_STATUS, up, by decide +kernel⟩,
   ⟨7, 11, 0x11FFFC, up, by decide +kernel⟩,
   ⟨7, 6, 0x7FFFC, up, by decide +kernel⟩,
   ⟨0x11FFFC, 8, by decide +kernel⟩,
   ⟨0, _, _, by decide +kernel, by decide +kernel, some_pair someReg (by decide +kernel)⟩,
   ⟨0x11FFFC, by decide +kernel⟩,
   ⟨0x11FFFC, by decide +kernel⟩⟩

theorem wit_MemoryAccesses :
    (∃ (t : Nat) (req : Nat) (s : State) (addr : Nat), let u := (s.busAt t req true); 268435456 ≤ addr ∧ addr <
      272629760 ∧ u.mayWriteMem req = true ∧ u.writableMem addr 4 = true) ∧
    (∃ (t : Nat) (req : Nat) (s : State) (addr : Nat), let u := (s.busAt t req true); 2147483648 ≤ addr ∧ addr <
      10133438464 ∧ u.mayWriteMem req = true ∧ u.writableMem addr 4 = true) ∧
    (∃ (addr : Nat), 1610612736 ≤ addr ∧ addr < 1677721600) ∧
    (∃ (addr : Nat), 1074921472 ≤ addr ∧ addr < 1090519040) ∧
    (∃ (addr : Nat), 10737418240 ≤ addr ∧ addr < 34359738368) ∧
    (∃ (t : Nat) (req : Nat) (s : State) (n : Fin 4) (k : Nat), let u := (s.busAt t req true); k < 4096 ∧ assigned
      req = true ∧ u.remoteOk req = true ∧ within 7 10 (role req) = false ∧ (u.axis n).st.closed = false) ∧
    (∃ (t : Nat) (req : Nat) (s : State) (n : Fin 4) (k : Nat), let u := (s.busAt t req true); k < 16384 ∧ assigned
      req = true ∧ u.remoteOk req = true ∧ within 7 10 (role req) = false ∧ (u.axis n).st.closed = false) ∧
    (∃ (t : Nat) (req : Nat) (s : State) (n : Fin 4) (k : Nat), let u := (s.busAt t req true); k < 4096 ∧ assigned
      req = true ∧ u.remoteOk req = true ∧ within 7 10 (role req) = false ∧ (u.axis n).st.closed = true) ∧
    (∃ (req : Nat), within 7 10 (role req) = false) :=
  ⟨⟨7, 11, up, 0x103FFFFC, by decide +kernel⟩,
   ⟨7, 11, up, 0x25BFFFFFC, by decide +kernel⟩,
   ⟨0x63FFFFFF, by decide +kernel⟩,
   ⟨1074921472, by decide +kernel⟩,
   ⟨34359738367, by decide +kernel⟩,
   ⟨7, 11, up, 1, 4095, by decide +kernel⟩,
   ⟨7, 11, up, 1, 16383, by decide +kernel⟩,
   ⟨7, 11, inState up 1 .run, 1, 4095, by decide +kernel⟩,
   ⟨11, by decide +kernel⟩⟩

theorem wit_CommandTimeouts :
    (∃ (t : Nat) (s : State) (ch : Chan) (x : Session), let u := (s.upto t); s.session ch = some x ∧ x.lastAt + 60 *
      Config.sec ≤ u.tide) ∧
    (∃ (t : Nat) (s : State) (ch : Chan) (b : Nat), let u := (s.upto t); (s.channel ch).barred = some b ∧ b ≤ u.tide)
      ∧
    (∃ (t : Nat) (s : State) (x : Update), let u := (s.upto t); s.hm.upd = some x ∧ x.lastAt + 60 * Config.sec ≤
      u.tide) ∧
    (∃ (t : Nat) (s : State) (n : Fin 4) (e : Nat), let u := (s.upto t); (s.axis n).expiry = some e ∧ e ≤ u.tide ∧
      (s.axis n).st = AxState.run) ∧
    (∃ (t : Nat) (s : State) (n : Fin 4) (e : Nat), let u := (s.upto t); (s.axis n).expiry = some e ∧ e ≤ u.tide ∧
      (s.axis n).st = AxState.fault ∧ (s.axis n).preTherm = some AxState.run) :=
  ⟨⟨60 * Config.sec, inSession, .hspi, _, rfl, by decide +kernel⟩,
   ⟨7, up.putChannel { chan := .hspi, barred := some 7 }, .hspi, _, rfl, by decide +kernel⟩,
   ⟨60 * Config.sec, updating 128 0 false, _, rfl, by decide +kernel⟩,
   ⟨7, up.updAxis 1 fun a => { a with st := .run, expiry := some 7 }, 1, _, rfl, by decide +kernel⟩,
   ⟨7, up.updAxis 1 fun a => { a with st := .fault, preTherm := some .run, expiry := some 7 }, 1, _, rfl,
     by decide +kernel⟩⟩

theorem wit_CarrierRows :
    (∃ (t : Nat) (n : Fin 4) (s : State) (z : Nat), (s.carrier n).startAt = some z ∧ z / 32 = t ∧ s.bit
      (Reg.PWM_CTL_EN ↑n) = true ∧ s.running n = false ∧ s.idle n = false ∧ s.sourceRuns n = true) ∧
    (∃ (t : Nat) (n : Fin 4) (s : State), s.running n = true ∧ s.atZero n t = true) ∧
    (∃ (t : Nat) (n : Fin 4) (s : State), s.running n = true ∧ s.atPeriodPoint n t = true ∧ s.atReload n t = false) ∧
    (∃ (t : Nat) (n : Fin 4) (s : State), s.running n = true ∧ s.bit
      { addr := Reg.PWM_ICMP 0 ↑n, lo := 31, len := 1 } = true ∧ t = (s.carrier n).zero / 32 + s.get
      { addr := Reg.PWM_ICMP 0 ↑n, lo := 0, len := 24 }) ∧
    (∃ (t : Nat) (n : Fin 4) (s : State), s.running n = true ∧ s.bit
      { addr := Reg.PWM_ICMP 1 ↑n, lo := 31, len := 1 } = true ∧ t = (s.carrier n).zero / 32 + s.get
      { addr := Reg.PWM_ICMP 1 ↑n, lo := 0, len := 24 }) ∧
    (∃ (t : Nat) (n : Fin 4) (s : State), s.running n = true ∧ s.atReload n t = true) ∧
    (∃ (t : Nat) (s : State) (l : Fin 12), let u := (s.upto t); s.bit (Reg.GATE_CFG_BOOT ↑(hiCh l)) = true ∧
      s.outMode (s.axisOfLeg l) = OutMode.pwm ∧ u.legOn (t - 1) l true = true ∧ 32 * Config.us * s.get
      (Reg.PWM_BOOT_MAXON ↑l) ≤ u.hiCountAt l (32 * t)) :=
  ⟨⟨7, 1, (up.set (Reg.PWM_CTL_EN 1) 1).updCarrier 1 fun c => { c with startAt := some 255 }, 255, by decide +kernel⟩,
   ⟨0, 1, (up.set (Reg.PWM_STATUS_RUNNING 1) 1), by decide +kernel⟩,
   ⟨10000, 1, (up.set (Reg.PWM_STATUS_RUNNING 1) 1).set (Reg.PWM_CTL_RELOAD 1) 1, by decide +kernel⟩,
   ⟨7, 1, (up.set (Reg.PWM_STATUS_RUNNING 1) 1).setReg (Reg.PWM_ICMP 0 1) 0x80000007, by decide +kernel⟩,
   ⟨7, 1, (up.set (Reg.PWM_STATUS_RUNNING 1) 1).setReg (Reg.PWM_ICMP 1 1) 0x80000007, by decide +kernel⟩,
   ⟨0, 1, (up.set (Reg.PWM_STATUS_RUNNING 1) 1), by decide +kernel⟩,
   ⟨7, ((up.sets [(Reg.GATE_CFG_BOOT (hiCh 3), 1), (Reg.PWM_STATUS_OUT 1, 1)]).setReg (Reg.PWM_FALL 3) 640000).updLeg
     3 fun g => { g with framed := true, hiThru := true, hiCount := 0x7FFFFFFF }, 3, by decide +kernel⟩⟩

theorem wit_TripAndConversionRows :
    (∃ (t : Nat) (s : State) (k : Fin 8) (first : Nat), let u := (s.upto t); let v := (u.drive (32 * t));
      v.tripCounted t k first = true) ∧
    (∃ (t : Nat) (s : State) (n : Fin 4), s.running n = true ∧ s.idle n = false ∧ s.backup = false ∧ s.sampleInsts n
      t ≠ []) ∧
    (∃ (t : Nat) (s : State) (n : Fin 4) (r : ResIn) (i : Nat) (v : State) (l : List Word), let u := (s.upto t);
      u.latchRecord (i / 32) n r = (v, l)) ∧
    (∃ (t : Nat) (s : State) (c : Fin 4) (codes : List Int) (ovr : Nat) (p : Sample) (rest : List Sample), let u :=
      (s.upto t); (s.cluster c).pend = p :: rest ∧ let v := ((List.foldl (State.resultOf t c p codes ovr)
      (u.updCluster c fun x ↦ { x with pend := rest }) inputs).set (Reg.ADC_STATUS_SEQ ↑c) p.seq); let x := (if ovr %
      256 ≠ 0 then v.raiseOnce FName.adcOvr (adcSource c) 0 t else v); let y := (x.logResults c p.stamp); let n :=
      (y.axisOfCluster c); ((y.clustersOf n).any fun d ↦ (y.cluster d).pend.any fun q ↦ q.stamp == p.stamp) = true) ∧
    (∃ (t : Nat) (s : State) (c : Fin 4) (codes : List Int) (ovr : Nat) (p : Sample) (rest : List Sample), let u :=
      (s.upto t); (s.cluster c).pend = p :: rest ∧ let v := ((List.foldl (State.resultOf t c p codes ovr)
      (u.updCluster c fun x ↦ { x with pend := rest }) inputs).set (Reg.ADC_STATUS_SEQ ↑c) p.seq); let x := (if ovr %
      256 ≠ 0 then v.raiseOnce FName.adcOvr (adcSource c) 0 t else v); let y := (x.logResults c p.stamp); let n :=
      (y.axisOfCluster c); ((y.clustersOf n).any fun d ↦ (y.cluster d).pend.any fun q ↦ q.stamp == p.stamp) = false) ∧
    (∃ (t : Nat) (s : State) (c : Fin 4) (v : State) (y : State) (k : Nat), let u := (s.upto t); let x :=
      (u.advanceCluster t c); ((x.cluster c).meas = none ∧ v = x ∨ ∃ sl, (x.cluster c).meas = some sl ∧ v =
      (x.updCluster c fun y ↦ { y with meas := none }).rejectMeasure t c (Fin.ofNat 9 sl)) ∧ t % Config.ms = 0 ∧
      v.rotStopped c = false ∧ y = v.oweHand c ∧ y.rotStopped c = false ∧ 2 ≤ y.modState ∧ (y.cluster c).hand = none
      ∧ let inc := (y.get (Reg.ADC_STATUS_FALLOW ↑c)); y.inputOf c ((inc + 1) % 9) = some k) ∧
    (∃ (t : Nat) (s : State) (c : Fin 4) (sl : Nat), let u := (s.upto t); let v := (u.advanceCluster t c); (v.cluster
      c).meas = some sl) ∧
    (∃ (t : Nat) (s : State), t % (s.get Reg.HK_CTL_PERIOD * Config.ms) = 0) ∧
    (∃ (t : Nat) (s : State), t % (s.get Reg.HK_CTL_PERIOD * Config.ms) ≠ 0) :=
  ⟨⟨7, up, 1, 0, by decide +kernel⟩,
   ⟨0, (up.set (Reg.PWM_STATUS_RUNNING 1) 1).setReg (Reg.PWM_SOFS 0 1) 0x80000000, 1, by decide +kernel⟩,
   ⟨7, (up.set (Reg.PWM_STATUS_RUNNING 1) 1).setReg (Reg.PWM_SOFS 0 1) 0x80000000, 1,
     { pos := 0, spd := 0, amp := 5000, phase := 0 }, 0, _, _, rfl⟩,
   ⟨7, up.updCluster 1 fun k => { k with pend := [quiet 0, quiet 1] }, 1, List.replicate 8 0, 0, _, _, rfl,
     result_waits [quiet 1] _ (by decide +kernel)⟩,
   ⟨7, up.updCluster 1 fun k => { k with pend := [quiet 0] }, 1, List.replicate 8 0, 0, _, _, rfl, result_waits [] _
     (by decide +kernel)⟩,
   ⟨Config.ms, up, 1, _, _, 0, .inl ⟨by decide +kernel, rfl⟩, by decide +kernel, rfl, rfl, by decide +kernel⟩,
   ⟨7, up.updCluster 1 fun k => { k with meas := some 8 }, 1, 8, rfl⟩,
   ⟨up.get Reg.HK_CTL_PERIOD * Config.ms, up, by decide +kernel⟩,
   ⟨7, up, by decide +kernel⟩⟩

theorem wit_SlowConversionRows :
    ∃ (t : Nat) (s : State) (n : Fin 4) (r : ResIn) (w : Word) (ok : Bool), let u := (s.upto t); s.running n = false
      ∧ s.backup = false ∧ let v := (u.resolverSample n r); { v with free := v.free + 1 }.speedAt t n
      (Config.freeWord v.free) = (w, ok) :=
  ⟨7, up, 1, { pos := 0, spd := 0, amp := 5000, phase := 0 }, _, _, by decide +kernel, by decide +kernel, rfl⟩

theorem wit_EncoderAndHallRows :
    (∃ (n : Fin 4) (s : State) (a : Bool) (b : Bool), s.backup = false ∧ s.fbMode n = 1 ∧ let d := ((quadCode a b + 4
      - quadCode (s.port n).a (s.port n).b) % 4); d = 0) ∧
    (∃ (n : Fin 4) (s : State) (a : Bool) (b : Bool), s.backup = false ∧ s.fbMode n = 1 ∧ let d := ((quadCode a b + 4
      - quadCode (s.port n).a (s.port n).b) % 4); d = 2) ∧
    (∃ (t : Nat) (n : Fin 4) (s : State) (a : Bool) (b : Bool), let u := (s.upto t); s.backup = false ∧ s.fbMode n =
      1 ∧ let v := (u.updPort n fun p ↦ { p with a := a, b := b }); let d := ((quadCode a b + 4 - quadCode (s.port
      n).a (s.port n).b) % 4); let rev := (((d == 3) != v.bit (Reg.FBK_MODE_INV ↑n))); (d = 1 ∨ d = 3) ∧ rev = false)
      ∧
    (∃ (t : Nat) (n : Fin 4) (s : State) (a : Bool) (b : Bool), let u := (s.upto t); s.backup = false ∧ s.fbMode n =
      1 ∧ let v := (u.updPort n fun p ↦ { p with a := a, b := b }); let d := ((quadCode a b + 4 - quadCode (s.port
      n).a (s.port n).b) % 4); let rev := (((d == 3) != v.bit (Reg.FBK_MODE_INV ↑n))); (d = 1 ∨ d = 3) ∧ rev = true) ∧
    (∃ (n : Fin 4) (s : State), s.backup = false ∧ let p := (s.port n); s.fbMode n = 1 ∧ zgate (s.get
      (Reg.FBK_IDXCFG_ZGATE ↑n)) p.a p.b = true ∧ p.latch = none) ∧
    (∃ (n : Fin 4) (s : State) (l : Word), s.backup = false ∧ let p := (s.port n); s.fbMode n = 1 ∧ zgate (s.get
      (Reg.FBK_IDXCFG_ZGATE ↑n)) p.a p.b = true ∧ p.latch = some l) ∧
    (∃ (t : Nat) (n : Fin 4) (s : State), s.backup = false ∧ (s.fbMode n = 1 ∨ s.fbMode n = 2) ∧ (∀ (e : Nat), e ∈
      (s.port n).edges → e + s.spdTimeout n ≤ t)) ∧
    (∃ (t : Nat) (n : Fin 4) (s : State), s.backup = false ∧ s.fbMode n = 4 ∧ (List.filter (fun f ↦ decide (t < f.fst
      + s.spdTimeout n)) (s.port n).frames).length < 2) ∧
    (∃ (n : Fin 4) (s : State), s.backup = false ∧ s.fbMode n ≠ 1 ∧ s.fbMode n ≠ 2 ∧ s.fbMode n ≠ 4) ∧
    (∃ (n : Fin 4) (s : State) (h : Fin 8), s.backup = false ∧ s.fbMode n = 2 ∧ hallPlace ↑h = none) ∧
    (∃ (n : Fin 4) (s : State) (h : Fin 8) (j : Nat), s.backup = false ∧ s.fbMode n = 2 ∧ hallPlace ↑h = some j ∧
      hallPlace (s.get (Reg.FBK_HALL_STATE ↑n)) = none) ∧
    (∃ (t : Nat) (n : Fin 4) (s : State) (h : Fin 8) (j : Nat) (k : Nat), let u := (s.upto t); s.backup = false ∧
      s.fbMode n = 2 ∧ hallPlace ↑h = some j ∧ hallPlace (s.get (Reg.FBK_HALL_STATE ↑n)) = some k ∧ let v := (u.set
      (Reg.FBK_HALL_STATE ↑n) ↑h); let i := (hallIndex (v.bit (Reg.FBK_MODE_INV ↑n)) j); let d := ((i + 6 - hallIndex
      (v.bit (Reg.FBK_MODE_INV ↑n)) k) % 6); d = 0) ∧
    (∃ (t : Nat) (n : Fin 4) (s : State) (h : Fin 8) (j : Nat) (k : Nat), let u := (s.upto t); s.backup = false ∧
      s.fbMode n = 2 ∧ hallPlace ↑h = some j ∧ hallPlace (s.get (Reg.FBK_HALL_STATE ↑n)) = some k ∧ let v := (u.set
      (Reg.FBK_HALL_STATE ↑n) ↑h); let i := (hallIndex (v.bit (Reg.FBK_MODE_INV ↑n)) j); let d := ((i + 6 - hallIndex
      (v.bit (Reg.FBK_MODE_INV ↑n)) k) % 6); 2 ≤ d ∧ d ≤ 4) ∧
    (∃ (t : Nat) (n : Fin 4) (s : State) (h : Fin 8) (j : Nat) (k : Nat), let u := (s.upto t); s.backup = false ∧
      s.fbMode n = 2 ∧ hallPlace ↑h = some j ∧ hallPlace (s.get (Reg.FBK_HALL_STATE ↑n)) = some k ∧ let v := (u.set
      (Reg.FBK_HALL_STATE ↑n) ↑h); let i := (hallIndex (v.bit (Reg.FBK_MODE_INV ↑n)) j); let d := ((i + 6 - hallIndex
      (v.bit (Reg.FBK_MODE_INV ↑n)) k) % 6); d = 1) ∧
    (∃ (t : Nat) (n : Fin 4) (s : State) (h : Fin 8) (j : Nat) (k : Nat), let u := (s.upto t); s.backup = false ∧
      s.fbMode n = 2 ∧ hallPlace ↑h = some j ∧ hallPlace (s.get (Reg.FBK_HALL_STATE ↑n)) = some k ∧ let v := (u.set
      (Reg.FBK_HALL_STATE ↑n) ↑h); let i := (hallIndex (v.bit (Reg.FBK_MODE_INV ↑n)) j); let d := ((i + 6 - hallIndex
      (v.bit (Reg.FBK_MODE_INV ↑n)) k) % 6); d = 5) :=
  ⟨⟨1, (up.set (Reg.FBK_MODE_MODE 1) 1), false, false, by decide +kernel⟩,
   ⟨1, (up.set (Reg.FBK_MODE_MODE 1) 1), true, true, by decide +kernel⟩,
   ⟨7, 1, (up.set (Reg.FBK_MODE_MODE 1) 1), true, false, by decide +kernel⟩,
   ⟨7, 1, (up.set (Reg.FBK_MODE_MODE 1) 1), false, true, by decide +kernel⟩,
   ⟨1, (up.set (Reg.FBK_MODE_MODE 1) 1), by decide +kernel⟩,
   ⟨1, (up.set (Reg.FBK_MODE_MODE 1) 1).updPort 1 fun p => { p with latch := some 0 }, _, by decide +kernel,
     by decide +kernel, by decide +kernel, rfl⟩,
   ⟨up.spdTimeout 1 + 3, 1, (up.set (Reg.FBK_MODE_MODE 1) 1).updPort 1 fun p => { p with edges := [3] },
     by decide +kernel, .inl rfl, by decide +kernel⟩,
   ⟨7, 1, up.set (Reg.FBK_MODE_MODE 1) 4, by decide +kernel⟩,
   ⟨1, up.set (Reg.FBK_MODE_MODE 1) 3, by decide +kernel⟩,
   ⟨1, (up.sets [(Reg.FBK_MODE_MODE 1, 2), (Reg.FBK_HALL_STATE 1, 1)]), 7, by decide +kernel⟩,
   ⟨1, (up.sets [(Reg.FBK_MODE_MODE 1, 2), (Reg.FBK_HALL_STATE 1, 0)]), 1, 0, by decide +kernel⟩,
   ⟨7, 1, (up.sets [(Reg.FBK_MODE_MODE 1, 2), (Reg.FBK_HALL_STATE 1, 3)]), 3, 1, 1, by decide +kernel⟩,
   ⟨7, 1, (up.sets [(Reg.FBK_MODE_MODE 1, 2), (Reg.FBK_HALL_STATE 1, 1)]), 2, 2, 0, by decide +kernel⟩,
   ⟨7, 1, (up.sets [(Reg.FBK_MODE_MODE 1, 2), (Reg.FBK_HALL_STATE 1, 5)]), 1, 0, 5, by decide +kernel⟩,
   ⟨7, 1, (up.sets [(Reg.FBK_MODE_MODE 1, 2), (Reg.FBK_HALL_STATE 1, 1)]), 5, 5, 0, by decide +kernel⟩⟩

theorem wit_SensorRows :
    (∃ (n : Fin 4) (s : State), s.backup = false ∧ s.fbMode n = 3) ∧
    (∃ (n : Fin 4) (s : State), s.backup = false ∧ s.fbMode n = 3 ∧ s.bit (Reg.FBK_STATUS_LOCK ↑n) = true) ∧
    (∃ (n : Fin 4) (s : State) (amp : Nat), s.backup = false ∧ s.fbMode n = 3 ∧ s.ampBad n amp = true) ∧
    (∃ (t : Nat) (n : Fin 4) (s : State) (raw : Word) (ok : Bool) (start : Nat), let u := (s.upto t); s.backup =
      false ∧ s.fbMode n = 4 ∧ (s.port n).ssiStart = some start ∧ let r := (BitVec.toNat raw % 2 ^ s.get
      (Reg.FBK_SSICFG_BITS ↑n)); let v := ((u.setReg (Reg.FBK_SSIRAW ↑n) (BitVec.ofNat 32 r)).updPort n fun p ↦
      { p with ssiStart := none }); (ok = false ∨ v.bit (Reg.FBK_SSICFG_ERREN ↑n) = true ∧ r % 2 = 1)) ∧
    (∃ (t : Nat) (n : Fin 4) (s : State) (raw : Word) (start : Nat) (f : Nat × Word), let u := (s.upto t); s.backup =
      false ∧ s.fbMode n = 4 ∧ (s.port n).ssiStart = some start ∧ let r := (BitVec.toNat raw % 2 ^ s.get
      (Reg.FBK_SSICFG_BITS ↑n)); let v := ((u.setReg (Reg.FBK_SSIRAW ↑n) (BitVec.ofNat 32 r)).updPort n fun p ↦
      { p with ssiStart := none }); (v.bit (Reg.FBK_SSICFG_ERREN ↑n) = false ∨ r % 2 = 0) ∧ (v.port n).frames.head? =
      some f ∧ BitVec.toNat (v.reg (Reg.FBK_SSISTEP ↑n)) ≠ 0 ∧ BitVec.toNat (v.reg (Reg.FBK_SSISTEP ↑n)) < (ssiDelta
      (v.ssiWidth n) (v.ssiValue n r) (BitVec.toNat f.snd)).natAbs) ∧
    (∃ (t : Nat) (n : Fin 4) (s : State) (raw : Word) (start : Nat), let u := (s.upto t); s.backup = false ∧ s.fbMode
      n = 4 ∧ (s.port n).ssiStart = some start ∧ let r := (BitVec.toNat raw % 2 ^ s.get (Reg.FBK_SSICFG_BITS ↑n));
      let v := ((u.setReg (Reg.FBK_SSIRAW ↑n) (BitVec.ofNat 32 r)).updPort n fun p ↦ { p with ssiStart := none });
      (v.bit (Reg.FBK_SSICFG_ERREN ↑n) = false ∨ r % 2 = 0) ∧ (BitVec.toNat (v.reg (Reg.FBK_SSISTEP ↑n)) = 0 ∨ ∀ (f :
      Nat × Word), (v.port n).frames.head? = some f → (ssiDelta (v.ssiWidth n) (v.ssiValue n r) (BitVec.toNat
      f.snd)).natAbs ≤ BitVec.toNat (v.reg (Reg.FBK_SSISTEP ↑n)))) ∧
    (∃ (n : Fin 4) (s : State), s.backup = false ∧ s.supOn n = true) ∧
    (∃ (n : Fin 4) (s : State), s.backup = false ∧ (s.fbMode n = 1 ∨ s.fbMode n = 2 ∨ s.fbMode n = 4)) ∧
    (∃ (s : State), s.backup = false) ∧
    (∃ (t : Nat) (n : Fin 4) (s : State) (a : Nat), s.backup = false ∧ (s.axis n).st = AxState.run ∧ s.bit
      (Reg.FBK_OBSCFG_ACTIVE ↑n) = true ∧ s.bit (Reg.FBK_OBSCFG_LOST ↑n) = false ∧ (s.port n).obsAbove = some a ∧ a +
      40000 * s.get (Reg.FBK_OBSCFG_TIME ↑n) ≤ t) ∧
    (∃ (t : Nat) (n : Fin 4) (s : State) (r : Nat), s.backup = false ∧ (s.port n).obsHold = some r ∧ r + 200 *
      Config.ms ≤ t) :=
  ⟨⟨1, (up.set (Reg.FBK_MODE_MODE 1) 3), by decide +kernel⟩,
   ⟨1, (up.set (Reg.FBK_MODE_MODE 1) 3).set (Reg.FBK_STATUS_LOCK 1) 1, by decide +kernel⟩,
   ⟨1, (up.set (Reg.FBK_MODE_MODE 1) 3), 4095, by decide +kernel⟩,
   ⟨7, 1, (up.sets [(Reg.FBK_MODE_MODE 1, 4), (Reg.FBK_SSICFG_BITS 1, 12)]).updPort 1 fun p => { p with
     ssiStart := some 3 }, 5, false, _, by decide +kernel, by decide +kernel, rfl, by decide +kernel⟩,
   ⟨7, 1, ((up.sets [(Reg.FBK_MODE_MODE 1, 4), (Reg.FBK_SSICFG_BITS 1, 12)]).setReg (Reg.FBK_SSISTEP 1) 4).updPort 1
     fun p => { p with ssiStart := some 3, frames := [(1, 0)] }, 5, _, _, by decide +kernel, by decide +kernel, rfl,
     by decide +kernel, rfl, by decide +kernel⟩,
   ⟨7, 1, ((up.sets [(Reg.FBK_MODE_MODE 1, 4), (Reg.FBK_SSICFG_BITS 1, 12)]).setReg (Reg.FBK_SSISTEP 1) 5).updPort 1
     fun p => { p with ssiStart := some 3, frames := [(1, 0)] }, 5, _, by decide +kernel, by decide +kernel, rfl,
     by decide +kernel, .inr fun f hf => by obtain rfl := Option.some.inj hf; decide +kernel⟩,
   ⟨1, (up.set (Reg.FBK_MODE_MODE 1) 1).set (Reg.FBK_MODE_SUPEN 1) 1, by decide +kernel⟩,
   ⟨1, (up.set (Reg.FBK_MODE_MODE 1) 4), by decide +kernel⟩,
   ⟨(up.set (Reg.FBK_MODE_MODE 1) 1).set (Reg.FBK_MODE_SUPEN 1) 1, by decide +kernel⟩,
   ⟨40000 * up.get (Reg.FBK_OBSCFG_TIME 1), 1, ((up.set (Reg.FBK_OBSCFG_ACTIVE 1) 1).updAxis 1 fun a => { a with
     st := .run }).updPort 1 fun p => { p with obsAbove := some 0 }, 0, by decide +kernel, by decide +kernel,
       by decide +kernel, by decide +kernel, rfl, by decide +kernel⟩,
   ⟨200 * Config.ms + 7, 1, up.updPort 1 fun p => { p with obsHold := some 7 }, _, by decide +kernel, rfl,
     by decide +kernel⟩⟩

theorem wit_GateRows :
    (∃ (t : Nat) (g : Fin 26) (s : State), let u := (s.upto t); let v := (u.drive (32 * t)); v.desatArmed t g = true)
      ∧
    (∃ (t : Nat) (g : Fin 26) (s : State), let u := (s.upto t); let v := (u.drive (32 * t)); v.desatArmed t g =
      false) ∧
    (∃ (t : Nat) (g : Fin 26) (s : State) (x : State), let u := (s.upto t); let v := ((u.updHolds g fun h ↦ { h with
      desat := true }).set (Reg.GATE_STAT_DESAT ↑g) 1); (partner g = none ∧ x = v ∨ ∃ p, partner g = some p ∧ x =
        ((v.updHolds p fun h ↦ { h with partner := true }).set (Reg.GATE_STAT_PFORCE ↑p) 1).gateBits p) ∧ g ≠ gBrk) ∧
    (∃ (t : Nat) (g : Fin 26) (s : State) (x : State), let u := (s.upto t); let v := ((u.updHolds g fun h ↦ { h with
      desat := true }).set (Reg.GATE_STAT_DESAT ↑g) 1); (partner g = none ∧ x = v ∨ ∃ p, partner g = some p ∧ x =
        ((v.updHolds p fun h ↦ { h with partner := true }).set (Reg.GATE_STAT_PFORCE ↑p) 1).gateBits p) ∧ g = gBrk) ∧
    (∃ (g : Fin 26) (s : State), s.bit (Reg.GATE_STAT_SOFT ↑g) = true) ∧
    (∃ (t : Nat) (g : Fin 26) (s : State) (vp : Bool) (r : RailIn), let u := (s.upto t); let v := (u.takeRails g r);
      (s.gate g).seenOk = true ∧ (if vp = true then vpLow (s.uvCodes g).fst r.vp else vnLow (s.uvCodes g).snd r.vn) =
      true ∧ v.bootFed g = false ∧ v.bit (if vp = true then Reg.GATE_STAT_VPUV ↑g else Reg.GATE_STAT_VNUV ↑g) =
      false) ∧
    (∃ (t : Nat) (g : Fin 26) (s : State), let u := (s.upto t); s.bootFed g = true ∧ u.chOn t g = true) ∧
    (∃ (t : Nat) (g : Fin 26) (s : State) (r : RailIn), let u := (s.upto t); let v := (u.takeRails g r); (v.gate
      g).en = true ∧ (v.gate g).seenOk = false ∧ (v.gate g).enAt + 5 * Config.ms ≤ t) ∧
    (∃ (g : Fin 26) (s : State), (s.gate g).en = true) :=
  ⟨⟨1000, 22, (up.set (Reg.PWM_STATUS_OUT 3) 3).updLeg 11 fun g => { g with forceHi := true }, by decide +kernel⟩,
   ⟨7, 25, up, by decide +kernel⟩,
   ⟨7, 23, up, _, .inr ⟨22, by decide +kernel, rfl⟩, by decide +kernel⟩,
   ⟨7, 24, up, _, .inl ⟨by decide +kernel, rfl⟩, by decide +kernel⟩,
   ⟨25, up.set (Reg.GATE_STAT_SOFT 25) 1, by decide +kernel⟩,
   ⟨7, 23, up.updGate 23 fun x => { x with en := true, seenOk := true }, false, { vp := 0, vn := 0 },
     by decide +kernel⟩,
   ⟨7, 22, ((up.set (Reg.PWM_STATUS_OUT 3) 3).updLeg 11 fun g => { g with forceHi := true }).set (Reg.GATE_CFG_BOOT
     22) 1, by decide +kernel⟩,
   ⟨5 * Config.ms, 23, up.updGate 23 fun x => { x with en := true }, { vp := 0, vn := 0 }, by decide +kernel⟩,
   ⟨23, up.updGate 23 fun x => { x with en := true }, by decide +kernel⟩⟩

theorem wit_RetryAndPlateauRows :
    (∃ (k : Fin 24) (g : Fin 26), g.val = k.val) ∧
    (∃ (t : Nat) (k : Fin 24) (g : Fin 26) (s : State) (frames : Bool) (f : FName) (d : Nat), g.val = k.val ∧ (s.gate
      g).due[retrySlot f] = some d ∧ d ≤ t ∧ s.gateGone g frames f = true) ∧
    (∃ (t : Nat) (k : Fin 24) (g : Fin 26) (s : State) (frames : Bool) (f : FName) (d : Nat), g.val = k.val ∧ (s.gate
      g).due[retrySlot f] = some d ∧ d ≤ t ∧ s.gateGone g frames f = false) ∧
    (∃ (k : Fin 24) (g : Fin 26) (s : State) (l : Fin 12) (tp : Option Nat), g.val = k.val ∧ legOfGate g = some l ∧
      s.bit (Reg.GATE_CFG_MODE ↑g) = true ∧ s.outMode (s.axisOfLeg l) = OutMode.pwm ∧ s.bit (Reg.GATE_STAT_SOFT ↑g) =
      false ∧ tp = none) ∧
    (∃ (t : Nat) (k : Fin 24) (g : Fin 26) (s : State) (l : Fin 12) (on : Bool) (tp : Option Nat) (p : Nat), let u :=
      (s.upto t); g.val = k.val ∧ legOfGate g = some l ∧ s.bit (Reg.GATE_CFG_MODE ↑g) = true ∧ s.outMode (s.axisOfLeg
      l) = OutMode.pwm ∧ s.bit (Reg.GATE_STAT_SOFT ↑g) = false ∧ let v := (u.gateReport t (↑g) (if on = true then 0
      else 1) (Option.map (Nat.min 1023) tp) (some (s.get (if on = true then Reg.GATE_STEP_SRC ↑g else
      Reg.GATE_STEP_SNK ↑g)))); tp = some p ∧ let lo := (v.get (if on = true then Reg.GATE_ADAPT_SRCMIN ↑g else
      Reg.GATE_ADAPT_SNKMIN ↑g)); let hi := (v.get (if on = true then Reg.GATE_ADAPT_SRCMAX ↑g else
      Reg.GATE_ADAPT_SNKMAX ↑g)); let tgt := (v.get (if on = true then Reg.GATE_TGT_TON ↑g else Reg.GATE_TGT_TOFF
      ↑g)); let step := (v.get (if on = true then Reg.GATE_STEP_SRC ↑g else Reg.GATE_STEP_SNK ↑g)); let lim :=
      (atLimit (min 1023 p) tgt step lo hi); let m := (if on = true then limitCount (v.gate g).limOn (v.gate g).upOn
      lim else limitCount (v.gate g).limOff (v.gate g).upOff lim); m ≠ 1024) ∧
    (∃ (t : Nat) (k : Fin 24) (g : Fin 26) (s : State) (l : Fin 12) (on : Bool) (tp : Option Nat) (p : Nat), let u :=
      (s.upto t); g.val = k.val ∧ legOfGate g = some l ∧ s.bit (Reg.GATE_CFG_MODE ↑g) = true ∧ s.outMode (s.axisOfLeg
      l) = OutMode.pwm ∧ s.bit (Reg.GATE_STAT_SOFT ↑g) = false ∧ let v := (u.gateReport t (↑g) (if on = true then 0
      else 1) (Option.map (Nat.min 1023) tp) (some (s.get (if on = true then Reg.GATE_STEP_SRC ↑g else
      Reg.GATE_STEP_SNK ↑g)))); tp = some p ∧ let lo := (v.get (if on = true then Reg.GATE_ADAPT_SRCMIN ↑g else
      Reg.GATE_ADAPT_SNKMIN ↑g)); let hi := (v.get (if on = true then Reg.GATE_ADAPT_SRCMAX ↑g else
      Reg.GATE_ADAPT_SNKMAX ↑g)); let tgt := (v.get (if on = true then Reg.GATE_TGT_TON ↑g else Reg.GATE_TGT_TOFF
      ↑g)); let step := (v.get (if on = true then Reg.GATE_STEP_SRC ↑g else Reg.GATE_STEP_SNK ↑g)); let lim :=
      (atLimit (min 1023 p) tgt step lo hi); let m := (if on = true then limitCount (v.gate g).limOn (v.gate g).upOn
      lim else limitCount (v.gate g).limOff (v.gate g).upOff lim); m = 1024) :=
  ⟨⟨23, 23, by decide +kernel⟩,
   ⟨7, 23, 23, up.updGate 23 fun x => { x with due := Vector.replicate 5 (some 7) }, true, .gateLink, _,
     by decide +kernel, rfl, by decide +kernel⟩,
   ⟨7, 23, 23, up.updGate 23 fun x => { x with due := Vector.replicate 5 (some 7) }, false, .gateLink, _,
     by decide +kernel, rfl, by decide +kernel⟩,
   ⟨23, 23, (up.set (Reg.GATE_CFG_MODE 23) 1).set (Reg.PWM_STATUS_OUT 3) 1, 11, none, by decide +kernel⟩,
   ⟨7, 23, 23, ((up.set (Reg.GATE_CFG_MODE 23) 1).set (Reg.PWM_STATUS_OUT 3) 1).sets [(Reg.GATE_STEP_SRC 23, 9),
     (Reg.GATE_ADAPT_SRCMAX 23, 9), (Reg.GATE_ADAPT_SRCMIN 23, 9), (Reg.GATE_TGT_TON 23, 100)], 11, true, some 0, 0,
     by decide +kernel⟩,
   ⟨7, 23, 23, (((up.set (Reg.GATE_CFG_MODE 23) 1).set (Reg.PWM_STATUS_OUT 3) 1).sets [(Reg.GATE_STEP_SRC 23, 9),
     (Reg.GATE_ADAPT_SRCMAX 23, 9), (Reg.GATE_ADAPT_SRCMIN 23, 9), (Reg.GATE_TGT_TON 23, 100)]).updGate 23 fun x =>
     { x with limOn := 1023, upOn := true }, 11, true, some 1023, 1023, by decide +kernel⟩⟩

theorem wit_BrakeDischargeAndInputRows :
    (∃ (t : Nat) (s : State) (c : Nat), s.brkOn = true ∧ s.bw.brkConf = some c ∧ c ≤ t ∧ s.bw.brkV < s.volts + s.get
      Reg.BW_BRKCFG_DV) ∧
    (∃ (t : Nat) (s : State) (c : Nat), s.brkOn = true ∧ s.bw.brkConf = some c ∧ c ≤ t ∧ s.volts + s.get
      Reg.BW_BRKCFG_DV ≤ s.bw.brkV) ∧
    (∃ (s : State), s.offUp gDsc = true) ∧
    (∃ (t : Nat) (s : State), let u := (s.upto t); s.offUp gBrk = true ∧ let v := (u.setB (Reg.GATE_STAT_OFFLOW
      ↑gBrk) true); v.bit Reg.BW_BRKCFG_EN = true) ∧
    (∃ (t : Nat) (s : State), let u := (s.upto t); s.offUp gBrk = true ∧ let v := (u.setB (Reg.GATE_STAT_OFFLOW
      ↑gBrk) true); v.bit Reg.BW_BRKCFG_EN = false) ∧
    (∃ (s : State), s.offUp gBrk = true) ∧
    (∃ (s : State), s.triggered = true ∧ s.bw.dscDone = false ∧ s.dscOn = false ∧ s.bw.dscInh = false ∧ (s.gate
      gDsc).held = false) ∧
    (∃ (t : Nat) (s : State) (a : Nat), s.triggered = true ∧ s.bw.dscDone = false ∧ s.dscOn = false ∧ s.bw.dscInh =
      false ∧ s.bw.trgAt = some a ∧ a + Config.ms * s.get Reg.BW_DSCCFG_WAIT ≤ t) ∧
    (∃ (t : Nat) (s : State), let u := (s.upto t); let v := (u.sets [(Reg.BW_GTRIP_LEVEL, 0), (Reg.BW_GTRIP_SEEN,
      1)]); v.bit Reg.BW_GTRIP_EN = true ∧ v.bit Reg.BW_GTRIP_DRIVE = false) ∧
    (∃ (t : Nat) (s : State), let u := (s.upto t); let v := (u.sets [(Reg.BW_GTRIP_LEVEL, 0), (Reg.BW_GTRIP_SEEN,
      1)]); (v.bit Reg.BW_GTRIP_EN = false ∨ v.bit Reg.BW_GTRIP_DRIVE = true)) ∧
    (∃ (t : Nat) (s : State), s.bw.gt5 = false ∧ s.bw.gtOv3 = false ∧ s.bw.gtTrip = 0 ∧ s.bw.gtAt + 4000 ≤ t) :=
  ⟨⟨7, (up.sets [(Reg.BW_STATUS_BRKON, 1), (Reg.BW_VHV_VOLTS, 400), (Reg.BW_BRKCFG_DV, 10)]).updBw fun b => { b with
    brkConf := some 7, brkV := 409 }, _, by decide +kernel, rfl, by decide +kernel⟩,
   ⟨7, (up.sets [(Reg.BW_STATUS_BRKON, 1), (Reg.BW_VHV_VOLTS, 400), (Reg.BW_BRKCFG_DV, 10)]).updBw fun b => { b with
     brkConf := some 7, brkV := 410 }, _, by decide +kernel, rfl, by decide +kernel⟩,
   ⟨up.sets [(Reg.GATE_STAT_RAILOK gDsc, 1), (Reg.BW_BRKCFG_EN, 1)], by decide +kernel⟩,
   ⟨7, up.sets [(Reg.GATE_STAT_RAILOK gBrk, 1), (Reg.BW_BRKCFG_EN, 1)], by decide +kernel⟩,
   ⟨7, up.sets [(Reg.GATE_STAT_RAILOK gBrk, 1), (Reg.BW_BRKCFG_EN, 0)], by decide +kernel⟩,
   ⟨up.sets [(Reg.GATE_STAT_RAILOK gBrk, 1), (Reg.BW_BRKCFG_EN, 1)], by decide +kernel⟩,
   ⟨up.updBw fun b => { b with trgCmd := true, trgAt := some 0 }, by decide +kernel⟩,
   ⟨Config.ms * up.get Reg.BW_DSCCFG_WAIT, up.updBw fun b => { b with trgCmd := true, trgAt := some 0 }, _,
     by decide +kernel, by decide +kernel, by decide +kernel, by decide +kernel, rfl, by decide +kernel⟩,
   ⟨7, up.set Reg.BW_GTRIP_EN 1, by decide +kernel⟩,
   ⟨7, up.set Reg.BW_GTRIP_EN 0, by decide +kernel⟩,
   ⟨4001, up.updBw fun b => { b with gtAt := 1 }, by decide +kernel⟩⟩

theorem wit_ThermalAndFaultRows :
    (∃ (t : Nat) (s : State) (die : Bool), let u := (s.upto t); let v := (u.sets [(if die = true then
      Reg.BW_THSTAT_DIE else Reg.BW_THSTAT_MOD, 1), (Reg.BW_THSTAT_COOL, 0)]); let name := (v.tripName t); v.isActive
      name 4 = false) ∧
    (∃ (t : Nat) (s : State) (die : Bool), let u := (s.upto t); let v := (u.sets [(if die = true then
      Reg.BW_THSTAT_DIE else Reg.BW_THSTAT_MOD, 1), (Reg.BW_THSTAT_COOL, 0)]); let name := (v.tripName t); v.isActive
      name 4 = true) ∧
    (∃ (t : Nat) (s : State), let u := (s.upto t); let v := (((u.sets [(Reg.BW_THSTAT_COOL, 1), (Reg.BW_THSTAT_DIE,
      0), (Reg.BW_THSTAT_MOD, 0)]).causeGone FName.thShutdown 4 0).causeGone FName.thLatched 4 0); v.isActive
      FName.thShutdown 4 = true ∧ v.bit Reg.BW_THCFG_AUTORST = true) ∧
    (∃ (t : Nat) (s : State), let u := (s.upto t); let v := (((u.sets [(Reg.BW_THSTAT_COOL, 1), (Reg.BW_THSTAT_DIE,
      0), (Reg.BW_THSTAT_MOD, 0)]).causeGone FName.thShutdown 4 0).causeGone FName.thLatched 4 0); (v.isActive
      FName.thShutdown 4 = false ∨ v.bit Reg.BW_THCFG_AUTORST = false)) ∧
    (∃ (f : FaultIn) (c : Fin 4), retryClass f.name = some c ∧ 16 ≤ f.src ∧ f.src ≤ 41) ∧
    (∃ (f : FaultIn) (c : Fin 4), retryClass f.name = some c ∧ (f.src < 16 ∨ 41 < f.src)) ∧
    (∃ (f : FaultIn), retryClass f.name = none ∧ f.name ≠ FName.lkEccCorr) ∧
    (∃ (f : FaultIn), f.name = FName.lkEccCorr) :=
  ⟨⟨7, up, true, by decide +kernel⟩,
   ⟨7, up.updFm fun m => { m with
     active :=
       [{ name := .thShutdown, src := 4, inst := 0, sev := 3, axes := 0, modScope := true, reac := .none, cause :=
       true, latched := false }] }, false, by decide +kernel⟩,
   ⟨7, (up.updFm fun m => { m with
     active :=
       [{ name := .thShutdown, src := 4, inst := 0, sev := 3, axes := 0, modScope := true, reac := .none, cause :=
       true, latched := false }] }).set Reg.BW_THCFG_AUTORST 1, by decide +kernel⟩,
   ⟨7, up, by decide +kernel⟩,
   ⟨{ name := .gateLink, src := 41, detail := 0, stamp := 0, sev := 2, inst := 0, axes := 0, epoch := 0 }, 3,
     by decide +kernel⟩,
   ⟨{ name := .gateLink, src := 42, detail := 0, stamp := 0, sev := 2, inst := 0, axes := 0, epoch := 0 }, 3,
     by decide +kernel⟩,
   ⟨{ name := .xcmd, src := 12, detail := 0, stamp := 0, sev := 2, inst := 0, axes := 0, epoch := 0 },
     by decide +kernel⟩,
   ⟨{ name := .lkEccCorr, src := 2, detail := 0, stamp := 0, sev := 2, inst := 0, axes := 0, epoch := 0 },
     by decide +kernel⟩⟩

theorem wit_TideRows :
    (∃ (s : State), s.bit Reg.TIDE_STATUS_REFACT = true ∧ s.following = false) ∧
    (∃ (t : Nat) (s : State) (k : Fin 28) (l : List (Nat × Nat)) (n : Nat), let u := (s.upto t); let v := (u.drive
      (32 * t)); ↑k = ↑v.dl.turn ∧ v.lineMean k l = some n ∧ v.dl.since + 4096 ≤ t ∧ v.scheduled k t (t + 16) =
      false) ∧
    (∃ (t : Nat) (s : State) (k : Fin 28) (l : List (Nat × Nat)), let u := (s.upto t); let v := (u.drive (32 * t));
      ↑k = ↑v.dl.turn ∧ v.lineMean k l = none ∧ v.dl.since + 65536 ≤ t) ∧
    (∃ (n : Nat), 34 ≤ n ∧ n ≤ 63) ∧
    (∃ (s : State) (k : Fin 28) (n : Nat), (n < 34 ∨ 63 < n) ∧ let r := (min 8 (s.dl.line[k].rejects + 1)); (r ≠ 8 ∨
      8 ≤ s.dl.line[k].rejects)) ∧
    (∃ (s : State) (k : Fin 28) (n : Nat), (n < 34 ∨ 63 < n) ∧ let r := (min 8 (s.dl.line[k].rejects + 1)); r = 8 ∧
      s.dl.line[k].rejects < 8) ∧
    (∃ (t : Nat), t % Config.ms = 0 ∧ 0 < t) ∧
    (∃ (t : Nat) (s : State), s.rail.boostAt + 10 * Config.ms ≤ t ∧ s.overGuard = false) ∧
    (∃ (s : State), s.bit Reg.TIDE_CTL_ASEN = true ∧ s.asd.started = true ∧ s.isMember = false) :=
  ⟨⟨up.set Reg.TIDE_STATUS_REFACT 1, by decide +kernel⟩,
   ⟨4096, { up with dl := { up.dl with turn := 27 } }, 27, List.replicate 16 (64, 2), 2, by decide +kernel⟩,
   ⟨65536, { up with dl := { up.dl with turn := 27 } }, 27, [], by decide +kernel⟩,
   ⟨63, by decide +kernel⟩,
   ⟨up, 27, 64, by decide +kernel⟩,
   ⟨{ up with dl := { up.dl with line := Vector.replicate 28 { up.dl.line[0] with rejects := 7 } } }, 27, 33,
     by decide +kernel⟩,
   ⟨Config.ms, by decide +kernel⟩,
   ⟨10 * Config.ms + 5, { up with rail := { up.rail with boostAt := 5 } }, by decide +kernel⟩,
   ⟨{ (up.set Reg.TIDE_CTL_ASEN 1) with asd := { started := true } }, by decide +kernel⟩⟩

theorem wit_LookoutRows :
    (∃ (t : Nat) (s : State) (r : CycleIn) (v : State), let u := (s.upto t); s.get Reg.LOOKOUT_STATUS_STATE = 1 ∧ let
      k := (t / 100000); (u.lk.inForce = none ∧ v = (u.readInputs t [] r).inputRegs.dropEdges ∨ ∃ y, u.lk.inForce =
      some y ∧ v = (u.lkFunctions t y.data r).sendFrames t k y.data)) ∧
    (∃ (t : Nat) (s : State), s.get Reg.LOOKOUT_STATUS_STATE = 1 ∧ s.lk.ran = true ∧ s.get Reg.LOOKOUT_DLTOKEN_TOKEN
      ≠ (t / 100000 + 65535) % 65536) ∧
    (∃ (t : Nat) (s : State), (s.get Reg.LOOKOUT_STATUS_STATE ≠ 1 ∨ s.lk.ran = false ∨ s.get
      Reg.LOOKOUT_DLTOKEN_TOKEN = (t / 100000 + 65535) % 65536)) ∧
    (∃ (t : Nat) (s : State) (o : Fin 2) (e : Nat), s.soOn o = true ∧ s.lk.soSince[o] = some e ∧ e + 10 * Config.sec
      ≤ t) ∧
    (∃ (t : Nat) (s : State) (o : Fin 2) (x : SafetySet), s.lk.inForce = some x ∧ let rb := (if o = 0 then s.bw.so0rb
      else s.bw.so1rb); rb ≠ s.soOn o ∧ ranFor s.lk.soDiff[o] t (beAt x.data 26 2) = true) ∧
    (∃ (t : Nat) (s : State) (o : Fin 2) (x : SafetySet), s.lk.inForce = some x ∧ let rb := (if o = 0 then s.bw.so0rb
      else s.bw.so1rb); (rb = s.soOn o ∨ ranFor s.lk.soDiff[o] t (beAt x.data 26 2) = false)) ∧
    (∃ (t : Nat) (s : State) (k : Fin 5), (k = 4 ∨ ∃ x, s.lk.inForce = some x ∧ beAt x.data (18 + ↑k) 1 ≠ 0) ∧
      s.lk.inForce.isSome = true ∧ s.inDemand k = false ∧ s.lk.tested[k] + 86400 * Config.sec ≤ t) :=
  ⟨⟨100000, withSet (up.set Reg.LOOKOUT_STATUS_STATE 1),
    { sia := 0, sib := 0, so0rb := false, so1rb := false, busy := 0 }, _, by decide +kernel, .inr ⟨setOf [], rfl,
    rfl⟩⟩,
   ⟨100000 * 65536, { (up.set Reg.LOOKOUT_STATUS_STATE 1) with lk := { up.lk with ran := true } }, by decide +kernel⟩,
   ⟨100000 * 65536, { (up.set Reg.LOOKOUT_STATUS_STATE 1).set Reg.LOOKOUT_DLTOKEN_TOKEN 65535 with
     lk := { up.lk with ran := true } }, by decide +kernel⟩,
   ⟨10 * Config.sec, { withSet up with lk := { (withSet up).lk with soSince := Vector.replicate 2 (some 0) } }, 0, 0,
     by decide +kernel, rfl, by decide +kernel⟩,
   ⟨Config.sec, { withSet up with lk := { (withSet up).lk with soDiff := Vector.replicate 2 (some 0) } }, 0, setOf
     [], rfl, by decide +kernel⟩,
   ⟨7, withSet up, 0, setOf [], rfl, .inr (by decide +kernel)⟩,
   ⟨86400 * Config.sec, { withSet up with lk := { (withSet up).lk with sto := { a := true, b := true } } }, 4, .inl
     rfl, by decide +kernel⟩⟩

theorem wit_LookoutFrameRows :
    (∃ (s : State) (x : SafetySet) (path : Fin 8) (b : List Byte), s.lk.inForce = some x ∧ let d := (x.data); connOf
      d (↑path) (beAt b 0 4) = none) ∧
    (∃ (j : Fin 8) (s : State) (x : SafetySet) (path : Fin 8) (b : List Byte), s.lk.inForce = some x ∧ let d :=
      (x.data); connOf d (↑path) (beAt b 0 4) = some j ∧ readFrame b = none) ∧
    (∃ (t : Nat) (j : Fin 8) (s : State) (x : SafetySet) (path : Fin 8) (b : List Byte) (f : LkFrameIn) (e : Nat),
      let u := (s.upto t); s.lk.inForce = some x ∧ let d := (x.data); let v := (u.expireHolds t d j); connOf d
      (↑path) (beAt b 0 4) = some j ∧ readFrame b = some f ∧ isDual d j = false ∧ f.len = cnAt d j 28 1 ∧ v.ageOk d j
      (v.frameAge d j t f.stamp) = true ∧ ((v.conn j).ext.orElse fun x ↦ (v.conn j).cand).bind (passes d j f) = some
      e) ∧
    (∃ (t : Nat) (j : Fin 8) (s : State) (x : SafetySet) (path : Fin 8) (b : List Byte) (f : LkFrameIn) (e : Nat),
      let u := (s.upto t); s.lk.inForce = some x ∧ let d := (x.data); let v := (u.expireHolds t d j); connOf d
      (↑path) (beAt b 0 4) = some j ∧ readFrame b = some f ∧ isDual d j = true ∧ repeats d j f (v.conn j).decided =
      false ∧ f.len = cnAt d j 28 1 ∧ v.ageOk d j (v.frameAge d j t f.stamp) = true ∧ ((v.conn j).ext.orElse fun x ↦
      (v.conn j).cand).bind (passes d j f) = some e) ∧
    (∃ (t : Nat) (j : Fin 8) (s : State) (x : SafetySet) (path : Fin 8) (b : List Byte) (f : LkFrameIn), let u :=
      (s.upto t); s.lk.inForce = some x ∧ let d := (x.data); let v := (u.expireHolds t d j); connOf d (↑path) (beAt b
      0 4) = some j ∧ readFrame b = some f ∧ isDual d j = false ∧ (f.len ≠ cnAt d j 28 1 ∨ v.ageOk d j (v.frameAge d
      j t f.stamp) = false)) ∧
    (∃ (t : Nat) (j : Fin 8) (s : State) (x : SafetySet) (path : Fin 8) (b : List Byte) (f : LkFrameIn), let u :=
      (s.upto t); s.lk.inForce = some x ∧ let d := (x.data); let v := (u.expireHolds t d j); connOf d (↑path) (beAt b
      0 4) = some j ∧ readFrame b = some f ∧ isDual d j = false ∧ f.len = cnAt d j 28 1 ∧ v.ageOk d j (v.frameAge d j
      t f.stamp) = true ∧ ((v.conn j).ext.orElse fun x ↦ (v.conn j).cand).bind (passes d j f) = none ∧ (v.conn
      j).ext.isSome = true) ∧
    (∃ (t : Nat) (j : Fin 8) (s : State) (x : SafetySet) (path : Fin 8) (b : List Byte) (f : LkFrameIn) (h : Nat),
      let u := (s.upto t); s.lk.inForce = some x ∧ let d := (x.data); let v := (u.expireHolds t d j); connOf d
      (↑path) (beAt b 0 4) = some j ∧ readFrame b = some f ∧ isDual d j = false ∧ f.len = cnAt d j 28 1 ∧ v.ageOk d j
      (v.frameAge d j t f.stamp) = true ∧ ((v.conn j).ext.orElse fun x ↦ (v.conn j).cand).bind (passes d j f) = none
      ∧ (v.conn j).ext = none ∧ highHalf (cnAt d j 12 4) f.body f.crc = some h) ∧
    (∃ (s : State) (x : SafetySet), s.lk.inForce = some x) ∧
    (∃ (t : Nat) (j : Fin 8) (s : State) (x : SafetySet) (h : LkHold), s.lk.inForce = some x ∧ let d := (x.data);
      (s.conn j).hold = [h] ∧ t < h.at_ + cnAt d j 24 2 * Config.us) ∧
    (∃ (t : Nat) (j : Fin 8) (s : State) (x : SafetySet) (h : LkHold), s.lk.inForce = some x ∧ let d := (x.data);
      (s.conn j).hold = [h] ∧ h.at_ + cnAt d j 24 2 * Config.us ≤ t ∧ cnAt d j 5 1 = 2 ∧ (s.conn j).single ≤ cnAt d j
      26 1) ∧
    (∃ (t : Nat) (j : Fin 8) (s : State) (x : SafetySet) (h : LkHold), s.lk.inForce = some x ∧ let d := (x.data);
      (s.conn j).hold = [h] ∧ h.at_ + cnAt d j 24 2 * Config.us ≤ t ∧ (cnAt d j 5 1 ≠ 2 ∨ cnAt d j 26 1 < (s.conn
      j).single)) ∧
    (∃ (t : Nat) (j : Fin 8) (s : State) (x : SafetySet), let u := (s.upto t); s.lk.inForce = some x ∧ let d :=
      (x.data); (connsOf d).contains j = true ∧ receives d j = true ∧ (s.conn j).lost = false ∧ u.connLate t d j =
      true) :=
  ⟨⟨linked 0 {}, setOf [connRec 0 0 4], 1, lkFrame 1 0, rfl, by decide +kernel⟩,
   ⟨0, linked 0 {}, setOf [connRec 0 0 4], 0, lkBody 1, rfl, by decide +kernel⟩,
   ⟨7, 0, linked 0 { ext := some 0 }, setOf [connRec 0 0 4], 0, lkFrame 1 0, lkRead 1 0, 1, rfl, by decide +kernel⟩,
   ⟨7, 0, linked 1 { ext := some 0 }, setOf [connRec 0 1 4], 0, lkFrame 1 0, lkRead 1 0, 1, rfl, by decide +kernel⟩,
   ⟨40001, 0, linked 0 { ext := some 0 }, setOf [connRec 0 0 4], 0, lkFrame 1 0, lkRead 1 0, rfl, by decide +kernel⟩,
   ⟨7, 0, linked 0 { ext := some 5 }, setOf [connRec 0 0 4], 0, lkFrame 1 0, lkRead 1 0, rfl, by decide +kernel⟩,
   ⟨7, 0, linked 0 {}, setOf [connRec 0 0 4], 0, lkFrame 1 3, lkRead 1 3, 3, rfl, by decide +kernel⟩,
   ⟨withSet up, setOf [], rfl⟩,
   ⟨19999, 0, linked 2 { hold := [{ ext := 1, path := 0, bytes := [], at_ := 0, age := 0 }], single := 1 }, setOf
     [connRec 0 2 4], _, rfl, rfl, by decide +kernel⟩,
   ⟨20000, 0, linked 2 { hold := [{ ext := 1, path := 0, bytes := [], at_ := 0, age := 0 }], single := 1 }, setOf
     [connRec 0 2 4], _, rfl, rfl, by decide +kernel⟩,
   ⟨20000, 0, linked 2 { hold := [{ ext := 1, path := 0, bytes := [], at_ := 0, age := 0 }], single := 2 }, setOf
     [connRec 0 2 4], _, rfl, rfl, by decide +kernel⟩,
   ⟨500 * Config.us + 1, 0, linked 0 { lastAt := some 0 }, setOf [connRec 0 0 4], rfl, by decide +kernel⟩⟩

theorem wit_EthernetRows :
    (∃ (s : State) (p : Fin 5) (f : EthFrame), s.bit (Reg.ETH_PCFG_EN ↑p) = true ∧ ethLen f f.tag.isSome ≤ 1522 ∧
      f.fcsOk = true ∧ f.etype = 34824 ∧ beAt f.payload 0 2 = 1) ∧
    (∃ (s : State) (p : Fin 5) (f : EthFrame), s.bit (Reg.ETH_PCFG_EN ↑p) = true ∧ ethLen f f.tag.isSome ≤ 1522 ∧
      f.fcsOk = true ∧ (f.etype ≠ 34824 ∨ beAt f.payload 0 2 ≠ 1)) ∧
    (∃ (s : State) (p : Fin 5) (f : EthFrame), s.bit (Reg.ETH_PCFG_EN ↑p) = true ∧ 1522 < ethLen f f.tag.isSome) ∧
    (∃ (s : State) (p : Fin 5) (f : EthFrame), s.bit (Reg.ETH_PCFG_EN ↑p) = true ∧ ethLen f f.tag.isSome ≤ 1522 ∧
      f.fcsOk = false) ∧
    (∃ (t : Nat) (s : State) (p : Fin 5) (q : Fin 8) (x : QFrame), let u := (s.upto t); s.eth.q[p][q].head? = some x
      ∧ Option.any (fun e ↦ s.bit (Reg.ETH_PCFG_GEN ↑p) && s.neverFits e q x.len) (extPort p) = false ∧ s.portUp p =
      true ∧ u.mayStart u.tide p q = true ∧ (slots8.all fun k ↦ decide (k ≤ q) || !u.mayStart u.tide p k) = true ∧ p
      ≠ 4) ∧
    (∃ (t : Nat) (s : State) (p : Fin 5) (q : Fin 8) (x : QFrame), let u := (s.upto t); s.eth.q[p][q].head? = some x
      ∧ Option.any (fun e ↦ s.bit (Reg.ETH_PCFG_GEN ↑p) && s.neverFits e q x.len) (extPort p) = false ∧ s.portUp p =
      true ∧ u.mayStart u.tide p q = true ∧ (slots8.all fun k ↦ decide (k ≤ q) || !u.mayStart u.tide p k) = true ∧ p
      = 4) ∧
    (∃ (s : State) (p : Fin 5) (q : Fin 8) (x : QFrame), s.eth.q[p][q].head? = some x ∧ Option.any (fun e ↦ s.bit
      (Reg.ETH_PCFG_GEN ↑p) && s.neverFits e q x.len) (extPort p) = true) ∧
    (∃ (t : Nat) (s : State) (p : Fin 4) (k : Nat), let u := (s.upto t); s.eth.swapAt[p] = some k ∧ k ≤ u.tide) ∧
    (∃ (s : State) (p : Fin 4), s.bit (Reg.ETH_PSTAT_LINK ↑p) = true ∧ ↑p < 2) ∧
    (∃ (s : State) (p : Fin 4), s.bit (Reg.ETH_PSTAT_LINK ↑p) = true ∧ 2 ≤ ↑p) ∧
    (∃ (s : State) (p : Fin 4), s.bit (Reg.ETH_PCFG_EN ↑p) = true ∧ s.bit (Reg.ETH_PSTAT_LINK ↑p) = false) ∧
    (∃ (s : State) (p : Fin 4), s.asRole p = 1 ∧ s.bit (Reg.ETH_PSTAT_ASCAP ↑p) = true ∧ s.portUp (port5 p) = true) ∧
    (∃ (s : State) (p : Fin 4), (s.get Reg.ETH_ASCFG_PORTEN).testBit ↑p = true ∧ s.portUp (port5 p) = true) ∧
    (∃ (t : Nat) (s : State) (ns : Int), let u := (s.upto t); s.bit Reg.TIDE_CTL_ASEN = true ∧ s.isMember = false ∧
      s.bit Reg.ETH_ASCFG_GM = false ∧ (s.get Reg.ETH_ASCFG_PORTEN).testBit (s.get Reg.TIDE_CTL_ASPORT) = true ∧
      s.bit (Reg.ETH_PSTAT_ASCAP (s.get Reg.TIDE_CTL_ASPORT)) = true ∧ let v := (if u.asd.started = true then u else
      u.captureBase t ns); let err : Int := (ns - v.asBase - ↑(5 * t / 2)); err.natAbs ≤ 1000000) ∧
    (∃ (t : Nat) (s : State) (ns : Int), let u := (s.upto t); s.bit Reg.TIDE_CTL_ASEN = true ∧ s.isMember = false ∧
      s.bit Reg.ETH_ASCFG_GM = false ∧ (s.get Reg.ETH_ASCFG_PORTEN).testBit (s.get Reg.TIDE_CTL_ASPORT) = true ∧
      s.bit (Reg.ETH_PSTAT_ASCAP (s.get Reg.TIDE_CTL_ASPORT)) = true ∧ let v0 := (if u.asd.started = true then u else
      u.captureBase t ns); 1000000 < (ns - v0.asBase - ↑(5 * t / 2)).natAbs) :=
  ⟨⟨up.set (Reg.ETH_PCFG_EN 4) 1, 4, { eth 34824 0 with payload := [0, 1] ++ List.replicate 1502 0 },
    by decide +kernel⟩,
   ⟨up.set (Reg.ETH_PCFG_EN 4) 1, 4, eth 0x800 1504, by decide +kernel⟩,
   ⟨up.set (Reg.ETH_PCFG_EN 4) 1, 4, eth 0x800 1505, by decide +kernel⟩,
   ⟨up.set (Reg.ETH_PCFG_EN 4) 1, 4, eth 0x800 1504 false, by decide +kernel⟩,
   ⟨7, queues, 1, 7, _, rfl, by decide +kernel⟩,
   ⟨7, queues, 4, 7, _, rfl, by decide +kernel⟩,
   ⟨({ queues with
     eth := { queues.eth with oper := Vector.replicate 4 { entries := List.replicate 128 (0, 1000) } } }).set
       (Reg.ETH_PCFG_GEN 1) 1, 1, 7, _, rfl, by decide +kernel⟩,
   ⟨7, { up with eth := { up.eth with swapAt := Vector.replicate 4 (some 7) } }, 1, _, rfl, by decide +kernel⟩,
   ⟨up.set (Reg.ETH_PSTAT_LINK 0) 1, 0, by decide +kernel⟩,
   ⟨up.set (Reg.ETH_PSTAT_LINK 2) 1, 2, by decide +kernel⟩,
   ⟨up.set (Reg.ETH_PCFG_EN 1) 1, 1, by decide +kernel⟩,
   ⟨queues.sets [(Reg.ETH_ASCFG_PORTEN, 2), (Reg.ETH_ASCFG_GM, 1), (Reg.ETH_PSTAT_ASCAP 1, 1)], 1, by decide +kernel⟩,
   ⟨queues.set Reg.ETH_ASCFG_PORTEN 2, 1, by decide +kernel⟩,
   ⟨7, { up.sets [(Reg.TIDE_CTL_ASEN, 1), (Reg.ETH_PSTAT_ASCAP 0, 1), (Reg.ETH_ASCFG_PORTEN, 1)] with
     asd := { started := true } }, 1000017, by decide +kernel⟩,
   ⟨7, { up.sets [(Reg.TIDE_CTL_ASEN, 1), (Reg.ETH_PSTAT_ASCAP 0, 1), (Reg.ETH_ASCFG_PORTEN, 1)] with
     asd := { started := true } }, 1000018, by decide +kernel⟩⟩

theorem wit_CanRows :
    (∃ (c : Fin 4) (s : State) (f : CanFrame), s.bit (Reg.CAN_CTL_EN ↑c) = true ∧ s.get (Reg.CAN_STATUS_STATE ↑c) ≠ 2
      ∧ s.get (Reg.CAN_CTL_MODE ↑c) ≠ 2 ∧ (f.fdf = false ∨ s.bit (Reg.CAN_CTL_FDEN ↑c) = true)) ∧
    (∃ (c : Fin 4) (s : State) (f : CanFrame), s.bit (Reg.CAN_CTL_EN ↑c) = true ∧ s.get (Reg.CAN_STATUS_STATE ↑c) ≠ 2
      ∧ s.get (Reg.CAN_CTL_MODE ↑c) ≠ 2 ∧ f.fdf = true ∧ s.bit (Reg.CAN_CTL_FDEN ↑c) = false) ∧
    (∃ (c : Fin 4) (s : State) (b : Fin 16), s.bit (Reg.CAN_CTL_EN ↑c) = true ∧ s.get (Reg.CAN_STATUS_STATE ↑c) ≠ 2 ∧
      s.get (Reg.CAN_CTL_MODE ↑c) ≠ 1 ∧ (s.canCtl c).cur = none ∧ s.txPick c = some b) ∧
    (∃ (c : Fin 4) (s : State) (b : Fin 16), (s.canCtl c).cur = some b) ∧
    (∃ (c : Fin 4) (s : State) (b : Fin 16), (s.canCtl c).cur = some b ∧ (s.canCtl c).abort = true) ∧
    (∃ (c : Fin 4) (s : State) (b : Fin 16), (s.canCtl c).cur = some b ∧ (s.canCtl c).abort = false) ∧
    (∃ (c : Fin 4) (s : State), s.bit (Reg.CAN_CTL_EN ↑c) = true ∧ s.get (Reg.CAN_STATUS_STATE ↑c) ≠ 2) ∧
    (∃ (c : Fin 4) (s : State), s.get (Reg.CAN_STATUS_STATE ↑c) = 2) :=
  ⟨⟨1, up.set (Reg.CAN_CTL_EN 1) 1,
    { sof := 3, ide := false, id := 1, fdf := false, brs := false, rtr := false, esi := false, data := [] },
    by decide +kernel⟩,
   ⟨1, up.sets [(Reg.CAN_CTL_EN 1, 1), (Reg.CAN_CTL_FDEN 1, 0)],
     { sof := 3, ide := false, id := 1, fdf := true, brs := false, rtr := false, esi := false, data := [] },
     by decide +kernel⟩,
   ⟨1, up.sets [(Reg.CAN_CTL_EN 1, 1), (Reg.CAN_TXCTL_STATE 1 1, 1)], 1, by decide +kernel⟩,
   ⟨1, up.updCan 1 fun x => { x with cur := some 1 }, 1, rfl⟩,
   ⟨1, up.updCan 1 fun x => { x with cur := some 1, abort := true }, 1, rfl, by decide +kernel⟩,
   ⟨1, up.updCan 1 fun x => { x with cur := some 1 }, 1, rfl, by decide +kernel⟩,
   ⟨1, up.set (Reg.CAN_CTL_EN 1) 1, by decide +kernel⟩,
   ⟨1, up.set (Reg.CAN_STATUS_STATE 1) 2, by decide +kernel⟩⟩

theorem wit_CoreMemoryAndRecordRows :
    (∃ (t : Nat) (s : State) (o : Nat), let u := (s.upto t); s.bit (Reg.BERTH_STAT_FULL 8) = true ∧ s.flash = none ∧
      let d := (u.berthBytes 8); u.badFlash d = some o) ∧
    (∃ (t : Nat) (s : State), let u := (s.upto t); s.bit (Reg.BERTH_STAT_FULL 8) = true ∧ s.flash = none ∧ let d :=
      (u.berthBytes 8); u.badFlash d = none) ∧
    (∃ (s : State) (j : FlashJob), s.flash = some j ∧ j.program = true) ∧
    (∃ (s : State) (j : FlashJob), s.flash = some j ∧ j.program = false) ∧
    (∃ (t : Nat) (s : State) (a : Fin 3) (req : Nat), let u := (s.upto t); (u.holds a && Option.any req.testBit
      u.arb[a].owner) = true) ∧
    (∃ (t : Nat) (s : State) (a : Fin 3) (req : Nat), let u := (s.upto t); let act := (u.activeSlots a req); (u.holds
      a && Option.any req.testBit u.arb[a].owner) = false ∧ act.length < 2) ∧
    (∃ (t : Nat) (s : State) (a : Fin 3) (req : Nat) (w : Fin 8), let u := (s.upto t); let act := (u.activeSlots a
      req); 2 ≤ act.length ∧ (u.holds a && Option.any req.testBit u.arb[a].owner) = false ∧ let x := (u.arb[a]);
      drawWinner (u.tickets a) (lfsrStep x.lfsr) x.last act = some w) ∧
    (∃ (t : Nat) (s : State) (a : Fin 3) (i : Fin 8) (b : Nat), let u := (s.upto t); s.arb[a].off[i] = some b ∧ b ≤
      u.tide) ∧
    (∃ (s : State) (b : LogBlock) (r : List LogBlock), s.logb.queue = b :: r ∧ s.recording = true) ∧
    (∃ (t : Nat) (s : State), let u := (s.upto t); s.get Reg.LOGB_STAT_STATE = 2 ∧ u.trigT + s.logb.post * 400000 ≤
      u.tide) ∧
    (∃ (t : Nat) (s : State), let u := (s.upto t); u.tide % (u.get Reg.PERF_BWWIN_US * 400) = 0) :=
  ⟨⟨7, up.set (Reg.BERTH_STAT_FULL 8) 1, 0, by decide +kernel⟩,
   ⟨7, ((up.set (Reg.BERTH_STAT_FULL 8) 1).setReg (Reg.BERTH_MSG 8 0) 1).setReg (Reg.BERTH_MSG 8 6) 0x10000000,
     by decide +kernel⟩,
   ⟨{ up with flash := some { program := true, off := 0, src := 0, len := 256, done := 0 } }, _, rfl,
     by decide +kernel⟩,
   ⟨{ up with flash := some { program := false, off := 0, src := 0, len := 256, done := 0 } }, _, rfl,
     by decide +kernel⟩,
   ⟨7, { up.set Reg.ARB_MODE_HOLD 1 with arb := up.arb.set 1 { up.arb[1] with owner := some 0 } }, 1, 1,
     by decide +kernel⟩,
   ⟨7, up, 0, 1, by decide +kernel⟩,
   ⟨7, up.set Reg.ARB_MODE_HOLD 0, 2, 3, 1, by decide +kernel⟩,
   ⟨7, { up with arb := Vector.replicate 3 { off := Vector.replicate 8 (some 7) } }, 1, 7, _, rfl, by decide +kernel⟩,
   ⟨(up.sets [(Reg.LOGB_CTL_EN, 1), (Reg.LOGB_STAT_STATE, 1)]).updLogb fun l => { l with queue := [{ chan := 0 }] },
     _, _, rfl, by decide +kernel⟩,
   ⟨400000, (up.set Reg.LOGB_STAT_STATE 2).updLogb fun l => { l with trigAt := some 0, post := 1 },
     by decide +kernel⟩,
   ⟨up.get Reg.PERF_BWWIN_US * 400, up, by decide +kernel⟩⟩

theorem wit_PowerRows :
    (∃ (s : State), s.bit Reg.PWR_STATUS_ACVALID = true) ∧
    (∃ (t : Nat) (s : State), let u := (s.upto t); s.pwr.queue ≠ [] ∧ Option.all (fun a ↦ decide (a + 5 * Config.ms ≤
      u.tide)) s.pwr.slotAt = true) ∧
    (∃ (s : State), s.pwr.off = false ∧ s.bit Reg.PWR_STATUS_LOSS = false ∧ s.get Reg.PWR_STATUS_COND = 0) ∧
    (∃ (s : State) (st : Nat), s.pwr.lwDue = some st) ∧
    (∃ (t : Nat) (s : State), let u := (s.upto t); s.pwr.xDsc = true ∧ (s.dscOn = false ∨ u.xDscOver t = true)) ∧
    (∃ (s : State), s.bit Reg.PWR_STATUS_LOSS = true ∧ s.pwr.off = false ∧ s.get Reg.PWR_STATUS_COND ≠ 0) ∧
    (∃ (ch : Nat), 47 ≤ ch ∧ ch ≤ 53) ∧
    (∃ (s : State), s.pwr.up = true) ∧
    (∃ (s : State), s.pwr.resume = true ∧ s.bit Reg.PWR_STATUS_LOSS = false) ∧
    (∃ (s : State), s.bit Reg.PWR_STATUS_LOSS = true) :=
  ⟨⟨up.set Reg.PWR_STATUS_ACVALID 1, by decide +kernel⟩,
   ⟨5 * Config.ms, up.updPwr fun p => { p with queue := [25], slotAt := some 0 }, by decide +kernel⟩,
   ⟨up, by decide +kernel⟩,
   ⟨up.updPwr fun p => { p with lwDue := some 3 }, _, rfl⟩,
   ⟨7, up.updPwr fun p => { p with xDsc := true }, by decide +kernel⟩,
   ⟨up.sets [(Reg.PWR_STATUS_LOSS, 1), (Reg.PWR_STATUS_COND, 1)], by decide +kernel⟩,
   ⟨53, by decide +kernel⟩,
   ⟨up, by decide +kernel⟩,
   ⟨up.updPwr fun p => { p with resume := true }, by decide +kernel⟩,
   ⟨up.set Reg.PWR_STATUS_LOSS 1, by decide +kernel⟩⟩

theorem wit_MooringRows :
    (∃ (t : Nat) (p : Fin 2) (s : State) (peer : Fin 8) (pp : Fin 2) (serial : Nat) (pol : Nat) (trips : Nat), let u
      := (s.upto t); s.moorOn = true ∧ serial ≠ s.serialNat ∧ let v := (((u.sets [(Reg.MOOR_PSTAT_UP ↑p, 1),
      (Reg.MOOR_PSTAT_TRAIN ↑p, 0), (Reg.MOOR_PSTAT_PEER ↑p, ↑peer), (Reg.MOOR_PSTAT_PEERPORT ↑p, ↑pp),
      (Reg.MOOR_PSTAT_PEERVALID ↑p, 1), (Reg.MOOR_PSTAT_POLINV ↑p, pol), (Reg.MOOR_HOPDLY_DELAY ↑p, hopDelay
      trips)]).incWrap (Reg.MOOR_HOPDLY_CALS ↑p)).updMoor fun m ↦ { m with heard := m.heard.set p false }); peer ≠
      v.mid) ∧
    (∃ (t : Nat) (p : Fin 2) (s : State) (peer : Fin 8) (pp : Fin 2) (serial : Nat) (pol : Nat) (trips : Nat), let u
      := (s.upto t); s.moorOn = true ∧ serial ≠ s.serialNat ∧ let v := (((u.sets [(Reg.MOOR_PSTAT_UP ↑p, 1),
      (Reg.MOOR_PSTAT_TRAIN ↑p, 0), (Reg.MOOR_PSTAT_PEER ↑p, ↑peer), (Reg.MOOR_PSTAT_PEERPORT ↑p, ↑pp),
      (Reg.MOOR_PSTAT_PEERVALID ↑p, 1), (Reg.MOOR_PSTAT_POLINV ↑p, pol), (Reg.MOOR_HOPDLY_DELAY ↑p, hopDelay
      trips)]).incWrap (Reg.MOOR_HOPDLY_CALS ↑p)).updMoor fun m ↦ { m with heard := m.heard.set p false }); peer =
      v.mid) ∧
    (∃ (p : Fin 2) (s : State), s.moorOn = true ∧ s.bit (Reg.MOOR_PSTAT_UP ↑p) = true) ∧
    (∃ (p : Fin 2) (s : State), s.bit (Reg.MOOR_PSTAT_UP ↑p) = true) ∧
    (∃ (p : Fin 2) (s : State), s.isLead = true ∧ s.bit (Reg.MOOR_PSTAT_UP ↑p) = true) ∧
    (∃ (t : Nat) (p : Fin 2) (s : State) (beacon : Nat) (path : Nat) (fine : Fin 32), let u := (s.upto t); s.isMember
      = true ∧ s.bit (Reg.MOOR_PSTAT_UP ↑p) = true ∧ let sum := (path + s.get (Reg.MOOR_HOPDLY_DELAY ↑p)); let w :=
      ((u.updMoor fun m ↦ { m with heard := m.heard.set p true }).passBeacon p beacon sum); let own := (32 * w.tide +
      ↑fine); let err : Int := (↑(32 * beacon + sum) - ↑own); let v := (w.noteTideErr err); v.ownDup = true) ∧
    (∃ (t : Nat) (p : Fin 2) (s : State) (beacon : Nat) (path : Nat) (fine : Fin 32), let u := (s.upto t); s.isMember
      = true ∧ s.bit (Reg.MOOR_PSTAT_UP ↑p) = true ∧ let sum := (path + s.get (Reg.MOOR_HOPDLY_DELAY ↑p)); let w :=
      ((u.updMoor fun m ↦ { m with heard := m.heard.set p true }).passBeacon p beacon sum); let own := (32 * w.tide +
      ↑fine); let err : Int := (↑(32 * beacon + sum) - ↑own); let v := (w.noteTideErr err); v.ownDup = false ∧
      v.moor.joined = true) ∧
    (∃ (t : Nat) (p : Fin 2) (s : State) (beacon : Nat) (path : Nat) (fine : Fin 32), let u := (s.upto t); s.isMember
      = true ∧ s.bit (Reg.MOOR_PSTAT_UP ↑p) = true ∧ let sum := (path + s.get (Reg.MOOR_HOPDLY_DELAY ↑p)); let w :=
      ((u.updMoor fun m ↦ { m with heard := m.heard.set p true }).passBeacon p beacon sum); let own := (32 * w.tide +
      ↑fine); let err : Int := (↑(32 * beacon + sum) - ↑own); let v := (w.noteTideErr err); v.ownDup = false ∧
      v.moor.joined = false ∧ v.joinOk = true ∧ v.bit Reg.TIDE_STATUS_LOCK = true) ∧
    (∃ (t : Nat) (p : Fin 2) (s : State) (beacon : Nat) (path : Nat) (fine : Fin 32), let u := (s.upto t); s.isMember
      = true ∧ s.bit (Reg.MOOR_PSTAT_UP ↑p) = true ∧ let sum := (path + s.get (Reg.MOOR_HOPDLY_DELAY ↑p)); let w :=
      ((u.updMoor fun m ↦ { m with heard := m.heard.set p true }).passBeacon p beacon sum); let own := (32 * w.tide +
      ↑fine); let err : Int := (↑(32 * beacon + sum) - ↑own); let v := (w.noteTideErr err); v.moor.joined = false ∧
      (v.joinOk = false ∨ v.bit Reg.TIDE_STATUS_LOCK = false)) ∧
    (∃ (s : State) (own : Nat) (err : Int), let v := (s.moveCount (if err < 0 then own - 1 else if 0 < err then own +
      1 else own)); let good := (if err.natAbs ≤ 12 then v.moor.good + 1 else 0); let bad := (if 256 < 5 * err.natAbs
      then v.moor.bad + 1 else 0); let x := (v.updMoor fun m ↦ { m with good := good, bad := bad }); bad ≠ 3 ∧ 3 ≤
      good ∧ x.joinOk = true) ∧
    (∃ (s : State) (own : Nat) (err : Int), let v := (s.moveCount (if err < 0 then own - 1 else if 0 < err then own +
      1 else own)); let good := (if err.natAbs ≤ 12 then v.moor.good + 1 else 0); let bad := (if 256 < 5 * err.natAbs
      then v.moor.bad + 1 else 0); let x := (v.updMoor fun m ↦ { m with good := good, bad := bad }); bad ≠ 3 ∧ (good
      < 3 ∨ x.joinOk = false)) ∧
    (∃ (s : State) (own : Nat) (err : Int), let v := (s.moveCount (if err < 0 then own - 1 else if 0 < err then own +
      1 else own)); let good := (if err.natAbs ≤ 12 then v.moor.good + 1 else 0); let bad := (if 256 < 5 * err.natAbs
      then v.moor.bad + 1 else 0); let x := (v.updMoor fun m ↦ { m with good := good, bad := bad }); bad = 3 ∧ x.bit
      Reg.TIDE_STATUS_ALIGNED = true) ∧
    (∃ (s : State) (own : Nat) (err : Int), let v := (s.moveCount (if err < 0 then own - 1 else if 0 < err then own +
      1 else own)); let good := (if err.natAbs ≤ 12 then v.moor.good + 1 else 0); let bad := (if 256 < 5 * err.natAbs
      then v.moor.bad + 1 else 0); let x := (v.updMoor fun m ↦ { m with good := good, bad := bad }); bad = 3 ∧ x.bit
      Reg.TIDE_STATUS_ALIGNED = false) ∧
    (∃ (t : Nat) (p : Fin 2) (s : State) (l : List Nat), let u := (s.upto t); s.bit (Reg.MOOR_PSTAT_UP ↑p) = true ∧ l
      = u.tide :: List.filter (fun a ↦ decide (u.tide < a + Config.ms)) s.moor.retx[p] ∧ l.length ≠ 17) ∧
    (∃ (t : Nat) (p : Fin 2) (s : State) (l : List Nat), let u := (s.upto t); s.bit (Reg.MOOR_PSTAT_UP ↑p) = true ∧ l
      = u.tide :: List.filter (fun a ↦ decide (u.tide < a + Config.ms)) s.moor.retx[p] ∧ l.length = 17) :=
  ⟨⟨7, 1, { up.sets [(Reg.MOOR_CTL_EN, 1)] with mid := 1 }, 0, 1, 1, 0, 96, by decide +kernel⟩,
   ⟨7, 1, { up.sets [(Reg.MOOR_CTL_EN, 1)] with mid := 1 }, 1, 1, 1, 0, 96, by decide +kernel⟩,
   ⟨1, up.sets [(Reg.MOOR_CTL_EN, 1), (Reg.MOOR_PSTAT_UP 1, 1)], by decide +kernel⟩,
   ⟨1, up.sets [(Reg.MOOR_CTL_EN, 1), (Reg.MOOR_PSTAT_UP 1, 1)], by decide +kernel⟩,
   ⟨1, up.sets [(Reg.MOOR_CTL_EN, 1), (Reg.MOOR_PSTAT_UP 1, 1)], by decide +kernel⟩,
   ⟨7, 1, ({ up.sets [(Reg.MOOR_CTL_EN, 1), (Reg.MOOR_PSTAT_UP 1, 1)] with mid := 1 }).updMoor fun m => { m with
     dup := true }, 7, 0, 1, by decide +kernel⟩,
   ⟨7, 1, ({ up.sets [(Reg.MOOR_CTL_EN, 1), (Reg.MOOR_PSTAT_UP 1, 1)] with mid := 1 }).updMoor fun m => { m with
     joined := true }, 7, 0, 1, by decide +kernel⟩,
   ⟨7, 1,
     { up.sets [(Reg.MOOR_CTL_EN, 1), (Reg.MOOR_PSTAT_UP 1, 1), (Reg.MOOR_CTL_AUTOJOIN, 1), (Reg.TIDE_STATUS_LOCK,
     1)] with mid := 1 }, 7, 0, 1, by decide +kernel⟩,
   ⟨7, 1, { up.sets [(Reg.MOOR_CTL_EN, 1), (Reg.MOOR_PSTAT_UP 1, 1), (Reg.MOOR_CTL_AUTOJOIN, 1)] with mid := 1 }, 7,
     0, 1, by decide +kernel, by decide +kernel, by decide +kernel, .inr (by decide +kernel)⟩,
   ⟨({ up.sets [(Reg.MOOR_CTL_EN, 1), (Reg.MOOR_CTL_AUTOJOIN, 1), (Reg.MOOR_PSTAT_UP 1, 1)] with mid := 1 }).updMoor
     fun m => { m with good := 2, heard := Vector.replicate 2 true }, 64, -12, by decide +kernel⟩,
   ⟨({ up.sets [(Reg.MOOR_CTL_EN, 1)] with mid := 1 }).updMoor fun m => { m with bad := 1 }, 64, 52,
     by decide +kernel, .inl (by decide +kernel)⟩,
   ⟨({ up.sets [(Reg.MOOR_CTL_EN, 1), (Reg.TIDE_STATUS_ALIGNED, 1)] with mid := 1 }).updMoor fun m => { m with
     bad := 2 }, 64, 52, by decide +kernel⟩,
   ⟨({ up.sets [(Reg.MOOR_CTL_EN, 1)] with mid := 1 }).updMoor fun m => { m with bad := 2 }, 64, -52,
     by decide +kernel⟩,
   ⟨7, 1, (up.sets [(Reg.MOOR_CTL_EN, 1), (Reg.MOOR_PSTAT_UP 1, 1)]).updMoor fun m => { m with
     retx := Vector.replicate 2 (List.replicate 15 0) }, _, by decide +kernel, rfl, by decide +kernel⟩,
   ⟨7, 1, (up.sets [(Reg.MOOR_CTL_EN, 1), (Reg.MOOR_PSTAT_UP 1, 1)]).updMoor fun m => { m with
     retx := Vector.replicate 2 (List.replicate 16 0) }, _, by decide +kernel, rfl, by decide +kernel⟩⟩

theorem wit_GroupRows :
    (∃ (t : Nat) (s : State) (g : Fin 4) (d : CarrierDesc) (v : State), let u := (s.upto t); s.isMember = true ∧
      (s.moor.desc[g] = none ∧ v = u ∨ ∃ o, s.moor.desc[g] = some o ∧ v = if (o.running && !(d.running && o.running
      && o.period == d.period && o.mode == d.mode && o.phase == d.phase && o.zero % max 1 d.period == d.zero % max 1
      d.period)) = true then u.groupLost t g else u)) ∧
    (∃ (s : State) (g : Fin 4) (d : CarrierDesc) (stamp : Int), s.isMember = true ∧ s.bit Reg.TIDE_STATUS_ALIGNED =
      true ∧ s.moor.desc[g] = some d ∧ let n := (if 256 < 5 * (zeroDiff stamp (descZero d) d.period).natAbs then
      s.moor.badMark[g] + 1 else 0); n ≠ 3 ∧ (n ≠ 0 ∨ s.moor.badMark[g] < 3)) ∧
    (∃ (s : State) (g : Fin 4) (d : CarrierDesc) (stamp : Int), s.isMember = true ∧ s.bit Reg.TIDE_STATUS_ALIGNED =
      true ∧ s.moor.desc[g] = some d ∧ let n := (if 256 < 5 * (zeroDiff stamp (descZero d) d.period).natAbs then
      s.moor.badMark[g] + 1 else 0); n = 0 ∧ 3 ≤ s.moor.badMark[g]) ∧
    (∃ (s : State) (g : Fin 4) (d : CarrierDesc) (stamp : Int), s.isMember = true ∧ s.bit Reg.TIDE_STATUS_ALIGNED =
      true ∧ s.moor.desc[g] = some d ∧ let n := (if 256 < 5 * (zeroDiff stamp (descZero d) d.period).natAbs then
      s.moor.badMark[g] + 1 else 0); n = 3) ∧
    (∃ (s : State) (g : Fin 4), s.isLead = true ∧ s.get (Reg.PWM_CTL_SRC ↑g) = 0 ∧ s.running g = true) ∧
    (∃ (s : State), s.isMember = true ∧ s.bit Reg.MOOR_GSYNC_USE = true ∧ s.bit Reg.TIDE_STATUS_ALIGNED = true) ∧
    (∃ (t : Nat) (s : State) (e : Int), let u := (s.upto t); s.isMember = true ∧ s.bit Reg.MOOR_GSYNC_USE = true ∧
      let ofs := (↑(32 * u.tide) - e); s.bit Reg.TIDE_STATUS_ALIGNED = false ∧ s.moor.gsFollow = true ∧ let v :=
      (u.gsTrim); (ofs - v.getI Reg.MOOR_GSOFS_OFS).natAbs ≤ 256) ∧
    (∃ (t : Nat) (s : State) (e : Int), let u := (s.upto t); s.isMember = true ∧ s.bit Reg.MOOR_GSYNC_USE = true ∧
      let ofs := (↑(32 * u.tide) - e); s.bit Reg.TIDE_STATUS_ALIGNED = false ∧ s.moor.gsFollow = true ∧ let v :=
      (u.gsTrim); 256 < (ofs - v.getI Reg.MOOR_GSOFS_OFS).natAbs) ∧
    (∃ (s : State), s.isMember = true ∧ s.bit Reg.MOOR_GSYNC_USE = true ∧ s.bit Reg.TIDE_STATUS_ALIGNED = false ∧
      s.moor.gsFollow = false) ∧
    (∃ (t : Nat) (s : State) (ms : List MemberIn) (ring : Bool) (x : State), let u := (s.upto t); s.moorOn = true ∧
      let own := (ms.any fun m ↦ m.mid == s.mid && m.serial != s.serialNat); let told := (if s.isLead = true then
      dupMids ms ++ if own = true then [s.mid] else [] else if (own || (dupMids ms).contains s.mid) = true then
      [s.mid] else []); let v := (List.foldl (fun s d ↦ s.raise FName.moorIdDup 54 (↑d) t 0 1 ↑d) (u.updMoor fun m ↦
      { m with dup := own }) told.eraseDups); let ok := (if v.ownDup = true then [] else List.filter (fun m ↦
      !(dupMids ms).contains m.mid && m.mid != v.mid) ms); let lost := (List.filter (fun m ↦ !ok.any fun x ↦ x.mid ==
      m) v.others); let w := (List.foldl State.gainModule (List.foldl (fun s m ↦ s.loseModule t m) v lost) ok); x =
      w.setB Reg.MOOR_GSTAT_TOPO (w.ringFound ring)) ∧
    (∃ (t : Nat) (s : State) (f : Nat), let u := (s.upto t); s.isLead = true ∧ s.moor.formFrom = some f ∧ f + s.get
      Reg.MOOR_GCFG_FORMWAIT * Config.sec ≤ u.tide ∧ s.bit Reg.MOOR_GSTAT_FORMED = false) ∧
    (∃ (s : State), s.moorOn = true) ∧
    (∃ (s : State) (k : Nat), s.isLead = true ∧ 8 ≤ k) ∧
    (∃ (s : State) (k : Nat), s.isLead = true ∧ k < 8 ∧ s.bit Reg.MOOR_CTL_RELAY = true) ∧
    (∃ (s : State), s.isLead = false ∧ s.isMember = true) ∧
    (∃ (s : State), s.moorOn = true ∧ (s.isLead = true ∨ s.bit (Reg.MOOR_MEMBER_PRESENT 0) = true)) ∧
    (∃ (t : Nat) (s : State) (f : ForwardIn), let u := (s.upto t); s.isLead = true ∧ let v := ((u.sets
      [(Reg.MOOR_MEMBER_EPOCH ↑f.mid, f.epoch), (Reg.MOOR_MEMBER_MSTATE ↑f.mid, ↑f.mstate)]).updFm fun m ↦ { m with
      groupLost := List.filter (fun p ↦ p.fst != ↑f.mid) m.groupLost ++ if f.ovfl = true then [(↑f.mid, f.lost)] else
        [] }); f.what = 0 ∧ (f.fault.epoch == f.epoch && slotReleased Config.releaseGroup v.tide f.fault.stamp) =
        false) ∧
    (∃ (t : Nat) (s : State) (f : ForwardIn), let u := (s.upto t); s.isLead = true ∧ let v := ((u.sets
      [(Reg.MOOR_MEMBER_EPOCH ↑f.mid, f.epoch), (Reg.MOOR_MEMBER_MSTATE ↑f.mid, ↑f.mstate)]).updFm fun m ↦ { m with
      groupLost := List.filter (fun p ↦ p.fst != ↑f.mid) m.groupLost ++ if f.ovfl = true then [(↑f.mid, f.lost)] else
        [] }); f.what = 0 ∧ (f.fault.epoch == f.epoch && slotReleased Config.releaseGroup v.tide f.fault.stamp) =
        true) ∧
    (∃ (s : State) (f : ForwardIn), s.isLead = true ∧ f.what = 1) ∧
    (∃ (s : State) (f : ForwardIn), s.isLead = true ∧ f.what = 2) ∧
    (∃ (s : State) (f : ForwardIn), s.isLead = true ∧ f.what = 3) :=
  ⟨⟨7, { up.set Reg.MOOR_CTL_EN 1 with mid := 1 }, 1,
    { running := true, mode := 0, period := 10000, phase := 0, zero := 0 }, _, by decide +kernel, .inl ⟨rfl, rfl⟩⟩,
   ⟨({ up.sets [(Reg.MOOR_CTL_EN, 1), (Reg.TIDE_STATUS_ALIGNED, 1)] with mid := 1 }).updMoor fun m => { m with
     desc := Vector.replicate 4 (some { running := true, mode := 0, period := 10000, phase := 0, zero := 0 }),
       badMark := Vector.replicate 4 1 }, 1, { running := true, mode := 0, period := 10000, phase := 0, zero := 0 },
       52, by decide +kernel, by decide +kernel, rfl, by decide +kernel, .inl (by decide +kernel)⟩,
   ⟨({ up.sets [(Reg.MOOR_CTL_EN, 1), (Reg.TIDE_STATUS_ALIGNED, 1)] with mid := 1 }).updMoor fun m => { m with
     desc := Vector.replicate 4 (some { running := true, mode := 0, period := 10000, phase := 0, zero := 0 }),
       badMark := Vector.replicate 4 3 }, 1, { running := true, mode := 0, period := 10000, phase := 0, zero := 0 },
       51, by decide +kernel, by decide +kernel, rfl, by decide +kernel⟩,
   ⟨({ up.sets [(Reg.MOOR_CTL_EN, 1), (Reg.TIDE_STATUS_ALIGNED, 1)] with mid := 1 }).updMoor fun m => { m with
     desc := Vector.replicate 4 (some { running := true, mode := 0, period := 10000, phase := 0, zero := 0 }),
       badMark := Vector.replicate 4 2 }, 1, { running := true, mode := 0, period := 10000, phase := 0, zero := 0 },
       52, by decide +kernel, by decide +kernel, rfl, by decide +kernel⟩,
   ⟨up.sets [(Reg.MOOR_CTL_EN, 1), (Reg.PWM_STATUS_RUNNING 1, 1)], 1, by decide +kernel⟩,
   ⟨{ up.sets [(Reg.MOOR_CTL_EN, 1), (Reg.MOOR_GSYNC_USE, 1), (Reg.TIDE_STATUS_ALIGNED, 1)] with mid := 1 },
     by decide +kernel⟩,
   ⟨7, ({ up.sets [(Reg.MOOR_CTL_EN, 1), (Reg.MOOR_GSYNC_USE, 1)] with mid := 1 }).updMoor fun m => { m with
     gsFollow := true }, 32 * 7 - 256, by decide +kernel⟩,
   ⟨7, ({ up.sets [(Reg.MOOR_CTL_EN, 1), (Reg.MOOR_GSYNC_USE, 1)] with mid := 1 }).updMoor fun m => { m with
     gsFollow := true }, 32 * 7 - 257, by decide +kernel⟩,
   ⟨{ up.sets [(Reg.MOOR_CTL_EN, 1), (Reg.MOOR_GSYNC_USE, 1)] with mid := 1 }, by decide +kernel⟩,
   ⟨7, up.set Reg.MOOR_CTL_EN 1, [{ mid := 1, hops := 1, port := 0, serial := 1, epoch := 1, mstate := 2 }], false,
     _, by decide +kernel, rfl⟩,
   ⟨5000 * Config.sec, (up.set Reg.MOOR_CTL_EN 1).updMoor fun m => { m with formFrom := some 0 }, 0,
     by decide +kernel, rfl, by decide +kernel⟩,
   ⟨up.set Reg.MOOR_CTL_EN 1, by decide +kernel⟩,
   ⟨up.set Reg.MOOR_CTL_EN 1, 8, by decide +kernel⟩,
   ⟨up.sets [(Reg.MOOR_CTL_EN, 1), (Reg.MOOR_CTL_RELAY, 1)], 7, by decide +kernel⟩,
   ⟨{ up.set Reg.MOOR_CTL_EN 1 with mid := 1 }, by decide +kernel⟩,
   ⟨up.set Reg.MOOR_CTL_EN 1, by decide +kernel, .inl (by decide +kernel)⟩,
   ⟨7, up.set Reg.MOOR_CTL_EN 1, forward 0, by decide +kernel⟩,
   ⟨400 * Config.us, up.set Reg.MOOR_CTL_EN 1, forward 0, by decide +kernel⟩,
   ⟨up.set Reg.MOOR_CTL_EN 1, forward 1, by decide +kernel⟩,
   ⟨up.set Reg.MOOR_CTL_EN 1, forward 2, by decide +kernel⟩,
   ⟨up.set Reg.MOOR_CTL_EN 1, forward 3, by decide +kernel⟩⟩

theorem wit_RefusedCommandsCarryNothingOut :
    ∃ (t : Nat) (gone : List (FName × Nat × Nat)) (s : State) (u : State) (c : Instr), c ∈ ([.ping t, .getInfo t,
      .regRead t, .regWrite t, .regModify t, .manifestRead t, .manifestWrite t, .manifestCommit t, .axisStateCmd t,
      .torqueCmd t, .speedCmd t, .lineCmd t, .programLoad t, .coeffWrite t, .coeffRead t, .faultRead t, .faultClear t
      gone, .logbookArm t, .logbookDisarm t, .logbookTriggerNow t, .logbookRead t, .diagRun t, .tuneStart t,
      .tuneResult t, .fwUpdateStart t, .fwUpdateData t, .fwUpdateFinish t, .fwUpdateAbort t, .fwUpdateConfirm t,
      .sessionOpen t, .sessionProgramSlot t, .sessionRevokeSlot t, .sessionClose t, .safetyParamWrite t,
      .safetyParamVerify t, .groupForm t] : List Instr) ∧ s.passed t = none ∧ exec c s = Host.Outcome.next u :=
  ⟨7, [], hold up 0x7777 0, _, .manifestCommit 7, by simp, by decide +kernel, rfl⟩

theorem wit_ReadingCommandsTouchNoDevice :
    ∃ (t : Nat) (s : State) (u : State) (c : Instr), c ∈ [Instr.ping t, Instr.getInfo t, Instr.manifestRead t,
      Instr.manifestWrite t, Instr.coeffRead t, Instr.faultRead t, Instr.tuneResult t, Instr.sessionOpen t,
      Instr.sessionProgramSlot t, Instr.sessionRevokeSlot t, Instr.sessionClose t, Instr.fwUpdateStart t,
      Instr.fwUpdateData t, Instr.fwUpdateFinish t, Instr.fwUpdateAbort t] ∧ exec c s = Host.Outcome.next u :=
  ⟨7, hold up 1 0, _, .ping 7, by simp, rfl⟩

theorem wit_MemoryIsKept :
    ∃ (c : Instr) (s : State) (u : State), mayStore c = false ∧ exec c s = Host.Outcome.next u :=
  ⟨.beaconSend 7 1, up, _, by decide +kernel, rfl⟩

theorem wit_MemoryWordStored :
    ∃ (t : Nat) (req : Nat) (addr : Nat) (s : State), let x := (s.busAt t req true); (268435456 ≤ addr ∧ addr <
      272629760 ∨ 2147483648 ≤ addr ∧ addr < 10133438464) ∧ x.mayWriteMem req = true ∧ x.writableMem addr 4 = true :=
  ⟨7, 1, 0x103FFFFC, up, by decide +kernel⟩

theorem wit_RegisterFrame :
    (∃ (s : State) (u : State) (req : Nat) (a : Nat) (w : Word) (b : Nat), s.accepted req a w = some u ∧ b ≠ a) ∧
    (∃ (s : State) (u : State) (req : Nat) (a : Nat) (w : Word), s.accepted req a w = some u ∧ a / 65536 ≠ 2 ∧ a /
      65536 ≠ 3) ∧
    (∃ (s : State) (u : State) (req : Nat) (a : Nat) (w : Word), s.accepted req a w = some u) :=
  ⟨⟨up, _, 11, Reg.PERF_BWWIN, 1, Reg.SYS_ID, some_get (by decide +kernel), by decide +kernel⟩,
   ⟨up, _, 11, Reg.PERF_BWWIN, 1, some_get (by decide +kernel), by decide +kernel⟩,
   ⟨up, _, 11, Reg.PERF_BWWIN, 1, some_get (by decide +kernel)⟩⟩

theorem wit_ViewsStayOrdered :
    (∃ (e : Entry) (l : List Entry), (∀ (x : Entry), x ∈ l → x.mid = e.mid ∧ x.epoch = e.epoch) ∧ List.Pairwise (fun
      a b ↦ b.before a = false) l) ∧
    (∃ (s : State), s.fm.queue.length ≤ 64) :=
  ⟨⟨entry 4, [entry 7], by decide +kernel⟩,
   ⟨up, by decide +kernel⟩⟩

theorem wit_NoArrivalLowersAReaction :
    ∃ (s : State) (f : FaultIn) (n : Fin 4), (s.scopeOf f).fst.getLsbD ↑n = true :=
  ⟨up, moorFault, 3, by decide +kernel⟩

theorem wit_LotteryDrawsByTickets :
    ∃ (lfsr : Nat) (act : List (Fin 8)), act ≠ [] ∧ lfsr < 65536 :=
  ⟨65535, [6], by decide +kernel⟩

theorem wit_RoundingWithinHalfAUnit :
    ∃ (old : VReg) (r : Lanes) (v : VReg), resultReg old false false r = (v, {}) :=
  ⟨zeroReg, Vector.replicate 8 (qInt 3), _, pair_snd (by decide +kernel)⟩

theorem wit_AccessErrorsAreCaptured :
    (∃ (req : Nat), (req < 7 ∨ 10 < req)) ∧
    (∃ (r : State) (req : Nat) (addr : Nat) (write : Bool), let s := (r.engineError req addr write); s.bit
      Reg.SYS_ACCERR_VALID = true) ∧
    (∃ (r : State) (req : Nat) (addr : Nat) (kind : Nat) (write : Bool), let s := (r.engineError req addr write);
      s.bit Reg.SYS_ACCERR_VALID = false ∧ req < 128 ∧ kind < 8 ∧ addr < 2 ^ 40) :=
  ⟨⟨11, by decide +kernel⟩,
   ⟨up.set Reg.SYS_ACCERR_VALID 1, 127, 2 ^ 40 - 1, true, by decide +kernel⟩,
   ⟨up, 127, 2 ^ 40 - 1, 7, true, by decide +kernel⟩⟩

theorem wit_MessageWrites :
    (∃ (t : Nat) (req : Nat) (b : Fin 32) (s : State), let u := (s.busAt t req true); u.mayWrite req 9 = true ∧
      (s.bit (Reg.BERTH_CFG_EN ↑b) = false ∨ s.get (Reg.BERTH_CFG_SENDER ↑b) ≠ req)) ∧
    (∃ (t : Nat) (req : Nat) (b : Fin 32) (s : State), let u := (s.busAt t req true); u.mayWrite req 9 = true ∧ s.bit
      (Reg.BERTH_CFG_EN ↑b) = true ∧ s.get (Reg.BERTH_CFG_SENDER ↑b) = req ∧ s.bit (Reg.BERTH_STAT_FULL ↑b) = true) ∧
    (∃ (t : Nat) (req : Nat) (b : Fin 32) (s : State) (k : Fin 16), let u := (s.busAt t req true); u.mayWrite req 9 =
      true ∧ s.bit (Reg.BERTH_CFG_EN ↑b) = true ∧ s.get (Reg.BERTH_CFG_SENDER ↑b) = req ∧ k ≠ 15 ∧ s.bit
      (Reg.BERTH_STAT_FULL ↑b) = false) ∧
    (∃ (t : Nat) (req : Nat) (b : Fin 32) (s : State), let u := (s.busAt t req true); u.mayWrite req 9 = true ∧ s.bit
      (Reg.BERTH_CFG_EN ↑b) = true ∧ s.get (Reg.BERTH_CFG_SENDER ↑b) = req ∧ s.bit (Reg.BERTH_STAT_FULL ↑b) = false)
      :=
  ⟨⟨7, 11, 1, up, by decide +kernel, .inr (by decide +kernel)⟩,
   ⟨7, 11, 1, up.sets [(Reg.BERTH_CFG_EN 1, 1), (Reg.BERTH_CFG_SENDER 1, 11), (Reg.BERTH_STAT_FULL 1, 1)],
     by decide +kernel⟩,
   ⟨7, 11, 1, up.sets [(Reg.BERTH_CFG_EN 1, 1), (Reg.BERTH_CFG_SENDER 1, 11), (Reg.BERTH_STAT_FULL 1, 0)], 14,
     by decide +kernel⟩,
   ⟨7, 11, 1, up.sets [(Reg.BERTH_CFG_EN 1, 1), (Reg.BERTH_CFG_SENDER 1, 11), (Reg.BERTH_STAT_FULL 1, 0)],
     by decide +kernel⟩⟩

theorem wit_BollardReads :
    (∃ (k : Fin 16) (s : State), s.get (Reg.BERTH_KOWN_OWNER ↑k) = 0) ∧
    (∃ (req : Nat) (k : Fin 16) (s : State), s.get (Reg.BERTH_KOWN_OWNER ↑k) = 0 ∧ req < 128) ∧
    (∃ (k : Fin 16) (s : State), s.get (Reg.BERTH_KOWN_OWNER ↑k) ≠ 0) :=
  ⟨⟨1, up.set (Reg.BERTH_KOWN_OWNER 1) 0, by decide +kernel⟩,
   ⟨127, 1, up.set (Reg.BERTH_KOWN_OWNER 1) 0, by decide +kernel⟩,
   ⟨1, up.set (Reg.BERTH_KOWN_OWNER 1) 5, by decide +kernel⟩⟩

theorem wit_BollardWrites :
    (∃ (t : Nat) (req : Nat) (k : Fin 16) (w : Word) (s : State), let u := (s.busAt t req true); u.mayWrite req 9 =
      true ∧ w = 0 ∧ s.get (Reg.BERTH_KOWN_OWNER ↑k) = req ∧ req ≠ 0) ∧
    (∃ (t : Nat) (req : Nat) (k : Fin 16) (w : Word) (s : State), let u := (s.busAt t req true); u.mayWrite req 9 =
      true ∧ (w ≠ 0 ∨ s.get (Reg.BERTH_KOWN_OWNER ↑k) ≠ req)) :=
  ⟨⟨7, 11, 1, 0, up.set (Reg.BERTH_KOWN_OWNER 1) 11, by decide +kernel⟩,
   ⟨7, 11, 1, 0, up.set (Reg.BERTH_KOWN_OWNER 1) 5, by decide +kernel, .inr (by decide +kernel)⟩⟩

theorem wit_MessageReads :
    (∃ (req : Nat) (s : State) (b : Fin 32), s.get (Reg.BERTH_CFG_RECEIVER ↑b) = req ∧ req ≠ 0) ∧
    (∃ (req : Nat) (s : State) (b : Fin 32), (s.get (Reg.BERTH_CFG_RECEIVER ↑b) ≠ req ∨ req = 0)) :=
  ⟨⟨11, up.set (Reg.BERTH_CFG_RECEIVER 1) 11, 1, by decide +kernel⟩,
   ⟨11, up.set (Reg.BERTH_CFG_RECEIVER 1) 3, 1, .inl (by decide +kernel)⟩⟩

theorem wit_AxisTransitions :
    (∃ (s : State) (n : Fin 4), (s.axis n).pendTo = none ∧ s.enabling n = false ∧ (s.axis n).diag = none ∧ let st :=
      ((s.axis n).st); st ∈ [AxState.off, AxState.diag, AxState.ready, AxState.run]) ∧
    (∃ (s : State) (n : Fin 4) (option : Nat), (s.axis n).pendTo = none ∧ s.enabling n = false ∧ (s.axis n).diag =
      none ∧ let st := ((s.axis n).st); st ∈ [AxState.off, AxState.diag, AxState.ready, AxState.run] ∧ option ≠ 0) ∧
    (∃ (s : State) (n : Fin 4) (dst : AxState), (s.axis n).pendTo = none ∧ s.enabling n = false ∧ (s.axis n).diag =
      none ∧ let st := ((s.axis n).st); (st, dst) ∈ [(AxState.off, AxState.run), (AxState.off, AxState.hold),
      (AxState.diag, AxState.run), (AxState.diag, AxState.hold), (AxState.run, AxState.diag), (AxState.hold,
      AxState.diag), (AxState.tune, AxState.diag), (AxState.tune, AxState.run), (AxState.fault, AxState.diag),
      (AxState.fault, AxState.run), (AxState.fault, AxState.hold), (AxState.safe, AxState.diag), (AxState.safe,
      AxState.run), (AxState.safe, AxState.hold)]) ∧
    (∃ (s : State) (n : Fin 4) (dst : AxState), (s.axis n).pendTo = none ∧ s.enabling n = false ∧ (s.axis n).diag =
      none ∧ let st := ((s.axis n).st); st = AxState.fault ∧ s.faulted n = true ∧ (dst = AxState.off ∨ dst =
      AxState.ready)) ∧
    (∃ (s : State) (n : Fin 4) (dst : AxState), (s.axis n).pendTo = none ∧ s.enabling n = false ∧ (s.axis n).diag =
      none ∧ let st := ((s.axis n).st); (st, dst) ∈ [(AxState.off, AxState.diag), (AxState.off, AxState.ready),
      (AxState.diag, AxState.off), (AxState.diag, AxState.ready), (AxState.ready, AxState.off), (AxState.ready,
      AxState.diag), (AxState.ready, AxState.run), (AxState.ready, AxState.hold), (AxState.run, AxState.off),
      (AxState.run, AxState.ready), (AxState.run, AxState.hold), (AxState.hold, AxState.off), (AxState.hold,
      AxState.ready), (AxState.hold, AxState.run), (AxState.hold, AxState.hold), (AxState.tune, AxState.off),
      (AxState.tune, AxState.ready), (AxState.tune, AxState.hold), (AxState.fault, AxState.off), (AxState.fault,
      AxState.ready), (AxState.safe, AxState.off), (AxState.safe, AxState.ready)] ∧ (st = AxState.fault → s.faulted n
      = false) ∧ (s.axis n).safeHeld = true) ∧
    (∃ (s : State) (n : Fin 4) (dst : AxState), (s.axis n).pendTo = none ∧ s.enabling n = false ∧ (s.axis n).diag =
      none ∧ let st := ((s.axis n).st); (st, dst) ∈ [(AxState.off, AxState.diag), (AxState.off, AxState.ready),
      (AxState.diag, AxState.off), (AxState.diag, AxState.ready), (AxState.ready, AxState.off), (AxState.ready,
      AxState.diag), (AxState.ready, AxState.run), (AxState.ready, AxState.hold), (AxState.run, AxState.off),
      (AxState.run, AxState.ready), (AxState.run, AxState.hold), (AxState.hold, AxState.off), (AxState.hold,
      AxState.ready), (AxState.hold, AxState.run), (AxState.hold, AxState.hold), (AxState.tune, AxState.off),
      (AxState.tune, AxState.ready), (AxState.tune, AxState.hold), (AxState.fault, AxState.off), (AxState.fault,
      AxState.ready), (AxState.safe, AxState.off), (AxState.safe, AxState.ready)] ∧ (st = AxState.fault → s.faulted n
      = false) ∧ (s.axis n).safeHeld = false ∧ s.lk.fresh = false ∧ dst = AxState.hold ∧ s.isLine n = true) ∧
    (∃ (s : State) (n : Fin 4) (dst : AxState) (option : Nat), (s.axis n).pendTo = none ∧ s.enabling n = false ∧
      (s.axis n).diag = none ∧ let st := ((s.axis n).st); (st, dst) ∈ [(AxState.off, AxState.diag), (AxState.off,
      AxState.ready), (AxState.diag, AxState.off), (AxState.diag, AxState.ready), (AxState.ready, AxState.off),
      (AxState.ready, AxState.diag), (AxState.ready, AxState.run), (AxState.ready, AxState.hold), (AxState.run,
      AxState.off), (AxState.run, AxState.ready), (AxState.run, AxState.hold), (AxState.hold, AxState.off),
      (AxState.hold, AxState.ready), (AxState.hold, AxState.run), (AxState.hold, AxState.hold), (AxState.tune,
      AxState.off), (AxState.tune, AxState.ready), (AxState.tune, AxState.hold), (AxState.fault, AxState.off),
      (AxState.fault, AxState.ready), (AxState.safe, AxState.off), (AxState.safe, AxState.ready)] ∧ (st =
      AxState.fault → s.faulted n = false) ∧ (s.axis n).safeHeld = false ∧ s.lk.fresh = false ∧ dst = AxState.hold ∧
      s.ascRefused n AxState.hold false = false ∧ 1 < option) :=
  ⟨⟨inState up 3 .run, 1, by decide +kernel⟩,
   ⟨inState up 3 .run, 1, 1, by decide +kernel⟩,
   ⟨inState up 1 .safe, 1, .hold, by decide +kernel⟩,
   ⟨(inState up 1 .fault).updFm fun m => { m with
     active :=
       [{ name := .thShutdown, src := 4, inst := 0, sev := 3, axes := 15, modScope := true, reac := .none, cause :=
       true, latched := false }] }, 1, .ready, by decide +kernel, by decide +kernel, by decide +kernel,
       by decide +kernel, by decide +kernel, .inr (by decide +kernel)⟩,
   ⟨up.updAxis 1 fun a => { a with st := .safe, safeHeld := true }, 1, .ready, by decide +kernel, by decide +kernel,
     by decide +kernel, (by decide +kernel), by decide +kernel⟩,
   ⟨(inState (withSet up) 1 .hold).set (Reg.SYS_AXCFG_TYPE 1) 2, 1, .hold, by decide +kernel⟩,
   ⟨(inState (withSet up) 1 .hold).set (Reg.SYS_AXCFG_TYPE 1) 2, 1, .hold, 2, by decide +kernel⟩⟩

end

end Sys2Proof.Tests
end

section
/-! # Proofs: what power-on reset leaves, and accesses to memories and registers (R11-R16, R38-R41)

First the laws of the operations that the accesses are made of, then the obligations. -/

namespace Sys2Proof.Machine

/-! ### Power-on reset (R16) -/

/-- Nothing is listed after power-on reset, so every register reads the word of its map. -/
@[simp] theorem reset_reg (a : Nat) : State.reset.reg a = resetWord a := rfl

@[simp] theorem reset_axis (n : Fin 4) : State.reset.axis n = {} := by simp [State.axis, State.reset]

@[simp] theorem reset_leg (l : Fin 12) : State.reset.leg l = {} := by simp [State.leg, State.reset]

theorem reset_canon : State.reset.Canon := ⟨rfl, rfl⟩

theorem reset_forceOk : State.reset.ForceOk := fun l h => by simp at h

/-! ### Bytes of memory (R11, R39) -/

@[simp] theorem setBytes_regs (s : State) (a : Nat) (l : List Byte) : (s.setBytes a l).regs = s.regs := by
  induction l generalizing s a with
  | nil => rfl
  | cons b r ih => exact ih (s.setByte a b) (a + 1)

@[simp] theorem setBytes_pwr (s : State) (a : Nat) (l : List Byte) : (s.setBytes a l).pwr = s.pwr := by
  induction l generalizing s a with
  | nil => rfl
  | cons b r ih => exact ih (s.setByte a b) (a + 1)

@[simp] theorem setBytes_reg (s : State) (a : Nat) (l : List Byte) (x : Nat) :
    (s.setBytes a l).reg x = s.reg x := by
  unfold State.reg; rw [setBytes_regs]

theorem bytes_succ (s : State) (a n : Nat) : s.bytes a (n + 1) = s.byte a :: s.bytes (a + 1) n := by
  simp [State.bytes, List.range_succ_eq_map, Function.comp_def, Nat.add_assoc, Nat.add_comm 1]

/-- Bytes just written are read back. -/
theorem bytes_setBytes (s : State) (a : Nat) (l : List Byte) : (s.setBytes a l).bytes a l.length = l := by
  induction l generalizing s a with
  | nil => rfl
  | cons b r ih =>
    have first : (s.setBytes a (b :: r)).byte a = b := by
      rw [State.setBytes, byte_setBytes_other _ _ _ _ (.inl (Nat.lt_succ_self a)), byte_setByte_same]
    rw [List.length_cons, bytes_succ, first, State.setBytes, ih]

@[simp] theorem leBytes_length (n v : Nat) : (leBytes n v).length = n := by
  induction n generalizing v with
  | zero => rfl
  | succ n ih => simp [leBytes, ih]

theorem leNat_cons (b : Byte) (l : List Byte) : leNat (b :: l) = b.toNat + 256 * leNat l := by
  simp [leNat, beNat, Nat.mul_comm, Nat.add_comm]

/-- The little-endian bytes of a value spell its low bytes (R11). -/
theorem leNat_leBytes (n v : Nat) : leNat (leBytes n v) = v % 256 ^ n := by
  induction n generalizing v with
  | zero => simp [leBytes, leNat, beNat, Nat.mod_one]
  | succ n ih =>
    have low : (BitVec.ofNat 8 v).toNat = v % 256 := BitVec.toNat_ofNat ..
    rw [leBytes, leNat_cons, ih, low, Nat.pow_succ', Nat.mod_mul]

/-- A word just written is read back. -/
theorem memWord_setBytes (s : State) (a : Nat) (w : Word) :
    (s.setBytes a (leBytes 4 w.toNat)).memWord a = w := by
  have back : (s.setBytes a (leBytes 4 w.toNat)).bytes a 4 = leBytes 4 w.toNat := by
    simpa using bytes_setBytes s a (leBytes 4 w.toNat)
  have fits : w.toNat % 256 ^ 4 = w.toNat := Nat.mod_eq_of_lt w.isLt
  rw [State.memWord, back, leNat_leBytes, fits, BitVec.ofNat_toNat, BitVec.setWidth_eq]

/-! ### Writes of memory (R38, R39) -/

/-- Where no restart has become due since `was`, none follows (R467). -/
theorem restartDue_same {s : State} {was : Bool} (h : s.pwr.restart = was) : s.restartDue was = s := by
  unfold State.restartDue
  rw [h, Bool.not_and_self]
  rfl

theorem exec_registerWrite (t req addr width : Nat) (w : Word) (s : State) :
    exec (.registerWrite t req addr width w) s =
      .next (((s.busAt t req true).busWrite req addr width w).1.restartDue s.pwr.restart) := rfl

theorem place_sram (s : State) {a : Nat} (lo : 0x10000000 ≤ a) (hi : a < 0x10400000) : s.place a = .sram a := by
  unfold State.place localPlace
  rw [if_neg (by omega), if_neg (by omega), if_pos ⟨lo, hi⟩]

theorem place_dram (s : State) {a : Nat} (lo : 0x80000000 ≤ a) (hi : a < 0x25C000000) : s.place a = .dram a := by
  unfold State.place localPlace
  rw [if_neg (by omega), if_neg (by omega), if_neg (by omega), if_neg (by omega), if_neg (by omega),
    if_neg (by omega), if_pos ⟨lo, hi⟩]

/-- A write of SRAM or DRAM that nothing forbids stores the bytes of its word. -/
theorem busWrite_mem {s : State} {req a : Nat} (width : Nat) (w : Word)
    (here : 0x10000000 ≤ a ∧ a < 0x10400000 ∨ 0x80000000 ≤ a ∧ a < 0x25C000000)
    (may : s.mayWriteMem req = true) (free : s.writableMem a 4 = true) :
    s.busWrite req a width w = (s.setBytes a (leBytes 4 w.toNat), .ok) := by
  unfold State.busWrite
  rcases here with ⟨lo, hi⟩ | ⟨lo, hi⟩
  · simp only [place_sram s lo hi, may, free, Bool.and_self, if_true]
  · simp only [place_dram s lo hi, may, free, Bool.and_self, if_true]

/-! ### The word that a write leaves in a register (R13, R14) -/

/-- A bit that no RW or W1C field covers keeps its value through the fields of a register. -/
theorem mergeWord_getLsbD_other {fs : List FDesc} (old w : Word) {i : Nat} (hi : i < 32)
    (h : ∀ f ∈ fs, f.acc = .rw ∨ f.acc = .w1c → i < f.lo ∨ f.lo + f.len ≤ i) :
    (mergeWord fs old w).getLsbD i = old.getLsbD i := by
  unfold mergeWord
  refine List.foldlRecOn (motive := fun acc : Word => acc.getLsbD i = old.getLsbD i) fs _ rfl fun acc ih f hf => ?_
  have out (v : Nat) (wr : f.acc = .rw ∨ f.acc = .w1c) : (wordSet acc f.lo f.len v).getLsbD i = old.getLsbD i := by
    have := h f hf wr
    rw [wordSet_getLsbD _ _ _ _ _ hi, if_neg (by omega), ih]
  split
  · next e => exact out _ (.inl e)
  · next e => exact out _ (.inr e)
  · exact ih

/-- The fixed bits of a register do not change which bits a write leaves alone. -/
theorem newWord_getLsbD_other {d : RDesc} (ix : List Nat) (old w : Word) {i : Nat} (hi : i < 32)
    (h : ∀ f ∈ d.fields, f.acc = .rw ∨ f.acc = .w1c → i < f.lo ∨ f.lo + f.len ≤ i) :
    (newWord d ix old w).getLsbD i = old.getLsbD i := by
  simp only [newWord, BitVec.getLsbD_or, BitVec.getLsbD_and, BitVec.getLsbD_not, hi, decide_true, Bool.true_and,
    mergeWord_getLsbD_other old w hi h]
  cases old.getLsbD i <;> simp

/-! ### What an accepted write stores (R13, R125, R128) -/

/-- An accepted write: its register is in the map, the edges before it leave, values in force are kept, and the word
is stored. -/
theorem accepted_eq {s u : State} {req a : Nat} {w : Word} (h : s.accepted req a w = some u) :
    ∃ (d : RDesc) (ix : List Nat), findReg a = some (d, ix) ∧
      u = ((s.placeFirst a).keepInForce a d (ix.headD 0) (newWord d ix (s.reg a) w)).setReg a
        (newWord d ix (s.reg a) w) := by
  unfold State.accepted at h
  split at h
  · cases h
  · next d ix found =>
    dsimp only at h
    split at h
    · exact ⟨d, ix, found, (Option.some.inj h).symm⟩
    · cases h

@[simp] theorem keepInForce_reg (s : State) (a : Nat) (d : RDesc) (i : Nat) (new : Word) (b : Nat) :
    (s.keepInForce a d i new).reg b = s.reg b := by
  simp only [State.keepInForce, apply_ite (State.reg · b), updCarrier_reg, ite_self]

theorem placeFirst_other (s : State) {a : Nat} (pwm : a / 0x10000 ≠ 2) (gate : a / 0x10000 ≠ 3) :
    s.placeFirst a = s := if_neg (by simp [pwm, gate])

theorem State.SameMem.byte {s t : State} (h : s.SameMem t) (x : Nat) : t.byte x = s.byte x := by
  unfold State.byte; rw [h.mem]

/-! ### Writes of a register (R13, R38, R128) -/

/-- A write of a register on the fabric. -/
theorem exec_registerWrite_reg (t req : Nat) (w : Word) (s : State) {a : Nat} (h : a < 0x120000) (h4 : a % 4 = 0) :
    exec (.registerWrite t req (regAddr a) 4 w) s =
      .next (((s.busAt t req true).writeReg req a w).1.restartDue s.pwr.restart) := by
  rw [← regWriteAt_eq t req w s h h4]
  rfl

/-- A write without the right to the block is an access error of kind 2. -/
theorem writeReg_denied {s : State} {req a : Nat} (w : Word) (h : s.mayWrite req (a / 0x10000) = false) :
    s.writeReg req a w = (s.accessError req (regAddr a) 2 true, .err 2) := by
  unfold State.writeReg
  rw [h]
  rfl

/-- Outside its own block Lookout may write no offset that is not listed. -/
theorem writeReg_unlisted_lookout {s : State} {req a : Nat} (w : Word) (may : s.mayWrite req (a / 0x10000) = true)
    (h : findReg a = none) (lookout : role req = 6) (own : a / 0x10000 ≠ 8) :
    s.writeReg req a w = (s.accessError req (regAddr a) 2 true, .err 2) := by
  unfold State.writeReg
  simp only [may, h, Bool.not_true, Bool.false_eq_true, if_false]
  exact if_pos ⟨lookout, own⟩

/-- An offset that is not listed ignores a write (R41). -/
theorem writeReg_unlisted {s : State} {req a : Nat} (w : Word) (may : s.mayWrite req (a / 0x10000) = true)
    (h : findReg a = none) (other : role req ≠ 6 ∨ a / 0x10000 = 8) : s.writeReg req a w = (s, .ok) := by
  unfold State.writeReg
  simp only [may, h, Bool.not_true, Bool.false_eq_true, if_false]
  exact if_neg fun ⟨lookout, own⟩ => other.elim (· lookout) own

/-- A write that R128 refuses raises CFG_REJECT and stores nothing. -/
theorem writeReg_refused {s : State} {req a : Nat} {w : Word} {d : RDesc} {ix : List Nat} {reason : Nat} {k : Bool}
    (found : findReg a = some (d, ix)) (may : s.mayWrite req (a / 0x10000) = true)
    (mayReg : s.mayWriteReg req a d ix (newWord d ix (s.reg a) w) = true) (leg : legOnly d.base (ix.headD 0) = false)
    (bollard : d.base ≠ Reg.BERTH_K 0) (message : d.base ≠ Reg.BERTH_MSG 0 0)
    (refused : s.refusal false req a d ix w (newWord d ix (s.reg a) w) = some (reason, k)) :
    s.writeReg req a w = (s.cfgReject req reason a, .refused reason k) := by
  unfold State.writeReg State.writeListed
  simp only [found, may, mayReg, leg, bollard, message, refused, Bool.not_true, Bool.false_eq_true, if_false]

/-! ### Accesses of another width, and reads (R13, R25, R41) -/

/-- A write of a register in another width than 4 bytes is an access error of kind 1. -/
theorem busWrite_reg_width (s : State) (req : Nat) (w : Word) {a width : Nat} (h : a < 0x120000) (other : width ≠ 4) :
    s.busWrite req (regAddr a) width w = (s.accessError req (regAddr a) 1 true, .err 1) := by
  unfold State.busWrite
  simp only [place_reg s h]
  exact if_pos (.inl other)

/-- A read of a register in another width than 4 bytes is an access error of kind 1. -/
theorem busRead_reg_width (s : State) (req : Nat) {a width : Nat} (h : a < 0x120000) (other : width ≠ 4) :
    s.busRead req (regAddr a) width = (s.accessError req (regAddr a) 1 false, .error 1) := by
  unfold State.busRead
  simp only [place_reg s h]
  exact if_pos (.inl other)

/-- A read of an offset that is not listed has no effect. -/
theorem regReadAt_unlisted (t req : Nat) (s : State) {a : Nat} (h : a < 0x120000) (h4 : a % 4 = 0)
    (unlisted : findReg a = none) : regReadAt t req a s = s.busAt t req false := by
  have e : ¬ ((4 : Nat) ≠ 4 ∨ regAddr a % 4 ≠ 0) := by unfold regAddr; omega
  unfold regReadAt State.busRead
  simp only [place_reg _ h]
  rw [if_neg e]
  unfold State.readReg
  simp only [unlisted]

theorem exec_readClearAccess_reg (t req a : Nat) (s : State) :
    exec (.readClearAccess t req (regAddr a)) s = .next (regReadAt t req a s) := rfl

theorem exec_accessErrorRead (t req addr width : Nat) (s : State) :
    exec (.accessErrorRead t req addr width) s = .next ((s.busAt t req false).busRead req addr width).1 := rfl

/-- The watchdog of the fabric ends an access whose target does not answer (R25, R26). -/
theorem exec_fabricWatchdogExpiry (t req addr : Nat) (write : Bool) (s : State) :
    exec (.fabricWatchdogExpiry t req addr write) s =
      .next ((((s.upto t).accessError req addr 3 write).hostError req addr write).raise .fabricTimeout 56 0 t) := rfl

/-! ### The obligations -/

/-- Settles O48: the access begins without touching memory or a register but PERF_IRQ, and stores four bytes. -/
theorem memoryWordStored : Obligations.MemoryWordStored := by
  rintro t req addr w s x rfl here may free
  have kept : ((s.busAt t req true).setBytes addr (leBytes 4 w.toNat)).pwr.restart = s.pwr.restart := by
    rw [setBytes_pwr, (busAt_plain s t req true).2]
  refine ⟨(s.busAt t req true).setBytes addr (leBytes 4 w.toNat), ?_, memWord_setBytes .., fun a ha => ?_,
    fun r hr => ?_⟩
  · rw [exec_registerWrite, busWrite_mem 4 w here may free, restartDue_same kept]
  · rw [byte_setBytes_other _ _ _ _ (by simpa using ha), busAt_byte]
  · rw [setBytes_reg, busAt_reg _ _ _ _ hr]

/-- Settles O49: by the parts of an accepted write, each of which leaves memory and other registers alone. -/
theorem registerFrame : Obligations.RegisterFrame := by
  intro s u req a w h
  obtain ⟨d, ix, found, rfl⟩ := accepted_eq h
  refine ⟨fun b hb => ?_, placeFirst_other s, fun x => ?_, d, ix, found, reg_setReg_same .., fun i hi out => ?_⟩
  · rw [reg_setReg_other _ hb, keepInForce_reg]
  · exact (setReg_smem (keepInForce_smem _ _ _ _ _ (placeFirst_smem s a (.refl s))) _ _).byte x
  · rw [reg_setReg_same, newWord_getLsbD_other ix _ w hi out]

/-- Settles O2: nothing is listed in the stores, and every leg is at its reset value. -/
theorem resetIsGood : Obligations.ResetIsGood := ⟨⟨reset_canon, reset_forceOk⟩, rfl⟩

/-- Settles O6: every field of the reset state, and every register by the word of its map. -/
theorem resetValues : Obligations.ResetValues :=
  ⟨rfl, fun n => by rw [reset_axis], by decide, by decide, by decide, by decide, by decide, rfl, rfl, reset_reg⟩

/-- Settles O24: one law of the write or the read for each way that an access can end. -/
theorem registerAccesses : Obligations.RegisterAccesses := by
  rintro t req a w s u r rfl rfl ha h4
  have write := exec_registerWrite_reg t req w s ha h4
  refine ⟨fun d ix v found h => ?_, fun d ix new reason k found hnew may mayReg leg bollard message refused => ?_,
    fun denied => ?_, fun may unlisted => ⟨fun other => ?_, fun lookout own => ?_⟩, fun width other => ?_,
    fun d ix found => ?_, fun unlisted => ?_, fun width other => ?_, fun addr wr v x hv hx => ?_⟩
  · rw [write, writeReg_accepted h found]
  · subst hnew
    rw [write, writeReg_refused found may mayReg leg bollard message refused]
  · rw [write, writeReg_denied w denied]
  · rw [write, writeReg_unlisted w may unlisted other]
  · rw [write, writeReg_unlisted_lookout w may unlisted lookout own]
  · rw [exec_registerWrite, busWrite_reg_width _ req w ha other]
  · rw [exec_readClearAccess_reg, regReadAt_eq t req s found ha h4]
  · rw [exec_readClearAccess_reg, regReadAt_unlisted t req s ha h4 unlisted]
  · rw [exec_accessErrorRead, busRead_reg_width _ req ha other]
  · subst hv hx
    exact exec_fabricWatchdogExpiry t req addr wr s

end Sys2Proof.Machine
end

section
/-! # Proofs: the invariant, the bytes of memory, access errors, and the rows of Tide (R21-R59, R222, R266-R279)

First the laws of the operations that the statements speak of, then what every command keeps, then the obligations. -/

namespace Sys2Proof.Machine

/-! ### The channels of a leg (R266, R275, R279) -/

/-- While a refresh drives the low side it holds the high side off (R275). -/
theorem refreshing_of_refreshLow {g : Leg} {f : FrameNow} {x : Nat} (h : g.refreshLow f x = true) :
    g.refreshing f x = true := by
  simp only [Leg.refreshLow, Leg.refreshing, Option.any_eq_true, decide_eq_true_eq] at h ⊢
  obtain ⟨r, start, lo, hi⟩ := h
  exact ⟨r, start, by omega, by omega⟩

/-- The high side does not come on before the rise. -/
theorem rise_le_hiStart (g : Leg) (f : FrameNow) : f.z + f.rise ≤ g.hiStart f := by
  unfold Leg.hiStart
  split <;> omega

/-- In PWM mode the low side is off while the high side is on: a refresh that drives it holds the high side off, the
stretch before the rise ends where the high side may come on, and the one after the fall begins where it is off. -/
theorem pwmLo_of_pwmHi {g : Leg} {f : FrameNow} {x : Nat} (h : g.pwmHi f x = true) : g.pwmLo f x = false := by
  simp only [Leg.pwmHi, Bool.and_eq_true, decide_eq_true_eq, Bool.not_eq_true'] at h
  obtain ⟨⟨⟨pulse, rose, falls⟩, -⟩, free⟩ := h
  have noRefresh : g.refreshLow f x = false :=
    Bool.eq_false_iff.mpr fun low => Bool.false_ne_true (free.symm.trans (refreshing_of_refreshLow low))
  have risen : ¬ x < f.z + f.rise := Nat.not_lt.mpr (Nat.le_trans (rise_le_hiStart g f) rose)
  have notFallen : ¬ f.z + f.fall + g.dt ≤ x := by omega
  simp [Leg.pwmLo, noRefresh, pulse, risen, notFallen]

/-- A leg that is not forced on at both channels has not both commanded on, whatever the mode of its output stage. -/
theorem chanAt_not_both {s : State} (force : s.ForceOk) (x : Nat) (l : Fin 12) :
    ¬ (s.chanAt x l true = true ∧ s.chanAt x l false = true) := by
  rintro ⟨hi, lo⟩
  unfold State.chanAt at hi lo
  cases mode : s.outMode (s.axisOfLeg l) <;> simp only [mode] at hi lo
  case off => cases hi
  case asc => cases hi
  case force => exact force l ⟨hi, lo⟩
  case pwm =>
    simp only [if_true, Bool.false_eq_true, if_false, Bool.and_eq_true] at hi lo
    exact Bool.false_ne_true ((pwmLo_of_pwmHi hi.2).symm.trans lo.2)

/-- As the lines place the edges, the low side of a leg is on only where the high side is not (R32). -/
theorem noShoot (s : State) (t : Nat) : s.NoShoot t := by
  rintro l ⟨hi, lo⟩
  simp only [State.legOn, Bool.true_or, Bool.and_true, Bool.false_or, Bool.and_eq_true, Bool.not_eq_true'] at hi lo
  exact Bool.false_ne_true (lo.2.symm.trans hi)

/-! ### The capture of access errors (R43) -/

theorem bit_incHold_other (s : State) (f g : Fld)
    (h : f.addr ≠ g.addr ∨ f.lo + f.len ≤ g.lo ∨ g.lo + g.len ≤ f.lo) : (s.incHold f).bit g = s.bit g := by
  unfold State.bit State.incHold
  rw [get_set_other _ _ _ _ h]

theorem get_incHold_same (s : State) (f : Fld) (h : f.lo + f.len ≤ 32) :
    (s.incHold f).get f = min (s.get f + 1) (2 ^ f.len - 1) := by
  have : 0 < 2 ^ f.len := Nat.two_pow_pos _
  unfold State.incHold
  rw [get_set_same _ _ _ h, Nat.mod_eq_of_lt (by omega)]

/-- Only a loop engine has a flag for the errors of its accesses. -/
theorem engineError_other (s : State) {req : Nat} (addr : Nat) (write : Bool) (h : req < 7 ∨ 10 < req) :
    s.engineError req addr write = s := if_neg (by omega)

/-- What the first access error leaves in the capture. -/
def State.captured (s : State) (req addr kind : Nat) (write : Bool) : State :=
  s.sets [(Reg.SYS_ACCERR_REQ, req), (Reg.SYS_ACCERR_WRITE, flag write), (Reg.SYS_ACCERR_KIND, kind),
    (Reg.SYS_ACCERR_VALID, 1), (Reg.SYS_ACCERR_ADDL_ADDR, addr), (Reg.SYS_ACCERR_ADDH_ADDR, addr / 2 ^ 32)]

section
variable (s : State) (req addr kind : Nat) (write : Bool)

/-- While VALID is 1, an access error is counted alone. -/
theorem accessError_again (valid : (s.engineError req addr write).bit Reg.SYS_ACCERR_VALID = true) :
    s.accessError req addr kind write = (s.engineError req addr write).incHold Reg.SYS_ACCERR_CNT_COUNT :=
  if_pos ((bit_incHold_other _ _ _ (.inl (by decide))).trans valid)

/-- While VALID is 0, an access error is counted and captured. -/
theorem accessError_first (valid : (s.engineError req addr write).bit Reg.SYS_ACCERR_VALID = false) :
    s.accessError req addr kind write =
      ((s.engineError req addr write).incHold Reg.SYS_ACCERR_CNT_COUNT).captured req addr kind write :=
  if_neg (by rw [bit_incHold_other _ _ _ (.inl (by decide)), valid]; exact Bool.false_ne_true)

/-- The fields of the capture, each as wide as its register holds it; the count is none of them. -/
theorem captured_fields :
    (s.captured req addr kind write).bit Reg.SYS_ACCERR_VALID = true ∧
    (s.captured req addr kind write).get Reg.SYS_ACCERR_REQ = req % 128 ∧
    (s.captured req addr kind write).get Reg.SYS_ACCERR_KIND = kind % 8 ∧
    (s.captured req addr kind write).get Reg.SYS_ACCERR_WRITE = flag write % 2 ∧
    (s.captured req addr kind write).get Reg.SYS_ACCERR_ADDL_ADDR = addr % 2 ^ 32 ∧
    (s.captured req addr kind write).get Reg.SYS_ACCERR_ADDH_ADDR = addr / 2 ^ 32 % 256 ∧
    (s.captured req addr kind write).get Reg.SYS_ACCERR_CNT_COUNT = s.get Reg.SYS_ACCERR_CNT_COUNT := by
  simp [State.captured, State.sets, State.bit, get_set_same, get_set_other, Reg.SYS_ACCERR_REQ, Reg.SYS_ACCERR_WRITE,
    Reg.SYS_ACCERR_KIND, Reg.SYS_ACCERR_VALID, Reg.SYS_ACCERR_ADDL_ADDR, Reg.SYS_ACCERR_ADDH_ADDR,
    Reg.SYS_ACCERR_CNT_COUNT, Reg.SYS_ACCERR, Reg.SYS_ACCERR_ADDL, Reg.SYS_ACCERR_ADDH, Reg.SYS_ACCERR_CNT]

end

/-! ### Where addresses lead (R39, R222) -/

theorem place_flash (s : State) {a : Nat} (lo : 0x60000000 ≤ a) (hi : a < 0x64000000) : s.place a = .flash a := by
  unfold State.place localPlace
  rw [if_neg (by omega), if_neg (by omega), if_neg (by omega), if_neg (by omega), if_neg (by omega), if_pos ⟨lo, hi⟩]

theorem place_noBlock (s : State) {a : Nat} (lo : 0x40120000 ≤ a) (hi : a < 0x41000000) : s.place a = .noBlock := by
  unfold State.place localPlace
  rw [if_neg (by omega), if_neg (by omega), if_neg (by omega), if_neg (by omega), if_pos (by omega), if_neg (by omega)]

theorem place_nowhere (s : State) {a : Nat} (lo : 0x280000000 ≤ a) (hi : a < 0x800000000) : s.place a = .nowhere := by
  unfold State.place localPlace
  rw [if_neg (by omega), if_neg (by omega), if_neg (by omega), if_neg (by omega), if_neg (by omega), if_neg (by omega),
    if_neg (by omega), if_neg (by omega), if_neg (by omega)]

theorem place_engine (s : State) (n : Fin 4) {off : Nat} (h : off < 0x100000) :
    s.place (0x20000000 + n.val * 0x100000 + off) = .engine n off := by
  have number : (0x20000000 + n.val * 0x100000 + off - 0x20000000) / 0x100000 = n.val := by omega
  have offset : (0x20000000 + n.val * 0x100000 + off) % 0x100000 = off := by omega
  unfold State.place localPlace
  rw [if_neg (by omega), if_neg (by omega), if_neg (by omega), if_pos (by omega), number, offset, Fin.ofNat_val_eq_self]

/-! ### Accesses that fail (R39-R41) -/

theorem busWrite_flash {s : State} (req width : Nat) (w : Word) {a : Nat} (h : s.place a = .flash a) :
    s.busWrite req a width w = (s.accessError req a 2 true, .err 2) := by
  unfold State.busWrite
  simp only [h]

theorem busWrite_noBlock {s : State} (req width : Nat) (w : Word) {a : Nat} (h : s.place a = .noBlock) :
    s.busWrite req a width w = (s.accessError req a 4 true, .err 4) := by
  unfold State.busWrite
  simp only [h]

theorem busRead_noBlock {s : State} (req width : Nat) {a : Nat} (h : s.place a = .noBlock) :
    s.busRead req a width = (s.accessError req a 4 false, .error 4) := by
  unfold State.busRead
  simp only [h]

theorem busWrite_nowhere {s : State} (req width : Nat) (w : Word) {a : Nat} (h : s.place a = .nowhere) :
    s.busWrite req a width w = (s.accessError req a 0 true, .err 0) := by
  unfold State.busWrite
  simp only [h]

theorem busRead_nowhere {s : State} (req width : Nat) {a : Nat} (h : s.place a = .nowhere) :
    s.busRead req a width = (s.accessError req a 0 false, .error 0) := by
  unfold State.busRead
  simp only [h]

/-! ### Writes of engine memory (R131, R222, R223, R260) -/

theorem exec_engineMemoryWrite (t req addr : Nat) (w : Word) (s : State) :
    exec (.engineMemoryWrite t req addr w) s = .next ((s.busAt t req true).busWrite req addr 4 w).1 := rfl

section
variable {s : State} {req : Nat} (number : assigned req = true) (remote : s.remoteOk req = true)
  (loop : within 7 10 (role req) = false)
include number remote loop

/-- A requester that is no loop engine stores a word that the engine takes. -/
theorem busWrite_engine {v : State} (width : Nat) (w : Word) {a off : Nat} {n : Fin 4}
    (leads : s.place a = .engine n off) (takes : s.writeEngine n off w = some v) :
    s.busWrite req a width w = (v, .ok) := by
  unfold State.busWrite
  simp only [leads, number, remote, loop, takes, Bool.and_self, Bool.not_true, Bool.or_self, Bool.false_eq_true,
    if_false]

/-- A word that the engine does not take is an access error of kind 2. -/
theorem busWrite_engine_refused (width : Nat) (w : Word) {a off : Nat} {n : Fin 4} (leads : s.place a = .engine n off)
    (refuses : s.writeEngine n off w = none) :
    s.busWrite req a width w = (s.accessError req a 2 true, .err 2) := by
  unfold State.busWrite
  simp only [leads, number, remote, loop, refuses, Bool.and_self, Bool.not_true, Bool.or_self, Bool.false_eq_true,
    if_false]

end

section
variable {s : State} {n : Fin 4} {k : Nat} (w : Word)

theorem writeEngine_prog (h : k < 16384) (idle : (s.axis n).st.closed = false) :
    s.writeEngine n (4 * k) w = some ((s.updEng n fun e =>
      { e with
        prog := stoPut e.prog (k / 2) (setHalf (stoGet e.prog (k / 2) 0) (k % 2 == 1) w) 0 }).unloadProgram n) := by
  have word : 4 * k / 8 = k / 2 := by omega
  have half : 4 * k / 4 = k := by omega
  unfold State.writeEngine
  rw [if_pos (by omega), idle, word, half]
  rfl

theorem writeEngine_coef (h : k < 4096) (idle : (s.axis n).st.closed = false) :
    s.writeEngine n (0x10000 + 4 * k) w = some (s.setCoef n k w) := by
  have entry : (0x10000 + 4 * k - 0x10000) / 4 = k := by omega
  unfold State.writeEngine
  rw [if_neg (by omega), if_pos (by omega), idle, entry]
  rfl

theorem writeEngine_state (h : k < 4096) (idle : (s.axis n).st.closed = false) :
    s.writeEngine n (0x20000 + 4 * k) w = some (s.setState n k w) := by
  have entry : (0x20000 + 4 * k - 0x20000) / 4 = k := by omega
  unfold State.writeEngine
  rw [if_neg (by omega), if_neg (by omega), if_pos (by omega), idle, entry]
  rfl

/-- In RUN and TUNE the coefficient store takes no word. -/
theorem writeEngine_coef_closed (h : k < 4096) (closed : (s.axis n).st.closed = true) :
    s.writeEngine n (0x10000 + 4 * k) w = none := by
  unfold State.writeEngine
  rw [if_neg (by omega), if_pos (by omega), closed]
  rfl

end

/-- An access from another module; a restart that it makes due follows (R448, R467). -/
theorem exec_remoteAccess (t req addr : Nat) (write : Bool) (w : Word) (s : State) :
    exec (.remoteAccess t req addr write w) s = .next ((remoteAccess t req addr write w s).restartDue s.pwr.restart) :=
  rfl

/-! ### The PLL, the reference and the AS discipline (R21, R47, R73) -/

theorem exec_pllLockLoss (t : Nat) (s : State) : exec (.pllLockLoss t) s =
    .next ((((({ (s.upto t).set Reg.TIDE_STATUS_LOCK 0 with backup := true } : State).updBw fun b =>
      { b with pllStop := true }).eachAxis State.faultAxis).setModState 4).settle t) := rfl

theorem exec_tidePllRelock (t : Nat) (s : State) : exec (.tidePllRelock t) s =
    .next { (s.upto t).set Reg.TIDE_STATUS_LOCK 1 with backup := false } := rfl

theorem exec_refinLoss {t : Nat} {s : State} (used : s.bit Reg.TIDE_STATUS_REFACT = true) (own : s.following = false) :
    exec (.refinLoss t) s = .next
      (((s.upto t).sets [(Reg.TIDE_STATUS_REFLOST, 1), (Reg.TIDE_STATUS_REFACT, 0)]).raise .refLost 0 0 t) := by
  have lost : ((s.upto t).bit Reg.TIDE_STATUS_REFACT && !(s.upto t).following) = true := by
    rw [upto_bit, used, show (s.upto t).following = false from own]
    rfl
  exact congrArg Host.Outcome.next (if_pos lost)

theorem exec_asHoldover {t : Nat} {s : State} (on : s.bit Reg.TIDE_CTL_ASEN = true) (started : s.asd.started = true)
    (alone : s.isMember = false) : exec (.asHoldover t) s = .next
      ((({ s.upto t with asd := { (s.upto t).asd with okSince := none } } : State).sets
        [(Reg.TIDE_STATUS_ASHOLD, 1), (Reg.TIDE_STATUS_ASLOCK, 0)]).raise .asHoldover 0 0 t) := by
  have held : ((s.upto t).bit Reg.TIDE_CTL_ASEN && (s.upto t).asd.started && !(s.upto t).isMember) = true := by
    rw [upto_bit, on, upto_asd, started, show (s.upto t).isMember = false from alone]
    rfl
  exact congrArg Host.Outcome.next (if_pos held)

/-! ### Placement lines (R51, R52) -/

section
variable {t : Nat} {k : Fin 28} {l : List (Nat × Nat)} {s v : State} (now : v = (s.upto t).drive (32 * t))
  (turn : k.val = v.dl.turn.val)
include now turn

/-- The line in turn takes a measurement, once 4096 ticks are over and it has no edge within 16. -/
theorem exec_delayLineMeasurement {n : Nat} (mean : v.lineMean k l = some n) (due : v.dl.since + 4096 ≤ t)
    (quiet : v.scheduled k t (t + 16) = false) :
    exec (.delayLineMeasurement t k l) s = .next ((v.measureLine t k n).nextLine t) := by
  subst now
  have inTurn : ¬ k ≠ ((s.upto t).drive (32 * t)).dl.turn := fun h => h (Fin.ext turn)
  have taken : delayLine t k l s = (((s.upto t).drive (32 * t)).measureLine t k n).nextLine t := by
    unfold delayLine
    simp only [inTurn, mean, due, quiet, Bool.not_false, and_self, if_true, if_false]
  exact congrArg Host.Outcome.next taken

/-- The line in turn is skipped when 65 536 ticks have not given 16 idle windows. -/
theorem exec_delayLineMeasurement_skip (mean : v.lineMean k l = none) (due : v.dl.since + 65536 ≤ t) :
    exec (.delayLineMeasurement t k l) s = .next (v.nextLine t) := by
  subst now
  have inTurn : ¬ k ≠ ((s.upto t).drive (32 * t)).dl.turn := fun h => h (Fin.ext turn)
  have skipped : delayLine t k l s = ((s.upto t).drive (32 * t)).nextLine t := by
    unfold delayLine
    simp only [inTurn, mean, due, if_true, if_false]
  exact congrArg Host.Outcome.next skipped

end

theorem measureLine_accepted (u : State) (t : Nat) (k : Fin 28) {n : Nat} (lo : 34 ≤ n) (hi : n ≤ 63) :
    u.measureLine t k n =
      State.set { u with dl := { u.dl with line := u.dl.line.set k { taps := n, rejects := 0 } } }
        (Reg.TIDE_DLCOARSE_BIT k) 0 := if_pos ⟨lo, hi⟩

section
variable (u : State) {v : State} {t : Nat} {k : Fin 28} {n r : Nat} (out : n < 34 ∨ 63 < n)
  (count : r = min 8 ((u.dl.line[k]).rejects + 1))
  (kept : v = State.sets { u with dl := { u.dl with line := u.dl.line.set k { u.dl.line[k] with rejects := r } } }
    [(Reg.TIDE_DLCAL_REJ, 1), (Reg.TIDE_DLCAL_LINE, k)])
include out count kept

/-- A rejected measurement other than the eighth in a row is shown and counted alone. -/
theorem measureLine_rejected (other : r ≠ 8 ∨ 8 ≤ (u.dl.line[k]).rejects) : u.measureLine t k n = v := by
  subst kept count
  exact (if_neg (by omega)).trans (if_neg (by omega))

/-- The eighth rejected measurement in a row makes the line coarse. -/
theorem measureLine_eighth (eighth : r = 8) (first : (u.dl.line[k]).rejects < 8) :
    u.measureLine t k n = (v.set (Reg.TIDE_DLCOARSE_BIT k) 1).raise .dlCalFail 0 k t := by
  subst kept count
  exact (if_neg (by omega)).trans (if_pos ⟨eighth, first⟩)

end

/-! ### The core rail (R56-R59) -/

theorem exec_railTrimInterval {t : Nat} (s : State) (edge : t % Config.ms = 0) (later : 0 < t) :
    exec (.railTrimInterval t) s = .next
      (railBlocks.foldl (State.marginLow t (interval t - 1) (s.upto t).rail.worst)
        ((s.upto t).railTrim (interval t - 1))) :=
  congrArg Host.Outcome.next (if_pos ⟨edge, later⟩)

theorem exec_railGuardBoost (t : Nat) (b : Fin 5) (k : Nat) (s : State) : exec (.railGuardBoost t b k) s =
    .next (State.guardRail (s.upto t) ((s.upto t).set (Reg.TIDE_CANARY_DELAY b) k) (s.upto t).tide) := rfl

theorem exec_boostRelease {t : Nat} {s : State} (due : s.rail.boostAt + 10 * Config.ms ≤ t)
    (calm : s.overGuard = false) :
    exec (.boostRelease t) s = .next ((s.upto t).set Reg.TIDE_STATUS_BOOST 0) := by
  have below : (!(s.upto t).overGuard) = true := by
    rw [show (s.upto t).overGuard = false from calm]
    rfl
  exact congrArg Host.Outcome.next (if_pos ⟨due, below⟩)

/-! ### What every command keeps -/

/-- What every operation keeps includes the invariant (R279). -/
theorem State.Keeps.inv {s t : State} (h : s.Keeps t) : s.Inv → t.Inv := fun ⟨⟨mem, regs⟩, force⟩ =>
  ⟨⟨h.mem mem, h.regs regs⟩, h.force force⟩

/-- Every command answers a next state and keeps what every operation keeps. A row is one operation, of which its own
law says so; the rows that put several operations together are named, each with the laws of its parts. -/
theorem exec_keeps (c : Instr) (s : State) : ∃ u, exec c s = .next u ∧ s.Keeps u := by
  have start := State.Keeps.refl s
  cases c with
  | udpDatagram => exact ⟨_, rfl, arrive_keeps _ _ _ _ (sendDue_keeps _ (upto_keeps _ _ start))⟩
  | canCommandFragment => exact ⟨_, rfl, canFragment_keeps _ _ _ (sendDue_keeps _ (upto_keeps _ _ start))⟩
  | regWrite => exact ⟨_, rfl, restartDue_keeps _ _ (command_keeps _ _ _ _ start cmdRegWrite_keeps)⟩
  | regModify => exact ⟨_, rfl, restartDue_keeps _ _ (command_keeps _ _ _ _ start cmdRegModify_keeps)⟩
  | logbookDisarm =>
    exact ⟨_, rfl, command_keeps _ _ _ _ start fun _ _ k => logState_keeps _ (logDisarm_keeps _ _ k)⟩
  | logbookTriggerNow =>
    exact ⟨_, rfl, command_keeps _ _ _ _ start fun _ _ k => logState_keeps _ (logTriggerNow_keeps _ _ k)⟩
  | fwUpdateAbort => exact ⟨_, rfl, command_keeps _ _ _ _ start fun _ _ k => ok_keeps _ _ (dropUpdate_keeps _ k)⟩
  | registerWrite => exact ⟨_, rfl, restartDue_keeps _ _ (busWrite_keeps _ _ _ _ _ (busAt_keeps _ _ _ _ start))⟩
  | tidePllRelock => exact ⟨_, rfl, keeps_other (set_keeps _ _ _ (upto_keeps _ _ start)) ..⟩
  | _ => exact ⟨_, rfl, by simp +contextual [start]⟩

/-- A command that is none of those that may store answers a next state with the memory as it was: its operation has a
law under `Sys2Proof/Laws/Mem/`. -/
theorem exec_smem {c : Instr} (s : State) (h : mayStore c = false) : ∃ u, exec c s = .next u ∧ s.SameMem u := by
  have start := State.SameMem.refl s
  cases c with cases h
  | _ => exact ⟨_, rfl, by simp [start]⟩

/-! ### The obligations -/

/-- Settles O3: a step is a command on the state with the queue's rest, of which the invariant does not speak, or a
tick. -/
theorem everyStepKeepsTheInvariant : Obligations.EveryStepKeepsTheInvariant := by
  intro s t inv h
  unfold step at h
  split at h
  · cases h
    exact (idleTick_keeps s (.refl s)).inv inv
  · next c rest _ =>
    obtain ⟨u, hu, kept⟩ := exec_keeps c { s with pending := rest }
    cases hu.symm.trans h
    exact kept.inv inv

/-- Settles O5: as placed by the definition of the low side's command, and at every instant mode by mode. -/
theorem neverBothOn : Obligations.NeverBothOn := fun s force => ⟨noShoot s, chanAt_not_both force⟩

/-- Settles O47: by the laws of the commands that do not store. -/
theorem memoryIsKept : Obligations.MemoryIsKept := by
  intro c s u noStore h a
  obtain ⟨v, hv, kept⟩ := exec_smem s noStore
  cases hv.symm.trans h
  exact kept.byte a

/-- Settles O54: the error is counted, and captured where VALID was 0. -/
theorem accessErrorsAreCaptured : Obligations.AccessErrorsAreCaptured := by
  rintro r s req addr kind write rfl
  refine ⟨engineError_other r addr write, accessError_again r req addr kind write, fun first hreq hkind haddr => ?_⟩
  rw [accessError_first r req addr kind write first]
  obtain ⟨valid, requester, kinds, direction, low, high, count⟩ := captured_fields
    ((r.engineError req addr write).incHold Reg.SYS_ACCERR_CNT_COUNT) req addr kind write
  refine ⟨valid, ?_, ?_, ?_, ?_, ?_⟩
  · rw [requester, Nat.mod_eq_of_lt hreq]
  · rw [kinds, Nat.mod_eq_of_lt hkind]
  · rw [State.bit, direction]
    cases write <;> rfl
  · rw [low, high]
    omega
  · rw [count]
    exact get_incHold_same _ _ (by decide)

/-- Settles O25: where the address leads, and what the bus does there. -/
theorem memoryAccesses : Obligations.MemoryAccesses := by
  rintro t req w s u r rfl rfl
  refine ⟨fun addr lo hi may free => ?_, fun addr lo hi may free => ?_, fun addr lo hi => ?_,
    fun addr lo hi => ⟨?_, ?_⟩, fun addr lo hi => ⟨?_, ?_⟩, fun n k hk number remote loop idle => ⟨?_, ?_⟩,
    fun n k hk number remote loop idle => ?_, fun n k hk number remote loop closed => ?_, ?_⟩
  · rw [exec_registerWrite, busWrite_mem 4 w (.inl ⟨lo, hi⟩) may free]
  · rw [exec_registerWrite, busWrite_mem 4 w (.inr ⟨lo, hi⟩) may free]
  · rw [exec_registerWrite, busWrite_flash req 4 w (place_flash _ lo hi)]
  · rw [exec_registerWrite, busWrite_noBlock req 4 w (place_noBlock _ lo hi)]
  · rw [exec_accessErrorRead, busRead_noBlock req 4 (place_noBlock _ lo hi)]
  · rw [exec_registerWrite, busWrite_nowhere req 4 w (place_nowhere _ lo hi)]
  · rw [exec_accessErrorRead, busRead_nowhere req 4 (place_nowhere _ lo hi)]
  · rw [exec_engineMemoryWrite, Nat.add_assoc _ 0x10000,
      busWrite_engine number remote loop 4 w (place_engine _ n (by omega)) (writeEngine_coef w hk idle)]
  · rw [exec_engineMemoryWrite, Nat.add_assoc _ 0x20000,
      busWrite_engine number remote loop 4 w (place_engine _ n (by omega)) (writeEngine_state w hk idle)]
  · rw [exec_engineMemoryWrite,
      busWrite_engine number remote loop 4 w (place_engine _ n (by omega)) (writeEngine_prog w hk idle)]
  · rw [exec_engineMemoryWrite, Nat.add_assoc _ 0x10000,
      busWrite_engine_refused number remote loop 4 w (place_engine _ n (by omega)) (writeEngine_coef_closed w hk closed)]
  · rintro addr a back x rfl rfl rfl loop
    constructor
    · rw [exec_remoteAccess, remoteAccess_serve _ _ _ _ _ _ loop, remoteServe_write]
    · rw [exec_remoteAccess, remoteAccess_serve _ _ _ _ _ _ loop, remoteServe_read]

/-- Settles O36, row by row. -/
theorem tideRows : Obligations.TideRows := by
  rintro t s u rfl
  exact ⟨exec_pllLockLoss t s, exec_tidePllRelock t s, exec_refinLoss,
    fun k l n v now turn => exec_delayLineMeasurement now turn,
    fun k l v now turn => exec_delayLineMeasurement_skip now turn,
    fun k n => measureLine_accepted _ t k,
    fun k n r v out count kept =>
      ⟨measureLine_rejected (s.upto t) out count kept, measureLine_eighth (s.upto t) out count kept⟩,
    exec_railTrimInterval s, fun b k => exec_railGuardBoost t b k s, exec_boostRelease, exec_asHoldover⟩

end Sys2Proof.Machine
end

section
/-! # Proofs: the fault queue, Tide reads, the networks' registers, and the thermal, fault and Ethernet rows (R46-R73,
R326-R337, R370-R394)

First the laws of the operations that the statements speak of, then the rows, then the obligations. -/

namespace Sys2Proof.Machine

/-! ### The order of R63 -/

/-- Entries of one epoch come by their slots, then by their order keys, then by their stamps. -/
theorem before_iff {a b : Entry} (epoch : a.epoch = b.epoch) :
    a.before b = true ↔ slotOfStamp a.stamp < slotOfStamp b.stamp ∨
      slotOfStamp a.stamp = slotOfStamp b.stamp ∧ (64 * a.mid + a.src < 64 * b.mid + b.src ∨
        64 * a.mid + a.src = 64 * b.mid + b.src ∧ a.stamp < b.stamp) := by
  unfold Entry.before
  rw [if_neg fun other => other.2 epoch]
  dsimp only
  split
  · rw [decide_eq_true_eq]; omega
  · split
    · rw [decide_eq_true_eq]; omega
    · rw [decide_eq_true_eq]; omega

theorem before_eq_false_iff {a b : Entry} (epoch : a.epoch = b.epoch) :
    a.before b = false ↔ slotOfStamp b.stamp < slotOfStamp a.stamp ∨
      slotOfStamp b.stamp = slotOfStamp a.stamp ∧ (64 * b.mid + b.src < 64 * a.mid + a.src ∨
        64 * b.mid + b.src = 64 * a.mid + a.src ∧ b.stamp ≤ a.stamp) := by
  rw [← Bool.not_eq_true, before_iff epoch]
  omega

/-- In one epoch, nothing that does not come before `x` comes before an entry that does. -/
theorem not_before_of_before {e x y : Entry} (epochX : x.epoch = e.epoch) (epochY : y.epoch = e.epoch)
    (first : e.before x = true) (behind : y.before x = false) : y.before e = false := by
  rw [before_iff epochX.symm] at first
  rw [before_eq_false_iff (epochY.trans epochX.symm)] at behind
  rw [before_eq_false_iff epochY]
  omega

/-- In one epoch, of two entries at most one comes before the other. -/
theorem before_asymm {e x : Entry} (epoch : x.epoch = e.epoch) (first : e.before x = true) : x.before e = false := by
  rw [before_iff epoch.symm] at first
  rw [before_eq_false_iff epoch]
  omega

theorem mem_insertEntry {e x : Entry} {l : List Entry} : x ∈ insertEntry e l ↔ x = e ∨ x ∈ l := by
  induction l with
  | nil => simp [insertEntry]
  | cons y r ih =>
    unfold insertEntry
    split
    · exact List.mem_cons
    · rw [List.mem_cons, ih, List.mem_cons]
      exact or_left_comm

@[simp] theorem insertEntry_length (e : Entry) (l : List Entry) : (insertEntry e l).length = l.length + 1 := by
  induction l with
  | nil => rfl
  | cons y r ih =>
    unfold insertEntry
    split
    · rfl
    · rw [List.length_cons, ih, List.length_cons]

/-- An entry enters an ordered list of entries of its epoch before the first that it comes before: it comes before none
of those ahead of it, and none of those behind comes before it. -/
theorem insertEntry_ordered {e : Entry} {l : List Entry} (epoch : ∀ x ∈ l, x.epoch = e.epoch)
    (order : l.Pairwise fun a b => b.before a = false) :
    (insertEntry e l).Pairwise fun a b => b.before a = false := by
  induction l with
  | nil => exact List.pairwise_singleton _ e
  | cons x r ih =>
    obtain ⟨ahead, rest⟩ := List.pairwise_cons.mp order
    have epochX : x.epoch = e.epoch := epoch x List.mem_cons_self
    have epochR : ∀ y ∈ r, y.epoch = e.epoch := fun y hy => epoch y (List.mem_cons_of_mem x hy)
    unfold insertEntry
    split
    · next first =>
      refine List.pairwise_cons.mpr ⟨fun y hy => ?_, order⟩
      rcases List.mem_cons.mp hy with rfl | hy
      · exact before_asymm epochX first
      · exact not_before_of_before epochX (epochR y hy) first (ahead y hy)
    · next later =>
      refine List.pairwise_cons.mpr ⟨fun y hy => ?_, ih epochR rest⟩
      rcases mem_insertEntry.mp hy with rfl | hy
      · exact Bool.eq_false_iff.mpr later
      · exact ahead y hy

/-! ### The length of the fault queue (R337) -/

@[simp] theorem sendTo_fm (s : State) (m : Fin 8) (what : Nat) (args : List Nat) : (s.sendTo m what args).fm = s.fm :=
  (sendTo_same s m what args (.refl s)).fm

@[simp] theorem tellEntry_fm (s : State) (what : Nat) (e : Entry) : (s.tellEntry what e).fm = s.fm := by
  unfold State.tellEntry
  split
  · exact sendTo_fm ..
  · rfl

/-- What a module tells of entries changes no queue. -/
theorem tellEntries_fm (what : Nat) (l : List Entry) (s : State) :
    (l.foldl (fun (s : State) e => s.tellEntry what e) s).fm = s.fm :=
  List.foldlRecOn (motive := fun v : State => v.fm = s.fm) l _ rfl fun _ h e _ => (tellEntry_fm _ what e).trans h

@[simp] theorem putQueue_queue (s : State) (q : List Entry) : (s.putQueue q).fm.queue = q := by
  unfold State.putQueue
  dsimp only
  rw [tellEntries_fm, tellEntries_fm, tellEntries_fm]
  rfl

/-- A lost entry leaves the queue as it is. -/
@[simp] theorem lostEntry_fm (s : State) : s.lostEntry.fm = s.fm := by
  unfold State.lostEntry State.tellLead
  split
  · exact sendTo_fm ..
  · rfl

/-- A new entry takes a free place of the 64, or is lost. -/
theorem enters_length_le {s : State} (e : Entry) (room : s.fm.queue.length ≤ 64) :
    (if s.fm.queue.length < 64 then s.putQueue (insertEntry e s.fm.queue) else s.lostEntry).fm.queue.length ≤ 64 := by
  split
  · next free =>
    rw [putQueue_queue, insertEntry_length]
    exact free
  · rw [lostEntry_fm]
    exact room

/-- An arriving fault merges with the entries it finds, or is a new entry. -/
theorem enterQueue_length_le (s : State) (f : FaultIn) (sev req : Nat) (latched retry : Bool)
    (room : s.fm.queue.length ≤ 64) : (s.enterQueue f sev req latched retry).fm.queue.length ≤ 64 := by
  unfold State.enterQueue
  dsimp only
  split
  · split
    · rw [putQueue_queue, List.length_map]; exact room
    · exact enters_length_le _ room
  · split
    · rw [putQueue_queue, List.length_map]; exact room
    · exact enters_length_le _ room

/-! ### Reads of a register, and the captures of the Tide count (R41, R48) -/

/-- A read of a register of the map returns its value and has its effect. -/
theorem busRead_reg (s : State) (req : Nat) {a : Nat} {d : RDesc} {ix : List Nat} (found : findReg a = some (d, ix))
    (h : a < 0x120000) (h4 : a % 4 = 0) :
    s.busRead req (regAddr a) 4 = (s.readEffect req a d ix, .ok (s.viewReg req a d.base ix)) := by
  have aligned : ¬ ((4 : Nat) ≠ 4 ∨ regAddr a % 4 ≠ 0) := by unfold regAddr; omega
  unfold State.busRead
  simp only [place_reg s h]
  rw [if_neg aligned]
  unfold State.readReg
  simp only [found]

@[simp] theorem capGet_capPut_same (l : List (Nat × Nat)) (k v : Nat) : capGet (capPut l k v) k = v := by
  simp [capGet, capPut]

/-- A capture leaves those of the other requesters. -/
theorem capGet_capPut_other (l : List (Nat × Nat)) {k r : Nat} (v : Nat) (h : r ≠ k) :
    capGet (capPut l k v) r = capGet l r := by
  have kept (p : Nat × Nat) : decide ((p.1 != k) = true ∧ (p.1 == r) = true) = (p.1 == r) := by
    by_cases e : p.1 = r <;> simp [e, h]
  unfold capGet capPut
  rw [List.find?_cons_of_neg (by simpa using h.symm), List.find?_filter]
  simp only [kept]

/-- A read of `TIDE_NOW_L` returns the low word of the count and captures the count. -/
theorem busRead_TIDE_NOW_L (s : State) (req : Nat) :
    s.busRead req (regAddr Reg.TIDE_NOW_L) 4 = (s.tideCapture req, .ok (BitVec.ofNat 32 s.tide)) := by
  obtain ⟨d, found, base⟩ := find_of (a := Reg.TIDE_NOW_L) (b := Reg.TIDE_NOW_L) (ix := []) (by decide)
  have plain := norc_of found (by decide)
  rw [busRead_reg s req found (by decide) (by decide)]
  unfold State.readEffect
  rw [plain, base]
  rfl

/-- A read of `TIDE_NOW_H` returns the high word of the requester's last capture and has no effect. -/
theorem busRead_TIDE_NOW_H (s : State) (req : Nat) :
    s.busRead req (regAddr Reg.TIDE_NOW_H) 4 = (s, .ok (BitVec.ofNat 32 (capGet s.caps req / 2 ^ 32))) := by
  obtain ⟨d, found, base⟩ := find_of (a := Reg.TIDE_NOW_H) (b := Reg.TIDE_NOW_H) (ix := []) (by decide)
  have plain := norc_of found (by decide)
  rw [busRead_reg s req found (by decide) (by decide)]
  unfold State.readEffect
  rw [plain, base]
  rfl

theorem exec_tideNowLRead (t req : Nat) (s : State) :
    exec (.tideNowLRead t req) s = .next ((s.busAt t req false).tideCapture req) := rfl

/-! ### Accepted writes of the networks' registers (R381, R382, R378, R388-R391) -/

/-- SWAP with a legal administrative list sets the instant of the exchange (R381). -/
theorem swapWritten_legal (s : State) (t : Nat) (p : Fin 4) {cyc : Nat}
    (sum : cyc = (((s.adminList p).entries.take ((s.adminList p).len + 1)).map Prod.snd).sum)
    (len : (s.adminList p).len ≤ 127) (lo : 4 ≤ cyc) (hi : cyc ≤ 400000000) :
    s.swapWritten t p =
      (s.updEth fun e => { e with swapAt := e.swapAt.set p (some (swapInstant t (s.adminList p).base cyc)) }).set
        (Reg.ETH_PSTAT_SWAPPEND p) 1 := by
  subst sum
  exact if_neg (by omega)

/-- A grandmaster's seconds step the time base (R382). -/
theorem gmSecWritten_gm {s : State} (t : Nat) (gm : s.bit Reg.ETH_ASCFG_GM = true) :
    s.gmSecWritten t = (s.sets [(Reg.TIDE_ASBASE_NS_NS, 0), (Reg.TIDE_ASBASE_SL_SEC, s.get Reg.ETH_ASGMSEC_SEC),
      (Reg.TIDE_ASBASE_SH_SEC, 0)]).raise .tideAsStep 0 0 t := if_pos gm

/-- The tail of an enabled transmit ring sends its frames (R378). -/
theorem tailWritten_enabled {s : State} (t : Nat) {r : Fin 4} (en : s.bit (Reg.ETH_RINGBASE_EN (r + 4)) = true) :
    s.tailWritten t r = State.ringDrain t r 1024 s := if_pos en

section
variable {s : State} {c : Fin 4} {b : Fin 16} {w : Word}

/-- ARM of a buffer that is not pending, with a legal length (R389). -/
theorem txctlWritten_arm (arm : w.getLsbD 8 = true) (noAbort : w.getLsbD 9 = false)
    (len : dlcLengths.contains (s.get (Reg.CAN_TXCTL_LEN c b)) = true)
    (classic : s.bit (Reg.CAN_TXID_FDF c b) = true ∨ s.get (Reg.CAN_TXCTL_LEN c b) ≤ 8)
    (free : s.txPending c b = false) : s.txctlWritten c b w = s.set (Reg.CAN_TXCTL_STATE c b) 1 := by
  have fits : (s.bit (Reg.CAN_TXID_FDF c b) || decide (s.get (Reg.CAN_TXCTL_LEN c b) ≤ 8)) = true := by
    simpa using classic
  simp only [State.txctlWritten, arm, len, fits, free, noAbort, Bool.not_false, Bool.and_self, Bool.false_and,
    Bool.false_eq_true, if_true, if_false]

/-- ABORT of a pending buffer: at once, or after its attempt where it is being sent (R390). -/
theorem txctlWritten_abort (noArm : w.getLsbD 8 = false) (abort : w.getLsbD 9 = true)
    (waits : s.txPending c b = true) :
    s.txctlWritten c b w =
      if (s.canCtl c).cur = some b then s.updCan c fun x => { x with abort := true } else s.txAborted c b := by
  simp only [State.txctlWritten, noArm, abort, waits, Bool.and_self, Bool.false_and, Bool.false_eq_true, if_true,
    if_false]

end

/-- EN of a controller that was enabled is written 0 (R391). -/
theorem canEnWritten_off {s : State} {c : Fin 4} (off : s.bit (Reg.CAN_CTL_EN c) = false) :
    s.canEnWritten c true =
      (((((buffers16.filter (s.txPending c)).foldl (State.txAborted · c ·) s).updHm fun h =>
        { h with canTx := h.canTx.set c [] }).updCan c fun x =>
          { x with rx := Vector.replicate 2 [], cur := none, abort := false, lkTx := [] })) := by
  unfold State.canEnWritten
  rw [off, if_neg Bool.false_ne_true, if_pos rfl]

/-! The rows of these writes, each as the effect of its register's write -/

section
variable {t req : Nat} {w : Word} {s v : State}

theorem exec_gateListSwapRequest {p : Fin 4} (h : (s.busAt t req true).accepted req (Reg.ETH_GCTL p) w = some v)
    (swap : w.getLsbD 31 = true) : exec (.gateListSwapRequest t req p w) s = .next (v.swapWritten v.tide p) := by
  have row : regWriteAt t req (Reg.ETH_GCTL p) w s = v.swapWritten v.tide p := by
    rw [write_ETH_GCTL t req p w h, State.wroteEth, if_pos rfl, if_pos ⟨swap, p.isLt⟩, Fin.ofNat_val_eq_self]
  exact congrArg Host.Outcome.next row

theorem exec_ethAsgmsecWrite (h : (s.busAt t req true).accepted req Reg.ETH_ASGMSEC w = some v) :
    exec (.ethAsgmsecWrite t req w) s = .next (v.gmSecWritten v.tide) :=
  congrArg Host.Outcome.next (write_ETH_ASGMSEC t req w h)

theorem exec_txRingTailWrite {r : Fin 4}
    (h : (s.busAt t req true).accepted req (Reg.ETH_RINGPTR (r + 4)) w = some v) :
    exec (.txRingTailWrite t req r w) s = .next (v.tailWritten v.tide r) := by
  have row : regWriteAt t req (Reg.ETH_RINGPTR (r + 4)) w s = v.tailWritten v.tide r := by
    rw [write_ETH_RINGPTR t req ⟨r + 4, by omega⟩ w h, State.wroteEth, if_neg (by decide), if_neg (by decide),
      if_pos rfl, if_pos (Nat.le_add_left 4 r), Nat.add_sub_cancel, Fin.ofNat_val_eq_self]
  exact congrArg Host.Outcome.next row

/-- An accepted write of `CAN_TXCTLc_b`. -/
theorem txctl_row {c : Fin 4} {b : Fin 16} (h : (s.busAt t req true).accepted req (Reg.CAN_TXCTL c b) w = some v) :
    regWriteAt t req (Reg.CAN_TXCTL c b) w s = v.txctlWritten c b w := by
  rw [write_CAN_TXCTL t req c b w h, State.wroteCan, if_neg (by decide), if_pos rfl]
  simp

theorem exec_canTxArm {c : Fin 4} {b : Fin 16}
    (h : (s.busAt t req true).accepted req (Reg.CAN_TXCTL c b) w = some v) :
    exec (.canTxArm t req c b w) s = .next (v.txctlWritten c b w) := congrArg Host.Outcome.next (txctl_row h)

theorem exec_canTxAbort {c : Fin 4} {b : Fin 16}
    (h : (s.busAt t req true).accepted req (Reg.CAN_TXCTL c b) w = some v) :
    exec (.canTxAbort t req c b w) s = .next (v.txctlWritten c b w) := congrArg Host.Outcome.next (txctl_row h)

theorem exec_canRxPop {c : Fin 4} {q : Fin 2}
    (h : (s.busAt t req true).accepted req (Reg.CAN_RXPOP c q) w = some v) (pop : w.getLsbD 0 = true) :
    exec (.canRxPop t req c q w) s = .next (v.rxPop c q) := by
  have row : regWriteAt t req (Reg.CAN_RXPOP c q) w s = v.rxPop c q := by
    rw [write_CAN_RXPOP t req c q w h, State.wroteCan, if_neg (by decide), if_neg (by decide), if_pos rfl, if_pos pop]
    simp
  exact congrArg Host.Outcome.next row

theorem exec_canDisable {c : Fin 4} (h : (s.busAt t req true).accepted req (Reg.CAN_CTL c) w = some v) :
    exec (.canDisable t req c w) s = .next (v.canEnWritten c ((s.reg (Reg.CAN_CTL c)).getLsbD 0)) := by
  have row : regWriteAt t req (Reg.CAN_CTL c) w s = v.canEnWritten c ((s.reg (Reg.CAN_CTL c)).getLsbD 0) := by
    rw [write_CAN_CTL t req c w h, State.wroteCan, if_pos rfl]
    simp
  exact congrArg Host.Outcome.next row

end

/-! ### Thermal events, fault arrivals and view releases (R65, R327-R337) -/

theorem exec_thermalDwell (t : Nat) (s : State) : exec (.thermalDwell t) s = .next (thermalDwell t s) := rfl

/-- The state in which a comparator's trip finds the fault manager: its sensor is shown (R329). -/
def State.tripShown (s : State) (die : Bool) : State :=
  s.sets [(if die then Reg.BW_THSTAT_DIE else Reg.BW_THSTAT_MOD, 1), (Reg.BW_THSTAT_COOL, 0)]

/-- After the shutdown of `v`, the setpoints of an axis that ran keep their validity (R330). -/
def State.keepExpiry (v : State) (s : State) (n : Fin 4) : State :=
  s.updAxis n fun a =>
    if a.preTherm = some .run then { a with expiry := ((v.axes.toList.map (·.expiry))[n.val]?).getD none } else a

section
variable {t : Nat} {die : Bool} {s v : State} {name : FName} (shown : v = (s.upto t).tripShown die)
  (named : name = v.tripName t)
include shown named

/-- The first trip of a comparator notes every axis and raises its fault. -/
theorem exec_thermalComparatorTrip_first (first : v.isActive name 4 = false) :
    exec (.thermalComparatorTrip t die) s =
      .next (((v.eachAxis State.noteTherm).raise name 4 0 t).eachAxis v.keepExpiry) := by
  subst shown named
  exact congrArg Host.Outcome.next (if_neg (Bool.eq_false_iff.mp first))

/-- A trip under the fault that stands raises it again. -/
theorem exec_thermalComparatorTrip_again (stands : v.isActive name 4 = true) :
    exec (.thermalComparatorTrip t die) s = .next (v.raise name 4 0 t) := by
  subst shown named
  exact congrArg Host.Outcome.next (if_pos stands)

end

theorem tripName_eq (v : State) (t : Nat) :
    v.tripName t =
      if v.isActive .thShutdown 4 then .thShutdown
      else if v.isActive .thLatched 4 then .thLatched
      else if v.bit Reg.BW_THCFG_AUTORST ∧ 3 ≤ (v.recentRestarts t).length then .thLatched
      else .thShutdown := by
  unfold State.tripName
  simp only [Bool.and_eq_true, decide_eq_true_eq]

/-- The cooled state: the comparators are shown below their reset levels, and the causes of the shutdown are gone
(R329). -/
def State.cooled (s : State) : State :=
  ((s.sets [(Reg.BW_THSTAT_COOL, 1), (Reg.BW_THSTAT_DIE, 0), (Reg.BW_THSTAT_MOD, 0)]).causeGone
    .thShutdown 4 0).causeGone .thLatched 4 0

section
variable {t : Nat} {s v : State} (cool : v = (s.upto t).cooled)
include cool

theorem exec_thermalCooldown_restart (active : v.isActive .thShutdown 4 = true)
    (auto : v.bit Reg.BW_THCFG_AUTORST = true) : exec (.thermalCooldown t) s = .next (v.thermalRestart t) := by
  subst cool
  exact congrArg Host.Outcome.next (if_pos ((Bool.and_eq_true _ _).mpr ⟨active, auto⟩))

theorem exec_thermalCooldown_stay
    (stays : v.isActive .thShutdown 4 = false ∨ v.bit Reg.BW_THCFG_AUTORST = false) :
    exec (.thermalCooldown t) s = .next v := by
  subst cool
  have no := (Bool.and_eq_false_iff).mpr stays
  exact congrArg Host.Outcome.next (if_neg (Bool.eq_false_iff.mp no))

end

theorem exec_faultArrival (t : Nat) (f : FaultIn) (s : State) :
    exec (.faultArrival t f) s = .next (faultArrival t f s) := rfl

section
variable {t : Nat} {f : FaultIn} (s : State)

/-- A gate fault of a gate channel is raised with its retry class (R300). -/
theorem faultArrival_gate {c : Fin 4} (retries : retryClass f.name = some c) (lo : 16 ≤ f.src) (hi : f.src ≤ 41) :
    faultArrival t f s = (s.upto t).raiseGate t f.name (Fin.ofNat 26 (f.src - 16)) c f.stamp (sev := f.sev)
      (epoch := some f.epoch) := by
  unfold faultArrival
  simp only [retries]
  exact if_pos ⟨lo, hi⟩

/-- A gate fault of another source is raised as it comes. -/
theorem faultArrival_gate_other {c : Fin 4} (retries : retryClass f.name = some c) (out : f.src < 16 ∨ 41 < f.src) :
    faultArrival t f s = (s.upto t).raiseFull f 0 false false := by
  unfold faultArrival
  simp only [retries]
  exact if_neg (by omega)

/-- A fault without a retry class is latched as its name says. -/
theorem faultArrival_plain (plain : retryClass f.name = none) (other : f.name ≠ .lkEccCorr) :
    faultArrival t f s = (s.upto t).raiseFull f 0 (fnLatched f.name) false := by
  unfold faultArrival
  simp only [plain, if_neg other]

/-- A corrected ECC error of Lookout is counted first (R343). -/
theorem faultArrival_lkEccCorr (ecc : f.name = .lkEccCorr) :
    faultArrival t f s =
      ((s.upto t).incHold Reg.LOOKOUT_SELFTEST_ECCCORR).raiseFull f 0 (fnLatched .lkEccCorr) false := by
  have plain : retryClass f.name = none := by rw [ecc]; rfl
  unfold faultArrival
  simp only [plain]
  rw [if_pos ecc, ecc]

end

theorem exec_viewRelease (t : Nat) (s : State) :
    exec (.viewRelease t) s = .next (((s.upto t).drive (32 * t)).drainLog ((s.upto t).drive (32 * t)).tide) := rfl

/-! ### Frames through the switch (R370, R374, R376, R380) -/

/-- A frame that is received has its bytes counted. -/
def State.rxCounted (s : State) (p : Fin 5) (f : EthFrame) : State := s.countRx p (ethLen f f.tag.isSome)

section
variable {t : Nat} {p : Fin 5} {f : EthFrame} {s : State} (en : s.bit (Reg.ETH_PCFG_EN p) = true)
include en

/-- A frame that an enabled port receives has its bytes counted, and is judged by its length and its FCS. -/
theorem exec_ethFrameReceived : exec (.ethFrameReceived t p f) s = .next
    (if 1522 < ethLen f f.tag.isSome then
      ((s.upto t).rxCounted p f).incHold (Reg.ETH_ERR_OVERSIZE p)
    else if !f.fcsOk then ((s.upto t).rxCounted p f).incHold (Reg.ETH_ERR_FCS p)
    else if f.etype = 0x8808 ∧ beAt f.payload 0 2 = 1 then
      ((s.upto t).rxCounted p f).incHold (Reg.ETH_RXFRM_COUNT p)
    else
      (((s.upto t).rxCounted p f).incHold (Reg.ETH_RXFRM_COUNT p)).switchIn t p
        { f with sfd := min f.sfd t }) := by
  have off : ¬ (!(s.upto t).bit (Reg.ETH_PCFG_EN p)) = true := by simp [en]
  exact congrArg Host.Outcome.next (if_neg off)

theorem exec_ethFrameReceived_oversize (long : 1522 < ethLen f f.tag.isSome) :
    exec (.ethFrameReceived t p f) s = .next (((s.upto t).rxCounted p f).incHold (Reg.ETH_ERR_OVERSIZE p)) := by
  rw [exec_ethFrameReceived en, if_pos long]

variable (len : ethLen f f.tag.isSome ≤ 1522)
include len

theorem exec_ethFrameReceived_badFcs (bad : f.fcsOk = false) :
    exec (.ethFrameReceived t p f) s = .next (((s.upto t).rxCounted p f).incHold (Reg.ETH_ERR_FCS p)) := by
  rw [exec_ethFrameReceived en, if_neg (Nat.not_lt.mpr len), if_pos (by rw [bad]; rfl)]

/-- A good frame is counted, and switched unless it is PAUSE. -/
theorem exec_ethFrameReceived_good (good : f.fcsOk = true) :
    exec (.ethFrameReceived t p f) s = .next
      (if f.etype = 0x8808 ∧ beAt f.payload 0 2 = 1 then
        ((s.upto t).rxCounted p f).incHold (Reg.ETH_RXFRM_COUNT p)
      else
        (((s.upto t).rxCounted p f).incHold (Reg.ETH_RXFRM_COUNT p)).switchIn t p
          { f with sfd := min f.sfd t }) := by
  rw [exec_ethFrameReceived en, if_neg (Nat.not_lt.mpr len), if_neg (by rw [good]; exact Bool.false_ne_true)]

end

/-- The state after a frame has left from the head of a queue. -/
def State.sentHead (s : State) (p : Fin 5) (q : Fin 8) (len : Nat) : State :=
  (((s.popQueue p q).incHold (Reg.ETH_TXFRM_COUNT p)).countTx p len).emit (.frame p q len)

theorem exec_ethFrameTransmit (t : Nat) (p : Fin 5) (q : Fin 8) (s : State) :
    exec (.ethFrameTransmit t p q) s = .next (ethTransmit t p q s) := rfl

section
variable (t : Nat) {p : Fin 5} {q : Fin 8} {x : QFrame} {s : State} (head : (((s.eth.q[p])[q]).head?) = some x)
include head

/-- A frame that fits no open interval is dropped. -/
theorem ethTransmit_drop
    (never : ((extPort p).any fun e => s.bit (Reg.ETH_PCFG_GEN p) && s.neverFits e q x.len) = true) :
    ethTransmit t p q s = ((s.upto t).popQueue p q).incHold (Reg.ETH_GATEDROP_COUNT p) := by
  unfold ethTransmit
  simp only [upto_eth, head]
  exact if_pos never

/-- The head of a queue that may start, with no higher queue that may, leaves. -/
theorem ethTransmit_send
    (fits : ((extPort p).any fun e => s.bit (Reg.ETH_PCFG_GEN p) && s.neverFits e q x.len) = false)
    (up : s.portUp p = true) (may : (s.upto t).mayStart (s.upto t).tide p q = true)
    (highest : (slots8.all fun k => decide (k ≤ q) || !(s.upto t).mayStart (s.upto t).tide p k) = true) :
    ethTransmit t p q s =
      if p = 4 then ((s.upto t).sentHead p q x.len).deliver ((s.upto t).sentHead p q x.len).tide x
      else (s.upto t).sentHead p q x.len := by
  have starts : ((s.upto t).portUp p && (s.upto t).mayStart (s.upto t).tide p q &&
      slots8.all fun k => decide (k ≤ q) || !(s.upto t).mayStart (s.upto t).tide p k) = true := by
    rw [show (s.upto t).portUp p = true from up, may, highest]
    rfl
  unfold ethTransmit
  simp only [upto_eth, head]
  exact (if_neg (Bool.eq_false_iff.mp fits)).trans (if_pos starts)

end

/-! ### Gate lists, links and tables (R372, R373, R381, R383) -/

/-- The gates follow the Tide count (R380). -/
theorem exec_gateListIntervalEnd (t : Nat) (p : Fin 4) (s : State) :
    exec (.gateListIntervalEnd t p) s = .next (s.upto t) := rfl

theorem exec_gateListSwap (t : Nat) (p : Fin 4) (s : State) :
    exec (.gateListSwap t p) s = .next (gateSwap t p s) := rfl

/-- The administrative list comes into force, and the list in force becomes the administrative one. -/
theorem gateSwap_due {t : Nat} {p : Fin 4} {k : Nat} {s : State} (planned : s.eth.swapAt[p] = some k)
    (due : k ≤ (s.upto t).tide) : gateSwap t p s =
      ((((s.upto t).updEth fun e =>
        { e with swapAt := e.swapAt.set p none, oper := e.oper.set p ((s.upto t).adminList p) }).putAdmin p
          (s.upto t).eth.oper[p]).set (Reg.ETH_PSTAT_SWAPPEND p) 0) := by
  unfold gateSwap
  simp only [upto_eth, planned]
  exact if_pos due

/-- A lost link is shown, and its learned addresses go. -/
def State.linkLost (s : State) (p : Fin 4) : State :=
  (s.sets [(Reg.ETH_PSTAT_LINK p, 0), (Reg.ETH_IRQ_LINK, s.get Reg.ETH_IRQ_LINK ||| 2 ^ p.val)]).updEth
    fun e => { e with macs := e.macs.filter fun x => x.port != p.val }

section
variable {t : Nat} {p : Fin 4} {s : State}

/-- A lost link raises ETH_LINK_DOWN; whether the SFP+ module went with it is free on E0 and E1. -/
theorem exec_ethLinkDown {v w : State} (link : s.bit (Reg.ETH_PSTAT_LINK p) = true) (lost : v = (s.upto t).linkLost p)
    (drawn : w = { v with free := v.free + 1 }) : exec (.ethLinkDown t p) s = .next
      ((if p.val < 2 then w.set (Reg.ETH_PSTAT_SFPPRES p) (Config.freeNat v.free % 2) else w).raise
        .ethLinkDown 52 p t) := by
  subst lost drawn
  exact congrArg Host.Outcome.next (if_pos link)

theorem exec_ethLinkUp (en : s.bit (Reg.ETH_PCFG_EN p) = true) (down : s.bit (Reg.ETH_PSTAT_LINK p) = false) :
    exec (.ethLinkUp t p) s = .next
      ((s.upto t).sets [(Reg.ETH_PSTAT_LINK p, 1), (Reg.ETH_PSTAT_SFPPRES p, if p.val < 2 then 1 else 0),
        (Reg.ETH_IRQ_LINK, (s.upto t).get Reg.ETH_IRQ_LINK ||| 2 ^ p.val)]) := by
  have comes : ((s.upto t).bit (Reg.ETH_PCFG_EN p) && !(s.upto t).bit (Reg.ETH_PSTAT_LINK p)) = true := by
    rw [upto_bit, upto_bit, en, down]
    rfl
  exact congrArg Host.Outcome.next (if_pos comes)

end

theorem exec_macTableAgeOut (t vid mac : Nat) (s : State) : exec (.macTableAgeOut t vid mac) s = .next
    ((s.upto t).updEth fun e =>
      { e with
        macs := e.macs.filter fun x =>
          !(x.vid == vid && x.mac == mac &&
            decide (x.seen + (s.upto t).get Reg.ETH_AGE_AGE * Config.sec ≤ (s.upto t).tide)) }) := rfl

theorem exec_arpEntryExpiry (t ip : Nat) (s : State) : exec (.arpEntryExpiry t ip) s = .next
    ((s.upto t).updEth fun e =>
      { e with
        arp := e.arp.filter fun x => !(x.ip == ip && decide (x.seen + 300 * Config.sec ≤ (s.upto t).tide)) }) := rfl

/-! ### IEEE 802.1AS (R71-R73, R382) -/

section
variable {t : Nat} {p : Fin 4} {s : State}

/-- A master port that is asCapable sends the AS time of the count. -/
theorem exec_asSyncSend (master : s.asRole p = 1) (capable : s.bit (Reg.ETH_PSTAT_ASCAP p) = true)
    (up : s.portUp (port5 p) = true) : exec (.asSyncSend t p) s = .next
      ((s.upto t).emit (.sync p ((s.upto t).asMac p) (2 * (s.upto t).asBase + (5 * (s.upto t).tide : Nat)))) := by
  have sends : ((s.upto t).asRole p == 1 && (s.upto t).bit (Reg.ETH_PSTAT_ASCAP p) &&
      (s.upto t).portUp (port5 p)) = true := by
    rw [show (s.upto t).asRole p = 1 from master, upto_bit, capable, show (s.upto t).portUp (port5 p) = true from up]
    rfl
  exact congrArg Host.Outcome.next (if_pos sends)

/-- The mean delay of a link is shown and decides whether its port is asCapable. -/
theorem exec_peerDelayMeasurement (ns : Nat) (en : (s.get Reg.ETH_ASCFG_PORTEN).testBit p = true)
    (up : s.portUp (port5 p) = true) : exec (.peerDelayMeasurement t p ns) s = .next
      ((s.upto t).sets [(Reg.ETH_PDELAY_NS p, min 65535 ns),
        (Reg.ETH_PSTAT_ASCAP p, if ns ≤ s.get Reg.ETH_ASCFG_PDTHR then 1 else 0)]) := by
  have measured : (((s.upto t).get Reg.ETH_ASCFG_PORTEN).testBit p && (s.upto t).portUp (port5 p)) = true := by
    rw [upto_get, en, show (s.upto t).portUp (port5 p) = true from up]
    rfl
  exact congrArg Host.Outcome.next (if_pos measured)

end

/-- A Sync is accepted: AS discipline is on, the module follows no lead and is no grandmaster, and the port of the
discipline takes part and is asCapable (R71, R382). -/
structure State.AcceptsSync (s : State) : Prop where
  on : s.bit Reg.TIDE_CTL_ASEN = true
  alone : s.isMember = false
  follower : s.bit Reg.ETH_ASCFG_GM = false
  port : (s.get Reg.ETH_ASCFG_PORTEN).testBit (s.get Reg.TIDE_CTL_ASPORT) = true
  capable : s.bit (Reg.ETH_PSTAT_ASCAP (s.get Reg.TIDE_CTL_ASPORT)) = true

/-- The time base that a Sync is held against: captured with the first (R72). -/
def State.syncBase (s : State) (t : Nat) (ns : Int) : State := if s.asd.started then s else s.captureBase t ns

/-- From the second Sync on, the rate is trimmed (R71). -/
def State.syncTrim (s : State) (t : Nat) : State := if s.asd.started then s.asTrim t else s

section
variable {t : Nat} {ns : Int} {s : State} (accepts : s.AcceptsSync)
include accepts

/-- What an accepted Sync does, by its error against the time base. -/
theorem exec_asSyncMessage {v : State} {err : Int} (base : v = (s.upto t).syncBase t ns)
    (error : err = ns - v.asBase - (5 * t / 2 : Nat)) : exec (.asSyncMessage t ns) s = .next
      (if 1000000 < err.natAbs then
        (((v.captureBase t ns).raise .tideAsStep 0 0 t).syncTrim t).asDone t 0 true (some t)
      else
        (v.syncTrim t).asDone t err (decide (1000 < err.natAbs))
          (if err.natAbs ≤ 100 then some ((v.syncTrim t).asd.okSince.getD t) else none)) := by
  obtain ⟨on, alone, follower, port, capable⟩ := accepts
  have taken : ¬ (!(s.upto t).bit Reg.TIDE_CTL_ASEN || (s.upto t).isMember || (s.upto t).bit Reg.ETH_ASCFG_GM ||
      !((s.upto t).get Reg.ETH_ASCFG_PORTEN).testBit ((s.upto t).get Reg.TIDE_CTL_ASPORT) ||
      !(s.upto t).bit (Reg.ETH_PSTAT_ASCAP ((s.upto t).get Reg.TIDE_CTL_ASPORT))) = true := by
    rw [show (s.upto t).isMember = false from alone]
    simp [on, follower, port, capable]
  subst base error
  exact congrArg Host.Outcome.next (if_neg taken)

variable {v w : State} {err : Int} (base : v = (s.upto t).syncBase t ns)
  (error : err = ns - v.asBase - (5 * t / 2 : Nat))
include base error

/-- A Sync within 1 ms of the base trims the rate and shows its error. -/
theorem exec_asSyncMessage_near {ok : Option Nat} (near : err.natAbs ≤ 1000000) (trimmed : w = v.syncTrim t)
    (since : ok = if err.natAbs ≤ 100 then some (w.asd.okSince.getD t) else none) :
    exec (.asSyncMessage t ns) s = .next (w.asDone t err (decide (1000 < err.natAbs)) ok) := by
  subst trimmed since
  rw [exec_asSyncMessage accepts base error, if_neg (Nat.not_lt.mpr near)]

/-- A Sync more than 1 ms off captures the base anew with TIDE_AS_STEP. -/
theorem exec_asSyncMessage_far (far : 1000000 < err.natAbs)
    (trimmed : w = ((v.captureBase t ns).raise .tideAsStep 0 0 t).syncTrim t) :
    exec (.asSyncMessage t ns) s = .next (w.asDone t 0 true (some t)) := by
  subst trimmed
  rw [exec_asSyncMessage accepts base error, if_pos far]

end

/-- What a Sync leaves: the error is shown, holdover ends, and the lock follows the time within 100 ns. -/
theorem asDone_eq (t : Nat) (err : Int) (far : Bool) (ok : Option Nat) {w x : State}
    (done : x = { (w.setI Reg.TIDE_ASERR_ERR (sat32 err)).set Reg.TIDE_STATUS_ASHOLD 0 with
      asd := { started := true, lastSync := t, okSince := ok } }) :
    w.asDone t err far ok =
      if ok.any (fun o => decide (o + Config.sec ≤ t)) then x.set Reg.TIDE_STATUS_ASLOCK 1
      else if far then x.set Reg.TIDE_STATUS_ASLOCK 0 else x := by
  subst done
  rfl

/-! ### The obligations -/

/-- Settles O50: the order of R63 is strict within an epoch, and a fault merges, takes a free place, or is lost. -/
theorem viewsStayOrdered : Obligations.ViewsStayOrdered :=
  ⟨fun _ _ same => insertEntry_ordered fun x hx => (same x hx).2, enterQueue_length_le⟩

/-- Settles O58: the two reads, and what a capture leaves in the list of captures. -/
theorem tideReads : Obligations.TideReads := by
  rintro t req s u rfl
  refine ⟨_, exec_tideNowLRead t req s, busRead_TIDE_NOW_L _ req, ?_, fun r other => ?_⟩
  · rw [busRead_TIDE_NOW_H, State.tideCapture, capGet_capPut_same]
  · rw [busRead_TIDE_NOW_H, busRead_TIDE_NOW_H, State.tideCapture, capGet_capPut_other _ _ other]

/-- Settles O22: the row of each write, and what its register does with the word. -/
theorem networkWrites : Obligations.NetworkWrites := by
  rintro t req w s u v rfl
  refine ⟨fun p cyc h swap sum len lo hi => ?_, fun h gm => ?_, fun r h en => ?_,
    fun c b h arm noAbort len classic free => ?_, fun c b h noArm abort waits idle => ?_,
    fun c b h noArm abort waits sent => ?_, fun c q h pop => exec_canRxPop h pop, fun c h was off => ?_⟩
  · rw [exec_gateListSwapRequest h swap, swapWritten_legal v _ p sum len lo hi]
  · rw [exec_ethAsgmsecWrite h, gmSecWritten_gm _ gm]
  · rw [exec_txRingTailWrite h, tailWritten_enabled _ en]
  · rw [exec_canTxArm h, txctlWritten_arm arm noAbort len classic free]
  · rw [exec_canTxAbort h, txctlWritten_abort noArm abort waits, if_neg idle]
  · rw [exec_canTxAbort h, txctlWritten_abort noArm abort waits, if_pos sent]
  · rw [exec_canDisable h, was, canEnWritten_off off]

/-- Settles O35: by the branches of each row. -/
theorem thermalAndFaultRows : Obligations.ThermalAndFaultRows := by
  rintro t s u rfl
  refine ⟨exec_thermalDwell t s, fun die v w name shown named first raised => ?_,
    fun die v name => exec_thermalComparatorTrip_again, (tripName_eq · t),
    fun v cool => ⟨exec_thermalCooldown_restart cool, exec_thermalCooldown_stay cool⟩,
    fun f c retries lo hi => ?_, fun f c retries out => ?_, fun f plain other => ?_, fun f ecc => ?_, ?_⟩
  · subst raised
    exact exec_thermalComparatorTrip_first shown named first
  · rw [exec_faultArrival, faultArrival_gate s retries lo hi]
  · rw [exec_faultArrival, faultArrival_gate_other s retries out]
  · rw [exec_faultArrival, faultArrival_plain s plain other]
  · rw [exec_faultArrival, faultArrival_lkEccCorr s ecc]
  · rintro v rfl
    exact exec_viewRelease t s

/-- Settles O39: by the branches of each row, and for a Sync by its error against the time base. -/
theorem ethernetRows : Obligations.EthernetRows := by
  rintro t s u rfl
  refine ⟨fun p f en len good => ⟨fun control pause => ?_, fun other => ?_⟩,
    fun p f => exec_ethFrameReceived_oversize, fun p f => exec_ethFrameReceived_badFcs,
    fun p q x head fits up may highest v sent => ⟨fun external => ?_, fun internal => ?_⟩,
    fun p q x head never => ?_, (exec_gateListIntervalEnd t · s), fun p k planned due => ?_,
    fun p v w link lost drawn => ⟨fun sfp => ?_, fun noSfp => ?_⟩, fun p => exec_ethLinkUp,
    (exec_macTableAgeOut t · · s), (exec_arpEntryExpiry t · s), fun p => exec_asSyncSend,
    fun p ns => exec_peerDelayMeasurement ns,
    fun ns err v w ok on alone follower port capable base error near trimmed since => ?_,
    fun ns v0 v w on alone follower port capable base far stepped trimmed => ?_,
    fun err far ok w x => asDone_eq t err far ok⟩
  · exact (exec_ethFrameReceived_good en len good).trans (congrArg _ (if_pos ⟨control, pause⟩))
  · exact (exec_ethFrameReceived_good en len good).trans (congrArg _ (if_neg fun ⟨h, k⟩ => other.elim (· h) (· k)))
  · subst sent
    rw [exec_ethFrameTransmit, ethTransmit_send t head fits up may highest]
    exact congrArg _ (if_neg external)
  · subst sent
    rw [exec_ethFrameTransmit, ethTransmit_send t head fits up may highest]
    exact congrArg _ (if_pos internal)
  · rw [exec_ethFrameTransmit, ethTransmit_drop t head never]
  · rw [exec_gateListSwap, gateSwap_due planned due]
  · rw [exec_ethLinkDown link lost drawn, if_pos sfp]
  · rw [exec_ethLinkDown link lost drawn, if_neg (Nat.not_lt.mpr noSfp)]
  · exact exec_asSyncMessage_near ⟨on, alone, follower, port, capable⟩ base error near trimmed since
  · subst stepped
    exact exec_asSyncMessage_far ⟨on, alone, follower, port, capable⟩ base rfl far trimmed

end Sys2Proof.Machine
end

section
/-! # Proofs: commands that Harbourmaster takes (R75-R110, R121-R137, R257-R260, R303-R307, R418-R422, R443)

First how the answers end a row, then what each command does where its own checks let it through, by family, then the
obligations. -/

namespace Sys2Proof.Machine

/-! ### A row whose packet passes the common checks (R81) -/

section
variable {s u v : State} {t : Nat} {c : Cmd} {sel : Pkt → Bool} {body : State → Cmd → State × Ans}
  (passes : s.passed t = some (c, u))
include passes

/-- A row ends with the answer of its command. -/
theorem command_concludes {a : Ans} (chosen : sel c.p = true) (does : body u c = (v, a)) :
    s.command t sel body = v.conclude c a := by
  rw [command_passed passes chosen, does]

theorem command_gives {d : List Byte} (chosen : sel c.p = true) (does : body u c = v.ok d) :
    s.command t sel body = v.gives c d := command_concludes passes chosen does

variable {x : Instr} (row : exec x s = .next (s.command t sel body)) (chosen : sel c.p = true)
include row chosen

theorem exec_concludes {a : Ans} (does : body u c = (v, a)) : exec x s = .next (v.conclude c a) :=
  row.trans (congrArg _ (command_concludes passes chosen does))

/-- Answered OK. -/
theorem exec_gives {d : List Byte} (does : body u c = v.ok d) : exec x s = .next (v.gives c d) :=
  exec_concludes passes row chosen does

/-- Kept as pending. -/
theorem exec_pends {args : List Nat} {d : List Byte} (does : body u c = (v, .pending args d)) :
    exec x s = .next (v.pends c args d) :=
  exec_concludes passes row chosen does

end

/-! Which packets a row takes -/

section
variable {p : Pkt} {op k : Nat}

theorem isOp_of (h : p.op = op) : isOp op p = true := beq_iff_eq.mpr h

/-- An opcode whose first payload byte selects among its rows, as `isArm`, `isSess` and `isPhase` read it. -/
theorem opField_of (h : p.op = op) (field : beAt p.payload 0 1 = k) : (p.op == op && beAt p.payload 0 1 == k) = true :=
  (Bool.and_eq_true _ _).mpr ⟨beq_iff_eq.mpr h, beq_iff_eq.mpr field⟩

end

/-! ### PING, GET_INFO and the register commands (R90, R104) -/

section
variable {s v w : State} {c : Cmd}

theorem cmdInfo_module (own : toGroup c.p = false) : cmdInfo s c = s.ok s.ownInfo :=
  if_neg (Bool.eq_false_iff.mp own)

theorem cmdInfo_group (group : toGroup c.p = true) :
    cmdInfo s c = (s.perMember s.ownInfo State.memberInfo).2.ok (s.perMember s.ownInfo State.memberInfo).1 :=
  if_pos group

theorem cmdRegRead_ok {l : List Byte} (addr : addrOk (beAt c.p.payload 0 8) = true) (lo : 1 ≤ beAt c.p.payload 8 2)
    (hi : beAt c.p.payload 8 2 ≤ 253)
    (reads : State.readWords (requesterOf c.h.chan) (beAt c.p.payload 0 8) (beAt c.p.payload 8 2) s [] = (v, l, true)) :
    cmdRegRead s c = v.ok l := by
  unfold cmdRegRead
  simp only [addr, reads, Bool.not_true, Bool.false_eq_true, if_false]
  exact if_neg (by omega)

theorem cmdRegWrite_ok (addr : addrOk (beAt c.p.payload 0 8) = true) (lo : 1 ≤ beAt c.p.payload 8 2)
    (hi : beAt c.p.payload 8 2 ≤ 253)
    (writes : State.writeWords (requesterOf c.h.chan) (beAt c.p.payload 0 8) (beWords 4 (c.p.payload.drop 12)) 0 s =
      (v, none)) : cmdRegWrite s c = v.ok := by
  unfold cmdRegWrite
  simp only [addr, writes, Bool.not_true, Bool.false_eq_true, if_false]
  exact if_neg (by omega)

theorem cmdRegModify_ok {old new : Word} (addr : addrOk (beAt c.p.payload 0 8) = true)
    (masked : new = (old &&& ~~~(BitVec.ofNat 32 (beAt c.p.payload 8 4))) |||
      (BitVec.ofNat 32 (beAt c.p.payload 12 4) &&& BitVec.ofNat 32 (beAt c.p.payload 8 4)))
    (reads : s.hostRead (requesterOf c.h.chan) (beAt c.p.payload 0 8) = (v, .ok old))
    (writes : v.hostWrite (requesterOf c.h.chan) (beAt c.p.payload 0 8) new = (w, .ok)) :
    cmdRegModify s c = w.ok (beBytes 4 old.toNat ++ beBytes 4 new.toNat) := by
  subst masked
  unfold cmdRegModify
  simp [addr, reads, writes, wordStatus]

end

/-! ### The Manifest and the safety set (R121, R122, R136, R137) -/

section
variable {s : State} {c : Cmd}

theorem cmdManifestRead_ok (source : beAt c.p.payload 0 1 ≤ 2) (lo : 1 ≤ beAt c.p.payload 8 2)
    (hi : beAt c.p.payload 8 2 ≤ 1012) (fits : beAt c.p.payload 4 4 + beAt c.p.payload 8 2 ≤ bankSize) :
    cmdManifestRead s c = s.ok
      (takeFrom (if beAt c.p.payload 0 1 = 2 then s.stageByte else s.bankByte (Fin.ofNat 2 (beAt c.p.payload 0 1)))
        (beAt c.p.payload 4 4) (beAt c.p.payload 8 2)) := by
  unfold cmdManifestRead
  dsimp only
  rw [if_neg (by omega), if_neg (by omega), if_neg (by omega)]

theorem cmdManifestWrite_ok (idle : s.flashBusy = false) (lo : 1 ≤ beAt c.p.payload 4 2)
    (hi : beAt c.p.payload 4 2 ≤ 1016) (fits : beAt c.p.payload 0 4 + beAt c.p.payload 4 2 ≤ bankSize) :
    cmdManifestWrite s c = (s.setStage (beAt c.p.payload 0 4) (c.p.payload.drop 8)).ok := by
  unfold cmdManifestWrite
  dsimp only
  rw [if_neg (Bool.eq_false_iff.mp idle), if_neg (by omega), if_neg (by omega)]

theorem cmdSafetyWrite_ok (safe : s.allSafe = true) (lo : 1 ≤ beAt c.p.payload 2 2)
    (hi : beAt c.p.payload 2 2 ≤ 1020) (fits : beAt c.p.payload 0 2 + beAt c.p.payload 2 2 ≤ maxSet) :
    cmdSafetyWrite s c = State.ok { s with
      lk := { s.lk with staged := overwrite s.lk.staged (beAt c.p.payload 0 2) (c.p.payload.drop 4) } } := by
  unfold cmdSafetyWrite
  dsimp only
  rw [if_neg (by simp [safe]), if_neg (by omega), if_neg (by omega)]

/-- A set that verifies comes into force, and its image goes to the target bank (R137). -/
theorem cmdSafetyVerify_pends {x : SafetySet} {b : Fin 2} {v : Nat} {full : List Byte} (safe : s.allSafe = true)
    (idle : s.flashBusy = false) (verifies : s.verifySet (beAt c.p.payload 0 4) (beAt c.p.payload 4 4) = .ok x)
    (plan : s.commitPlan (s.safetyImage x) = some (b, v, full)) (fits : full.length ≤ bankSize) :
    cmdSafetyVerify s c = (((s.forceSet x true).stageSafety x).eraseBank b, .pending [b.val, v] full) := by
  unfold cmdSafetyVerify State.startSafety
  simp only [safe, idle, verifies, plan, Bool.not_true, Bool.false_eq_true, if_false]
  exact if_pos fits

/-- An image of elements that R122 allows goes to the target bank; the set in force enters staging where the image
holds none. -/
theorem startCommit_pends {els : List Elem} {n v : Nat} {apply : Bool} {b : Fin 2} {full : List Byte}
    (fits : (s.commitImage els n).length + 4 ≤ bankSize)
    (plan : s.commitPlan (s.commitImage els n) = some (b, v, full)) :
    s.startCommit els n apply =
      ((match safetyOf els, s.lk.inForce with
        | none, some x => s.stageSafety x
        | _, _ => s).eraseBank b, .pending [b.val, v, flag apply] full) := by
  unfold State.startCommit
  simp only [plan]
  exact if_neg (by omega)

theorem cmdManifestCommit_starts {els : List Elem} (idle : s.flashBusy = false)
    (fits : beAt c.p.payload 0 4 + 4 ≤ bankSize)
    (crc : (crc32c (takeFrom s.stageByte 0 (beAt c.p.payload 0 4))).toNat = beAt c.p.payload 4 4)
    (formed : structureOk s.stageByte (beAt c.p.payload 0 4) = true)
    (elems : els = ((elemsIn s.stageByte (beAt c.p.payload 0 4)).map Prod.fst).getD [])
    (names : distinct (blobNames els) = true) (types : (els.any fun e => decide (4 < e.typ)) = false)
    (safety : s.sameSafety els = true) :
    cmdManifestCommit s c = s.startCommit els (beAt c.p.payload 0 4) (beAt c.p.payload 8 1 % 2 == 1) := by
  subst elems
  unfold cmdManifestCommit
  dsimp only
  rw [if_neg (Bool.eq_false_iff.mp idle), if_neg (by omega), if_neg (not_not_intro crc),
    if_neg (by simp [formed]; omega), names, types, safety]
  rfl

end

/-! ### Programs, coefficients and tunes (R107, R257-R260) -/

section
variable {s : State} {c : Cmd} {n : Fin 4} (named : c.p.axis = some n)
include named

theorem loopOpen_open (f : Fin 4 → State × Ans) (opened : (s.axis n).st.closed = false) : s.loopOpen c f = f n := by
  unfold State.loopOpen
  simp [named, opened]

theorem cmdProgramLoad_words (opened : (s.axis n).st.closed = false) (mode : beAt c.p.payload 0 1 = 0) :
    cmdProgramLoad s c = s.loadWords c n := by
  simp [cmdProgramLoad, loopOpen_open named _ opened, mode]

theorem cmdProgramLoad_named (opened : (s.axis n).st.closed = false) (mode : beAt c.p.payload 0 1 = 1) :
    cmdProgramLoad s c = s.loadNamed c n := by
  simp [cmdProgramLoad, loopOpen_open named _ opened, mode]

omit named in
theorem loadWords_ok (lo : 1 ≤ beAt c.p.payload 4 2) (hi : beAt c.p.payload 4 2 ≤ 127)
    (fits : beAt c.p.payload 2 2 + beAt c.p.payload 4 2 ≤ 8192) :
    s.loadWords c n =
      ((s.putProgram n (beAt c.p.payload 2 2) (beWords 8 (c.p.payload.drop 8))).unloadProgram n).ok
        (beBytes 2 (beAt c.p.payload 4 2) ++ [0, 0]) := by
  unfold State.loadWords
  dsimp only
  rw [if_neg (by omega), if_neg (by omega), if_neg (by omega)]

omit named in
/-- A count of 0 starts the validation of what the store holds. -/
theorem loadWords_validates (count : beAt c.p.payload 4 2 = 0) (start : beAt c.p.payload 2 2 ≤ 8191)
    (idle : s.validating n = false) : s.loadWords c n = (s, .pending [0] []) := by
  unfold State.loadWords
  dsimp only
  rw [if_neg (by omega), if_neg (by omega), if_pos count, if_neg (Bool.eq_false_iff.mp idle)]

omit named in
theorem loadNamed_pends {b : Blob} (idle : s.validating n = false)
    (found : s.namedBlob (c.p.payload.drop 8) = some b) (kind : b.kind = 1) (whole : b.data.length % 8 = 0)
    (fits : b.data.length ≤ 65536) :
    s.loadNamed c n =
      ((s.putProgram n 0 (beWords 8 b.data)).unloadProgram n, .pending [b.data.length / 8] []) := by
  unfold State.loadNamed
  rw [if_neg (Bool.eq_false_iff.mp idle), found]
  exact if_neg (by omega)

theorem cmdCoeffWrite_ok (opened : (s.axis n).st.closed = false) (lo : 1 ≤ beAt c.p.payload 2 2)
    (hi : beAt c.p.payload 2 2 ≤ 255) (fits : beAt c.p.payload 0 2 + beAt c.p.payload 2 2 ≤ 4096) :
    cmdCoeffWrite s c = (s.putCoefs n (beAt c.p.payload 0 2) (beWords 4 (c.p.payload.drop 4))).ok := by
  unfold cmdCoeffWrite
  rw [loopOpen_open named _ opened]
  dsimp only
  rw [if_neg (by omega), if_neg (by omega)]

theorem cmdCoeffRead_ok (store : beAt c.p.payload 0 1 ≤ 1) (lo : 1 ≤ beAt c.p.payload 4 2)
    (hi : beAt c.p.payload 4 2 ≤ 253) (fits : beAt c.p.payload 2 2 + beAt c.p.payload 4 2 ≤ 4096) :
    cmdCoeffRead s c = s.ok
      ((List.range (beAt c.p.payload 4 2)).flatMap fun i =>
        beBytes 4 (if beAt c.p.payload 0 1 = 0 then s.coefEntry n (beAt c.p.payload 2 2 + i)
          else s.stateEntry n (beAt c.p.payload 2 2 + i)).toNat) := by
  unfold cmdCoeffRead
  simp only [named]
  rw [if_neg (by omega), if_neg (by omega), if_neg (by omega)]

theorem cmdTuneResult_ok :
    cmdTuneResult s c = s.ok
      ([BitVec.ofNat 8 ((s.axis n).tune.ended.getD (s.handedNat n 177)), BitVec.ofNat 8 (s.axis n).tune.loop] ++
        beBytes 2 (s.handedNat n 178) ++
        [179, 180, 181, 182, 183].flatMap fun i => beBytes 4 (s.handed n i).toNat) := by
  unfold cmdTuneResult
  simp [named]

theorem cmdTuneStart_pends (may : s.tuneOk n (beAt c.p.payload 0 1) = true) (ran : s.lk.fresh = false)
    (loop : beAt c.p.payload 0 1 ≤ 2) (rule : beAt c.p.payload 1 1 ≤ 1) (lo : 100 ≤ beAt c.p.payload 2 2)
    (hi : beAt c.p.payload 2 2 ≤ 60000)
    (relay : qLt (s.relayMax n (beAt c.p.payload 0 1)) (qAbs (bfVal (payWord c 4))) = false)
    (full : s.pwr.res[n] ≠ .standby) :
    cmdTuneStart s c =
      (s.tuneBegin s.tide n (beAt c.p.payload 0 1) (beAt c.p.payload 1 1) (beAt c.p.payload 2 2) (payWord c 4)
        (payWord c 8), .pending [] []) := by
  unfold cmdTuneStart
  simp only [named, may, ran, relay, Bool.not_true, Bool.false_eq_true, if_false]
  rw [if_neg (by omega), if_neg (by omega), if_neg (by omega), if_neg full]

end

/-! ### Faults, the Logbook and DIAG_RUN (R104, R107, R303, R307, R418-R422, R453) -/

section
variable {s v : State} {c : Cmd}

theorem cmdFaultRead_own (own : beAt c.p.payload 3 1 = 0) (first : beAt c.p.payload 0 2 ≤ 63)
    (lo : 1 ≤ beAt c.p.payload 2 1) (hi : beAt c.p.payload 2 1 ≤ 50) :
    cmdFaultRead s c = s.ok
      (beBytes 2 s.fqView.length ++ [BitVec.ofNat 8 (flag (s.viewLost false).1), 0] ++
        beBytes 2 (s.viewLost false).2 ++ [0, 0] ++
        ((s.fqView.drop (beAt c.p.payload 0 2)).take (beAt c.p.payload 2 1)).flatMap Entry.bytes) := by
  have one : (beAt c.p.payload 3 1 == 1) = false := by rw [own]; rfl
  unfold cmdFaultRead
  simp only [one, Bool.false_and, Bool.false_eq_true, if_false]
  rw [if_neg (by omega), if_neg (by omega), if_neg (by omega)]

/-- The lead answers with the group view. -/
theorem cmdFaultRead_group (group : beAt c.p.payload 3 1 = 1) (lead : s.mid = 0) (first : beAt c.p.payload 0 2 ≤ 511)
    (lo : 1 ≤ beAt c.p.payload 2 1) (hi : beAt c.p.payload 2 1 ≤ 50) :
    cmdFaultRead s c = s.ok
      (beBytes 2 s.groupView.length ++ [BitVec.ofNat 8 (flag (s.viewLost true).1), 0] ++
        beBytes 2 (s.viewLost true).2 ++ [0, 0] ++
        ((s.groupView.drop (beAt c.p.payload 0 2)).take (beAt c.p.payload 2 1)).flatMap Entry.bytes) := by
  have one : (beAt c.p.payload 3 1 == 1) = true := by rw [group]; rfl
  have zero : (s.mid != 0) = false := by rw [lead]; rfl
  unfold cmdFaultRead
  simp only [one, zero, Bool.and_false, Bool.false_eq_true, if_false, if_true]
  rw [if_neg (by omega), if_neg (by omega), if_neg (by omega)]

theorem cmdFaultClear_ok {gone : List (FName × Nat × Nat)} {cleared still : Nat} (locked : s.clearWaits = false)
    (clears : (s.foundGone gone).faultClear c.p.axis (beAt c.p.payload 0 2) = (v, cleared, still, false)) :
    cmdFaultClear gone s c =
      (if toModule c.p then v.leaveSafe else v).ok
        [BitVec.ofNat 8 (min 255 cleared), BitVec.ofNat 8 (min 255 still)] := by
  unfold cmdFaultClear
  rw [if_neg (Bool.eq_false_iff.mp locked), clears]

theorem cmdArm_ok {p : Nat × List Byte} (action : beAt c.p.payload 0 1 = 0) (on : s.bit Reg.LOGB_CTL_EN = true)
    (idle : s.get Reg.LOGB_STAT_STATE = 0)
    (stored : (s.logb.plans.find? fun p => p.1 == beAt c.p.payload 1 1) = some p) (fits : s.planTooLong p.2 = false) :
    cmdArm s c = (s.logArm (beAt c.p.payload 1 1) p.2).logState := by
  have free : ¬ (!s.bit Reg.LOGB_CTL_EN || s.get Reg.LOGB_STAT_STATE != 0) = true := by simp [on, idle]
  unfold cmdArm
  dsimp only
  rw [if_neg (not_not_intro action), if_neg free, stored]
  exact if_neg (Bool.eq_false_iff.mp fits)

theorem cmdLogRead_direct (frozen : s.get Reg.LOGB_STAT_STATE = 3) (mode : beAt c.p.payload 0 1 = 0)
    (lo : 1 ≤ beAt c.p.payload 12 4) (hi : beAt c.p.payload 12 4 ≤ 1012) (ip : beAt c.p.payload 16 4 = 0)
    (port : beAt c.p.payload 20 2 = 0) (fits : beAt c.p.payload 4 8 + beAt c.p.payload 12 4 ≤ s.record.2) :
    cmdLogRead s c = (s.recordErrors s.record.1 (beAt c.p.payload 4 8) (beAt c.p.payload 12 4)).ok
      (s.recordBytes s.record.1 (beAt c.p.payload 4 8) (beAt c.p.payload 12 4)) := by
  unfold cmdLogRead
  dsimp only
  rw [if_neg (not_not_intro frozen), if_neg (by omega), if_neg (by omega), if_neg (by omega), if_neg (by omega),
    if_neg (by omega), if_pos mode]

/-- A bulk transfer is kept as pending. -/
theorem cmdLogRead_bulk (frozen : s.get Reg.LOGB_STAT_STATE = 3) (mode : beAt c.p.payload 0 1 = 1)
    (fits : beAt c.p.payload 4 8 + beAt c.p.payload 12 4 ≤ s.record.2) :
    cmdLogRead s c = (s, .pending
      [beAt c.p.payload 4 8, beAt c.p.payload 12 4, beAt c.p.payload 16 4, beAt c.p.payload 20 2] []) := by
  unfold cmdLogRead
  dsimp only
  rw [if_neg (not_not_intro frozen), if_neg (by omega), if_neg (by omega), if_neg (by omega), if_neg (by omega),
    if_neg (by omega), if_neg (by omega)]

section
variable (idle : s.pendOf 0x70 c.p.target = none)
include idle

theorem cmdDiagRun_axis {n : Fin 4} (named : c.p.axis = some n) (may : s.diagOk n (beAt c.p.payload 0 2) = true)
    (tests : beAt c.p.payload 0 2 < 64) :
    cmdDiagRun s c = (s.updAxis n fun a => { a with diag := some (beAt c.p.payload 0 2) },
      .pending [beAt c.p.payload 0 2] []) := by
  unfold cmdDiagRun
  simp only [idle, named, may, Option.isSome_none, Bool.not_true, Bool.false_eq_true, if_false]
  exact if_neg (by omega)

theorem cmdDiagRun_module (module : c.p.axis = none) (may : s.diagXOk = true) :
    cmdDiagRun s c = (s, .pending [beAt c.p.payload 0 2] []) := by
  unfold cmdDiagRun
  simp [idle, module, may]

end

theorem cmdGroupForm_pends (lead : s.isLead = true) (idle : s.pendOf 0xC0 0xFF = none)
    (lo : 1 ≤ beAt c.p.payload 0 1) (hi : beAt c.p.payload 0 1 ≤ 8) (topo : beAt c.p.payload 1 1 ≤ 1) :
    cmdGroupForm s c =
      (((s.sets [(Reg.MOOR_GCFG_EXPECT, beAt c.p.payload 0 1), (Reg.MOOR_GCFG_TOPO, beAt c.p.payload 1 1),
        (Reg.MOOR_GSTAT_FORMING, 1)]).updMoor fun m =>
          { m with formFrom := some (m.formFrom.getD s.tide) }).reForm.announce, .pending [s.tide] []) := by
  unfold cmdGroupForm
  simp only [lead, idle, Option.isSome_none, Bool.not_true, Bool.false_eq_true, if_false]
  rw [if_neg (by omega), if_neg (by omega)]
  rfl

end

/-! ### AXIS_STATE (R98-R100) -/

section
variable {m : Move} {l : List (AxState × AxState)} {a b : AxState}

/-- What the transition table says of every pair of a list, it says of each. -/
theorem moveOf_of_mem (all : (l.all fun p => moveOf p.1 p.2 == m) = true) (mem : (a, b) ∈ l) : moveOf a b = m :=
  beq_iff_eq.mp (List.all_eq_true.mp all _ mem)

end

/-- No move, no rail enable and no DIAG_RUN of the axis is pending. -/
def State.unoccupied (s : State) (n : Fin 4) : Prop :=
  (s.axis n).pendTo = none ∧ s.enabling n = false ∧ (s.axis n).diag = none

section
variable {s : State} {n : Fin 4} {dst : AxState} {option : Nat}

theorem moveBar_never (asc : Bool) (never : moveOf (s.axis n).st dst = .never) :
    s.moveBar n dst asc = some (errState, s.stateDetail (some n)) := by
  unfold State.moveBar
  simp [never]

theorem moveBar_same (asc : Bool) (same : moveOf (s.axis n).st dst = .same) : s.moveBar n dst asc = none := by
  unfold State.moveBar
  simp [same]

section
variable (yes : moveOf (s.axis n).st dst = .yes)
include yes

/-- Out of FAULT there is no way while a fault acts on the axis. -/
theorem moveBar_faulted (asc : Bool) (fault : (s.axis n).st = .fault) (acts : s.faulted n = true) :
    s.moveBar n dst asc = some (errState, s.stateDetail (some n)) := by
  have stays : ((s.axis n).st == .fault && s.faulted n) = true := by rw [fault, acts]; rfl
  unfold State.moveBar
  simp [yes, stays]

variable (clear : (s.axis n).st = .fault → s.faulted n = false)
include clear

omit yes in
theorem not_heldByFault : ((s.axis n).st == .fault && s.faulted n) = false := by
  by_cases fault : (s.axis n).st = .fault
  · rw [clear fault, Bool.and_false]
  · rw [beq_eq_false_iff_ne.mpr fault, Bool.false_and]

theorem moveBar_safeHeld (asc : Bool) (held : (s.axis n).safeHeld = true) :
    s.moveBar n dst asc = some (errSafety, 0) := by
  unfold State.moveBar
  simp [yes, not_heldByFault clear, held]

/-- Nothing bars a move to HOLD that the table allows and R99 does not refuse: it needs neither rails nor the
conditions of RUN. -/
theorem moveBar_hold {asc : Bool} (hold : dst = .hold) (free : (s.axis n).safeHeld = false)
    (ran : s.lk.fresh = false) (may : s.ascRefused n .hold asc = false) : s.moveBar n dst asc = none := by
  subst hold
  unfold State.moveBar
  simp only [yes, not_heldByFault clear, free, ran, may, State.needsRails, Bool.false_and, Bool.false_or,
    Bool.false_eq_true, if_false]
  rfl

end

/-- ASC is no way out of ASC, so R99 does not refuse it. -/
theorem ascRefused_hold_asc (s : State) (n : Fin 4) : s.ascRefused n .hold true = false := by
  simp [State.ascRefused]

theorem optionOk_other (s : State) (n : Fin 4) (option : Nat) (other : dst ≠ .hold) :
    s.optionOk n dst option = (option == 0) := if_neg other

theorem optionOk_hold_line (line : s.isLine n = true) : s.optionOk n .hold 1 = false := by
  simp [State.optionOk, line]

theorem optionOk_hold_large (large : 1 < option) : s.optionOk n .hold option = false := by
  simp [State.optionOk, Nat.not_le.mpr large]

variable (quiet : s.unoccupied n)
include quiet

theorem not_occupied :
    ¬ (dst ≠ .off ∧ ((s.axis n).pendTo.isSome ∨ s.enabling n ∨ (s.axis n).diag.isSome)) := by
  obtain ⟨noMove, noRails, noDiag⟩ := quiet
  simp [noMove, noRails, noDiag]

theorem axisRequest_barred {st d : Nat} (bar : s.moveBar n dst (option == 1) = some (st, d)) :
    s.axisRequest n dst option = (s, .refused st d) := by
  unfold State.axisRequest
  simp only [bar]
  exact if_neg (not_occupied quiet)

theorem axisRequest_badOption (free : s.moveBar n dst (option == 1) = none)
    (bad : s.optionOk n dst option = false) : s.axisRequest n dst option = (s, .refused errRange 1) := by
  unfold State.axisRequest
  simp only [free, bad, if_true]
  exact if_neg (not_occupied quiet)

/-- To the state that the axis is in there is nothing to do. -/
theorem axisRequest_same (same : moveOf (s.axis n).st dst = .same) (good : s.optionOk n dst option = true) :
    s.axisRequest n dst option = (s, .ok) := by
  unfold State.axisRequest
  rw [if_neg (not_occupied quiet), moveBar_same _ same]
  simp [same, good, quiet.1]

end

section
variable {s v : State} {c : Cmd} {dst : AxState} (state : stateOf (beAt c.p.payload 0 1) = some dst)
include state

section
variable {n : Fin 4} (named : c.p.axis = some n)
include named

theorem cmdAxisState_ok (moves : s.axisRequest n dst (beAt c.p.payload 1 1) = (v, .ok)) :
    cmdAxisState s c = v.ok [BitVec.ofNat 8 (s.axis n).st.code, BitVec.ofNat 8 (v.axis n).st.code, 0, 0] := by
  unfold cmdAxisState
  simp [state, named, moves]

theorem cmdAxisState_pends (waits : s.axisRequest n dst (beAt c.p.payload 1 1) = (v, .pending)) :
    cmdAxisState s c = (v, .pending [(s.axis n).st.code] []) := by
  unfold cmdAxisState
  simp [state, named, waits]

end

theorem cmdAxisState_module (all : c.p.axis = none) (own : toGroup c.p = false)
    (moves : s.axisAll dst (beAt c.p.payload 1 1) = (v, none)) : cmdAxisState s c = v.ok := by
  unfold cmdAxisState
  simp [state, all, moves, own]

end

/-- A reply to AXIS_STATE of the module carries the states of its axes (R104). -/
theorem dressed_module (s : State) {h : Head} (r : Reply) (op : h.op = 0x30) (target : h.target = 0xF0) :
    s.dressed h r = ({ r with data := s.axisBytes }, s) := if_pos ⟨op, target⟩

/-! ### Setpoints (R106, R356) -/

theorem foldl_setPort_tide (n : Fin 4) (l : List (Nat × Word)) (s : State) :
    (l.foldl (fun (s : State) e => s.setPort n e.1 e.2) s).tide = s.tide := by
  induction l generalizing s with
  | nil => rfl
  | cons e r ih => exact ih (s.setPort n e.1 e.2)

/-- An accepted setpoint is stamped with the instant of the command. -/
theorem setpoint_eq (s : State) (n : Fin 4) (l : List (Nat × Word)) (ms : Nat) (k : Bool) (d : List Byte) :
    s.setpoint n l ms k d =
      ((l.foldl (fun (s : State) e => s.setPort n e.1 e.2) s).validFor n ms,
        .final { status := stOk, detail := flag k, stamp := s.tide, data := d } true) := by
  rw [← foldl_setPort_tide n l s]
  rfl

section
variable {s : State} {c : Cmd} {n : Fin 4} (named : c.p.axis = some n) (run : (s.axis n).st = .run)
include named run

theorem inRun_run (f : Fin 4 → State × Ans) : s.inRun c f = f n := by
  unfold State.inRun
  simp [named, run]

theorem cmdTorque_run {w : Word} {k : Bool}
    (clamped : clampTo (payWord c 0) (qAbs (bfVal (s.coefEntry n 0x31))) = (w, k)) :
    cmdTorque s c = s.setpoint n [(192, 0), (193, w)] (beAt c.p.payload 4 2) k (s.driveData n) := by
  simp [cmdTorque, inRun_run named run, clamped]

theorem cmdSpeed_run {w : Word} {k : Bool} (clamped : clampTo (payWord c 0) (s.spdLimit n) = (w, k)) :
    cmdSpeed s c =
      s.setpoint n [(192, bfInt 1), (194, w), (195, payWord c 4), (196, payWord c 8)] (beAt c.p.payload 12 2) k
        (s.driveData n) := by
  simp [cmdSpeed, inRun_run named run, clamped]

theorem cmdLine_run :
    cmdLine s c =
      s.setpoint n [(192, bfInt 2), (197, payWord c 0), (198, payWord c 4)] (beAt c.p.payload 8 2) false
        (beBytes 4 (s.handed n 173).toNat ++ beBytes 4 (s.handed n 174).toNat ++
          beBytes 2 ((s.handed n 165).toNat / 2 % 2) ++ [0, 0]) := by
  simp [cmdLine, inRun_run named run]

end

/-! ### Sessions and key slots (R91-R96) -/

section
variable {s : State} {c : Cmd} {i : Fin 8} (named : c.slot = some i)
include named

theorem cmdSessionOpen_ok (mode : beAt c.p.payload 0 1 = 0) (live : (s.slot i).live = true)
    (room : (s.hm.sess.filter fun x => x.chan != c.h.chan).length < 4) :
    cmdSessionOpen s c = (s.openSession c.h.chan i ((c.p.payload.drop 4).take 16)).1.ok
      (s.openSession c.h.chan i ((c.p.payload.drop 4).take 16)).2 := by
  unfold cmdSessionOpen
  simp only [mode, named, live, ne_eq, not_true_eq_false, Bool.not_true, Bool.false_eq_true, if_false]
  exact if_neg (by omega)

variable (hspi : c.h.chan = .hspi)
include hspi

theorem cmdProgramSlot_ok
    (may : s.hasKeys .hspi = true ∨ (s.hm.slots.toList.all fun k => k.st == .blank) = true)
    (blank : (s.slot i).st = .blank) :
    cmdProgramSlot s c = (s.setSlot i
      { key := (c.p.payload.drop 20).take 32, role := BitVec.ofNat 8 (beAt c.p.payload 52 1)
        st := .programmed }).ok := by
  have allowed : ¬ (c.h.chan ≠ .hspi ∨
      (!s.hasKeys c.h.chan && !s.hm.slots.toList.all fun k => k.st == .blank) = true) := by
    rw [hspi]
    rcases may with keys | fresh
    · simp [keys]
    · simp [fresh]
  unfold cmdProgramSlot
  simp only [if_neg allowed, named, blank, ne_eq, not_true_eq_false, if_false]

section
variable (keys : s.hasKeys .hspi = true) (live : (s.slot i).live = true) (more : s.lastKeys i = false)
include keys live more

/-- A slot that the channel's own session does not use is revoked, and the sessions of it are closed. -/
theorem cmdRevokeSlot_ok (other : ((s.session .hspi).any fun x => x.slot == i) = false) :
    cmdRevokeSlot s c = ((s.closeSlot i .hspi).setSlot i { s.slot i with st := .revoked }).ok := by
  unfold cmdRevokeSlot
  simp [named, hspi, keys, live, more, other]

/-- A session that revokes its own slot closes once the reply is sent. -/
theorem cmdRevokeSlot_closes (own : ((s.session .hspi).any fun x => x.slot == i) = true) :
    cmdRevokeSlot s c = ((s.closeSlot i .hspi).setSlot i { s.slot i with st := .revoked }, .closing) := by
  unfold cmdRevokeSlot
  simp [named, hspi, keys, live, more, own]

end

end

/-! ### Firmware update (R108-R110) -/

section
variable {s : State} {c : Cmd} {x : Update}

theorem cmdFwStart_pends (phase : beAt c.p.payload 0 1 = 0)
    (free : (s.hm.upd.any fun x => x.chan != c.h.chan || x.busy) = false) (lo : 128 ≤ beAt c.p.payload 4 4)
    (hi : beAt c.p.payload 4 4 ≤ fwSize) :
    cmdFwStart s c =
      ((s.eraseMem (fwBase s.fwInactive) fwSize).putUpdate
        { chan := c.h.chan, size := beAt c.p.payload 4 4, next := 0, lastAt := s.tide, finished := false
          busy := true }, .pending [0] []) := by
  unfold cmdFwStart
  simp only [phase, free, ne_eq, not_true_eq_false, Bool.false_eq_true, if_false]
  exact if_neg (by omega)

section
variable (opened : s.hm.upd = some x) (own : x.chan = c.h.chan) (idle : x.busy = false)
include opened own idle

theorem ownUpdate_own (f : Update → State × Ans) : s.ownUpdate c f = f x := by
  unfold State.ownUpdate
  simp [opened, own, idle]

theorem cmdFwData_ok (next : beAt c.p.payload 4 4 = x.next)
    (fits : x.next + (c.p.payload.drop 8).length ≤ x.size) :
    cmdFwData s c =
      ((s.setBytes (fwBase s.fwInactive + x.next) (c.p.payload.drop 8)).putUpdate
        { x with next := x.next + (c.p.payload.drop 8).length, finished := false }).ok := by
  unfold cmdFwData
  rw [ownUpdate_own opened own idle, next]
  exact if_neg (by omega)

theorem cmdFwFinish_pends : cmdFwFinish s c = (s.putUpdate { x with busy := true }, .pending [2] []) :=
  ownUpdate_own opened own idle _

/-- The inactive bank becomes the preferred one, on trial; the module's restart follows where the command asks. -/
theorem cmdFwActivate_ok {v : State} (done : x.finished = true)
    (rest : (beAt c.p.payload 1 1).testBit 0 = true → (s.axes.toList.any fun a => a.st != .off) = false)
    (becomes : v = { (s.updHm fun h =>
        { h with upd := none, fw := { h.fw with preferred := s.fwInactive, trial := true, trialStarts := 0 } }) with
      pwr := { s.pwr with fwact := (beAt c.p.payload 1 1).testBit 0 } }) : cmdFwActivate s c = v.ok := by
  have may :
      ¬ (!x.finished || ((beAt c.p.payload 1 1).testBit 0 && s.axes.toList.any fun a => a.st != .off)) = true := by
    rw [done]
    cases restart : (beAt c.p.payload 1 1).testBit 0
    · simp
    · simp [rest restart]
  subst becomes
  unfold cmdFwActivate
  rw [ownUpdate_own opened own idle]
  exact if_neg may

end

theorem cmdFwConfirm_ok (trial : s.hm.fw.runsTrial = true) :
    cmdFwConfirm s c =
      (s.updHm fun h =>
        { h with
          upd := h.upd.map fun x => if x.chan = c.h.chan then { x with lastAt := s.tide } else x
          fw := { h.fw with
            trial := false, trialStarts := 0
            rollback := max h.fw.rollback (s.fwField s.hm.fw.running 8) } }).ok := by
  unfold cmdFwConfirm
  simp [trial]

end

/-- An answer leaves the power management alone. -/
theorem conclude_pwr (s : State) (c : Cmd) (a : Ans) : (s.conclude c a).pwr = s.pwr :=
  (conclude_same s c a (.refl s)).pwr

/-- The restart that an activation asks for follows its reply (R109). -/
theorem exec_fwUpdateActivate {s u v : State} {t : Nat} {c : Cmd} (r : StartIn) (passes : s.passed t = some (c, u))
    (op : c.p.op = 0x90) (phase : beAt c.p.payload 0 1 = 3) (does : cmdFwActivate u c = v.ok) :
    exec (.fwUpdateActivate t r) s = .next
      (if v.pwr.fwact then (v.gives c).restart (v.gives c).tide .fwact r else v.gives c) := by
  have row : s.command t (isPhase 3) cmdFwActivate = v.gives c := command_gives passes (opField_of op phase) does
  have kept : (v.gives c).pwr = v.pwr := conclude_pwr v c _
  rw [← kept, ← row]
  rfl

/-! ### The obligations -/

/-- Settles O60: what bars the move, or else the option field. -/
theorem axisTransitions : Obligations.AxisTransitions := by
  intro s n dst option noMove noRails noDiag st
  have quiet : s.unoccupied n := ⟨noMove, noRails, noDiag⟩
  have here {l : List AxState} (same : dst = st) (mem : st ∈ l)
      (table : (l.all fun a => moveOf a a == .same) = true) : moveOf (s.axis n).st dst = .same := by
    rw [same]; exact beq_iff_eq.mp (List.all_eq_true.mp table _ mem)
  refine ⟨fun same mem zero => ?_, fun same mem other => ?_, fun mem => ?_, fun fault acts out => ?_,
    fun mem clear => ?_⟩
  · have plain : dst ≠ .hold := same ▸ ne_of_mem_of_not_mem mem (by decide)
    exact axisRequest_same quiet (here same mem (by decide)) (by rw [optionOk_other s n option plain, zero]; rfl)
  · have plain : dst ≠ .hold := same ▸ ne_of_mem_of_not_mem mem (by decide)
    exact axisRequest_badOption quiet (moveBar_same _ (here same mem (by decide)))
      (by rw [optionOk_other s n option plain]; exact beq_eq_false_iff_ne.mpr other)
  · exact axisRequest_barred quiet (moveBar_never _ (moveOf_of_mem (by decide) mem))
  · have yes : moveOf (s.axis n).st dst = .yes := by
      rw [show (s.axis n).st = .fault from fault]
      rcases out with rfl | rfl <;> rfl
    exact axisRequest_barred quiet (moveBar_faulted yes _ fault acts)
  · have yes : moveOf (s.axis n).st dst = .yes := moveOf_of_mem (by decide) mem
    refine ⟨fun held => axisRequest_barred quiet (moveBar_safeHeld yes clear _ held),
      fun free ran hold asc line => ?_, fun free ran hold may large => ?_⟩
    · subst hold asc
      exact axisRequest_badOption quiet (moveBar_hold yes clear rfl free ran (ascRefused_hold_asc s n))
        (optionOk_hold_line line)
    · have noAsc : (option == 1) = false := beq_eq_false_iff_ne.mpr (by omega)
      subst hold
      exact axisRequest_badOption quiet (moveBar_hold yes clear rfl free ran (noAsc ▸ may))
        (optionOk_hold_large large)

/-- Settles O7: each row by what its command answers. -/
theorem readCommands : Obligations.ReadCommands := by
  intro t s u c passes
  refine ⟨fun op => exec_gives passes rfl (isOp_of op) rfl, fun op own => ?_, fun op group => ?_,
    fun v l op addr lo hi reads => ?_, fun op source lo hi fits => ?_, fun n op named store lo hi fits => ?_,
    fun op own first lo hi => ?_, fun op group lead first lo hi => ?_,
    fun op frozen mode lo hi ip port fits => ?_, fun op frozen mode fits => ?_, fun n op named => ?_⟩
  · exact exec_gives passes rfl (isOp_of op) (cmdInfo_module own)
  · exact exec_gives passes rfl (isOp_of op) (cmdInfo_group group)
  · exact exec_gives passes rfl (isOp_of op) (cmdRegRead_ok addr lo hi reads)
  · exact exec_gives passes rfl (isOp_of op) (cmdManifestRead_ok source lo hi fits)
  · exact exec_gives passes rfl (isOp_of op) (cmdCoeffRead_ok named store lo hi fits)
  · exact exec_gives passes rfl (isOp_of op) (cmdFaultRead_own own first lo hi)
  · exact exec_gives passes rfl (isOp_of op) (cmdFaultRead_group group lead first lo hi)
  · exact exec_gives passes rfl (isOp_of op) (cmdLogRead_direct frozen mode lo hi ip port fits)
  · exact exec_pends passes rfl (isOp_of op) (cmdLogRead_bulk frozen mode fits)
  · exact exec_gives passes rfl (isOp_of op) (cmdTuneResult_ok named)

/-- Settles O8: each row by what its command answers; a restart that a register write makes due follows. -/
theorem writeCommands : Obligations.WriteCommands := by
  intro t s u c passes
  refine ⟨fun v op addr lo hi writes => ?_, fun v w old op addr reads writes => ?_, fun op idle lo hi fits => ?_,
    fun n op named opened mode lo hi fits => ?_, fun n op named opened lo hi fits => ?_,
    fun gone v cleared still op locked clears => ?_, fun op safe lo hi fits => ?_⟩
  · exact congrArg (fun v : State => Host.Outcome.next (v.restartDue s.pwr.restart))
      (command_gives passes (isOp_of op) (cmdRegWrite_ok addr lo hi writes))
  · exact congrArg (fun v : State => Host.Outcome.next (v.restartDue s.pwr.restart))
      (command_gives passes (isOp_of op) (cmdRegModify_ok addr rfl reads writes))
  · exact exec_gives passes rfl (isOp_of op) (cmdManifestWrite_ok idle lo hi fits)
  · exact exec_gives passes rfl (isOp_of op)
      ((cmdProgramLoad_words named opened mode).trans (loadWords_ok lo hi fits))
  · exact exec_gives passes rfl (isOp_of op) (cmdCoeffWrite_ok named opened lo hi fits)
  · exact exec_gives passes rfl (isOp_of op) (cmdFaultClear_ok locked clears)
  · exact exec_gives passes rfl (isOp_of op) (cmdSafetyWrite_ok safe lo hi fits)

/-- Settles O9: each row by what its command starts and keeps. -/
theorem longCommands : Obligations.LongCommands := by
  intro t s u c passes
  refine ⟨fun els b v full op idle fits crc formed elems names types safety room plan => ?_,
    fun n op named opened mode count start idle => ?_,
    fun n b op named opened mode idle found kind whole fits => ?_, fun n op named idle may tests => ?_,
    fun op module idle may => ?_, fun n op named may ran loop rule lo hi relay full => ?_,
    fun op phase free lo hi => ?_, fun x op phase opened own idle => ?_,
    fun x b v full op safe idle verifies plan fits => ?_, fun op lead idle lo hi topo => ?_,
    fun n dst v op named state waits => ?_⟩
  · exact exec_pends passes rfl (isOp_of op)
      ((cmdManifestCommit_starts idle fits crc formed elems names types safety).trans (startCommit_pends room plan))
  · exact exec_pends passes rfl (isOp_of op)
      ((cmdProgramLoad_words named opened mode).trans (loadWords_validates count start idle))
  · exact exec_pends passes rfl (isOp_of op)
      ((cmdProgramLoad_named named opened mode).trans (loadNamed_pends idle found kind whole fits))
  · exact exec_pends passes rfl (isOp_of op) (cmdDiagRun_axis idle named may tests)
  · exact exec_pends passes rfl (isOp_of op) (cmdDiagRun_module idle module may)
  · exact exec_pends passes rfl (isOp_of op) (cmdTuneStart_pends named may ran loop rule lo hi relay full)
  · exact exec_pends passes rfl (by simp [isOp, isPhase, op, phase]) (cmdFwStart_pends phase free lo hi)
  · exact exec_pends passes rfl (opField_of op phase) (cmdFwFinish_pends opened own idle)
  · exact exec_pends passes rfl (isOp_of op) (cmdSafetyVerify_pends safe idle verifies plan fits)
  · exact exec_pends passes rfl (isOp_of op) (cmdGroupForm_pends lead idle lo hi topo)
  · exact exec_pends passes rfl (isOp_of op) (cmdAxisState_pends state named waits)

/-- Settles O10: each row by the setpoint that it accepts. -/
theorem setpointCommands : Obligations.SetpointCommands := by
  intro t s u c n passes named run
  refine ⟨fun op w k clamped => ?_, fun op w k clamped => ?_, fun op => ?_⟩
  · exact exec_concludes passes rfl (isOp_of op) ((cmdTorque_run named run clamped).trans (setpoint_eq ..))
  · exact exec_concludes passes rfl (isOp_of op) ((cmdSpeed_run named run clamped).trans (setpoint_eq ..))
  · exact exec_concludes passes rfl (isOp_of op) ((cmdLine_run named run).trans (setpoint_eq ..))

/-- Settles O11: each row by what its command answers. -/
theorem sessionCommands : Obligations.SessionCommands := by
  intro t s u c passes
  refine ⟨fun i op mode named live room => ?_, fun i op mode hspi may named blank => ?_,
    fun i op mode hspi keys named live more other => ?_, fun i op mode hspi keys named live more own => ?_,
    fun op => exec_concludes passes rfl (isOp_of op) rfl⟩
  · exact exec_gives passes rfl (by simp [isOp, isSess, op, mode]) (cmdSessionOpen_ok named mode live room)
  · exact exec_gives passes rfl (opField_of op mode) (cmdProgramSlot_ok named hspi may blank)
  · exact exec_gives passes rfl (opField_of op mode) (cmdRevokeSlot_ok named hspi keys live more other)
  · exact exec_concludes passes rfl (opField_of op mode) (cmdRevokeSlot_closes named hspi keys live more own)

/-- Settles O12: each row by what its command answers; the restart of an activation follows its reply. -/
theorem updateAndLogCommands : Obligations.UpdateAndLogCommands := by
  intro t s u c passes
  refine ⟨fun x op phase opened own idle next fits => ?_, fun x r v op phase opened own idle done becomes => ?_,
    fun op phase => ?_, fun op phase trial => ?_, fun p op action on idle stored fits => ?_, fun op action => ?_,
    fun op action => ?_, fun n dst v op named state moves => ?_, fun dst v op all own state moves => ?_⟩
  · exact exec_gives passes rfl (opField_of op phase) (cmdFwData_ok opened own idle next fits)
  · have asks : v.pwr.fwact = (beAt c.p.payload 1 1).testBit 0 := by rw [becomes]
    refine ⟨fun stay => ?_, fun restart off => ?_⟩
    · have does := cmdFwActivate_ok opened own idle done (fun restart => absurd restart (by simp [stay])) becomes
      rw [exec_fwUpdateActivate r passes op phase does, asks, stay, if_neg Bool.false_ne_true]
    · have does := cmdFwActivate_ok opened own idle done (fun _ => off) becomes
      rw [exec_fwUpdateActivate r passes op phase does, asks, restart, if_pos rfl]
  · exact exec_gives passes rfl (opField_of op phase) rfl
  · exact exec_gives passes rfl (opField_of op phase) (cmdFwConfirm_ok trial)
  · exact exec_gives passes rfl (by simp [isOp, isArm, op, action]) (cmdArm_ok action on idle stored fits)
  · exact exec_gives passes rfl (opField_of op action) rfl
  · exact exec_gives passes rfl (opField_of op action) rfl
  · exact exec_gives passes rfl (isOp_of op) (cmdAxisState_ok state named moves)
  · exact ⟨exec_gives passes rfl (isOp_of op) (cmdAxisState_module state all own moves),
      fun r op target => dressed_module v r op target⟩

end Sys2Proof.Machine
end

section
/-! # Proofs: transports, completions and timeouts of commands, and writes that command Breakwater (R76-R95, R101-R109,
R122, R137, R259, R306, R321, R338, R422, R443, R461)

First the laws of arrival and the rows by their branches, then the obligations. -/

namespace Sys2Proof.Machine

/-! ### Arrival (R76, R81, R82) -/

/-- Bytes that fit enter the front-end queue: none of the checks 1-6 refuses them. -/
theorem arrive_fits {s : State} {b : List Byte} (fits : s.Fits b) (ch : Chan) (buf : Option (Nat × Nat)) :
    s.arrive ch b buf = s.queued ch b buf := by
  obtain ⟨answers, long, magic, request, length, payload, crc, version, opcode, room⟩ := fits
  have whole : ¬ (b.length ≠ declared b ∨ 1024 < (readPkt b).len) := by omega
  have known : ¬ (beAt b 2 1 ≠ 1 ∨ (!opcodes.contains (readPkt b).op) = true) := by
    rw [version, opcode]; decide
  unfold State.arrive
  simp only [answers, request, Bool.not_true, Bool.false_eq_true, if_false]
  rw [if_neg (by omega), if_neg whole, if_neg (not_not_intro crc), if_neg known, if_neg (by omega)]
  rfl

/-- HRDY does not depend on the front-end queue. -/
theorem queued_hrdy (s : State) (ch : Chan) (b : List Byte) (buf : Option (Nat × Nat)) :
    (s.queued ch b buf).hrdy = s.hrdy := rfl

section
variable {s u v : State} {t : Nat}

theorem exec_udpDatagram {b : List Byte} (now : u = (s.upto t).sendDue) (fits : u.Fits b) (ip port : Nat) :
    exec (.udpDatagram t ip port b) s = .next (u.queued (.udp ip port) b none) := by
  subst now
  exact congrArg Host.Outcome.next (arrive_fits fits _ _)

/-! ### HSPI (R87) -/

theorem exec_hspiWrite {b : List Byte} (ready : (s.upto t).hrdy = true)
    (fell : v = ((s.upto t).emit (.hrdy false)).sendDue) (fits : v.Fits b) :
    exec (.hspiWrite t b) s = .next
      (if v.hrdy then (v.queued .hspi b none).emit (.hrdy true) else v.queued .hspi b none) := by
  have row : hspiWrite t b s =
      if (v.arrive .hspi b none).hrdy then (v.arrive .hspi b none).emit (.hrdy true) else v.arrive .hspi b none := by
    subst fell
    exact if_pos ready
  rw [arrive_fits fits, queued_hrdy] at row
  exact congrArg Host.Outcome.next row

section
variable {n : Nat} {b : List Byte} {r : List (List Byte)} (now : u = (s.upto t).sendDue) (oldest : u.hm.hspiQ = b :: r)
include now oldest

/-- A reply whose bytes are all clocked out leaves the queue, and a waiting one takes its place. -/
theorem exec_hspiRead_whole (whole : 2 + b.length ≤ n)
    (left : v = ((u.emit (.reply .hspi ((beBytes 2 b.length ++ b).take n))).updHm fun m =>
      { m with hspiQ := r }).hspiRefill) :
    exec (.hspiRead t n) s = .next (if !u.hrdy && v.hrdy then v.emit (.hrdy true) else v) := by
  subst left now
  refine congrArg Host.Outcome.next (?_ : hspiRead t n s = _)
  unfold hspiRead
  simp only [oldest]
  exact if_pos whole

theorem exec_hspiRead_part (part : n < 2 + b.length) :
    exec (.hspiRead t n) s = .next (u.emit (.reply .hspi ((beBytes 2 b.length ++ b).take n))) := by
  subst now
  refine congrArg Host.Outcome.next (?_ : hspiRead t n s = _)
  unfold hspiRead
  simp only [oldest]
  exact if_neg (by omega)

end

/-! ### CAN fragments (R88) -/

theorem exec_canCommandFragment (now : u = (s.upto t).sendDue) (c : Fin 4) (b : List Byte) :
    exec (.canCommandFragment t c b) s = .next (u.canFragment c b) := by
  subst now; rfl

section
variable {c : Fin 4} {h : Byte} {d : List Byte}

theorem dropPartial_none (empty : u.hm.canRx[c] = none) : u.dropPartial c = u := by
  unfold State.dropPartial
  simp [empty]

theorem dropPartial_some {p : CanPartial} (kept : u.hm.canRx[c] = some p) :
    u.dropPartial c = (u.setPartial c none).discard := by
  unfold State.dropPartial
  simp [kept]

section
variable (first : h.getLsbD 7 = true) (index : h.toNat % 32 = 0) (empty : u.hm.canRx[c] = none)
include first index empty

/-- A first fragment that is also the last is a packet. -/
theorem canFragment_only (last : h.getLsbD 6 = true) (fits : u.Fits (unpad d (d.length + 1))) :
    u.canFragment c (h :: d) = (u.setPartial c none).queued (.can c) (unpad d (d.length + 1)) none := by
  have fits' : (u.setPartial c none).Fits (unpad d (d.length + 1)) := { fits with }
  rw [← arrive_fits fits']
  unfold State.canFragment
  simp [first, last, index, dropPartial_none empty]

/-- A first fragment is kept. -/
theorem canFragment_first (more : h.getLsbD 6 = false) :
    u.canFragment c (h :: d) = u.setPartial c (some { bytes := d, next := 1, lastAt := u.tide }) := by
  unfold State.canFragment
  simp only [first, more, index, if_true, dropPartial_none empty, List.nil_append, Bool.false_eq_true, if_false]

end

/-- The next fragment, within 20 ms of the one before it, is kept behind it. -/
theorem canFragment_next {p : CanPartial} (later : h.getLsbD 7 = false) (more : h.getLsbD 6 = false)
    (prior : u.hm.canRx[c] = some p) (index : h.toNat % 32 = p.next) (soon : u.tide ≤ p.lastAt + 20 * Config.ms) :
    u.canFragment c (h :: d) =
      u.setPartial c (some { bytes := p.bytes ++ d, next := p.next + 1, lastAt := u.tide }) := by
  unfold State.canFragment
  simp only [later, more, prior, index, soon, Bool.false_eq_true, if_false, Option.bind_some, and_self, if_true]

end

theorem exec_fragmentTimeout {c : Fin 4} {p : CanPartial} (kept : s.hm.canRx[c] = some p)
    (late : p.lastAt + 20 * Config.ms < (s.upto t).tide) :
    exec (.fragmentTimeout t c) s = .next ((s.upto t).setPartial c none).discard := by
  have row : fragmentTimeout t c s = (s.upto t).dropPartial c := if_pos (any_of kept (decide_eq_true late))
  rw [dropPartial_some (u := s.upto t) kept] at row
  exact congrArg Host.Outcome.next row

/-! ### Command and reply berths (R89) -/

theorem exec_berthCommandDescriptor {n : Fin 4} {d b : List Byte} (now : u = (s.upto t).sendDue)
    (full : u.bit (Reg.BERTH_STAT_FULL (commandBerth n)) = true) (desc : d = u.berthBytes (commandBerth n))
    (size : 46 ≤ leAt d 10 2) (reply : (u.berthTake (commandBerth n)).writableMem (leAt d 16 8) (leAt d 10 2) = true)
    (command : (u.berthTake (commandBerth n)).plainMem (leAt d 0 8) (leAt d 8 2) = true)
    (packet : b = u.bytes (leAt d 0 8) (leAt d 8 2))
    (fits : (u.berthTake (commandBerth n)).Fits b) :
    exec (.berthCommandDescriptor t n) s = .next
      ((u.berthTake (commandBerth n)).queued (.berth n) b (some (leAt d 16 8, leAt d 10 2))) := by
  refine congrArg Host.Outcome.next (?_ : berthCommand t n s = _)
  rw [← arrive_fits fits]
  subst now desc packet
  unfold berthCommand
  simp only [full, reply, command, if_true, Bool.not_true, Bool.false_eq_true, or_false]
  exact if_neg (by omega)

section
variable {n : Fin 4} {w : WaitReply} (now : u = (s.upto t).sendDue)
  (oldest : (u.hm.waits.find? fun w => w.chan == .berth n) = some w)
include now oldest

theorem exec_replyBerthRetry_sends (free : u.bit (Reg.BERTH_STAT_FULL (replyBerth n)) = false) :
    exec (.replyBerthRetry t n) s = .next
      ((u.updHm fun m => { m with waits := m.waits.erase w }).berthMessage (replyBerth n)
        (replyDesc w.addr (leNat w.bytes))) := by
  subst now
  refine congrArg Host.Outcome.next (?_ : replyRetry t n s = _)
  unfold replyRetry
  simp [oldest, free]

theorem exec_replyBerthRetry_gives_up (full : u.bit (Reg.BERTH_STAT_FULL (replyBerth n)) = true)
    (late : w.since + 100 * Config.ms ≤ u.tide) :
    exec (.replyBerthRetry t n) s = .next
      ((u.updHm fun m => { m with waits := m.waits.erase w }).raise .cmdReplyLost 1 0 t) := by
  subst now
  refine congrArg Host.Outcome.next (?_ : replyRetry t n s = _)
  unfold replyRetry
  simp [oldest, full, late]

end

end

/-! ### Completions (R78, R80)

What the completions read does not depend on the instant. -/

@[simp] theorem upto_pendOf (s : State) (t op target : Nat) : (s.upto t).pendOf op target = s.pendOf op target := rfl
@[simp] theorem upto_pendPhase (s : State) (t k : Nat) : (s.upto t).pendPhase k = s.pendPhase k := rfl
@[simp] theorem upto_logVia (s : State) (t : Nat) : (s.upto t).logVia = s.logVia := rfl
@[simp] theorem upto_record (s : State) (t : Nat) : (s.upto t).record = s.record := rfl
@[simp] theorem upto_isLead (s : State) (t : Nat) : (s.upto t).isLead = s.isLead := rfl
@[simp] theorem upto_channelsOf (s : State) (t : Nat) (n : Fin 4) : (s.upto t).channelsOf n = s.channelsOf n := rfl
@[simp] theorem upto_railsRisen (s : State) (t : Nat) (n : Fin 4) : (s.upto t).railsRisen n = s.railsRisen n := rfl

section
variable {s u v : State} {t : Nat} {p : PendCmd}

section
variable (now : u = s.upto t) (waits : s.pendOf 0x22 0xF0 = some p)
include now waits

/-- The commit ends, with MANIFEST_APPLY or without (R122). -/
theorem exec_manifestCommitComplete_written
    (applied : v = if p.args.getD 2 0 = 1 then (u.writeBank p).applyCommitted p.data else u.writeBank p) :
    exec (.manifestCommitComplete t true) s = .next (v.complete p
      { status := stOk, stamp := v.tide
        data := [BitVec.ofNat 8 (p.args.getD 0 0), 0, 0, 0] ++ beBytes 4 (p.args.getD 1 0) }) := by
  subst now applied
  refine congrArg Host.Outcome.next (?_ : manifestCommitComplete t true s = _)
  unfold manifestCommitComplete
  simp [waits]

theorem exec_manifestCommitComplete_failed :
    exec (.manifestCommitComplete t false) s = .next (u.writeFailed p) := by
  subst now
  refine congrArg Host.Outcome.next (?_ : manifestCommitComplete t false s = _)
  unfold manifestCommitComplete
  simp [waits]

end

section
variable (now : u = s.upto t)
include now

theorem exec_programValidationComplete {n : Fin 4} (waits : s.pendOf 0x40 n = some p)
    (loads : u.loadProgram n = (v, none)) :
    exec (.programValidationComplete t n) s = .next
      (v.complete p { status := stOk, stamp := v.tide, data := beBytes 2 (p.args.getD 0 0) ++ [0, 0] }) := by
  subst now
  refine congrArg Host.Outcome.next (?_ : validationComplete t n s = _)
  unfold validationComplete
  simp [waits, loads]

/-- The record is sent from its own module, and the command is answered with its length (R422). -/
theorem exec_logbookBulkComplete (waits : s.pendOf 0x61 0xF0 = some p) (frozen : s.get Reg.LOGB_STAT_STATE = 3)
    (own : s.logVia = false) (fits : p.args.getD 0 0 + p.args.getD 1 0 ≤ s.record.2) :
    exec (.logbookBulkComplete t) s = .next
      ((State.sendRecord (.udp (p.args.getD 2 0) (p.args.getD 3 0)) u.record.1 ((p.args.getD 1 0 + 1023) / 1024)
        (p.args.getD 0 0) (p.args.getD 1 0) 0
        (u.recordErrors u.record.1 (p.args.getD 0 0) (p.args.getD 1 0))).complete p
        { status := stOk, stamp := u.tide, data := beBytes 8 (p.args.getD 1 0) }) := by
  have fits' : ¬ s.record.2 < p.args.getD 0 0 + p.args.getD 1 0 := Nat.not_lt.mpr fits
  subst now
  refine congrArg Host.Outcome.next (?_ : bulkComplete t s = _)
  unfold bulkComplete
  simp only [upto_pendOf, waits, upto_logVia, own, upto_record, fits', upto_get, frozen, ne_eq, not_true_eq_false,
    Bool.false_and, Bool.false_eq_true, or_self, if_false]

theorem exec_diagRunComplete_module (r : DiagReadings) (waits : s.pendOf 0x70 0xF0 = some p) :
    exec (.diagRunComplete t none r) s = .next ((u.xResults (p.args.getD 0 0) r).1.complete p
      { status := stOk, stamp := (u.xResults (p.args.getD 0 0) r).1.tide
        data := (u.xResults (p.args.getD 0 0) r).2 }) := by
  subst now
  refine congrArg Host.Outcome.next (?_ : diagComplete t none r s = _)
  unfold diagComplete
  simp [waits]

theorem exec_diagRunComplete_axis {n : Fin 4} (r : DiagReadings) (waits : s.pendOf 0x70 n = some p)
    (runs : (s.axis n).diag.isSome = true) (ended : v = u.updAxis n fun a => { a with diag := none }) :
    exec (.diagRunComplete t (some n) r) s = .next ((v.axisResults n (p.args.getD 0 0) r).1.complete p
      { status := stOk, stamp := (v.axisResults n (p.args.getD 0 0) r).1.tide
        data := (v.axisResults n (p.args.getD 0 0) r).2 }) := by
  have present : (s.axis n).diag.isNone = false := by rw [← Option.not_isSome, runs]; rfl
  subst ended now
  refine congrArg Host.Outcome.next (?_ : diagComplete t (some n) r s = _)
  unfold diagComplete
  simp [waits, present]

/-- A tune ends by its program or after its maximum duration (R259). -/
theorem exec_tuneEnd {n : Fin 4} (tunes : (s.axis n).st = .tune)
    (ends : u.handedNat n 176 = 2 ∨ (s.axis n).tune.startAt + (s.axis n).tune.maxMs * Config.ms ≤ t) :
    exec (.tuneEnd t n) s = .next ((u.endTune t n).completeOp 0x80 n { status := stOk, stamp := u.tide }) := by
  have isOver : u.tuneOver t n = true := by
    subst now
    exact (Bool.or_eq_true _ _).mpr (ends.imp beq_iff_eq.mpr decide_eq_true)
  subst now
  refine congrArg Host.Outcome.next (?_ : tuneEndRow t n s = _)
  unfold tuneEndRow
  simp [tunes, isOver]

theorem exec_fwUpdateEraseComplete {x : Update} (waits : s.pendPhase 0 = some p) (opened : s.hm.upd = some x) :
    exec (.fwUpdateEraseComplete t) s = .next
      ((u.setUpdate { x with busy := false }).complete p { status := stOk, stamp := u.tide }) := by
  subst now
  refine congrArg Host.Outcome.next (?_ : fwErased t s = _)
  unfold fwErased
  simp [waits, opened]

/-- The image of an update passes its checks, or the command is answered ERR_AUTH (R109). -/
theorem exec_fwUpdateFinishComplete {x : Update} (waits : s.pendPhase 2 = some p) (opened : s.hm.upd = some x) :
    exec (.fwUpdateFinishComplete t) s = .next
      (if x.next = x.size ∧ u.fwGood x.size = true then
        (u.setUpdate { x with busy := false, finished := true }).complete p { status := stOk, stamp := u.tide }
      else
        ((u.setUpdate { x with busy := false, finished := false }).complete p
          { status := errAuth, detail := 5, stamp := u.tide }).authFail p.chan) := by
  subst now
  refine congrArg Host.Outcome.next (?_ : fwFinished t s = _)
  unfold fwFinished
  simp only [upto_pendPhase, waits, upto_hm, opened]
  by_cases good : x.next = x.size ∧ (s.upto t).fwGood x.size = true
  · rw [if_pos good, good.1, good.2, beq_self_eq_true]
    rfl
  · have bad : (x.next == x.size && (s.upto t).fwGood x.size) = false := by
      rw [Bool.eq_false_iff, ne_eq, Bool.and_eq_true, beq_iff_eq]
      exact good
    rw [if_neg good, bad]
    rfl

theorem exec_safetyParamVerifyComplete (waits : s.pendOf 0xB1 0xF0 = some p) (planned : p.data ≠ []) :
    exec (.safetyParamVerifyComplete t true) s = .next ((u.writeBank p).complete p
      { status := stOk, stamp := u.tide
        data := beBytes 4 ((u.lk.inForce.map SafetySet.crc).getD 0) ++
          beBytes 4 ((u.lk.inForce.map SafetySet.ver).getD 0) }) := by
  have filled : p.data.isEmpty = false := by rw [List.isEmpty_eq_false_iff]; exact planned
  subst now
  refine congrArg Host.Outcome.next (?_ : safetyVerifyComplete t true s = _)
  unfold safetyVerifyComplete
  simp [waits, filled]

theorem exec_groupFormComplete (formed : v = (u.set Reg.MOOR_GSTAT_FORMING 0).announce)
    (waits : s.pendOf 0xC0 0xFF = some p) (lead : s.isLead = true) (found : u.matchesCfg = true) :
    exec (.groupFormComplete t) s = .next
      (v.complete p { status := stOk, stamp := v.tide, data := v.formData }) := by
  subst formed now
  refine congrArg Host.Outcome.next (?_ : groupFormComplete t s = _)
  unfold groupFormComplete
  simp [waits, lead, found]

/-- Rails that have risen, while the axis has kept its state, take it to its target (R461). -/
theorem exec_axisStateComplete {n : Fin 4} {dst : AxState} (waits : s.pendOf 0x30 n = some p)
    (target : (s.axis n).pendTo = some dst) (stayed : (s.axis n).st.code = p.args.getD 0 0)
    (supplied : ((s.channelsOf n).any fun g => (s.gate g).holds.supply) = false) (risen : s.railsRisen n = true)
    (ran : s.lk.fresh = false) :
    exec (.axisStateComplete t n) s = .next (u.enableDone n dst (p.args.getD 0 0)).finishStart := by
  subst now
  refine congrArg Host.Outcome.next (?_ : axisComplete t n s = _)
  unfold axisComplete
  simp [target, waits, stayed, supplied, risen, ran]

end

end

/-! ### Timeouts (R93, R95, R101, R106, R109, R330) -/

section
variable {s u : State} {t : Nat} (now : u = s.upto t)
include now

theorem exec_sessionIdleTimeout {ch : Chan} {x : Session} (opened : s.session ch = some x)
    (idle : x.lastAt + 60 * Config.sec ≤ u.tide) : exec (.sessionIdleTimeout t ch) s = .next (u.closeSession ch) := by
  subst now
  exact congrArg Host.Outcome.next (if_pos (any_of opened (decide_eq_true idle)))

theorem exec_channelBarExpiry {ch : Chan} {b : Nat} (barred : (s.channel ch).barred = some b) (ends : b ≤ u.tide) :
    exec (.channelBarExpiry t ch) s = .next (u.updChannel ch fun c => { c with barred := none, authErrs := 0 }) := by
  subst now
  exact congrArg Host.Outcome.next (if_pos (any_of barred (decide_eq_true ends)))

theorem exec_fwUpdateIdleTimeout {x : Update} (opened : s.hm.upd = some x)
    (idle : x.lastAt + 60 * Config.sec ≤ u.tide) : exec (.fwUpdateIdleTimeout t) s = .next u.dropUpdate := by
  subst now
  exact congrArg Host.Outcome.next (if_pos (any_of opened (decide_eq_true idle)))

section
variable {n : Fin 4} {e : Nat} (valid : (s.axis n).expiry = some e) (ends : e ≤ u.tide)
include valid ends

/-- An axis in RUN goes to HOLD with CMD_TIMEOUT. -/
theorem exec_setpointExpiry_run (run : (s.axis n).st = .run) :
    exec (.setpointExpiry t n) s = .next (((u.expireToHold n).raise .cmdTimeout 1 n u.tide).settle u.tide) := by
  subst now
  exact congrArg Host.Outcome.next ((if_pos (any_of valid (decide_eq_true ends))).trans (if_pos run))

/-- Of an axis that a thermal trip took out of RUN, the expiry is noted for the restart. -/
theorem exec_setpointExpiry_tripped (fault : (s.axis n).st = .fault) (ran : (s.axis n).preTherm = some .run) :
    exec (.setpointExpiry t n) s = .next (u.updAxis n fun a => { a with expired := true, expiry := none }) := by
  subst now
  have out : (s.axis n).st ≠ .run := by rw [fault]; decide
  exact congrArg Host.Outcome.next
    ((if_pos (any_of valid (decide_eq_true ends))).trans ((if_neg out).trans (if_pos ⟨fault, ran⟩)))

end

end

/-! ### Writes that command Breakwater (R321, R322, R335-R338) -/

section
variable {v : State} {w : Word}

theorem dscWritten_start (t : Nat) (start : wordGet w 0 1 = 1) (noStop : wordGet w 1 1 = 0)
    (may : (v.axes.toList.any fun a => a.st == .diag || a.st == .run || a.st == .tune) = false) :
    v.dscWritten t w = v.updBw fun b => b.trigger t b.trgCmd fun b => { b with trgCmd := true } := by
  unfold State.dscWritten
  simp [start, noStop, may]

section
variable (t : Nat) (noStart : wordGet w 0 1 = 0) (stop : wordGet w 1 1 = 1) (commanded : v.bw.trgCmd = true)
include noStart stop commanded

/-- STOP of a discharge that nothing else has triggered ends it. -/
theorem dscWritten_stop (loss : v.bw.trgLoss = false) (safe : v.bw.trgSafe = false) :
    v.dscWritten t w = v.dscStop := by
  unfold State.dscWritten
  simp [noStart, stop, commanded, loss, safe]

/-- Where another trigger stands, STOP takes the command away alone. -/
theorem dscWritten_release (other : v.bw.trgLoss = true ∨ v.bw.trgSafe = true) :
    v.dscWritten t w = v.updBw fun b => { b with trgCmd := false } := by
  have stands : (v.bw.trgLoss || v.bw.trgSafe) = true := (Bool.or_eq_true _ _).mpr other
  unfold State.dscWritten
  simp [noStart, stop, commanded, stands]

end

end

section
variable {t req : Nat} {w : Word} {s v : State}

theorem exec_dscRequest (h : (s.busAt t req true).accepted req Reg.BW_DSCCTL w = some v) :
    exec (.dscRequest t req w) s = .next (v.dscWritten v.tide w) :=
  congrArg Host.Outcome.next (write_BW_DSCCTL t req w h)

theorem exec_dscStopWrite (h : (s.busAt t req true).accepted req Reg.BW_DSCCTL w = some v) :
    exec (.dscStopWrite t req w) s = .next (v.dscWritten v.tide w) :=
  congrArg Host.Outcome.next (write_BW_DSCCTL t req w h)

theorem exec_bwLkdemandWrite (h : (s.busAt t req true).accepted req Reg.BW_LKDEMAND w = some v) :
    exec (.bwLkdemandWrite t req w) s = .next (v.putLkDemand v.tide (v.reg Reg.BW_LKDEMAND)) :=
  congrArg Host.Outcome.next (write_BW_LKDEMAND t req w h)

/-- A clear of the queue works on the causes that its row found gone, which are then forgotten (R338). -/
theorem exec_bwFqclrWrite {gone : List (FName × Nat × Nat)}
    (h : ((s.updFm fun m => { m with found := some gone }).busAt t req true).accepted req Reg.BW_FQCLR w = some v) :
    exec (.bwFqclrWrite t req ⟨w, gone⟩) s = .next
      ((if v.clearWaits then v else (v.findGone.faultClear none (wordGet w 0 16)).1.leaveSafe).updFm fun m =>
        { m with found := none }) :=
  congrArg (fun v : State => Host.Outcome.next (v.updFm fun m => { m with found := none })) (write_BW_FQCLR t req w h)

end

/-! ### The obligations -/

/-- Settles O13: each transport by the packet that it completes, and each row by its branches. -/
theorem transports : Obligations.Transports := by
  intro t s u now
  refine ⟨fun ip port b fits => exec_udpDatagram now fits ip port, fun v b => exec_hspiWrite,
    fun n v b r oldest whole => exec_hspiRead_whole now oldest whole, fun n b r oldest => exec_hspiRead_part now oldest,
    fun c h d first last index empty fits => ?_, fun c h d first more index empty => ?_,
    fun c h d p later more prior index soon => ?_,
    fun n d b full desc size reply command packet =>
      exec_berthCommandDescriptor now full desc size reply command packet,
    fun c p => exec_fragmentTimeout, fun n w => exec_replyBerthRetry_sends now,
    fun n w => exec_replyBerthRetry_gives_up now⟩
  · rw [exec_canCommandFragment now, canFragment_only first index empty last fits]
  · rw [exec_canCommandFragment now, canFragment_first first index empty more]
  · rw [exec_canCommandFragment now, canFragment_next later more prior index soon]

/-- Settles O14: each row by its branches. -/
theorem completions : Obligations.Completions := by
  intro t s u p now
  refine ⟨fun waits keep => exec_manifestCommitComplete_written now waits (if_neg keep).symm,
    fun waits apply => exec_manifestCommitComplete_written now waits (if_pos apply).symm,
    exec_manifestCommitComplete_failed now, fun n v => exec_programValidationComplete now,
    exec_logbookBulkComplete now, exec_diagRunComplete_module now, fun n r v => exec_diagRunComplete_axis now r,
    fun n v tunes ends ended => ?_, fun x => exec_fwUpdateEraseComplete now, fun x => exec_fwUpdateFinishComplete now,
    exec_safetyParamVerifyComplete now, fun v => exec_groupFormComplete now,
    fun n dst => exec_axisStateComplete now⟩
  subst ended
  exact exec_tuneEnd now tunes ends

/-- Settles O26: each row by its branches. -/
theorem commandTimeouts : Obligations.CommandTimeouts := by
  intro t s u ch n now
  exact ⟨fun x => exec_sessionIdleTimeout now, fun b => exec_channelBarExpiry now,
    fun x => exec_fwUpdateIdleTimeout now, fun e => exec_setpointExpiry_run now,
    fun e => exec_setpointExpiry_tripped now⟩

/-- Settles O21: the row of each write, and what its register does with the word. -/
theorem breakwaterWrites : Obligations.BreakwaterWrites := by
  rintro t req w s u v rfl
  refine ⟨fun h start noStop may => ?_, fun h noStart stop commanded loss safe => ?_,
    fun h noStart stop commanded other => ?_, exec_bwLkdemandWrite,
    fun gone h => ⟨fun locked => ?_, fun waits => ?_⟩⟩
  · rw [exec_dscRequest h, dscWritten_start _ start noStop may]
  · rw [exec_dscStopWrite h, dscWritten_stop _ noStart stop commanded loss safe]
  · rw [exec_dscStopWrite h, dscWritten_release _ noStart stop commanded other]
  · rw [exec_bwFqclrWrite h, if_neg (Bool.eq_false_iff.mp locked)]
  · rw [exec_bwFqclrWrite h, if_pos waits]

end Sys2Proof.Machine
end

section
/-! # Proofs: trip inputs, samples, conversions, DC-link results and housekeeping rounds (R141-R165, R173, R283, R314,
R316, R323)

First the rows by their branches, then the obligations. -/

namespace Sys2Proof.Machine

/-! ### Trip inputs (R283, R323) -/

section
variable {s v : State} {t : Nat} {k : Fin 8} {first : Nat} (now : v = (s.upto t).drive (32 * t))
  (counted : v.tripCounted t k first = true)
include now counted

theorem exec_tripAccepted : exec (.tripAccepted t k ⟨first, v.bit (Reg.PWM_TRIP_POL k)⟩) s = .next
    ((v.sets [(Reg.PWM_TRIP_LEVEL k, 1), (Reg.PWM_TRIP_SEEN k, 1)]).tripIn t first k) := by
  subst now
  exact congrArg Host.Outcome.next (if_pos (by rw [beq_self_eq_true, counted, Bool.and_self]))

theorem exec_tripInactive : exec (.tripInactive t ⟨k, first, !v.bit (Reg.PWM_TRIP_POL k)⟩) s = .next
    ((v.set (Reg.PWM_TRIP_LEVEL k) 0).tripOut k) := by
  subst now
  exact congrArg Host.Outcome.next (if_pos (by rw [Bool.not_bne_self, counted, Bool.and_self]))

end

/-! ### Samples (R141, R144, R173) -/

theorem exec_sampleEvent {s u : State} {t : Nat} {n : Fin 4} (now : u = s.upto t) (runs : s.running n = true)
    (used : s.idle n = false) (locked : s.backup = false) (r : ResIn) :
    exec (.sampleEvent t n r) s = .next ((s.sampleInsts n t).foldl (State.sampleAt n r) u) := by
  have samples : (s.running n && !s.idle n && !s.backup) = true := by rw [runs, used, locked]; rfl
  subst now
  exact congrArg Host.Outcome.next (if_pos samples)

/-- A SAMPLE event: the record is latched, the clusters sample, the loop has the sample where one of them converted,
and Breakwater has the speed of the record. -/
theorem sampleAt_eq {u v x y : State} {n : Fin 4} {r : ResIn} {i : Nat} {l : List Word} {was : List (Option Nat)}
    (latched : u.latchRecord (i / 32) n r = (v, l)) (before : was = (v.clustersOf n).map fun c => (v.cluster c).last)
    (sampled : x = (v.clustersOf n).foldl (State.sampleCluster i (l ++ [v.reg Reg.ADC_VHVVAL])) v)
    (noted : y = if decide ((x.clustersOf n).map (fun c => (x.cluster c).last) ≠ was) && (x.axis n).st.closed then
      x.updEng n fun e => { e with samples := e.samples ++ [(i / 32, none)] } else x) :
    u.sampleAt n r i = (y.takeSpeed n (y.reg (Reg.FBK_SPEED n))).settle (i / 32) := by
  subst before sampled noted
  unfold State.sampleAt
  simp only [latched]

/-! ### Completed conversions (R145, R147) -/

/-- The results of a cluster, and with those of the last one of its event those of the axis. -/
theorem exec_conversionComplete {s u v x y : State} {t : Nat} {c n : Fin 4} {codes : List Int} {ovr : Nat} {p : Sample}
    {rest : List Sample} (now : u = s.upto t) (oldest : (s.cluster c).pend = p :: rest)
    (results : v = (inputs.foldl (State.resultOf t c p codes ovr)
      (u.updCluster c fun x => { x with pend := rest })).set (Reg.ADC_STATUS_SEQ c) p.seq)
    (range : x = if ovr % 256 ≠ 0 then v.raiseOnce .adcOvr (adcSource c) 0 t else v)
    (logged : y = x.logResults c p.stamp) (owner : n = y.axisOfCluster c) :
    exec (.conversionComplete t c codes ovr) s = .next
      (if (y.clustersOf n).any fun d => (y.cluster d).pend.any fun q => q.stamp == p.stamp then y
      else (y.updEng n fun e => { e with newest := putAll e.newest (y.eventEntries n p) }).resultsArrive t n
        p.stamp) := by
  have oldest' : ((s.upto t).cluster c).pend = p :: rest := oldest
  subst now results range logged owner
  refine congrArg Host.Outcome.next (?_ : conversionComplete t c codes ovr s = _)
  unfold conversionComplete
  simp only [oldest']

/-! ### The fallow rotation (R153, R154, R156) -/

section
variable {s u : State} {t : Nat} {c : Fin 4} (now : u = s.upto t)
include now

/-- A step at its due count first rejects a measurement still running. -/
theorem exec_fallowRotationStep {x v y : State} {k inc : Nat} (past : x = u.advanceCluster t c)
    (missed : (x.cluster c).meas = none ∧ v = x ∨ ∃ sl, (x.cluster c).meas = some sl ∧
      v = (x.updCluster c fun y => { y with meas := none }).rejectMeasure t c (Fin.ofNat 9 sl))
    (due : t % Config.ms = 0) (turns : v.rotStopped c = false) (owed : y = v.oweHand c)
    (turns' : y.rotStopped c = false) (up : 2 ≤ y.modState) (free : (y.cluster c).hand = none)
    (spare : inc = y.get (Reg.ADC_STATUS_FALLOW c)) (serves : y.inputOf c ((inc + 1) % 9) = some k) :
    exec (.fallowRotationStep t c) s = .next
      (y.updCluster c fun x =>
        { x with
          hand := some { input := k, out := (inc + 1) % 9, inc := inc
                         c := ((y.cluster c).last.map fun l => max (32 * t) (l + 2304)).getD (32 * t) } }) := by
  have up' : ¬ y.modState < 2 := Nat.not_lt.mpr up
  subst now past spare
  refine congrArg Host.Outcome.next (?_ : fallowStep t c s = _)
  unfold fallowStep
  obtain ⟨idle, rfl⟩ | ⟨sl, runs, rfl⟩ := missed
  · simp only [due, idle, turns, ← owed, turns', up', free, serves, ne_eq, not_true_eq_false, if_false,
      Bool.false_eq_true, decide_false, Option.isSome_none, Bool.or_self]
  · simp only [due, runs, turns, ← owed, turns', up', free, serves, ne_eq, not_true_eq_false, if_false,
      Bool.false_eq_true, decide_false, Option.isSome_none, Bool.or_self]

theorem exec_fallowMeasurementEnd {v : State} {sl : Nat} (past : v = u.advanceCluster t c)
    (runs : (v.cluster c).meas = some sl) (a b d : Int) :
    exec (.fallowMeasurementEnd t c a b d) s = .next
      ((v.updCluster c fun x => { x with meas := none }).judgeMeasure t c (Fin.ofNat 9 sl) a b d) := by
  subst now past
  refine congrArg Host.Outcome.next (?_ : fallowEnd t c a b d s = _)
  unfold fallowEnd
  simp only [runs]

end

/-! ### The DC-link voltage (R159-R161, R316) -/

theorem exec_vhvFailTimeout (t : Nat) (s : State) : exec (.vhvFailTimeout t) s = .next
    ((((s.upto t).updBw fun b => { b with vhvRun := none, vhvLast := none }).set Reg.ADC_VHVSTAT_VALID 0).raise .vhvFail
      3 0 t) := rfl

/-- What a result does before the gate rails of the X domain may come on. -/
theorem takeVhv_eq {u v x y z : State} {t run : Nat} {k code : Int} {change : Bool} (held : code = holdCode k)
    (shown : v = u.sets [(Reg.ADC_VHVRES_CODE, ofSigned 16 code),
      (Reg.ADC_VHVRES_SAT, if code = 32767 ∨ code = -32768 then 1 else 0),
      (Reg.ADC_VHVRES_SEQ, u.get Reg.ADC_VHVRES_SEQ + 1), (Reg.ADC_VHVSTAT_VALID, 1)])
    (converted : x = v.setReg Reg.ADC_VHVVAL (bfRound (v.vhvVolts code)))
    (since : run = if x.bw.vhvLast.any fun l => decide (t < l + 8000) then x.bw.vhvRun.getD t else t)
    (noted : y = x.updBw fun b => { b with vhvLast := some t, vhvRun := if change then some run else none })
    (given : z = (if change = true ∧ run + 8000 ≤ t then y.causeGone .vhvFail 3 0 else y).bwResult t (t - 3000)
      (v.vhvVolts code)) :
    u.takeVhv t k change = z := by
  subst held shown converted since noted given
  unfold State.takeVhv
  simp only [decide_eq_true_eq]

theorem exec_vhvResult (t : Nat) (k : Int) (change : Bool) (s : State) : exec (.vhvResult t ⟨k, change⟩) s = .next
    (if ((s.upto t).takeVhv t k change).pwr.up then ((s.upto t).takeVhv t k change).enableX t
      else (s.upto t).takeVhv t k change) := rfl

/-! ### Housekeeping rounds (R162-R165) -/

section
variable {s u : State} {t : Nat} (now : u = s.upto t)
include now

theorem exec_hkRoundStart : exec (.hkRoundStart t) s = .next
    (if t % (s.get Reg.HK_CTL_PERIOD * Config.ms) = 0 then u.set Reg.HK_STATUS_BUSY 1 else u) := by
  subst now; rfl

theorem exec_hkRoundEnd {v x y : State} {r : HkReadings} {round : Nat} {sums : List Int}
    (read : sums = r.sums.map hkSum) (count : round = s.get Reg.HK_STATUS_ROUNDS)
    (channels : v = (List.finRange 64).foldl (State.hkChannel sums round) u)
    (temps : x = (List.finRange 8).foldl (State.tpRound t sums) ((List.finRange 24).foldl (State.ntcRound t r.ohms) v))
    (counted : y = x.sets [(Reg.HK_STATUS_BUSY, 0), (Reg.HK_STATUS_ROUNDS, round + 1)]) :
    exec (.hkRoundEnd t r) s = .next
      (((y.hkReference t ((sums[62]?).getD 0) ((sums[63]?).getD 0)).eachAxis
        (State.clusterReference t)).thermalRound t) := by
  subst now read count channels temps counted
  rfl

/-! ### The speed of a stopped carrier (R314) -/

theorem exec_breakwaterSpeedUpdate {n : Fin 4} {r : ResIn} {w : Word} {ok : Bool} {v x : State}
    (stopped : s.running n = false) (locked : s.backup = false) (sampled : v = u.resolverSample n r)
    (speed : ({ v with free := v.free + 1 } : State).speedAt t n (Config.freeWord v.free) = (w, ok))
    (shown : x = (({ v with free := v.free + 1 } : State).setB (Reg.FBK_STATUS_SPD_VALID n) ok).portBits n) :
    exec (.breakwaterSpeedUpdate t ⟨n, r⟩) s = .next ((x.takeSpeed n w).settle t) := by
  have stopped' : (s.upto t).running n = false := stopped
  subst now shown
  refine congrArg Host.Outcome.next (?_ : bwSpeed t n r s = _)
  unfold bwSpeed State.freeWord
  simp only [stopped', upto_backup, locked, Bool.or_self, Bool.false_eq_true, if_false, ← sampled, speed]

end

/-! ### The obligations -/

/-- Settles O28: each row by its branches. -/
theorem tripAndConversionRows : Obligations.TripAndConversionRows := by
  intro t s u now
  refine ⟨fun k first v driven counted => ?_, fun n r runs used locked _ => exec_sampleEvent now runs used locked r,
    fun n r i v x y l was => sampleAt_eq, fun c n codes ovr p rest v x y oldest results range logged owner => ?_,
    fun c x v y k inc => exec_fallowRotationStep now,
    fun c a b d v sl past runs => exec_fallowMeasurementEnd now past runs a b d, fun due => ?_, fun early => ?_, ?_⟩
  · rw [now] at driven
    exact ⟨exec_tripAccepted driven counted, exec_tripInactive driven counted⟩
  · rw [exec_conversionComplete now oldest results range logged owner]
    exact ⟨fun waits => by rw [if_pos waits], fun last => by rw [if_neg (Bool.eq_false_iff.mp last)]⟩
  · rw [exec_hkRoundStart now, if_pos due]
  · rw [exec_hkRoundStart now, if_neg early]
  · rw [now]
    exact exec_vhvFailTimeout t s

/-- Settles O29: each row by its branches, the DC-link result by what Breakwater takes of it. -/
theorem slowConversionRows : Obligations.SlowConversionRows := by
  intro t s u now
  refine ⟨fun k code change v x y z run held shown converted since noted given => ?_,
    fun r round sums v x y => exec_hkRoundEnd now,
    fun n r w ok v x => exec_breakwaterSpeedUpdate now⟩
  rw [exec_vhvResult, ← now, takeVhv_eq held shown converted since noted given]

end Sys2Proof.Machine
end

section
/-! # Proofs: the feedback ports (R170-R200, R254)

First the rows by their branches, then the obligations. The ports stop with the clock, so every row but the end of the
held reaction has the lock of the PLL as a premise (R21). -/

namespace Sys2Proof.Machine

@[simp] theorem upto_port (s : State) (t : Nat) (n : Fin 4) : (s.upto t).port n = s.port n := rfl
@[simp] theorem upto_fbMode (s : State) (t : Nat) (n : Fin 4) : (s.upto t).fbMode n = s.fbMode n := rfl

section
variable {s u : State} {t : Nat} {n : Fin 4} (now : u = s.upto t) (clock : s.backup = false)

/-! ### Encoder edges and the index (R177-R182) -/

section
variable (mode : s.fbMode n = 1)
include now clock mode

theorem exec_encoderEdge {v : State} {a b : Bool} {st d : Nat} {rev : Bool}
    (levels : v = u.updPort n (fun p => { p with a := a, b := b })) (stamp : st = t - v.get (Reg.FBK_FILT_FILT n))
    (turn : d = (quadCode a b + 4 - quadCode (s.port n).a (s.port n).b) % 4)
    (dir : rev = ((d == 3) != v.bit (Reg.FBK_MODE_INV n))) :
    exec (.encoderEdge t n a b) s = .next (if d = 0 then v else if d = 2 then v.illegalEdge st n else
      (v.setReg (Reg.FBK_COUNT n)
        (if rev then v.reg (Reg.FBK_COUNT n) - 1 else v.reg (Reg.FBK_COUNT n) + 1)).countEdge st n rev) := by
  subst now levels stamp turn dir
  exact congrArg Host.Outcome.next ((if_neg (Bool.eq_false_iff.mp clock)).trans (if_pos mode))

theorem exec_encoderIndex {v : State} {c : Word} (count : c = s.reg (Reg.FBK_COUNT n))
    (gated : zgate (s.get (Reg.FBK_IDXCFG_ZGATE n)) (s.port n).a (s.port n).b = true)
    (latched : v = ((u.setReg (Reg.FBK_IDXLAT n) c).sets
      [(Reg.FBK_IRQ_IDX n, 1), (Reg.FBK_STATUS_IDXSEEN n, 1)]).updPort n
        (fun p => { p with latch1 := some (p.latch1.getD c), latch := some c, tainted := false })) :
    exec (.encoderIndex t n) s = .next (((s.port n).latch.elim v fun l =>
      v.driftCheck (t - v.get (Reg.FBK_FILT_FILT n)) n c l (s.port n).tainted).portBits n) := by
  subst now count latched
  refine congrArg Host.Outcome.next
    (((if_neg (Bool.eq_false_iff.mp clock)).trans (if_pos ⟨mode, gated⟩) : encoderIndex t n s = _).trans ?_)
  change State.portBits (match (s.port n).latch with | some _ => _ | none => _) n = _
  cases (s.port n).latch <;> rfl

end

/-! ### Standstill (R184, R196) -/

section
include now clock

theorem exec_speedStandstill_edges (mode : s.fbMode n = 1 ∨ s.fbMode n = 2)
    (late : ∀ e ∈ (s.port n).edges, e + s.spdTimeout n ≤ t) :
    exec (.speedStandstill t n) s = .next (u.standstill n) := by
  have all_late : (s.port n).edges.all (fun e => decide (e + s.spdTimeout n ≤ t)) = true :=
    List.all_eq_true.mpr fun e he => decide_eq_true (late e he)
  subst now
  refine congrArg Host.Outcome.next ((if_neg (Bool.eq_false_iff.mp clock) : speedStandstill t n s = _).trans ?_)
  rcases mode with encoder | hall
  · simp only [upto_fbMode, encoder]
    exact if_pos (decide_eq_true all_late)
  · simp only [upto_fbMode, hall]
    exact if_pos (decide_eq_true all_late)

theorem exec_speedStandstill_frames (mode : s.fbMode n = 4)
    (few : ((s.port n).frames.filter fun f => decide (t < f.1 + s.spdTimeout n)).length < 2) :
    exec (.speedStandstill t n) s = .next (u.set (Reg.FBK_STATUS_SPD_VALID n) 0) := by
  subst now
  refine congrArg Host.Outcome.next ((if_neg (Bool.eq_false_iff.mp clock) : speedStandstill t n s = _).trans ?_)
  simp only [upto_fbMode, mode]
  exact if_pos (decide_eq_true few)

theorem exec_speedStandstill_other (notEnc : s.fbMode n ≠ 1) (notHall : s.fbMode n ≠ 2)
    (notSsi : s.fbMode n ≠ 4) : exec (.speedStandstill t n) s = .next u := by
  subst now
  refine congrArg Host.Outcome.next ((if_neg (Bool.eq_false_iff.mp clock) : speedStandstill t n s = _).trans ?_)
  split
  next encoder => exact absurd encoder notEnc
  next hall => exact absurd hall notHall
  next ssi => exact absurd ssi notSsi
  next => rfl

end

/-! ### Hall switches (R186-R188) -/

/-- The move of the sector by one, over the edge whose angle the port then holds (R188). -/
def State.hallMove (v : State) (st : Nat) (n : Fin 4) (i : Nat) (rev : Bool) : State :=
  ((v.updPort n fun p =>
    { p with
      sector := if rev then p.sector - 1 else p.sector + 1
      hallAt := some st
      hallAng := (v.get (Reg.FBK_HALL_OFS n) + 65536 * (if rev then (i + 1) % 6 else i) / 6) % 65536 }).countEdge
        st n rev).hallGood n

section
variable {v : State} {h : Fin 8} (mode : s.fbMode n = 2) (shown : v = u.set (Reg.FBK_HALL_STATE n) h)
include now clock mode shown

theorem exec_hallStateChange_invalid (bad : hallPlace h = none) :
    exec (.hallStateChange t n h) s = .next (v.hallBad (t - v.get (Reg.FBK_FILT_FILT n)) n) := by
  subst now shown
  refine congrArg Host.Outcome.next
    (((if_neg (Bool.eq_false_iff.mp clock)).trans (if_pos mode) : hallChange t n h s = _).trans ?_)
  simp only [bad]

theorem exec_hallStateChange_first {j : Nat} (good : hallPlace h = some j)
    (first : hallPlace (s.get (Reg.FBK_HALL_STATE n)) = none) :
    exec (.hallStateChange t n h) s = .next
      ((({ v with free := v.free + 1 } : State).updPort n fun p =>
        { p with hallAt := some (t - v.get (Reg.FBK_FILT_FILT n))
                 hallAng := Config.freeNat v.free % 65536 }).hallGood n) := by
  subst now shown
  refine congrArg Host.Outcome.next
    (((if_neg (Bool.eq_false_iff.mp clock)).trans (if_pos mode) : hallChange t n h s = _).trans ?_)
  simp only [upto_get, good, first]
  rfl

theorem exec_hallStateChange_next {j k i d : Nat} (good : hallPlace h = some j)
    (before : hallPlace (s.get (Reg.FBK_HALL_STATE n)) = some k)
    (place : i = hallIndex (v.bit (Reg.FBK_MODE_INV n)) j)
    (step : d = (i + 6 - hallIndex (v.bit (Reg.FBK_MODE_INV n)) k) % 6) :
    exec (.hallStateChange t n h) s = .next
      (if d = 1 ∨ d = 5 then v.hallMove (t - v.get (Reg.FBK_FILT_FILT n)) n i (decide (d = 5)) else if d = 0 then v
      else v.hallBad (t - v.get (Reg.FBK_FILT_FILT n)) n) := by
  subst now shown place step
  refine congrArg Host.Outcome.next
    (((if_neg (Bool.eq_false_iff.mp clock)).trans (if_pos mode) : hallChange t n h s = _).trans ?_)
  simp only [upto_get, good, before]
  rfl

end

/-! ### The resolver (R190-R192) -/

section
variable (mode : s.fbMode n = 3)
include now clock mode

theorem exec_resolverLock : exec (.resolverLock t n) s = .next
    (((u.sets [(Reg.FBK_STATUS_LOCK n, 1), (Reg.FBK_STATUS_SPD_VALID n, 1)]).causeGone .fbResLock
      (fbSource n) 0).portBits n) := by
  subst now
  exact congrArg Host.Outcome.next ((if_neg (Bool.eq_false_iff.mp clock)).trans (if_pos mode))

theorem exec_resolverLockLoss (locked : s.bit (Reg.FBK_STATUS_LOCK n) = true) :
    exec (.resolverLockLoss t n) s = .next
      (((u.sets [(Reg.FBK_STATUS_LOCK n, 0), (Reg.FBK_STATUS_SPD_VALID n, 0),
        (Reg.FBK_IRQ_SENSOR n, 1)]).portBits n).raise .fbResLock (fbSource n) 0 t) := by
  subst now
  exact congrArg Host.Outcome.next ((if_neg (Bool.eq_false_iff.mp clock)).trans (if_pos ⟨mode, locked⟩))

theorem exec_resolverAmpFault {amp : Nat} (out : s.ampBad n amp = true) :
    exec (.resolverAmpFault t n amp) s = .next
      (((((u.set (Reg.FBK_RESAMP_AMP n) amp).updPort n fun p => { p with resBad := true }).set
        (Reg.FBK_IRQ_SENSOR n) 1).portBits n).raise .fbResAmp (fbSource n) 0 t) := by
  subst now
  exact congrArg Host.Outcome.next ((if_neg (Bool.eq_false_iff.mp clock)).trans (if_pos ⟨mode, out⟩))

end

/-! ### SSI frames (R194-R196) -/

/-- The change from an earlier frame to one that reads `r` (R195). -/
def State.ssiChange (v : State) (n : Fin 4) (r : Nat) (f : Nat × Word) : Int :=
  ssiDelta (v.ssiWidth n) (v.ssiValue n r) f.2.toNat

/-- A frame that reads `r` lies further from the newest one than SSISTEP allows (R195). -/
def State.ssiJumps (v : State) (n : Fin 4) (r : Nat) : Bool :=
  (v.reg (Reg.FBK_SSISTEP n)).toNat != 0 && (v.port n).frames.head?.any fun f =>
    decide ((v.reg (Reg.FBK_SSISTEP n)).toNat < (v.ssiChange n r f).natAbs)

theorem ssiJumps_eq_true {v : State} {r : Nat} {f : Nat × Word} (newest : (v.port n).frames.head? = some f)
    (limited : (v.reg (Reg.FBK_SSISTEP n)).toNat ≠ 0)
    (far : (v.reg (Reg.FBK_SSISTEP n)).toNat < (v.ssiChange n r f).natAbs) : v.ssiJumps n r = true := by
  rw [State.ssiJumps, newest, Option.any_some, decide_eq_true far, Bool.and_true]
  exact bne_iff_ne.mpr limited

theorem ssiJumps_eq_false {v : State} {r : Nat} (near : (v.reg (Reg.FBK_SSISTEP n)).toNat = 0 ∨
    ∀ f, (v.port n).frames.head? = some f → (v.ssiChange n r f).natAbs ≤ (v.reg (Reg.FBK_SSISTEP n)).toNat) :
    v.ssiJumps n r = false := by
  rcases near with free | near
  · rw [State.ssiJumps, free, bne_self_eq_false, Bool.false_and]
  · have none_far : (v.port n).frames.head?.any
        (fun f => decide ((v.reg (Reg.FBK_SSISTEP n)).toNat < (v.ssiChange n r f).natAbs)) = false := by
      cases newest : (v.port n).frames.head? with
      | none => rfl
      | some f => exact decide_eq_false (Nat.not_lt.mpr (near f newest))
    rw [State.ssiJumps, none_far, Bool.and_false]

/-- The error bit of a frame that reads `r`, where frames have one (R194). -/
def State.ssiErr (v : State) (n : Fin 4) (r : Nat) : Bool := v.bit (Reg.FBK_SSICFG_ERREN n) && r % 2 == 1

theorem ssiErr_eq_false {v : State} {r : Nat} (clean : v.bit (Reg.FBK_SSICFG_ERREN n) = false ∨ r % 2 = 0) :
    v.ssiErr n r = false := by
  rcases clean with off | even
  · rw [State.ssiErr, off, Bool.false_and]
  · rw [State.ssiErr, even, Bool.and_eq_false_iff]
    exact .inr rfl

/-- The direction follows a frame that reads `r` and differs from the newest one (R196). -/
def State.ssiTurn (v : State) (n : Fin 4) (r : Nat) : State :=
  match (v.port n).frames.head? with
  | some f => if v.ssiChange n r f = 0 then v else v.setB (Reg.FBK_STATUS_DIR n) (decide (v.ssiChange n r f < 0))
  | none => v

/-- A frame that started at `start` and reads `r` becomes the newest one (R195, R196). -/
def State.ssiAccept (v : State) (n : Fin 4) (start r : Nat) : State :=
  (((v.ssiTurn n r).updPort n fun p =>
    { p with
      frames := (start, BitVec.ofNat 32 (v.ssiValue n r)) :: p.frames.filter fun f => decide (start < f.1 + Config.sec)
      ssiBad := 0, ssiOk := true }).causeGone .fbSsiFrame (fbSource n) 0).portBits n

include now clock in
theorem exec_ssiFrameEnd {v : State} {raw : Word} {ok : Bool}
    {start r : Nat} (mode : s.fbMode n = 4) (started : (s.port n).ssiStart = some start)
    (bits : r = raw.toNat % 2 ^ s.get (Reg.FBK_SSICFG_BITS n))
    (shown : v = (u.setReg (Reg.FBK_SSIRAW n) (BitVec.ofNat 32 r)).updPort n fun p => { p with ssiStart := none }) :
    exec (.ssiFrameEnd t n raw ok) s = .next
      (if !ok || v.ssiErr n r then v.ssiDiscard t n
      else if v.ssiJumps n r then (v.raise .fbSsiJump (fbSource n) 0 t).ssiDiscard t n
      else v.ssiAccept n start r) := by
  subst now bits shown
  refine congrArg Host.Outcome.next ((if_neg (Bool.eq_false_iff.mp clock) : ssiEnd t n raw ok s = _).trans ?_)
  simp only [upto_port, upto_fbMode, mode, started]
  rfl

/-! ### Supply, wires and the settling delay (R171, R172, R199) -/

section
include now clock

theorem exec_fbSupplyTimeout (on : s.supOn n = true) : exec (.fbSupplyTimeout t n) s = .next
    ((u.sets [(Reg.FBK_STATUS_SUPFAIL n, 1), (Reg.FBK_IRQ_WIRE n, 1)]).raise .fbSupply (fbSource n) 0 t) := by
  subst now
  exact congrArg Host.Outcome.next ((if_neg (Bool.eq_false_iff.mp clock)).trans (if_pos on))

theorem exec_fbWireTimeout (mode : s.fbMode n = 1 ∨ s.fbMode n = 2 ∨ s.fbMode n = 4) :
    exec (.fbWireTimeout t n) s = .next
      ((u.sets [(Reg.FBK_STATUS_WIRE n, 1), (Reg.FBK_IRQ_WIRE n, 1)]).raise .fbWire (fbSource n) 0 t) := by
  subst now
  exact congrArg Host.Outcome.next ((if_neg (Bool.eq_false_iff.mp clock)).trans (if_pos mode))

theorem exec_feedbackValidDelayEnd : exec (.feedbackValidDelayEnd t n) s = .next
    ((u.updPort n fun p => { p with settled := true }).portBits n) := by
  subst now
  exact congrArg Host.Outcome.next (if_neg (Bool.eq_false_iff.mp clock))

/-! ### The observer (R198, R254) -/

theorem exec_observerLossTimeout {a : Nat} (run : (s.axis n).st = .run)
    (active : s.bit (Reg.FBK_OBSCFG_ACTIVE n) = true) (found : s.bit (Reg.FBK_OBSCFG_LOST n) = false)
    (above : (s.port n).obsAbove = some a) (long : a + 40000 * s.get (Reg.FBK_OBSCFG_TIME n) ≤ t) :
    exec (.observerLossTimeout t n) s = .next
      (((u.sets [(Reg.FBK_OBSCFG_LOST n, 1), (Reg.FBK_IRQ_OBS n, 1)]).updEng n fun e =>
        { e with port := stoPut e.port 206 0x01400000 0 }).raise .obsLost (fbSource n) (s.port n).obsSpd.toNat t) := by
  have lost : ((s.axis n).st == .run && s.bit (Reg.FBK_OBSCFG_ACTIVE n) &&
      ((s.port n).obsAbove.any fun a => decide (a + 40000 * s.get (Reg.FBK_OBSCFG_TIME n) ≤ t)) &&
      !s.bit (Reg.FBK_OBSCFG_LOST n)) = true := by
    rw [run, active, found, above, Option.any_some, decide_eq_true long]; rfl
  subst now
  exact congrArg Host.Outcome.next ((if_neg (Bool.eq_false_iff.mp clock)).trans (if_pos lost))

end

include now in
theorem exec_obsLostHoldExpiry {r : Nat} (held : (s.port n).obsHold = some r)
    (elapsed : r + 200 * Config.ms ≤ t) : exec (.obsLostHoldExpiry t n) s = .next (u.obsReact n) := by
  have due : ((s.port n).obsHold.any fun r => decide (r + 200 * Config.ms ≤ t)) = true := by
    rw [held, Option.any_some, decide_eq_true elapsed]
  subst now
  exact congrArg Host.Outcome.next (if_pos due)

end

/-! ### The obligations -/

/-- Settles O30: each row by its branches, an edge by the change of the levels and a Hall state by the change of its
place. -/
theorem encoderAndHallRows : Obligations.EncoderAndHallRows := by
  intro t n s u now clock
  refine ⟨fun a b v st d rev mode levels stamp turn dir => ?_, fun c p v port count mode gated latched => ?_,
    exec_speedStandstill_edges now clock, exec_speedStandstill_frames now clock, exec_speedStandstill_other now clock,
    fun h v mode bad shown => exec_hallStateChange_invalid now clock mode shown bad,
    fun h j v mode good first shown => exec_hallStateChange_first now clock mode shown good first,
    fun h j k i d v mode good before shown place step => ?_⟩
  · have edge := exec_encoderEdge now clock mode levels stamp turn dir
    refine ⟨fun same => ?_, fun double => ?_, fun single up => ?_, fun single down => ?_⟩
    · rw [edge, if_pos same]
    · rw [edge, if_neg (by omega), if_pos double]
    · rw [edge, if_neg (by omega), if_neg (by omega), up, if_neg Bool.false_ne_true]
    · rw [edge, if_neg (by omega), if_neg (by omega), down, if_pos rfl]
  · rw [port] at gated
    rw [exec_encoderIndex now clock mode count gated latched, port]
    exact ⟨fun first => by rw [first, Option.elim_none], fun l later => by rw [later, Option.elim_some]⟩
  · rw [exec_hallStateChange_next now clock mode shown good before place step]
    refine ⟨fun same => ?_, fun lo hi => ?_, fun forward => ?_, fun backward => ?_⟩
    · rw [if_neg (by omega), if_pos same]
    · rw [if_neg (by omega), if_neg (by omega)]
    · rw [if_pos (.inl forward), decide_eq_false (by omega)]
      rfl
    · rw [if_pos (.inr backward), decide_eq_true backward]
      rfl

/-- Settles O31: each row by its branches, an SSI frame by its tail, its error bit and its distance from the newest
frame. -/
theorem sensorRows : Obligations.SensorRows := by
  intro t n s u now clock
  refine ⟨exec_resolverLock now clock, exec_resolverLockLoss now clock,
    fun amp mode => exec_resolverAmpFault now clock mode,
    fun raw ok start r v mode started bits shown => ?_, exec_fbSupplyTimeout now clock, exec_fbWireTimeout now clock,
    exec_feedbackValidDelayEnd now clock,
    fun a => exec_observerLossTimeout now clock,
    fun r => exec_obsLostHoldExpiry now⟩
  rw [exec_ssiFrameEnd now clock mode started bits shown]
  refine ⟨fun bad => ?_, fun f tail clean newest limited far => ?_, fun x tail clean near turned => ?_⟩
  · have discards : (!ok || v.ssiErr n r) = true := by
      rcases bad with tail | ⟨errEn, odd⟩
      · rw [tail]; rfl
      · rw [State.ssiErr, errEn, odd]; exact Bool.or_true _
    rw [if_pos discards]
  · rw [tail, ssiErr_eq_false clean, if_neg (by decide), if_pos (ssiJumps_eq_true newest limited far)]
  · rw [tail, ssiErr_eq_false clean, if_neg (by decide), ssiJumps_eq_false near, if_neg Bool.false_ne_true, turned]
    rfl

end Sys2Proof.Machine
end

section
/-! # Proofs: the arithmetic of the loop engine (R12, R201-R207, R211)

First the rational number that each exact number stands for, then how far the result rule moves a lane. -/

namespace Sys2Proof.Machine

/-! ### Magnitudes of rational numbers -/

theorem rat_abs_le_iff {x c : Rat} : x.abs ≤ c ↔ -c ≤ x ∧ x ≤ c := by
  unfold Rat.abs
  split <;> grind

theorem rat_abs_lt_iff {x c : Rat} : x.abs < c ↔ -c < x ∧ x < c := by
  unfold Rat.abs
  split <;> grind

/-! ### The value of an exact number (R12) -/

/-- The rational number that an exact number stands for. -/
def Q.toRat (a : Q) : Rat := (a.num : Rat) / (qDen a : Rat)

theorem qDen_pos (a : Q) : 0 < qDen a := by
  unfold qDen; split <;> omega

theorem qDen_cast_pos (a : Q) : (0 : Rat) < (qDen a : Rat) := Rat.natCast_pos.mpr (qDen_pos a)

theorem toRat_mul_qDen (a : Q) : a.toRat * (qDen a : Rat) = (a.num : Rat) :=
  Rat.div_mul_cancel (Rat.ne_of_gt (qDen_cast_pos a))

/-- The value is the one number that the denominator takes to the numerator. -/
theorem toRat_eq_of_mul {a : Q} {x : Rat} (h : x * (qDen a : Rat) = (a.num : Rat)) : a.toRat = x := by
  rw [Q.toRat, ← h, Rat.mul_div_cancel (Rat.ne_of_gt (qDen_cast_pos a))]

theorem qDen_mk {n : Int} {d : Nat} (pos : 0 < d) : qDen ⟨n, d⟩ = d := if_neg (Nat.ne_of_gt pos)

@[simp] theorem toRat_qInt (n : Int) : (qInt n).toRat = (n : Rat) :=
  toRat_eq_of_mul (Rat.mul_one _)

@[simp] theorem toRat_qAdd (a b : Q) : (qAdd a b).toRat = a.toRat + b.toRat := by
  refine toRat_eq_of_mul ?_
  have ha := toRat_mul_qDen a
  have hb := toRat_mul_qDen b
  rw [qAdd, qDen_mk (Nat.mul_pos (qDen_pos a) (qDen_pos b))]
  simp only [Rat.natCast_mul, Rat.intCast_add, Rat.intCast_mul, Rat.intCast_natCast, ← ha, ← hb]
  grind

@[simp] theorem toRat_qNeg (a : Q) : (qNeg a).toRat = -a.toRat := by
  have den : qDen (qNeg a) = qDen a := rfl
  refine toRat_eq_of_mul ?_
  rw [den, Rat.neg_mul, toRat_mul_qDen, qNeg, Rat.intCast_neg]

@[simp] theorem toRat_qSub (a b : Q) : (qSub a b).toRat = a.toRat - b.toRat := by
  rw [qSub, toRat_qAdd, toRat_qNeg, Rat.sub_eq_add_neg]

@[simp] theorem toRat_qMul (a b : Q) : (qMul a b).toRat = a.toRat * b.toRat := by
  refine toRat_eq_of_mul ?_
  have ha := toRat_mul_qDen a
  have hb := toRat_mul_qDen b
  rw [qMul, qDen_mk (Nat.mul_pos (qDen_pos a) (qDen_pos b))]
  simp only [Rat.natCast_mul, Rat.intCast_mul, ← ha, ← hb]
  grind

theorem qLe_iff (a b : Q) : qLe a b = true ↔ a.toRat ≤ b.toRat := by
  have pa := qDen_cast_pos a
  have pb := qDen_cast_pos b
  rw [qLe, decide_eq_true_iff, ← Rat.intCast_le_intCast, Rat.intCast_mul, Rat.intCast_mul, ← toRat_mul_qDen a,
    ← toRat_mul_qDen b, Rat.intCast_natCast, Rat.intCast_natCast]
  constructor
  · intro h
    refine Rat.le_of_mul_le_mul_right (c := (qDen a : Rat) * (qDen b : Rat)) ?_ (Rat.mul_pos pa pb)
    grind
  · intro h
    have := Rat.mul_le_mul_of_nonneg_right h (Rat.le_of_lt (Rat.mul_pos pa pb))
    grind

theorem toRat_nonneg_iff (a : Q) : 0 ≤ a.toRat ↔ 0 ≤ a.num := by
  rw [← Rat.intCast_nonneg, ← toRat_mul_qDen]
  refine ⟨fun h => Rat.mul_nonneg h (Rat.le_of_lt (qDen_cast_pos a)), fun h => ?_⟩
  exact Rat.le_of_mul_le_mul_right (by rwa [Rat.zero_mul]) (qDen_cast_pos a)

@[simp] theorem toRat_qAbs (a : Q) : (qAbs a).toRat = a.toRat.abs := by
  have den : qDen (qAbs a) = qDen a := rfl
  refine toRat_eq_of_mul ?_
  rw [den, Rat.abs]
  split
  · next nonneg =>
    have num : (a.num.natAbs : Int) = a.num := Int.natAbs_of_nonneg ((toRat_nonneg_iff a).mp nonneg)
    rw [toRat_mul_qDen, qAbs, num]
  · next neg =>
    have num : (a.num.natAbs : Int) = -a.num := by
      rw [toRat_nonneg_iff] at neg
      omega
    rw [Rat.neg_mul, toRat_mul_qDen, qAbs, num, Rat.intCast_neg]

@[simp] theorem toRat_qPow2 (k : Int) : (qPow2 k).toRat = (2 : Rat) ^ k := by
  unfold qPow2
  split
  · next nonneg =>
    obtain ⟨n, rfl⟩ := Int.eq_ofNat_of_zero_le nonneg
    refine toRat_eq_of_mul ?_
    rw [qDen_mk Nat.one_pos, Int.toNat_natCast, Rat.zpow_natCast, Rat.intCast_pow]
    exact Rat.mul_one _
  · next neg =>
    obtain ⟨n, rfl⟩ : ∃ n : Nat, k = -n := ⟨(-k).toNat, by omega⟩
    refine toRat_eq_of_mul ?_
    rw [qDen_mk (Nat.two_pow_pos _), Int.neg_neg, Int.toNat_natCast, Rat.zpow_neg, Rat.zpow_natCast, Rat.natCast_pow]
    exact Rat.inv_mul_cancel _ (Rat.ne_of_gt (Rat.pow_pos (by decide)))

theorem toRat_eq_zero_of_qIsZero {a : Q} (zero : qIsZero a = true) : a.toRat = 0 := by
  refine toRat_eq_of_mul ?_
  rw [of_decide_eq_true zero, Rat.zero_mul, Rat.intCast_zero]

theorem toRat_le_qMax (a b : Q) : a.toRat ≤ (qMax a b).toRat ∧ b.toRat ≤ (qMax a b).toRat := by
  unfold qMax
  split
  · next le => exact ⟨(qLe_iff a b).mp le, Rat.le_refl⟩
  · next gt => exact ⟨Rat.le_refl, Rat.le_total.resolve_left fun le => gt ((qLe_iff a b).mpr le)⟩

/-! ### Rounding and the exponent (R202, R206) -/

/-- Half-to-even rounding moves a fraction by at most half of its denominator. -/
theorem qRound_near (a : Q) : -(qDen a : Int) ≤ 2 * (qRound a * qDen a - a.num) ∧
    2 * (qRound a * qDen a - a.num) ≤ qDen a := by
  have pos := Int.natCast_pos.mpr (qDen_pos a)
  have floor : qFloor a * qDen a + a.num % qDen a = a.num := Int.ediv_mul_add_emod a.num (qDen a)
  have lo := Int.emod_nonneg a.num (Int.ne_of_gt pos)
  have hi := Int.emod_lt_of_pos a.num pos
  have succ : (qFloor a + 1) * qDen a = qFloor a * qDen a + qDen a := by rw [Int.add_mul, Int.one_mul]
  unfold qRound
  dsimp only
  split
  · omega
  · split
    · omega
    · split <;> omega

/-- Half-to-even rounding moves a number by at most one half. -/
theorem abs_qRound_sub_le (a : Q) : ((qRound a : Rat) - a.toRat).abs ≤ 1 / 2 := by
  obtain ⟨lo, hi⟩ := qRound_near a
  have pos := qDen_cast_pos a
  have num := toRat_mul_qDen a
  rw [← Rat.intCast_le_intCast] at lo hi
  simp only [Rat.intCast_neg, Rat.intCast_mul, Rat.intCast_sub, Rat.intCast_natCast, Rat.intCast_ofNat,
    ← num] at lo hi
  refine rat_abs_le_iff.mpr ⟨Rat.le_of_mul_le_mul_right ?_ pos, Rat.le_of_mul_le_mul_right ?_ pos⟩ <;> grind

/-- A number below a whole number rounds to at most that. -/
theorem natAbs_qRound_le {a : Q} {b : Nat} (below : a.toRat.abs < (b : Rat)) : (qRound a).natAbs ≤ b := by
  obtain ⟨nearLo, nearHi⟩ := rat_abs_le_iff.mp (abs_qRound_sub_le a)
  obtain ⟨lo, hi⟩ := rat_abs_lt_iff.mp below
  have lt : (qRound a : Rat) < ((b + 1 : Int) : Rat) := by
    rw [Rat.intCast_add, Rat.intCast_natCast, Rat.intCast_one]
    grind
  have gt : ((-(b + 1) : Int) : Rat) < (qRound a : Rat) := by
    rw [Rat.intCast_neg, Rat.intCast_add, Rat.intCast_natCast, Rat.intCast_one]
    grind
  rw [Rat.intCast_lt_intCast] at lt gt
  omega

theorem two_zpow_pos (k : Int) : (0 : Rat) < (2 : Rat) ^ k := Rat.zpow_pos (by decide)

theorem two_zpow_add (j k : Int) : (2 : Rat) ^ (j + k) = (2 : Rat) ^ j * (2 : Rat) ^ k := Rat.zpow_add (by decide) j k

/-- `qLog2` is at least `floor (log2 |a|)`. -/
theorem abs_lt_two_zpow_qLog2 (a : Q) : a.toRat.abs < (2 : Rat) ^ (qLog2 a + 1) := by
  unfold qLog2
  dsimp only
  split
  · have num : (a.num.natAbs : Rat) < (2 : Rat) ^ ((Nat.log2 a.num.natAbs : Int) + 1) := by
      have := Rat.natCast_lt_natCast.mpr (Nat.lt_log2_self (n := a.num.natAbs))
      rwa [Rat.natCast_pow, ← Rat.zpow_natCast] at this
    have den : (2 : Rat) ^ (Nat.log2 (qDen a) : Int) ≤ (qDen a : Rat) := by
      have := Rat.natCast_le_natCast.mpr (Nat.log2_self_le (Nat.ne_of_gt (qDen_pos a)))
      rwa [Rat.natCast_pow, ← Rat.zpow_natCast] at this
    have value : a.toRat.abs * (qDen a : Rat) = (a.num.natAbs : Rat) := by
      rw [← toRat_qAbs]
      exact toRat_mul_qDen (qAbs a)
    have parts : (2 : Rat) ^ ((Nat.log2 a.num.natAbs : Int) + 1) =
        (2 : Rat) ^ ((Nat.log2 a.num.natAbs : Int) - Nat.log2 (qDen a) + 1) *
          (2 : Rat) ^ (Nat.log2 (qDen a) : Int) := by
      rw [← two_zpow_add]
      congr 1
      omega
    refine Rat.lt_of_mul_lt_mul_right (c := (qDen a : Rat)) ?_ (Rat.le_of_lt (qDen_cast_pos a))
    rw [value]
    have := Rat.mul_le_mul_of_nonneg_left den
      (Rat.le_of_lt (two_zpow_pos ((Nat.log2 a.num.natAbs : Int) - Nat.log2 (qDen a) + 1)))
    grind
  · next small =>
    rw [qLe_iff, toRat_qPow2, toRat_qAbs, Rat.not_le] at small
    rwa [Int.sub_add_cancel]

/-! ### Lanes and the result rule (R203, R206, R211) -/

theorem le_foldl_qMax (l : List Q) (m : Q) :
    m.toRat ≤ (l.foldl (fun m x => qMax m (qAbs x)) m).toRat ∧
      ∀ x ∈ l, x.toRat.abs ≤ (l.foldl (fun m x => qMax m (qAbs x)) m).toRat := by
  induction l generalizing m with
  | nil => exact ⟨Rat.le_refl, fun _ none => absurd none List.not_mem_nil⟩
  | cons y l ih =>
    obtain ⟨start, rest⟩ := ih (qMax m (qAbs y))
    obtain ⟨left, right⟩ := toRat_le_qMax m (qAbs y)
    rw [toRat_qAbs] at right
    exact ⟨Rat.le_trans left start, List.forall_mem_cons.mpr ⟨Rat.le_trans right start, rest⟩⟩

/-- No lane exceeds the largest magnitude. -/
theorem abs_toRat_le_maxLane (r : Lanes) (i : Fin 8) : r[i].toRat.abs ≤ (maxLane r).toRat :=
  (le_foldl_qMax r.toList qZero).2 _ (Vector.mem_toList_iff.mpr (Vector.getElem_mem i.isLt))

/-- What lies within one half in units of `p` lies within half of `p`. -/
theorem abs_mul_sub_le {m x p q : Rat} (near : (m - x * q).abs ≤ 1 / 2) (inv : q * p = 1) (nonneg : 0 ≤ p) :
    (m * p - x).abs ≤ 1 / 2 * p := by
  obtain ⟨lo, hi⟩ := rat_abs_le_iff.mp near
  have scaled : (m - x * q) * p = m * p - x := by grind
  have scaledLo := Rat.mul_le_mul_of_nonneg_right lo nonneg
  have scaledHi := Rat.mul_le_mul_of_nonneg_right hi nonneg
  rw [scaled] at scaledLo scaledHi
  exact rat_abs_le_iff.mpr ⟨by rwa [← Rat.neg_mul], scaledHi⟩

/-- A lane rounded at exponent `e` lies within half a unit of that exponent. -/
theorem abs_roundAt_sub_le (e : Int) (x : Q) :
    ((roundAt false e x : Rat) * (2 : Rat) ^ (e - 23) - x.toRat).abs ≤ (2 : Rat) ^ (e - 24) := by
  have near := abs_qRound_sub_le (qMul x (qPow2 (23 - e)))
  rw [toRat_qMul, toRat_qPow2] at near
  have inv : (2 : Rat) ^ (23 - e) * (2 : Rat) ^ (e - 23) = 1 := by
    rw [← two_zpow_add, show 23 - e + (e - 23) = 0 by omega, Rat.zpow_zero]
  have half : 1 / 2 * (2 : Rat) ^ (e - 23) = (2 : Rat) ^ (e - 24) := by
    rw [show e - 23 = 1 + (e - 24) by omega, two_zpow_add, Rat.zpow_one, ← Rat.mul_assoc,
      Rat.div_mul_cancel (by decide), Rat.one_mul]
  rw [← half]
  exact abs_mul_sub_le near inv (Rat.le_of_lt (two_zpow_pos _))

/-- A lane below `2 ^ k` units of the exponent `e` has a mantissa of at most `2 ^ k`. -/
theorem natAbs_roundAt_le {e : Int} {x : Q} {k : Nat} (below : x.toRat.abs < (2 : Rat) ^ (e + k - 23)) :
    (roundAt false e x).natAbs ≤ 2 ^ k := by
  refine natAbs_qRound_le ?_
  have pos := two_zpow_pos (23 - e)
  obtain ⟨lo, hi⟩ := rat_abs_lt_iff.mp below
  have scale : (2 : Rat) ^ (e + k - 23) * (2 : Rat) ^ (23 - e) = ((2 ^ k : Nat) : Rat) := by
    rw [← two_zpow_add, show e + k - 23 + (23 - e) = (k : Int) by omega, Rat.zpow_natCast, Rat.natCast_pow,
      Rat.natCast_ofNat]
  rw [toRat_qMul, toRat_qPow2, rat_abs_lt_iff, ← scale, ← Rat.neg_mul]
  exact ⟨Rat.mul_lt_mul_of_pos_right lo pos, Rat.mul_lt_mul_of_pos_right hi pos⟩

theorem mkReg_exp {e : Int} (f : Fin 8 → Int) (lo : -128 ≤ e) (hi : e ≤ 127) : (mkReg e f).exp = e := by
  rw [VReg.exp, mkReg, BitVec.toInt_ofInt_eq_self (by decide) (by omega) (by omega)]

/-- A register built from an exponent and a mantissa that fit their fields holds them. -/
theorem toRat_mkReg_lane {e : Int} {f : Fin 8 → Int} {i : Fin 8} (lo : -128 ≤ e) (hi : e ≤ 127)
    (fits : (f i).natAbs < 2 ^ 23) : ((mkReg e f).lane i).toRat = (f i : Rat) * (2 : Rat) ^ (e - 23) := by
  have mant : ((mkReg e f).m[i]).toInt = f i := by
    rw [mkReg, Fin.getElem_fin, Vector.getElem_ofFn, Fin.eta,
      BitVec.toInt_ofInt_eq_self (by decide) (by omega) (by omega)]
  rw [VReg.lane, toRat_qMul, toRat_qInt, toRat_qPow2, mkReg_exp f lo hi, mant]

theorem zeroReg_eq : zeroReg = mkReg (-128) fun _ => 0 := by decide

/-- The exponent that the result rule gives the lanes `r`, before its limits (R206). -/
def sharedExp (rtz : Bool) (r : Lanes) : Int :=
  let e := qLog2 (maxLane r) + 1
  if decide (∃ i : Fin 8, (roundAt rtz e r[i]).natAbs = 2 ^ 23) then e + 1 else e

/-- A write without FIXE that sets no flag leaves the zero register for lanes that are all 0, and otherwise the lanes
rounded at an exponent of 8 bits. -/
theorem resultReg_unflagged {old v : VReg} {rtz : Bool} {r : Lanes} (h : resultReg old false rtz r = (v, {})) :
    (maxLane r).toRat = 0 ∧ v = zeroReg ∨
      -128 ≤ sharedExp rtz r ∧ sharedExp rtz r ≤ 127 ∧
        v = mkReg (sharedExp rtz r) fun i => roundAt rtz (sharedExp rtz r) r[i] := by
  change (if qIsZero (maxLane r) then (zeroReg, {})
    else if 127 < sharedExp rtz r then (_, { exov := true })
    else if sharedExp rtz r < -128 then (zeroReg, { exuf := true })
    else (mkReg (sharedExp rtz r) fun i => roundAt rtz (sharedExp rtz r) r[i], {})) = (v, ({} : WFlags)) at h
  split at h
  · next zero => exact .inl ⟨toRat_eq_zero_of_qIsZero zero, (congrArg Prod.fst h).symm⟩
  · split at h
    · cases congrArg (WFlags.exov ∘ Prod.snd) h
    · split at h
      · cases congrArg (WFlags.exuf ∘ Prod.snd) h
      · exact .inr ⟨by omega, by omega, (congrArg Prod.fst h).symm⟩

/-- At the shared exponent every mantissa fits: a lane lies below `2 ^ e`, and one that rounds up to `2 ^ 23` has raised
the exponent. -/
theorem natAbs_roundAt_sharedExp_lt (r : Lanes) (i : Fin 8) :
    (roundAt false (sharedExp false r) r[i]).natAbs < 2 ^ 23 := by
  have largest : (maxLane r).toRat < (2 : Rat) ^ (qLog2 (maxLane r) + 1) :=
    (rat_abs_lt_iff.mp (abs_lt_two_zpow_qLog2 (maxLane r))).2
  have below : r[i].toRat.abs < (2 : Rat) ^ (qLog2 (maxLane r) + 1) :=
    Std.lt_of_le_of_lt (abs_toRat_le_maxLane r i) largest
  unfold sharedExp
  dsimp only
  split
  · have half : (roundAt false (qLog2 (maxLane r) + 1 + 1) r[i]).natAbs ≤ 2 ^ 22 :=
      natAbs_roundAt_le (by rwa [show qLog2 (maxLane r) + 1 + 1 + (22 : Nat) - 23 = qLog2 (maxLane r) + 1 by omega])
    exact Nat.lt_of_le_of_lt half (by decide)
  · next noCarry =>
    have full : (roundAt false (qLog2 (maxLane r) + 1) r[i]).natAbs ≤ 2 ^ 23 :=
      natAbs_roundAt_le (by rwa [show qLog2 (maxLane r) + 1 + (23 : Nat) - 23 = qLog2 (maxLane r) + 1 by omega])
    exact Nat.lt_of_le_of_ne full fun eq => noCarry (decide_eq_true ⟨i, eq⟩)

/-- Settles O53: at the shared exponent every mantissa fits, and half-to-even rounding moves it by at most one half. -/
theorem roundingWithinHalfAUnit : Obligations.RoundingWithinHalfAUnit := by
  intro old r v i h
  rw [qLe_iff, toRat_qAbs, toRat_qSub, toRat_qPow2]
  obtain ⟨zero, rfl⟩ | ⟨lo, hi, rfl⟩ := resultReg_unflagged h
  · have lane : r[i].toRat = 0 := by
      have none := abs_toRat_le_maxLane r i
      rw [zero, rat_abs_le_iff] at none
      exact Rat.le_antisymm none.2 none.1
    have empty : (zeroReg.lane i).toRat = 0 := by
      rw [zeroReg_eq, toRat_mkReg_lane (by decide) (by decide) (by decide), Rat.intCast_zero, Rat.zero_mul]
    rw [lane, empty, Rat.sub_self, Rat.abs_zero]
    exact Rat.le_of_lt (two_zpow_pos _)
  · rw [toRat_mkReg_lane lo hi (natAbs_roundAt_sharedExp_lt r i), mkReg_exp _ lo hi]
    exact abs_roundAt_sub_le _ _

end Sys2Proof.Machine
end

section
/-! # Proofs: the words of the loop engine and the writes that command it (R205-R239, R261-R263, R279)

First the rows by their branches, then the obligations. -/

namespace Sys2Proof.Machine

/-! ### What the pass has reached

The word that a pass has reached, and what it reads, do not depend on the instant. -/

@[simp] theorem upto_progWord (s : State) (t : Nat) (n : Fin 4) : (s.upto t).progWord n = s.progWord n := rfl
@[simp] theorem upto_reached (s : State) (t : Nat) (n : Fin 4) (op : Nat) :
    (s.upto t).reached n op = s.reached n op := rfl
@[simp] theorem upto_badEntry (s : State) (t : Nat) (n : Fin 4) : (s.upto t).badEntry n = s.badEntry n := rfl

/-- A word that the pass has reached carries no uncorrectable error. -/
theorem badWord_of_reached {s : State} {n : Fin 4} {op : Nat} (here : s.reached n op = true) : s.badWord n = false := by
  simp only [State.reached, Bool.and_eq_true, Bool.not_eq_true'] at here
  obtain ⟨⟨⟨⟨sound, -⟩, -⟩, -⟩, -⟩ := here
  exact sound

/-- A pass that has reached a word does not wait at a SETTLE. -/
theorem phase_ne_two_of_reached {s : State} {n : Fin 4} {op : Nat} (here : s.reached n op = true) :
    s.phase n ≠ 2 := by
  rintro waits
  simp [State.reached, State.passRuns, waits] at here

section
variable {s u : State} {t : Nat} {n : Fin 4} (now : u = s.upto t)
include now

/-! ### Lane-wise words (R217) -/

/-- A lane-wise row at a word of its opcode writes the results of its function. -/
theorem next_laneOp {op : Nat} {f : Lanes → Lanes → Lanes → Fin 8 → Q} (here : s.reached n op = true) :
    (.next (s.laneOp t n op f) : Res) =
      .next ((u.writeArith t n (f (s.lanesA n) (s.lanesB n) (s.lanesD n))).advance t n) := by
  subst now
  exact congrArg Host.Outcome.next (if_pos here)

/-- The same where the results are known lane by lane. -/
theorem next_laneOp_of_results {op : Nat} {f : Lanes → Lanes → Lanes → Fin 8 → Q} {r : Fin 8 → Q}
    (here : s.reached n op = true) (results : ∀ i, f (s.lanesA n) (s.lanesB n) (s.lanesD n) i = r i) :
    (.next (s.laneOp t n op f) : Res) = .next ((u.writeArith t n r).advance t n) := by
  obtain rfl := funext results
  exact next_laneOp now here

theorem exec_mov (here : s.reached n opMov = true) : exec (.mov t n) s = .next
    ((u.writeArith t n fun i =>
      if wBcast (s.progWord n) then wConst (s.progWord n) else (s.lanesA n)[i]).advance t n) := by
  subst now
  exact congrArg Host.Outcome.next (if_pos here)

theorem exec_sel (here : s.reached n opSel = true) : exec (.sel t n) s = .next
    ((u.writeArith t n fun i =>
      if (s.engine n).pred.getLsbD i then (s.lanesA n)[i] else (s.lanesB n)[i]).advance t n) := by
  subst now
  exact congrArg Host.Outcome.next (if_pos here)

theorem exec_scale (here : s.reached n opScale = true) : exec (.scale t n) s = .next
    ((u.writeArith t n fun i => qMul (s.lanesA n)[i] (qPow2 (wSigned (s.progWord n) 0 8))).advance t n) := by
  subst now
  exact congrArg Host.Outcome.next (if_pos here)

/-! ### Words that set a flag by their lanes (R217, R218) -/

theorem exec_atan2 (here : s.reached n opAtan2 = true) : exec (.atan2 t n) s = .next
    (((u.flagIf t n fDom (s.anyLane n fun i => qIsZero (s.lanesA n)[i] && qIsZero (s.lanesB n)[i])).writeArith t n
      fun i => atan2Turns (s.lanesA n)[i] (s.lanesB n)[i]).advance t n) := by
  subst now
  exact congrArg Host.Outcome.next (if_pos here)

theorem exec_recip (here : s.reached n opRecip = true) : exec (.recip t n) s = .next
    (((u.flagIf t n fDivz (s.anyLane n fun i => qIsZero (s.lanesA n)[i])).writeArith t n fun i =>
      if qIsZero (s.lanesA n)[i] then qZero else qInv (s.lanesA n)[i]).advance t n) := by
  subst now
  exact congrArg Host.Outcome.next (if_pos here)

theorem exec_rsqrt (here : s.reached n opRsqrt = true) : exec (.rsqrt t n) s = .next
    ((((u.flagIf t n fDivz (s.anyLane n fun i => qIsZero (s.lanesA n)[i])).flagIf t n fDom
      (s.anyLane n fun i => decide ((s.lanesA n)[i].num < 0))).writeArith t n fun i =>
        if (s.lanesA n)[i].num ≤ 0 then qZero else invRoot (s.lanesA n)[i]).advance t n) := by
  subst now
  exact congrArg Host.Outcome.next (if_pos here)

/-- SVM, where `dead` says that the DC link does not lie above 0. -/
theorem exec_svm {dead : Bool} (here : s.reached n opSvm = true)
    (link : decide ((s.lanesB n)[0].num ≤ 0) = dead) : exec (.svm t n) s = .next
      ((((u.flagIf t n fDom (s.anyLane n fun i => decide (i.val < 6) && dead)).flagIf t n fOvm
        (s.anyLane n fun i => decide (i.val < 6) && !dead &&
          !qEq (unitClamp (svmRaw (s.lanesA n) (s.lanesB n)[0] i)) (svmRaw (s.lanesA n) (s.lanesB n)[0] i))).writeArith
        t n fun i => if i.val < 6 then if dead then ⟨1, 2⟩ else unitClamp (svmRaw (s.lanesA n) (s.lanesB n)[0] i)
          else (s.lanesD n)[i]).advance t n) := by
  subst now link
  refine congrArg Host.Outcome.next ((if_pos here).trans ?_)
  simp only [decide_eq_true_eq]
  rfl

/-! ### Words that write PRED or state words (R217, R218) -/

theorem exec_clamp {r : Fin 8 → Q}
    (held : ∀ i, r i = qMax (s.coef n (wIndex (s.progWord n)) i)
      (qMin (s.lanesA n)[i] (s.coef n (wIndex (s.progWord n)) (8 + i))))
    (here : s.reached n opClamp = true) :
    exec (.clamp t n) s = .next (u.predOp t n r fun i => !qEq (r i) (s.lanesA n)[i]) := by
  obtain rfl := funext held
  subst now
  exact congrArg Host.Outcome.next (if_pos here)

theorem exec_cmp {h : Fin 8 → Bool}
    (holds : ∀ i, h i = cmpHolds (wBits (s.progWord n) 0 3) (s.lanesA n)[i] (s.lanesB n)[i])
    (here : s.reached n opCmp = true) :
    exec (.cmp t n) s = .next (u.predOp t n (fun i => if h i then qOne else qZero) h) := by
  obtain rfl := funext holds
  subst now
  exact congrArg Host.Outcome.next (if_pos here)

section
variable {c k : Nat} (coef : c = wIndex (s.progWord n)) (state : k = wState (s.progWord n))
include coef state

theorem exec_pi {l : Fin 8 → (Word × WFlags) × Bool × Q}
    (lane : ∀ i, l i = piLane (s.coef n c i) (s.coef n c (8 + i)) (s.coef n c (16 + i)) (s.coef n c (24 + i))
      (s.lanesA n)[i] (s.readState n (k + i)) (wRtz (s.progWord n)))
    (here : s.reached n opPi = true) : exec (.pi t n) s = .next
      ((u.stateLanes t n k (s.enable n) fun i => (l i).1).predOp t n (fun i => (l i).2.2) fun i => (l i).2.1) := by
  obtain rfl := funext lane
  subst now coef state
  exact congrArg Host.Outcome.next (if_pos here)

theorem exec_lpf {y : Fin 8 → Q} {l : Fin 8 → Word × WFlags}
    (old : ∀ i, y i = bfVal (s.readState n (k + i)))
    (lane : ∀ i, l i = bf (qAdd (y i) (qMul (s.coef n c i) (qSub (s.lanesA n)[i] (y i)))) (wRtz (s.progWord n)))
    (here : s.reached n opLpf = true) : exec (.lpf t n) s = .next
      (((u.stateLanes t n k (s.enable n) l).writeArith t n fun i => bfVal (l i).1).advance t n) := by
  obtain rfl := funext lane
  obtain rfl := funext old
  subst now coef state
  exact congrArg Host.Outcome.next (if_pos here)

theorem exec_ramp {y want d : Fin 8 → Q} {l : Fin 8 → Word × WFlags}
    (old : ∀ i, y i = bfVal (s.readState n (k + i))) (way : ∀ i, want i = qSub (s.lanesA n)[i] (y i))
    (step : ∀ i, d i = qMax (qNeg (qMax (s.coef n c (8 + i)) qZero)) (qMin (want i) (qMax (s.coef n c i) qZero)))
    (lane : ∀ i, l i = bf (qAdd (y i) (d i)) (wRtz (s.progWord n))) (here : s.reached n opRamp = true) :
    exec (.ramp t n) s = .next
      (((u.flagIf t n fDom (s.anyLane n fun i =>
        decide ((s.coef n c i).num < 0 ∨ (s.coef n c (8 + i)).num < 0))).stateLanes t n k (s.enable n) l).predOp t n
          (fun i => bfVal (l i).1) fun i => !qEq (d i) (want i)) := by
  obtain rfl := funext lane
  obtain rfl := funext step
  obtain rfl := funext way
  obtain rfl := funext old
  subst now coef state
  exact congrArg Host.Outcome.next (if_pos here)

end

/-! ### LD (R209, R215, R401) -/

/-- An LD ends the pass at an entry with an uncorrectable error. -/
theorem exec_ld_bad {a : Nat} (here : s.reached n opLd = true) (bad : s.badEntry n = some a) :
    exec (.ld t n) s = .next ((u.endUncommitted t n).eccFatal t a) := by
  subst now
  refine congrArg Host.Outcome.next (show ld t n s = _ from ?_)
  simp [ld, here, bad]

/-- An LD of entries that are sound, with a port error where an enabled lane's entry lies outside the space. -/
theorem exec_ld {w : Word64} (word : w = s.progWord n) (here : s.reached n opLd = true) (sound : s.badEntry n = none) :
    exec (.ld t n) s = .next
      ((((((maskLanes w).find? fun (i : Fin 8) => decide (spaceSize (wSpace w) ≤ laneEntry w i)).elim u fun i =>
        u.portErr t n (portCode (wSpace w) (laneEntry w i) false)).leCount n 2 1).writeDst t n false false
          (fun i => (wMask w).getLsbD i) fun i =>
            if laneEntry w i < spaceSize (wSpace w) then
              entryValue (wInt w) (s.readEntry n (wSpace w) (laneEntry w i))
            else qZero).advance t n) := by
  have here' : u.reached n opLd = true := by rw [now, upto_reached, here]
  have sound' : u.badEntry n = none := by rw [now, upto_badEntry, sound]
  have reads : s.readEntry n = u.readEntry n := by rw [now]; rfl
  obtain rfl : w = u.progWord n := by rw [word, now, upto_progWord]
  refine congrArg Host.Outcome.next (show ld t n s = _ from ?_)
  unfold ld
  rw [← now, reads]
  simp only [here', sound', Option.isSome_none, Bool.and_false, Bool.false_eq_true, if_false, if_true]
  split
  · next bad => rw [bad]; rfl
  · next inside => rw [inside]; rfl

/-! ### ST (R215, R220, R223, R224) -/

theorem exec_st {w : Word64} (word : w = s.progWord n) (here : s.reached n opSt = true) :
    exec (.st t n) s = .next
      ((((maskLanes w).foldl (fun (s : State) i => s.storeLane t n w i) u).leCount n 3 1).advance t n) := by
  subst now word
  exact congrArg Host.Outcome.next (if_pos here)

/-! ### HALT and undefined encodings (R219, R221, R401) -/

theorem exec_halt (here : s.reached n opHalt = true) :
    exec (.halt t n) s = .next ((u.advance t n).endUncommitted t n) := by
  subst now
  exact congrArg Host.Outcome.next ((if_neg (Bool.eq_false_iff.mp (badWord_of_reached here))).trans (if_pos here))

/-- A word with an uncorrectable error ends the pass. -/
theorem exec_halt_bad (bad : s.badWord n = true) : exec (.halt t n) s = .next
    ((u.endUncommitted t n).eccFatal t (engineAddr n (8 * (s.engine n).pc))) := by
  subst now
  exact congrArg Host.Outcome.next (if_pos bad)

/-- An undefined word, or the place behind the last one. -/
theorem exec_undefinedEncoding (runs : s.passRuns n = true) (sound : s.badWord n = false)
    (bad : 8192 ≤ (s.engine n).pc ∨ wUndefined (s.progWord n) = true) :
    exec (.undefinedEncoding t n) s = .next
      ((((u.setFlag t n fIllop).set (Reg.LE_STATUS_PC n) (min 8191 (s.engine n).pc)).endUncommitted t n).raise .leIllop
        (leSource n) (min 8192 (s.engine n).pc) t) := by
  subst now
  have undefined : (s.passRuns n && !s.badWord n &&
      (decide (8192 ≤ (s.engine n).pc) || wUndefined (s.progWord n))) = true := by
    simpa [runs, sound] using bad
  exact congrArg Host.Outcome.next (if_pos undefined)

/-! ### SETTLE (R219, R231-R237) -/

theorem exec_settle_pilot (here : s.reached n opSettle = true) (pilot : s.phase n = 1) :
    exec (.settle t n) s = .next
      ((u.sets [(Reg.LE_STATUS_PHASE n, 2), (Reg.LE_STATUS_PC n, (s.engine n).pc),
        (Reg.LE_PASS_PILOT n, min 65535 (t - (s.engine n).started))]).updEng n fun e => { e with settledAt := t }) := by
  subst now
  exact congrArg Host.Outcome.next ((if_neg (phase_ne_two_of_reached here)).trans ((if_pos here).trans (if_pos pilot)))

theorem exec_settle_other (here : s.reached n opSettle = true) (other : s.phase n ≠ 1) :
    exec (.settle t n) s = .next ((u.setVreg n (wDst (s.progWord n)) zeroReg).advance t n) := by
  subst now
  exact congrArg Host.Outcome.next ((if_neg (phase_ne_two_of_reached here)).trans ((if_pos here).trans (if_neg other)))

/-- A released run compares. -/
theorem exec_settle_released (waits : s.phase n = 2) (released : (s.engine n).settles ≠ 0) :
    exec (.settle t n) s = .next (u.settleWord t n) := by
  subst now
  exact congrArg Host.Outcome.next ((if_pos waits).trans (if_pos released))

theorem exec_settleRelease {v : State} {a : Nat} (waits : s.phase n = 2) (first : (s.engine n).settles = 0)
    (sample : (s.engine n).arrived = some a)
    (released : v = (u.leCount n 6 (t - (s.engine n).settledAt)).updEng n fun e =>
      { e with
        view := e.newest, serving := e.arrived, arrived := none
        pRatio := some ⟨((s.engine n).settledAt - (s.engine n).lastCommit : Nat),
          (s.engine n).arrivedAt - (s.engine n).lastCommit⟩ }) :
    exec (.settleRelease t n) s = .next (v.settleWord t n) := by
  subst now released
  exact congrArg Host.Outcome.next (if_pos ⟨waits, first, by rw [upto_engine, sample]; rfl⟩)

/-! ### COMMIT and its crossing (R219, R230, R238) -/

theorem exec_commit (here : s.reached n opCommit = true) : exec (.commit t n) s = .next
    ((((u.leSample t n (s.progWord n) (s.engine n).pc).leCount n 1 1).set (Reg.LE_STATUS_PC n)
      (s.engine n).pc).commitPass t n) := by
  subst now
  exact congrArg Host.Outcome.next (if_pos here)

section
variable (crosses : (s.engine n).crossing = true)
include crosses

theorem exec_commitComplete_dropped (stopped : (s.engine n).orphan = true ∨ (s.axis n).st.closed = false) :
    exec (.commitComplete t n) s = .next (u.endPass t n) := by
  subst now
  have drops : ((s.engine n).orphan || !(s.axis n).st.closed) = true := by simpa using stopped
  exact congrArg Host.Outcome.next ((if_pos crosses).trans (if_pos drops))

theorem exec_commitComplete (own : (s.engine n).orphan = false) (runs : (s.axis n).st.closed = true) :
    exec (.commitComplete t n) s = .next (u.handOver t n (s.handSet n) (s.dutySet n)) := by
  subst now
  have goes : ¬((s.engine n).orphan || !(s.axis n).st.closed) = true := by simp [own, runs]
  exact congrArg Host.Outcome.next ((if_pos crosses).trans (if_neg goes))

end

end

/-! ### Flags, and the lanes of a store (R213, R215, R217) -/

theorem anyLane_false (s : State) (n : Fin 4) : (s.anyLane n fun _ => false) = false :=
  decide_eq_false fun ⟨_, _, no⟩ => Bool.false_ne_true no

theorem flagIf_false (s : State) (t : Nat) (n : Fin 4) (bit : Nat) : s.flagIf t n bit false = s :=
  if_neg Bool.false_ne_true

theorem mem_maskLanes {w : Word64} {i : Fin 8} : i ∈ maskLanes w ↔ (wMask w).getLsbD i = true := by
  have all : i ∈ ([0, 1, 2, 3, 4, 5, 6, 7] : List (Fin 8)) := by revert i; decide
  rw [maskLanes, List.mem_filter, and_iff_right all]

section
variable {v : State} {t : Nat} {n : Fin 4} {w : Word64} {i : Fin 8}

/-- A store to the buffer before a hit is decided does nothing. -/
theorem storeLane_silent (silent : v.stSilent n (wSpace w) = true) : v.storeLane t n w i = v := if_pos silent

theorem stSilent_other {sp : Nat} (other : sp ≠ 3) : v.stSilent n sp = false := by
  rw [State.stSilent, beq_false_of_ne other, Bool.false_and]

section
variable {x : Word} {f : WFlags} (word : storeWord (wInt w) ((v.vreg n (wA w)).lane i) = (x, f))
include word

theorem storeLane_state (space : wSpace w = 1) (inside : laneEntry w i < 4096) :
    v.storeLane t n w i = (v.writeFlags t n f).writeState n (laneEntry w i) x := by
  simp [State.storeLane, word, space, stSilent_other, spaceSize, inside]

theorem storeLane_port (space : wSpace w = 2) (may : portWritable (laneEntry w i) = true) :
    v.storeLane t n w i = (v.writeFlags t n f).writePort n (laneEntry w i) x := by
  have inside : laneEntry w i < 256 := by
    rw [portWritable, decide_eq_true_iff] at may
    omega
  simp [State.storeLane, word, space, stSilent_other, spaceSize, inside, may]

/-- A store to the coefficient store, or to a port entry that is not writable. -/
theorem storeLane_portErr (bad : wSpace w = 0 ∨ wSpace w = 2 ∧ portWritable (laneEntry w i) = false) :
    v.storeLane t n w i = (v.writeFlags t n f).portErr t n (portCode (wSpace w) (laneEntry w i) true) := by
  obtain space | ⟨space, no⟩ := bad
  · simp [State.storeLane, word, space, stSilent_other]
  · simp [State.storeLane, word, space, stSilent_other, no]

end

end

/-! ### A released run at a SETTLE (R233-R236) -/

section
variable {s v : State} {t : Nat} {n : Fin 4}

/-- A SETTLE word within its tolerances writes the differences, and the last one of the run decides the hit. -/
theorem settleWord_hit (hit : s.settleHit n = true)
    (on : v = ((s.writeArith t n (s.settleDiff n)).advance t n).updEng n fun e => { e with settles := e.settles + 1 }) :
    s.settleWord t n = v.set (Reg.LE_STATUS_PHASE n)
      (if (v.engine n).pc < 8192 ∧ wOp (v.progWord n) = opSettle then 2 else 3) := by
  subst on
  refine (if_pos hit).trans ?_
  simp only [Bool.and_eq_true, decide_eq_true_eq, beq_iff_eq]

/-- A miss squashes the pilot pass, and a full pass serves the sample. -/
theorem settleWord_miss (miss : s.settleHit n = false) : s.settleWord t n =
    ((((s.set (Reg.LE_STATUS_PC n) (s.engine n).pc).incHold (Reg.LE_MISS_COUNT n)).squash t n).startFull t n) :=
  if_neg (Bool.eq_false_iff.mp miss)

end

/-! ### Writes that command an engine or a carrier (R226, R227, R261-R263, R279) -/

section
variable {t req : Nat} {n : Fin 4} {w : Word} {s v : State}

/-- GO, where the write leaves PILOTEN as it was. -/
theorem exec_goPass (h : (s.busAt t req true).accepted req (Reg.LE_CTL n) w = some v)
    (same : (s.reg (Reg.LE_CTL n)).getLsbD 0 = v.bit (Reg.LE_CTL_PILOTEN n)) (go : w.getLsbD 1 = true) :
    exec (.goPass t req n w) s = .next (v.goWritten v.tide n) := by
  have row : regWriteAt t req (Reg.LE_CTL n) w s = v.goWritten v.tide n := by
    rw [write_LE_CTL t req n w h, State.wroteLe, if_pos rfl, Fin.ofNat_val_eq_self, same]
    simp only [bne_self_eq_false, Bool.false_eq_true, if_false, go, if_true]
  exact congrArg Host.Outcome.next row

/-- An accepted write of `PWM_CTLn`. -/
theorem carrier_row (h : (s.busAt t req true).accepted req (Reg.PWM_CTL n) w = some v) :
    regWriteAt t req (Reg.PWM_CTL n) w s = v.carrierWritten v.tide n ((s.reg (Reg.PWM_CTL n)).getLsbD 0)
      ((s.reg (Reg.PWM_CTL n) &&& 0xF2) != (v.reg (Reg.PWM_CTL n) &&& 0xF2)) := by
  rw [write_PWM_CTL t req n w h, State.wrotePwm, if_pos rfl, Fin.ofNat_val_eq_self]

theorem carrierWritten_on (t : Nat) (changed : Bool) (on : v.bit (Reg.PWM_CTL_EN n) = true) :
    v.carrierWritten t n false changed = (v.stopCarrier t n).schedCarrier t n := by
  simp [State.carrierWritten, on]

theorem carrierWritten_off (t : Nat) (changed : Bool) (off : v.bit (Reg.PWM_CTL_EN n) = false) :
    v.carrierWritten t n true changed = v.stopCarrier t n := by
  simp [State.carrierWritten, off]

theorem exec_pwmForceWrite (h : (s.busAt t req true).accepted req (Reg.PWM_FORCE n) w = some v) :
    exec (.pwmForceWrite t req n w) s = .next (v.forceWritten v.tide n) := by
  have row : regWriteAt t req (Reg.PWM_FORCE n) w s = v.forceWritten v.tide n := by
    rw [write_PWM_FORCE t req n w h, State.wrotePwm, if_neg (by decide), if_neg (by decide), if_neg (by decide),
      if_pos rfl, Fin.ofNat_val_eq_self]
  exact congrArg Host.Outcome.next row

end

/-! ### The obligations -/

/-- Settles O15: each row by the function of its lanes. -/
theorem laneArithmetic : Obligations.LaneArithmetic := by
  rintro t n s u a b d now rfl rfl rfl
  exact ⟨next_laneOp now, next_laneOp now, next_laneOp now, next_laneOp now, next_laneOp now, next_laneOp now,
    next_laneOp now, next_laneOp now, exec_sel now, exec_scale now, next_laneOp now, exec_mov now⟩

/-- Settles O16: each row by the function of its lanes, CLARKE and ICLARKE lane by lane, SVM by the sign of the DC
link. -/
theorem laneFunctions : Obligations.LaneFunctions := by
  rintro t n s u a b now rfl rfl
  refine ⟨next_laneOp now, next_laneOp now, next_laneOp now,
    fun here => next_laneOp_of_results now here fun i => ?_,
    fun here => next_laneOp_of_results now here fun i => ?_,
    exec_atan2 now, exec_recip now, exec_rsqrt now, fun here alive => ?_, fun here dead => ?_⟩
  · match i with
    | 0 | 1 | 2 | 3 | 4 | 5 | 6 | 7 => rfl
  · match i with
    | 0 | 1 | 2 | 3 | 4 | 5 | 6 | 7 => rfl
  · rw [exec_svm now here (decide_eq_false (Int.not_le.mpr alive))]
    simp only [Bool.and_false, anyLane_false, flagIf_false, Bool.not_false, Bool.and_true, Bool.false_eq_true, if_false]
  · rw [exec_svm now here (decide_eq_true dead)]
    simp only [Bool.and_true, Bool.not_true, Bool.and_false, Bool.false_and, anyLane_false, flagIf_false, if_true]

/-- Settles O17: each row by its branches. -/
theorem predicateAndStateWords : Obligations.PredicateAndStateWords := by
  rintro t n s u a b c k en now rfl rfl coef state rfl
  refine ⟨fun r held => ?_, fun h => exec_cmp now, fun l => exec_pi now coef state,
    fun y l => exec_lpf now coef state, fun y want d l => exec_ramp now coef state⟩
  rw [coef] at held
  exact exec_clamp now held

/-- Settles O18: an LD by the first lane whose entry lies outside its space, an ST lane by lane. -/
theorem memoryWords : Obligations.MemoryWords := by
  rintro t n s u w now word
  refine ⟨fun here sound inside => ?_, fun a => exec_ld_bad now, fun i here sound first => ?_, exec_st now word,
    fun v i x f inside space value => storeLane_state value space inside,
    fun v i x f may space value => storeLane_port value space may, fun v i x f space no value => ?_,
    fun v i x f space value => ?_, fun v i space phase => storeLane_silent ?_⟩
  · have allInside : ((maskLanes w).find? fun (i : Fin 8) => decide (spaceSize (wSpace w) ≤ laneEntry w i)) = none :=
      List.find?_eq_none.mpr fun i mem => by simpa using inside i (mem_maskLanes.mp mem)
    rw [exec_ld now word here sound, allInside, Option.elim_none]
  · rw [exec_ld now word here sound, first, Option.elim_some]
  · rw [storeLane_portErr value (.inr ⟨space, no⟩), space]
  · rw [storeLane_portErr value (.inl space), space]
  · rcases phase with pilot | waits
    · rw [State.stSilent, space, pilot]; rfl
    · rw [State.stSilent, space, waits]; rfl

/-- Settles O19: each row by its branches, a released SETTLE by its tolerances. -/
theorem passWords : Obligations.PassWords := by
  rintro t n s u pc rfl rfl
  refine ⟨exec_halt rfl, exec_halt_bad rfl, exec_settle_pilot rfl, exec_settle_other rfl,
    fun v waits released hit on => ?_, fun waits released miss => ?_, fun v a => exec_settleRelease rfl,
    exec_commit rfl, fun runs sound inside undefined => ?_, fun runs behind => ?_,
    exec_commitComplete_dropped rfl, exec_commitComplete rfl⟩
  · exact (exec_settle_released rfl waits released).trans (congrArg Host.Outcome.next (settleWord_hit hit on))
  · exact (exec_settle_released rfl waits released).trans (congrArg Host.Outcome.next (settleWord_miss miss))
  · rw [exec_undefinedEncoding rfl runs sound (.inr undefined),
      Nat.min_eq_right (by omega), Nat.min_eq_right (by omega)]
  · have sound : s.badWord n = false := by
      rw [State.badWord, decide_eq_false (by omega), Bool.and_false, Bool.false_and]
    rw [exec_undefinedEncoding rfl runs sound (.inl behind), Nat.min_eq_left (by omega), Nat.min_eq_left (by omega)]

/-- Settles O20: the row of each write, and what its register does with the word. -/
theorem engineAndCarrierWrites : Obligations.EngineAndCarrierWrites := by
  rintro t req n w s u v rfl
  refine ⟨fun h same go idle => ?_, fun h same go busy => ?_, fun h was on => ?_, fun h was off => ?_,
    fun h force single => ?_, fun h force both => ?_, fun h free => ?_⟩
  · rw [exec_goPass h same go, State.goWritten, if_pos idle]
  · rw [exec_goPass h same go, State.goWritten, if_neg busy]
  · refine congrArg Host.Outcome.next ((carrier_row h).trans ?_)
    rw [was, carrierWritten_on _ _ on]
  · refine congrArg Host.Outcome.next ((carrier_row h).trans ?_)
    rw [was, carrierWritten_off _ _ off]
  · rw [exec_pwmForceWrite h]
    exact congrArg Host.Outcome.next ((if_pos force).trans (if_neg (Bool.eq_false_iff.mp single)))
  · rw [exec_pwmForceWrite h]
    exact congrArg Host.Outcome.next ((if_pos force).trans (if_pos both))
  · rw [exec_pwmForceWrite h]
    exact congrArg Host.Outcome.next (if_neg (Bool.eq_false_iff.mp free))

end Sys2Proof.Machine
end

section
/-! # Proofs: the events of a running carrier (R261-R282, R445, R446)

First the rows by their branches, then the obligation. Where in its period a carrier is does not depend on the time that
has passed, so the conditions of a row are those of the state before it. -/

namespace Sys2Proof.Machine

section
variable {s u : State} {t : Nat} {n : Fin 4} (now : u = s.upto t)
include now

/-! ### The start of a carrier (R262, R280) -/

/-- An enabled, stopped carrier starts at the zero point that its start has been scheduled for. -/
theorem exec_carrierStart {z : Nat} {v : State} (scheduled : (s.carrier n).startAt = some z) (due : z / 32 = t)
    (enabled : s.bit (Reg.PWM_CTL_EN n) = true) (stopped : s.running n = false) (used : s.idle n = false)
    (source : s.sourceRuns n = true)
    (started : v = ((u.updCarrier n fun c => { c with startAt := none, zero := z, formed := false }).sets
      [(Reg.PWM_STATUS_RUNNING n, 1), (Reg.PWM_STATUS_WAIT n, 0),
        (Reg.PWM_STATUS_LOCKED n, if s.get (Reg.PWM_CTL_SRC n) ≠ 0 then 1 else 0), (Reg.PWM_STATUS_DOWN n, 0)])) :
    exec (.carrierStart t n) s = .next (v.eachAxis fun s m =>
      if s.srcAxis m = some n ∧ s.bit (Reg.PWM_STATUS_WAIT m) then s.schedCarrier t m else s) := by
  have starts : (s.bit (Reg.PWM_CTL_EN n) && !s.running n && !s.idle n && z / 32 == t && s.sourceRuns n) = true := by
    rw [enabled, stopped, used, due, source, beq_self_eq_true]; rfl
  subst now started
  refine congrArg Host.Outcome.next (?_ : carrierStart t n s = _)
  unfold carrierStart
  simp only [upto_carrier, scheduled]
  exact if_pos starts

/-! ### Zero points, period points and compare events (R261, R268, R277, R282, R445, R446) -/

/-- A zero point of a running carrier ends the frame before it and forms the next one. -/
theorem exec_zeroPoint {z : Nat} {v x y : State} (runs : s.running n = true) (zero : s.atZero n t = true)
    (place : z = (u.carrier n).zero + 32 * u.sinceZero n t)
    (driven : v = (u.drive z).updCarrier n fun c => { c with eff := formEff c.eff })
    (framed : x = v.formAll n z (v.entersPwm n || v.outMode n == .pwm) (v.entersPwm n) (v.outMode n == .off))
    (entered : y = if v.entersPwm n = true then (x.set (Reg.PWM_STATUS_OUT n) OutMode.pwm.code).startSteps n else x) :
    exec (.zeroPoint t n) s = .next
      ((((y.set (Reg.PWM_STATUS_DOWN n) 0).carrierIrq n (Reg.PWM_PRES_ZERO n) (Reg.PWM_IRQ_ZERO n)).gsyncPulse t
        n).sendMarker n z) := by
  have forms : (s.running n && s.atZero n t) = true := by rw [runs, zero]; rfl
  subst now place driven framed entered
  exact congrArg Host.Outcome.next (if_pos forms)

theorem exec_periodPoint (runs : s.running n = true) (point : s.atPeriodPoint n t = true)
    (plain : s.atReload n t = false) : exec (.periodPoint t n) s = .next (u.periodEvent n) := by
  have event : (s.running n && s.atPeriodPoint n t && !s.atReload n t) = true := by rw [runs, point, plain]; rfl
  subst now
  exact congrArg Host.Outcome.next (if_pos event)

/-- An enabled compare event of a running carrier, at its place after the zero point. -/
theorem exec_carrierCompareEvent {k : Fin 2} (runs : s.running n = true)
    (enabled : s.bit ⟨Reg.PWM_ICMP k n, 31, 1⟩ = true)
    (due : t = (s.carrier n).zero / 32 + s.get ⟨Reg.PWM_ICMP k n, 0, 24⟩) :
    exec (.carrierCompareEvent t n k) s = .next
      (if k = 0 then u.carrierIrq n (Reg.PWM_PRES_CMP0 n) (Reg.PWM_IRQ_CMP0 n)
      else u.carrierIrq n (Reg.PWM_PRES_CMP1 n) (Reg.PWM_IRQ_CMP1 n)) := by
  have event : (s.running n && s.bit ⟨Reg.PWM_ICMP k n, 31, 1⟩ &&
      t == (s.carrier n).zero / 32 + s.get ⟨Reg.PWM_ICMP k n, 0, 24⟩) = true := by
    rw [runs, enabled, ← due, beq_self_eq_true]; rfl
  subst now
  exact congrArg Host.Outcome.next (if_pos event)

/-! ### Reload (R264, R265, R270, R274) -/

/-- A reload point of a running carrier. -/
theorem exec_reload {late point : Bool} {v x y z : State} (runs : s.running n = true) (reloads : s.atReload n t = true)
    (claimed : v = (u.drive (32 * t)).claim t n late)
    (taken : x = (v.updCarrier n fun c => c.take (t - 4) late).updAxis n
      fun a => { a with reqTaken := a.reqTaken || a.st.closed })
    (middle : point = x.atPeriodPoint n t)
    (updated : y = if point && x.centre n && x.get (Reg.PWM_CTL_RELOAD n) == 3 then
      (x.legsOf n).foldl (State.updateFall · n ·) x else x)
    (event : z = if point then y.periodEvent n else y) :
    exec (.reload t n late) s = .next
      ((z.logEvent z.epoch (12 + n) t fun c =>
        if c.kind = 4 ∧ c.b1 = n.val then some (dutyItem t (z.slots n) (z.carrier n).inForce) else none).settleAxis
          t n) := by
  have takes : (s.running n && s.atReload n t) = true := by rw [runs, reloads]; rfl
  subst now claimed taken middle updated event
  exact congrArg Host.Outcome.next (if_pos takes)

end

/-! ### Bootstrap refresh (R275) -/

@[simp] theorem upto_axisOfLeg (s : State) (t : Nat) (l : Fin 12) : (s.upto t).axisOfLeg l = s.axisOfLeg l := rfl
@[simp] theorem upto_outMode (s : State) (t : Nat) (n : Fin 4) : (s.upto t).outMode n = s.outMode n := rfl

/-- A bootstrap high side in PWM mode that has been on for BOOT_MAX_ON. -/
theorem exec_bootstrapRefresh {s u : State} {t : Nat} {l : Fin 12} (now : u = s.upto t)
    (boot : s.bit (Reg.GATE_CFG_BOOT (hiCh l)) = true) (pwm : s.outMode (s.axisOfLeg l) = .pwm)
    (on : u.legOn (t - 1) l true = true)
    (long : 32 * Config.us * s.get (Reg.PWM_BOOT_MAXON l) ≤ u.hiCountAt l (32 * t)) :
    exec (.bootstrapRefresh t l) s = .next
      (((u.drive (32 * t)).incHold (Reg.PWM_FAIL_BOOTREF l)).updLeg l fun g =>
        { g with refreshAt := some (32 * t) }) := by
  subst now
  refine congrArg Host.Outcome.next (?_ : bootRefresh t l s = _)
  unfold bootRefresh
  simp only [upto_bit, upto_axisOfLeg, upto_outMode, upto_get, boot, pwm, on, long, beq_self_eq_true, decide_true,
    Bool.and_self, if_true]

/-! ### The obligation -/

/-- Settles O27: each row by its branches, the two compare events as one row. -/
theorem carrierRows : Obligations.CarrierRows := by
  intro t n s u now
  refine ⟨fun z v => exec_carrierStart now, fun z v x y => exec_zeroPoint now, exec_periodPoint now,
    fun runs enabled due => ?_, fun runs enabled due => ?_, fun late point v x y z => exec_reload now,
    fun l => exec_bootstrapRefresh now⟩
  · rw [exec_carrierCompareEvent (k := 0) now runs enabled due, if_pos rfl]
  · rw [exec_carrierCompareEvent (k := 1) now runs enabled due, if_neg (by decide)]

end Sys2Proof.Machine
end

section
/-! # Proofs: the isolated gate channels (R287-R301, R319)

First the rows by their branches, then the obligations. -/

namespace Sys2Proof.Machine

/-! ### Desaturation and the two-level turn-off (R294-R296, R299, R301, R319) -/

section
variable {s u : State} {t : Nat} {g : Fin 26} (now : u = s.upto t)
include now

theorem exec_desatDetected {v : State} (driven : v = u.drive (32 * t)) :
    exec (.desatDetected t g) s = .next
      (if v.desatArmed t g = true then
        ((v.softOff t g).incHold (Reg.GATE_CNT_DESAT g)).updGate g fun x => { x with desatAt := t, desatEp := v.epoch }
      else v) := by
  subst now driven; rfl

/-- The report of a desaturation, on a channel of a leg with its partner or on one without. -/
theorem exec_desatReport {v x y z : State}
    (own : v = (u.updHolds g fun h => { h with desat := true }).set (Reg.GATE_STAT_DESAT g) 1)
    (both : partner g = none ∧ x = v ∨ ∃ p, partner g = some p ∧
      x = ((v.updHolds p fun h => { h with partner := true }).set (Reg.GATE_STAT_PFORCE p) 1).gateBits p)
    (raised : y = x.raiseGate t .gateDesat g 0 (x.gate g).desatAt (epoch := some (x.gate g).desatEp))
    (ended : z = if y.bit (Reg.GATE_STAT_SOFT g) = true then y else y.causeGone .gateDesat (16 + g) 0) :
    exec (.desatReport t g) s = .next (if g = gBrk then z.failBrk t 2 else z) := by
  subst now own raised ended
  refine congrArg Host.Outcome.next (?_ : desatReport t g s = _)
  unfold desatReport
  obtain ⟨alone, rfl⟩ | ⟨p, paired, rfl⟩ := both
  · simp only [alone]
  · simp only [paired]

theorem exec_twoLevelTurnOffEnd (runs : s.bit (Reg.GATE_STAT_SOFT g) = true) :
    exec (.twoLevelTurnOffEnd t g) s = .next
      ((((u.set (Reg.GATE_STAT_SOFT g) 0).restartSteps g).causeGone .gateDesat (16 + g) 0).causeGone .bootUv
        (16 + g) 0) := by
  subst now
  exact congrArg Host.Outcome.next (if_pos runs)

/-! ### Rails (R287-R289, R299) -/

/-- A rail below its threshold that is not shown yet, on a channel that watches rails of its own. -/
theorem exec_railUndervoltage {vp : Bool} {r : RailIn} {v x : State} (measured : v = u.takeRails g r)
    (seen : (s.gate g).seenOk = true)
    (low : (if vp then vpLow (s.uvCodes g).1 r.vp else vnLow (s.uvCodes g).2 r.vn) = true) (own : v.bootFed g = false)
    (new : v.bit (if vp then Reg.GATE_STAT_VPUV g else Reg.GATE_STAT_VNUV g) = false)
    (off : x = if u.chOn t g then v.softOff t g else v) :
    exec (.railUndervoltage t ⟨g, r⟩ vp) s = .next
      ((((x.set (if vp then Reg.GATE_STAT_VPUV g else Reg.GATE_STAT_VNUV g) 1).incHold
        (Reg.GATE_CNT_UV g)).updHolds g fun h => { h with uv := true }).raiseGate t .gateUv g 1 t) := by
  have fails : ((s.gate g).seenOk && (if vp then vpLow (s.uvCodes g).1 r.vp else vnLow (s.uvCodes g).2 r.vn) &&
      !v.bootFed g && !v.bit (if vp then Reg.GATE_STAT_VPUV g else Reg.GATE_STAT_VNUV g)) = true := by
    rw [seen, low, own, new]; rfl
  subst now measured off
  exact congrArg Host.Outcome.next (if_pos fails)

theorem exec_bootUndervoltage {v : State} (boot : s.bootFed g = true) (on : u.chOn t g = true)
    (held : v = (((u.softOff t g).set (Reg.GATE_STAT_BOOTUV g) 1).incHold (Reg.GATE_CNT_UV g)).updHolds g
      fun h => { h with boot := true }) :
    exec (.bootUndervoltage t g) s = .next
      (v.raiseGate t .bootUv g 2 t (sev := if v.bit (Reg.GATE_CFG_BOOTREACT g) then 2 else 3)) := by
  have fails : (s.bootFed g && u.chOn t g) = true := by rw [boot, on]; rfl
  subst now held
  exact congrArg Host.Outcome.next (if_pos fails)

theorem exec_gateSupplyTimeout {r : RailIn} {v : State} (measured : v = u.takeRails g r)
    (enabled : (v.gate g).en = true) (never : (v.gate g).seenOk = false)
    (due : (v.gate g).enAt + 5 * Config.ms ≤ t) :
    exec (.gateSupplyTimeout t ⟨g, r⟩) s = .next
      ((v.updHolds g fun h => { h with supply := true }).raiseGate t .gateSupply g 3 t) := by
  have fails : ((v.gate g).en && !(v.gate g).seenOk && decide ((v.gate g).enAt + 5 * Config.ms ≤ t)) = true := by
    rw [enabled, never, decide_eq_true due]; rfl
  subst now measured
  exact congrArg Host.Outcome.next (if_pos fails)

theorem exec_railSettingStep {r : RailIn} (enabled : (s.gate g).en = true) :
    exec (.railSettingStep t ⟨g, r⟩) s = .next ((u.updGate g fun x =>
      x.stepRails (s.get (Reg.GATE_CFG_VP (railCfg g))) (s.get (Reg.GATE_CFG_VN (railCfg g)))).takeRails g r) := by
  subst now
  exact congrArg Host.Outcome.next (if_pos enabled)

/-! ### The isolator link (R290) -/

theorem exec_commandFrameLoss_lost :
    exec (.commandFrameLoss t ⟨g, false⟩) s = .next
      ((((if u.chOn t g then u.softOff t g else u).updHolds g fun h => { h with die := true }).updGate g fun x =>
        { x with mute := true }).heldChanged t g) := by
  subst now; rfl

theorem exec_commandFrameLoss_back :
    exec (.commandFrameLoss t ⟨g, true⟩) s = .next
      (((u.updHolds g fun h => { h with die := h.die && h.link }).updGate g fun x =>
        { x with mute := false }).heldChanged t g) := by
  subst now; rfl

theorem exec_statusFrameLoss :
    exec (.statusFrameLoss t g) s = .next
      ((((if u.chOn t g then u.softOff t g else u).updHolds g fun h => { h with link := true }).set
        (Reg.GATE_STAT_LINKFAIL g) 1).raiseGate t .gateLink g 3 t) := by
  subst now; rfl

/-! ### Shoot-through in the channel logic (R297) -/

theorem exec_channelLogicShootThrough_blocks (l : Fin 12) :
    exec (.channelLogicShootThrough t ⟨l, true⟩) s = .next
      (((((u.drive (32 * t)).blockLeg t l).set (Reg.GATE_XCMD_BIT l) 1).raise .xcmd (16 + 2 * l) 0 t
        (latched := true)).gateBits (hiCh l)) := by
  subst now; rfl

theorem exec_channelLogicShootThrough_frees (l : Fin 12) :
    exec (.channelLogicShootThrough t ⟨l, false⟩) s = .next
      (((u.drive (32 * t)).freeLeg t l).causeGone .xcmd (16 + 2 * l) 0) := by
  subst now; rfl

end

/-! ### Retry (R300, R301) -/

theorem exec_retryWaitExpiry {s u v : State} {t : Nat} {k : Fin 24} {g : Fin 26} {c : Fin 4} {r : RailIn}
    {frames : Bool} (now : u = s.upto t) (channel : g.val = k.val) (measured : v = u.takeRails g r) :
    exec (.retryWaitExpiry t k c ⟨r, frames⟩) s = .next
      ((((retryFaults c).foldl (fun s n => s.retryOne t g c frames n) v).gateBits g).settle t) := by
  obtain rfl : g = ⟨k, Nat.lt_trans k.isLt (by decide)⟩ := Fin.ext channel
  subst now measured
  rfl

/-- A retry-pending fault that is due ends with its cause, and otherwise waits a further RETRY_WAIT. -/
theorem retryOne_due {s : State} {t : Nat} {g : Fin 26} {c : Fin 4} {frames : Bool} {f : FName} {d : Nat}
    (waits : (s.gate g).due[retrySlot f] = some d) (due : d ≤ t) :
    s.retryOne t g c frames f =
      if s.gateGone g frames f = true then
        (s.updGate g fun x => { x with due := x.due.set (retrySlot f) none }).autoClear f (16 + g.val) 0
      else s.updGate g fun x =>
        { x with due := x.due.set (retrySlot f) (some (t + Config.ms * s.get (Reg.GATE_RETRY_WAIT c))) } := by
  have looks : (((s.gate g).due[retrySlot f]).any fun d => decide (d ≤ t)) = true := by
    rw [waits]; exact decide_eq_true due
  exact if_pos looks

/-! ### Plateaus (R292) -/

section
variable {s u : State} {t : Nat} {k : Fin 24} {g : Fin 26} (now : u = s.upto t) (channel : g.val = k.val)
  {l : Fin 12} {on : Bool} (leg : legOfGate g = some l) (adaptive : s.bit (Reg.GATE_CFG_MODE g) = true)
  (pwm : s.outMode (s.axisOfLeg l) = .pwm) (hard : s.bit (Reg.GATE_STAT_SOFT g) = false)
include now channel leg adaptive pwm hard

/-- A switching event without a plateau is counted. -/
theorem exec_plateauMeasured_none {v : State}
    (reported : v = u.gateReport t g (if on then 0 else 1) none
      (some (s.get (if on then Reg.GATE_STEP_SRC g else Reg.GATE_STEP_SNK g)))) :
    exec (.plateauMeasured t k on none) s = .next (v.incHold (Reg.GATE_CNT_NOPL g)) := by
  obtain rfl : g = ⟨k, Nat.lt_trans k.isLt (by decide)⟩ := Fin.ext channel
  subst now reported
  refine congrArg Host.Outcome.next (?_ : plateau t k on none s = _)
  unfold plateau
  simp only [leg, upto_bit, upto_outMode, upto_axisOfLeg, upto_get, adaptive, pwm, hard, beq_self_eq_true,
    Bool.not_false, Bool.and_self, if_true, Option.map_none]

/-- A plateau is kept and moves the step; an event beyond the band at a limit step counts towards 1024. -/
theorem exec_plateauMeasured_some {p step lo hi tgt m : Nat} {lim : Option Bool} {v x : State}
    (reported : v = u.gateReport t g (if on then 0 else 1) (some (Nat.min 1023 p))
      (some (s.get (if on then Reg.GATE_STEP_SRC g else Reg.GATE_STEP_SNK g))))
    (least : lo = v.get (if on then Reg.GATE_ADAPT_SRCMIN g else Reg.GATE_ADAPT_SNKMIN g))
    (most : hi = v.get (if on then Reg.GATE_ADAPT_SRCMAX g else Reg.GATE_ADAPT_SNKMAX g))
    (target : tgt = v.get (if on then Reg.GATE_TGT_TON g else Reg.GATE_TGT_TOFF g))
    (present : step = v.get (if on then Reg.GATE_STEP_SRC g else Reg.GATE_STEP_SNK g))
    (side : lim = atLimit (min 1023 p) tgt step lo hi)
    (count : m = if on then limitCount (v.gate g).limOn (v.gate g).upOn lim
      else limitCount (v.gate g).limOff (v.gate g).upOff lim)
    (moved : x = v.sets [(if on then Reg.GATE_TP_TPON g else Reg.GATE_TP_TPOFF g, min 1023 p),
      (if on then Reg.GATE_STEP_SRC g else Reg.GATE_STEP_SNK g, adaptStep (min 1023 p) tgt step lo hi)]) :
    exec (.plateauMeasured t k on (some p)) s = .next
      (if m = 1024 then
        ((x.updGate g fun y =>
          if on then { y with limOn := 0, upOn := lim.getD false }
          else { y with limOff := 0, upOff := lim.getD false }).incHold
            (Reg.GATE_CNT_LIMIT g)).raise .gateAdaptLimit (16 + g) 0 t
      else x.updGate g fun y =>
        if on then { y with limOn := m, upOn := lim.getD false }
        else { y with limOff := m, upOff := lim.getD false }) := by
  obtain rfl : g = ⟨k, Nat.lt_trans k.isLt (by decide)⟩ := Fin.ext channel
  subst now least most target present side moved
  refine congrArg Host.Outcome.next (?_ : plateau t k on (some p) s = _)
  unfold plateau
  simp only [leg, upto_bit, upto_outMode, upto_axisOfLeg, upto_get, adaptive, pwm, hard, beq_self_eq_true,
    Bool.not_false, Bool.and_self, if_true, Option.map_some, ← reported, ← count, decide_eq_true_eq]
  by_cases full : m = 1024
  · simp only [full, if_true]
  · simp only [full, if_false]

end

/-! ### The obligations -/

/-- Settles O32: each row by its branches. -/
theorem gateRows : Obligations.GateRows := by
  intro t g s u now
  refine ⟨fun v driven => ?_, fun v x y z own both raised ended => ?_, exec_twoLevelTurnOffEnd now,
    fun vp r v x => exec_railUndervoltage now, fun v => exec_bootUndervoltage now,
    fun r v => exec_gateSupplyTimeout now, fun r => exec_railSettingStep now, exec_commandFrameLoss_lost now,
    exec_commandFrameLoss_back now, exec_statusFrameLoss now,
    fun l => ⟨exec_channelLogicShootThrough_blocks now l, exec_channelLogicShootThrough_frees now l⟩⟩
  · rw [exec_desatDetected now driven]
    exact ⟨fun armed => by rw [if_pos armed], fun idle => by rw [if_neg (Bool.eq_false_iff.mp idle)]⟩
  · rw [exec_desatReport now own both raised ended]
    exact ⟨fun other => by rw [if_neg other], fun brake => by rw [if_pos brake]⟩

/-- Settles O33: a due fault by whether its cause has ended, a plateau by whether the count at its limit is full. -/
theorem retryAndPlateauRows : Obligations.RetryAndPlateauRows := by
  intro t k g s u now channel
  refine ⟨fun c r frames v => exec_retryWaitExpiry now channel, fun c frames f d waits due => ?_,
    fun l on tp v leg adaptive pwm hard reported => ⟨?_, ?_⟩⟩
  · rw [retryOne_due waits due]
    exact ⟨fun gone => by rw [if_pos gone], fun stays => by rw [if_neg (Bool.eq_false_iff.mp stays)]⟩
  · rintro rfl
    exact exec_plateauMeasured_none now channel leg adaptive pwm hard reported
  · rintro p step lo hi tgt m lim x rfl least most target present side count moved
    rw [exec_plateauMeasured_some now channel leg adaptive pwm hard reported least most target present side count
      moved]
    exact ⟨fun notFull => by rw [if_neg notFull], fun full => by rw [if_pos full]⟩

end Sys2Proof.Machine
end

section
/-! # Proofs: brake, discharge, STO and GTRIP, and the reaction in force (R313, R317, R319, R321, R322, R324, R325,
R333-R336, R347)

First the rows by their branches and what the fault manager holds active after an arrival, then the obligations. -/

namespace Sys2Proof.Machine

/-! ### The brake and its load (R307, R317, R319) -/

section
variable {s u : State} {t : Nat} (now : u = s.upto t)
include now

theorem exec_brkConfirmExpiry {c : Nat} (on : s.brkOn = true) (confirms : s.bw.brkConf = some c) (due : c ≤ t) :
    exec (.brkConfirmExpiry t) s = .next
      (if s.bw.brkV < s.volts + s.get Reg.BW_BRKCFG_DV then (u.updBw fun b => { b with brkConf := none }).failBrk t 1
      else u.updBw fun b => { b with brkConf := none }) := by
  have ends : (s.brkOn && s.bw.brkConf.any fun c => decide (c ≤ t)) = true := by
    rw [on, confirms]; exact decide_eq_true due
  subst now
  refine congrArg Host.Outcome.next ((if_pos ends).trans ?_)
  simp only [decide_eq_true_eq]
  rfl

theorem exec_brkLoadDetected_dsc (up : s.offUp gDsc = true) (low : Bool) :
    exec (.brkLoadDetected ⟨t, true, low⟩) s = .next (u.setB (Reg.GATE_STAT_OFFLOW gDsc) low) := by
  subst now
  exact congrArg Host.Outcome.next (if_pos up)

theorem exec_brkLoadDetected_low {v : State} (up : s.offUp gBrk = true)
    (shown : v = u.setB (Reg.GATE_STAT_OFFLOW gBrk) true) :
    exec (.brkLoadDetected ⟨t, false, true⟩) s = .next
      (if v.bit Reg.BW_BRKCFG_EN = true then v.raise .brkLoad 40 0 t (latched := true) else v) := by
  subst now shown
  exact congrArg Host.Outcome.next (if_pos up)

theorem exec_brkLoadDetected_clear (up : s.offUp gBrk = true) :
    exec (.brkLoadDetected ⟨t, false, false⟩) s = .next
      ((u.setB (Reg.GATE_STAT_OFFLOW gBrk) false).causeGone .brkLoad 40 0) := by
  subst now
  exact congrArg Host.Outcome.next (if_pos up)

/-! ### Discharge (R321, R322) -/

theorem exec_dscStart (triggered : s.triggered = true) (undone : s.bw.dscDone = false) (off : s.dscOn = false)
    (ready : s.bw.dscInh = false) (free : (s.gate gDsc).held = false) :
    exec (.dscStart t) s = .next (u.updBw fun b => { b with so0rb := false }).dscStartOn := by
  have starts : (s.triggered && !s.bw.dscDone && !s.dscOn && !s.bw.dscInh && !(s.gate gDsc).held) = true := by
    rw [triggered, undone, off, ready, free]; rfl
  subst now
  exact congrArg Host.Outcome.next (if_pos starts)

theorem exec_dscWaitExpiry {a : Nat} (triggered : s.triggered = true) (undone : s.bw.dscDone = false)
    (off : s.dscOn = false) (ready : s.bw.dscInh = false) (since : s.bw.trgAt = some a)
    (due : a + Config.ms * s.get Reg.BW_DSCCFG_WAIT ≤ t) :
    exec (.dscWaitExpiry t) s = .next
      ((u.updBw fun b => { b with dscDone := true, trgCmd := false }).raise .dscBlocked 41 0 t) := by
  have blocked : (s.triggered && !s.bw.dscDone && !s.dscOn && !s.bw.dscInh &&
      s.bw.trgAt.any fun a => decide (a + Config.ms * s.get Reg.BW_DSCCFG_WAIT ≤ t)) = true := by
    rw [triggered, undone, off, ready, since]; exact decide_eq_true due
  subst now
  exact congrArg Host.Outcome.next (if_pos blocked)

/-! ### The STO inputs (R324, R347) -/

theorem exec_stoInputLow (b : Bool) :
    exec (.stoInputLow t b) s = .next
      ((((u.set (if b then Reg.BW_STATUS_STOB else Reg.BW_STATUS_STOA) 0).updBw fun w =>
        { w with sto := true }).watchSto t b false).settle t) := by
  subst now; rfl

theorem exec_stoInputHigh (b : Bool) {v : State} {both : Bool}
    (shown : v = u.set (if b then Reg.BW_STATUS_STOB else Reg.BW_STATUS_STOA) 1)
    (pair : both = (v.bit Reg.BW_STATUS_STOA && v.bit Reg.BW_STATUS_STOB)) :
    exec (.stoInputHigh t b) s = .next
      (((v.updBw fun w => { w with sto := w.sto && !both }).watchSto t b true).settle t) := by
  subst now shown pair; rfl

/-! ### The GTRIP line (R325) -/

theorem exec_gtripLineLow {v : State} (seen : v = u.sets [(Reg.BW_GTRIP_LEVEL, 0), (Reg.BW_GTRIP_SEEN, 1)]) :
    exec (.gtripLineLow t) s = .next
      (if (v.bit Reg.BW_GTRIP_EN && !v.bit Reg.BW_GTRIP_DRIVE) = true then
        v.raise .gtrip 54 0 t (axes := 15) (sev := v.get Reg.BW_GTRIP_INSEV)
      else v) := by
  subst now seen; rfl

theorem exec_gtripLineHigh :
    exec (.gtripLineHigh t) s = .next ((u.set Reg.BW_GTRIP_LEVEL 1).causeGone .gtrip 54 0) := by
  subst now; rfl

theorem exec_gtripDriveRelease (no5 : s.bw.gt5 = false) (noOv3 : s.bw.gtOv3 = false) (noTrip : s.bw.gtTrip = 0)
    (elapsed : s.bw.gtAt + 4000 ≤ t) :
    exec (.gtripDriveRelease t) s = .next (u.set Reg.BW_GTRIP_DRIVE 0) := by
  have done : ¬ (s.bw.gt5 || s.bw.gtOv3 || s.bw.gtTrip != 0 || decide (t < s.bw.gtAt + 4000)) = true := by
    rw [no5, noOv3, noTrip, decide_eq_false (Nat.not_lt.mpr elapsed)]; decide
  subst now
  exact congrArg Host.Outcome.next (if_neg done)

end

/-! ### What is active after an arrival (R335, R336) -/

/-- An active fault acts at severity `sev` or higher on every axis of a scope. -/
def Active.Covers (b : Active) (sev : Nat) (scope : BitVec 4) : Prop :=
  sev ≤ b.sev ∧ ∀ i, scope.getLsbD i = true → b.axes.getLsbD i = true

theorem Active.covers_self (a : Active) : a.Covers a.sev a.axes := ⟨Nat.le_refl _, fun _ h => h⟩

/-- The entry of an arriving fault that is not active yet (R335). -/
def State.newActive (s : State) (f : FaultIn) (sev : Nat) (latched : Bool) : Active :=
  { name := f.name, src := f.src, inst := f.inst, sev := sev, axes := (s.scopeOf f).1, modScope := (s.scopeOf f).2,
    reac := reacOf f.name f.src sev, cause := true, latched := latched }

/-- An active fault as it arrives again (R336). -/
def State.rearrived (s : State) (f : FaultIn) (sev : Nat) (latched : Bool) (a : Active) : Active :=
  { a with
    sev := max a.sev sev, axes := a.axes ||| (s.scopeOf f).1, cause := true
    modScope := a.modScope || (s.scopeOf f).2
    reac := if a.sev < sev then reacOf f.name f.src sev else a.reac
    latched := a.latched || latched }

section
variable (s : State) (f : FaultIn) (sev : Nat) (latched : Bool)

theorem rearrived_covers_old (a : Active) : (s.rearrived f sev latched a).Covers a.sev a.axes :=
  ⟨Nat.le_max_left .., fun i on => by simp [State.rearrived, on]⟩

theorem rearrived_covers_new (a : Active) : (s.rearrived f sev latched a).Covers sev (s.scopeOf f).1 :=
  ⟨Nat.le_max_right .., fun i on => by simp [State.rearrived, on]⟩

theorem activate_active_of_new (new : s.isActive f.name f.src f.inst = false) :
    (s.activate f sev latched).fm.active = s.fm.active ++ [s.newActive f sev latched] :=
  congrArg (fun x : State => x.fm.active) (if_neg (Bool.eq_false_iff.mp new))

theorem activate_active_of_isActive (again : s.isActive f.name f.src f.inst = true) :
    (s.activate f sev latched).fm.active = s.fm.active.map fun a =>
      if a.name == f.name && a.src == f.src && a.inst == f.inst then s.rearrived f sev latched a else a :=
  congrArg (fun x : State => x.fm.active) (if_pos again)

/-- Every fault that was active still is, at its severity and scope at least. -/
theorem activate_covers_active {a : Active} (was : a ∈ s.fm.active) :
    ∃ b ∈ (s.activate f sev latched).fm.active, b.Covers a.sev a.axes := by
  cases known : s.isActive f.name f.src f.inst with
  | false =>
    rw [activate_active_of_new s f sev latched known]
    exact ⟨a, List.mem_append_left _ was, a.covers_self⟩
  | true =>
    rw [activate_active_of_isActive s f sev latched known]
    refine ⟨_, List.mem_map_of_mem was, ?_⟩
    split
    · exact rearrived_covers_old s f sev latched a
    · exact a.covers_self

/-- The arriving fault is active, at its severity and scope at least. -/
theorem activate_covers_arrival :
    ∃ b ∈ (s.activate f sev latched).fm.active, b.Covers sev (s.scopeOf f).1 := by
  cases known : s.isActive f.name f.src f.inst with
  | false =>
    rw [activate_active_of_new s f sev latched known]
    exact ⟨_, List.mem_append_right _ (List.mem_singleton_self _), (s.newActive f sev latched).covers_self⟩
  | true =>
    rw [activate_active_of_isActive s f sev latched known]
    obtain ⟨a, was, same⟩ := List.any_eq_true.mp known
    refine ⟨_, List.mem_map_of_mem was, ?_⟩
    rw [if_pos same]
    exact rearrived_covers_new s f sev latched a

end

/-! ### The reaction in force (R334) -/

theorem foldl_max_sev_le_iff {l : List Active} {m k : Nat} :
    l.foldl (fun m a => max m a.sev) m ≤ k ↔ m ≤ k ∧ ∀ a ∈ l, a.sev ≤ k := by
  induction l generalizing m with
  | nil => simp
  | cons a l ih => simp only [List.foldl_cons, ih, Nat.max_le, List.forall_mem_cons, and_assoc]

theorem reactionOf_le_iff {s : State} {n : Fin 4} {k : Nat} :
    s.reactionOf n ≤ k ↔ ∀ a ∈ s.fm.active, a.axes.getLsbD n.val = true → a.sev ≤ k := by
  simp [State.reactionOf, State.faultsOn, foldl_max_sev_le_iff]

/-- An axis reacts to a fault that covers it. -/
theorem le_reactionOf {s : State} {n : Fin 4} {b : Active} {sev : Nat} {scope : BitVec 4} (active : b ∈ s.fm.active)
    (covers : b.Covers sev scope) (on : scope.getLsbD n.val = true) : sev ≤ s.reactionOf n :=
  Nat.le_trans covers.1 (reactionOf_le_iff.mp (Nat.le_refl _) b active (covers.2 n.val on))

/-! ### The obligations -/

/-- Settles O34: each row by its branches. -/
theorem brakeDischargeAndInputRows : Obligations.BrakeDischargeAndInputRows := by
  intro t s u now
  refine ⟨fun c on confirms due => ?_, fun low up => exec_brkLoadDetected_dsc now up low, fun v up shown => ?_,
    exec_brkLoadDetected_clear now, exec_dscStart now, fun a => exec_dscWaitExpiry now, exec_stoInputLow now false,
    exec_stoInputLow now true, fun v both => exec_stoInputHigh now false, fun v both => exec_stoInputHigh now true,
    fun v seen => ?_, exec_gtripLineHigh now, exec_gtripDriveRelease now⟩
  · rw [exec_brkConfirmExpiry now on confirms due]
    exact ⟨fun stays => by rw [if_pos stays], fun fell => by rw [if_neg (Nat.not_lt.mpr fell)]⟩
  · rw [exec_brkLoadDetected_low now up shown]
    exact ⟨fun used => by rw [if_pos used], fun unused => by rw [if_neg (Bool.eq_false_iff.mp unused)]⟩
  · rw [exec_gtripLineLow now seen]
    refine ⟨fun used undriven => ?_, ?_⟩
    · rw [used, undriven]; rfl
    · rintro (unused | driven)
      · rw [unused]; rfl
      · rw [driven, Bool.not_true, Bool.and_false]; rfl

/-- Settles O51: a fault that was active, and the one that arrives, stay covered by an active fault. -/
theorem noArrivalLowersAReaction : Obligations.NoArrivalLowersAReaction := by
  intro s f sev latched n
  refine ⟨reactionOf_le_iff.mpr fun a was on => ?_, fun inScope => ?_⟩
  · obtain ⟨b, active, covers⟩ := activate_covers_active s f sev latched was
    exact le_reactionOf active covers on
  · obtain ⟨b, active, covers⟩ := activate_covers_arrival s f sev latched
    exact le_reactionOf active covers inScope

end Sys2Proof.Machine
end

section
/-! # Proofs: the cycles, outputs and frames of Lookout (R341-R343, R350, R356, R359-R365, R367)

First the rows by their branches and what becomes of a copy that a dual connection holds, then the obligations. -/

namespace Sys2Proof.Machine

section
variable {s u : State} {t : Nat} (now : u = s.upto t)
include now

/-! ### The monitoring cycle (R341-R343, R356) -/

theorem exec_lookoutCycle {r : CycleIn} {k : Nat} {v w x : State} (runs : s.get Reg.LOOKOUT_STATUS_STATE = 1)
    (cycle : k = t / 100000)
    (functions : u.lk.inForce = none ∧ v = (u.readInputs t [] r).inputRegs.dropEdges ∨
      ∃ y, u.lk.inForce = some y ∧ v = (u.lkFunctions t y.data r).sendFrames t k y.data)
    (watched : w = ((v.watchOutputs t r.so0rb r.so1rb).set Reg.LOOKOUT_DLTOKEN_TOKEN (k % 65536)).incWrap
      Reg.LOOKOUT_STATUS_CYCLE)
    (counted : x = if w.get Reg.LOOKOUT_STATUS_CYCLE % 32768 = 0 then w.incWrap Reg.LOOKOUT_SELFTEST_PASSES else w) :
    exec (.lookoutCycle t r) s = .next
      (({ x with lk := { x.lk with fresh := false, ran := true } } : State).recordRatio 4 ⟨r.busy, 100000⟩) := by
  subst now cycle watched counted
  refine congrArg Host.Outcome.next ((if_pos runs).trans ?_)
  obtain ⟨noSet, rfl⟩ | ⟨y, inForce, rfl⟩ := functions
  · simp only [noSet]
  · simp only [inForce]

theorem exec_deadlineMonitorCheck_missed (runs : s.get Reg.LOOKOUT_STATUS_STATE = 1) (ran : s.lk.ran = true)
    (other : s.get Reg.LOOKOUT_DLTOKEN_TOKEN ≠ (t / 100000 + 65535) % 65536) :
    exec (.deadlineMonitorCheck t) s = .next (u.lkInternal t 2) := by
  subst now
  exact congrArg Host.Outcome.next (if_pos ⟨runs, ran, other⟩)

theorem exec_deadlineMonitorCheck_met (sound : s.get Reg.LOOKOUT_STATUS_STATE ≠ 1 ∨ s.lk.ran = false ∨
      s.get Reg.LOOKOUT_DLTOKEN_TOKEN = (t / 100000 + 65535) % 65536) :
    exec (.deadlineMonitorCheck t) s = .next u := by
  subst now
  refine congrArg Host.Outcome.next (if_neg ?_)
  rintro ⟨runs, ran, other⟩
  obtain stopped | first | left := sound
  · exact stopped runs
  · exact Bool.false_ne_true (first.symm.trans ran)
  · exact other left

theorem exec_internalFaultReaction (c : Nat) : exec (.internalFaultReaction t c) s = .next (u.lkInternal t c) := by
  subst now; rfl

/-! ### Outputs and tests (R350, R367) -/

/-- The test pulse of an output that has been on for 10 s. -/
theorem exec_soTestPulse {o : Fin 2} {v : State} {e : Nat} (readOff : Bool) (on : s.soOn o = true)
    (since : s.lk.soSince[o] = some e) (long : e + 10 * Config.sec ≤ t)
    (pulsed : v = { u with lk := { u.lk with soSince := u.lk.soSince.set o (some (t + 120000)) } }) :
    exec (.soTestPulse t o readOff) s = .next (if readOff = true then v else v.soFailed t o) := by
  have due : (s.soOn o && s.lk.soSince[o].any fun e => decide (e + 10 * Config.sec ≤ t)) = true := by
    rw [on, Bool.true_and]; exact any_of since (decide_eq_true long)
  subst now pulsed
  exact congrArg Host.Outcome.next (if_pos due)

theorem exec_soReadbackFail {o : Fin 2} {x : SafetySet} {rb : Bool} (inForce : s.lk.inForce = some x)
    (read : rb = if o = 0 then s.bw.so0rb else s.bw.so1rb) :
    exec (.soReadbackFail t o) s = .next
      (if (rb != s.soOn o && ranFor s.lk.soDiff[o] t (beAt x.data 26 2)) = true then u.soFailed t o else u) := by
  subst now read
  refine congrArg Host.Outcome.next (?_ : soReadback t o s = _)
  unfold soReadback
  simp only [upto_lk, inForce]
  rfl

/-- A safe input that the set uses, or the STO pair, a day after its demand state. -/
theorem exec_testDueExpiry {k : Fin 5} {x : SafetySet} (inForce : s.lk.inForce = some x)
    (used : k = 4 ∨ beAt x.data (18 + k.val) 1 ≠ 0) (passive : s.inDemand k = false)
    (day : s.lk.tested[k] + 86400 * Config.sec ≤ t) :
    exec (.testDueExpiry t k) s = .next (u.raise .lkTestDue 2 0 t) := by
  have due : ((k == 4 || beAt x.data (18 + k.val) 1 != 0) && !s.inDemand k &&
      decide (s.lk.tested[k] + 86400 * Config.sec ≤ t)) = true := by
    rw [passive, decide_eq_true day, Bool.not_false, Bool.and_true, Bool.and_true, Bool.or_eq_true]
    exact used.imp beq_iff_eq.mpr bne_iff_ne.mpr
  subst now
  refine congrArg Host.Outcome.next (?_ : testDue t k s = _)
  unfold testDue
  simp only [upto_lk, inForce]
  exact if_pos due

end

/-! ### The state of a connection (R360-R365) -/

@[simp] theorem upto_conn (s : State) (t : Nat) (j : Fin 8) : (s.upto t).conn j = s.conn j := rfl

@[simp] theorem conn_updConn_same (s : State) (j : Fin 8) (f : LkConn → LkConn) :
    (s.updConn j f).conn j = f (s.conn j) :=
  Vector.getElem_set_self _

theorem updConn_congr {s : State} {j : Fin 8} {f g : LkConn → LkConn} (same : f (s.conn j) = g (s.conn j)) :
    s.updConn j f = s.updConn j g := by
  rw [State.updConn, State.updConn, same]

/-! ### A copy held alone (R361, R364) -/

section
variable {s : State} {t : Nat} {d : List Byte} {j : Fin 8} {h : LkHold}

theorem lateSingle_tolerated (tolerant : cnAt d j 5 1 = 2) (few : (s.conn j).single ≤ cnAt d j 26 1) :
    s.lateSingle t d j h =
      (s.acceptFrame t j h.ext ((h.bytes.drop 12).take (cnAt d j 28 1)) h.age ((s.conn j).single + 1)).raise
        .lkCommDegraded 2 0 t (axes := BitVec.ofNat 4 (cnAt d j 30 1)) :=
  if_pos ⟨tolerant, few⟩

theorem lateSingle_dropped (refused : cnAt d j 5 1 ≠ 2 ∨ cnAt d j 26 1 < (s.conn j).single) :
    s.lateSingle t d j h = s.dropDual t d j h.ext .single :=
  if_neg fun ⟨tolerant, few⟩ => refused.elim (absurd tolerant) (Nat.not_lt.mpr few)

variable (alone : (s.conn j).hold = [h])
include alone

theorem expireHolds_alone_early (early : t < h.at_ + cnAt d j 24 2 * Config.us) : s.expireHolds t d j = s := by
  have waits : h.over d j t = false := decide_eq_false (Nat.not_le.mpr early)
  simp only [State.expireHolds, alone, List.filter_singleton, waits, cond_false, List.foldl_nil]

theorem expireHolds_alone_over (late : h.at_ + cnAt d j 24 2 * Config.us ≤ t) :
    s.expireHolds t d j = (s.updConn j fun c => { c with hold := [] }).lateSingle t d j h := by
  have ends : h.over d j t = true := decide_eq_true late
  have gone : [h].filter (fun x => x.ext != h.ext) = [] := by simp
  simp only [State.expireHolds, alone, List.filter_singleton, ends, cond_true, List.foldl_cons, List.foldl_nil]
  exact congrArg (State.lateSingle · t d j h) (updConn_congr (by rw [alone, gone]))

end

/-! ### The arrival of a frame (R359, R360, R362, R364) -/

theorem exec_lookoutFrameArrival_foreign {s : State} {t : Nat} {x : SafetySet} {path : Fin 8} {b : List Byte}
    (inForce : s.lk.inForce = some x) (foreign : connOf x.data path (beAt b 0 4) = none) :
    exec (.lookoutFrameArrival t path b) s = .next (s.upto t) := by
  refine congrArg Host.Outcome.next (?_ : frameArrival t path b s = _)
  unfold frameArrival
  simp only [upto_lk, inForce, foreign]

section
variable {s v : State} {t : Nat} {x : SafetySet} {d : List Byte} {j path : Fin 8} {b : List Byte}
  (inForce : s.lk.inForce = some x) (data : d = x.data) (held : v = (s.upto t).expireHolds t d j)
  (own : connOf d path (beAt b 0 4) = some j)
include inForce data held own

theorem exec_lookoutFrameArrival_unreadable (unread : readFrame b = none) :
    exec (.lookoutFrameArrival t path b) s = .next (v.rejectFrame j) := by
  subst data held
  refine congrArg Host.Outcome.next (?_ : frameArrival t path b s = _)
  unfold frameArrival
  simp only [upto_lk, inForce, own, unread]

variable {f : LkFrameIn} (read : readFrame b = some f)
  (new : (isDual d j && repeats d j f (v.conn j).decided) = false)
include read new

theorem exec_lookoutFrameArrival_outside
    (bad : f.len ≠ cnAt d j 28 1 ∨ v.ageOk d j (v.frameAge d j t f.stamp) = false) :
    exec (.lookoutFrameArrival t path b) s = .next (v.rejectFrame j) := by
  have outside : (decide (f.len ≠ cnAt d j 28 1) || !v.ageOk d j (v.frameAge d j t f.stamp)) = true := by
    rw [Bool.or_eq_true, decide_eq_true_eq, Bool.not_eq_true']; exact bad
  subst data held
  refine congrArg Host.Outcome.next (?_ : frameArrival t path b s = _)
  unfold frameArrival
  simp only [upto_lk, inForce, own, read]
  exact (if_neg (Bool.eq_false_iff.mp new)).trans (if_pos outside)

variable (len : f.len = cnAt d j 28 1) (age : v.ageOk d j (v.frameAge d j t f.stamp) = true)
include len age

/-- A frame that passes with the sequence of its connection, or with its candidate. -/
theorem exec_lookoutFrameArrival_passing {e : Nat}
    (sequence : (((v.conn j).ext.orElse fun _ => (v.conn j).cand).bind (passes d j f)) = some e) :
    exec (.lookoutFrameArrival t path b) s = .next
      (if isDual d j = true then v.dualCopy t d j path e b f.payload (v.frameAge d j t f.stamp)
      else v.acceptFrame t j e f.payload (v.frameAge d j t f.stamp) 0) := by
  subst data held
  refine congrArg Host.Outcome.next (?_ : frameArrival t path b s = _)
  unfold frameArrival
  simp only [upto_lk, inForce, own, read, new, len, age, sequence, ne_eq, not_true_eq_false, decide_false,
    Bool.not_true, Bool.or_self, Bool.false_eq_true, if_false]

/-- A frame that does not pass is rejected, or before synchronisation gives a candidate. -/
theorem exec_lookoutFrameArrival_failing {w : State}
    (failing : (((v.conn j).ext.orElse fun _ => (v.conn j).cand).bind (passes d j f)) = none)
    (answer : (v.conn j).ext.isSome = true ∧ w = v.rejectFrame j ∨
      ∃ h, (v.conn j).ext = none ∧ highHalf (cnAt d j 12 4) f.body f.crc = some h ∧
        w = v.updConn j fun c => { c with cand := some (h * 65536 + f.low) }) :
    exec (.lookoutFrameArrival t path b) s = .next w := by
  subst data held
  refine congrArg Host.Outcome.next (?_ : frameArrival t path b s = _)
  unfold frameArrival
  simp only [upto_lk, inForce, own, read, new, len, age, failing, ne_eq, not_true_eq_false, decide_false,
    Bool.not_true, Bool.or_self, Bool.false_eq_true, if_false]
  obtain ⟨synced, rfl⟩ | ⟨h, unsynced, half, rfl⟩ := answer
  · exact if_pos synced
  · simp only [unsynced, half, Option.isSome_none, Bool.false_eq_true, if_false]

end

/-! ### Windows and losses (R363, R364) -/

section
variable {s u : State} {t : Nat} {x : SafetySet} {d : List Byte} {j : Fin 8} (now : u = s.upto t)
  (inForce : s.lk.inForce = some x) (data : d = x.data)
include now inForce data

theorem exec_dualWindowExpiry : exec (.dualWindowExpiry t j) s = .next (u.expireHolds t d j) := by
  subst now data
  refine congrArg Host.Outcome.next (?_ : dualExpiry t j s = _)
  unfold dualExpiry
  simp only [upto_lk, inForce]

theorem exec_connectionLoss (listed : (connsOf d).contains j = true) (receiver : receives d j = true)
    (up : (s.conn j).lost = false) (late : u.connLate t d j = true) :
    exec (.connectionLoss t j) s = .next
      (((u.updConn j fun c =>
        { c with lost := true, ext := none, cand := none, bits := [], next := none, decided := [] }).sets
          [(Reg.LOOKOUT_CONN_OK j, 0), (Reg.LOOKOUT_CONN_LOST j, 1)]).lkComm t d j .lost) := by
  subst now data
  refine congrArg Host.Outcome.next (?_ : connectionLoss t j s = _)
  unfold connectionLoss
  simp only [upto_lk, upto_conn, inForce, listed, receiver, up, late, Bool.not_false, Bool.and_self, if_true]

end

/-! ### The obligations -/

/-- Settles O37: each row by its branches. -/
theorem lookoutRows : Obligations.LookoutRows := by
  intro t s u now
  refine ⟨fun r k v w x => exec_lookoutCycle now, exec_deadlineMonitorCheck_missed now,
    exec_deadlineMonitorCheck_met now, exec_internalFaultReaction now, fun o v e on since long pulsed => ⟨?_, ?_⟩,
    fun o x rb inForce read => ?_, fun k used inForce passive day => ?_⟩
  · rw [exec_soTestPulse now true on since long pulsed, if_pos rfl]
  · rw [exec_soTestPulse now false on since long pulsed, if_neg Bool.false_ne_true]
  · rw [exec_soReadbackFail now inForce read]
    constructor
    · intro differs lasts
      rw [bne_iff_ne.mpr differs, lasts]; rfl
    · rintro (agrees | short)
      · rw [agrees, bne_self_eq_false]; rfl
      · rw [short, Bool.and_false]; rfl
  · obtain ⟨x, inForce⟩ := Option.isSome_iff_exists.mp inForce
    refine exec_testDueExpiry now inForce (used.imp_right ?_) passive day
    rintro ⟨y, same, listed⟩
    exact Option.some.inj (inForce.symm.trans same) ▸ listed

/-- Settles O38: the frame by its checks, a copy held alone by its window. -/
theorem lookoutFrameRows : Obligations.LookoutFrameRows := by
  rintro t j s u v x d rfl inForce data held
  refine ⟨fun path b foreign => ?_, fun path b => exec_lookoutFrameArrival_unreadable inForce data held,
    fun path b f e own read single len age sequence => ?_,
    fun path b f e own read dual new len age sequence => ?_, fun path b f own read single bad => ?_,
    fun path b f own read single len age failing => ?_, ?_, fun h w emptied alone => ?_,
    exec_connectionLoss rfl inForce data⟩
  · exact exec_lookoutFrameArrival_foreign inForce (data ▸ foreign)
  · rw [exec_lookoutFrameArrival_passing inForce data held own read (by rw [single]; rfl) len age sequence,
      if_neg (Bool.eq_false_iff.mp single)]
  · rw [exec_lookoutFrameArrival_passing inForce data held own read (by rw [new, Bool.and_false]) len age sequence,
      if_pos dual]
  · exact exec_lookoutFrameArrival_outside inForce data held own read (by rw [single]; rfl) bad
  · have failed {w : State} :=
      exec_lookoutFrameArrival_failing (w := w) inForce data held own read (by rw [single]; rfl) len age failing
    exact ⟨fun synced => failed (.inl ⟨synced, rfl⟩),
      fun h unsynced half => failed (.inr ⟨h, unsynced, half, rfl⟩)⟩
  · exact held ▸ exec_dualWindowExpiry rfl inForce data
  · have count : (w.conn j).single = (s.conn j).single := by rw [emptied, conn_updConn_same]; rfl
    have stays (late : h.at_ + cnAt d j 24 2 * Config.us ≤ t) : v = w.lateSingle t d j h := by
      rw [held, emptied, expireHolds_alone_over (s := s.upto t) alone late]
    rw [← count]
    exact ⟨fun early => held.trans (expireHolds_alone_early alone early),
      fun late tolerant few => (stays late).trans (lateSingle_tolerated tolerant few),
      fun late refused => (stays late).trans (lateSingle_dropped refused)⟩

end Sys2Proof.Machine
end

section
/-! # Proofs: one step, what every command keeps, and the draw of the lottery (00_scope.md, 02_time_and_order.md, R414)

First the two cases of a step and the draw among active slots, then the obligations. -/

namespace Sys2Proof.Machine

/-! ### One step -/

theorem step_of_pending_cons {c : Instr} {r : List Instr} {s : State} (front : s.pending = c :: r) :
    step s = exec c { s with pending := r } := by
  unfold step
  rw [front]

theorem step_of_pending_nil {s : State} (empty : s.pending = []) : step s = .next s.idleTick := by
  unfold step
  rw [empty]

/-! ### A draw (R414) -/

/-- The winner of the slots `act`, before which the sum of tickets stands at `sum`, is where the running sum passes
`x`: at or below `x` before it, above `x` with its tickets. -/
theorem lottery_eq_some {tk : Fin 8 → Nat} {x : Nat} {act : List (Fin 8)} {sum : Nat} (before : sum ≤ x)
    (passes : x < sum + (act.map tk).sum) : ∃ p w q, act = p ++ w :: q ∧ lottery tk x act sum = some w ∧
      sum + (p.map tk).sum ≤ x ∧ x < sum + (p.map tk).sum + tk w := by
  induction act generalizing sum with
  | nil => exact absurd passes (Nat.not_lt.mpr before)
  | cons i r ih =>
    by_cases here : x < sum + tk i
    · exact ⟨[], i, r, rfl, if_pos here, before, here⟩
    · rw [List.map_cons, List.sum_cons, ← Nat.add_assoc] at passes
      obtain ⟨p, w, q, rfl, drawn, low, high⟩ := ih (Nat.not_lt.mp here) passes
      refine ⟨i :: p, w, q, rfl, (if_neg here).trans drawn, ?_, ?_⟩ <;>
        rw [List.map_cons, List.sum_cons, ← Nat.add_assoc] <;> assumption

/-- The lot of a draw is below the number of tickets. -/
theorem lot_lt_tickets {lfsr n : Nat} (range : lfsr < 65536) (tickets : 0 < n) : lfsr * n / 65536 < n :=
  Nat.div_lt_of_lt_mul (Nat.mul_lt_mul_of_pos_right range tickets)

section
variable {tk : Fin 8 → Nat} {lfsr last : Nat} {act : List (Fin 8)}

theorem drawWinner_tickets (tickets : 0 < (act.map tk).sum) :
    drawWinner tk lfsr last act = lottery tk (lfsr * (act.map tk).sum / 65536) act 0 :=
  if_neg tickets.ne'

theorem drawWinner_no_tickets (none_held : (act.map tk).sum = 0) :
    drawWinner tk lfsr last act = (act.find? fun i => last < i.val).or act.head? :=
  if_pos none_held

/-- Without tickets the next active slot after the last winner has the grant, or the first. -/
theorem next_or_first (last : Nat) (active : act ≠ []) : ∃ w ∈ act,
    (act.find? fun i => last < i.val).or act.head? = some w ∧
      (act.find? (fun i => last < i.val) = some w ∨ (∀ i ∈ act, i.val ≤ last) ∧ act.head? = some w) := by
  cases next : act.find? fun i => last < i.val with
  | some w => exact ⟨w, List.mem_of_find?_eq_some next, rfl, .inl rfl⟩
  | none =>
    obtain ⟨w, r, rfl⟩ := List.exists_cons_of_ne_nil active
    exact ⟨w, List.mem_cons_self, rfl, .inr ⟨by simpa using next, rfl⟩⟩

end

/-! ### The obligations -/

/-- Settles O4: every command keeps what every operation keeps. -/
theorem execLeavesQueueAndOutputs : Obligations.ExecLeavesQueueAndOutputs := by
  intro c s
  obtain ⟨t, runs, kept⟩ := exec_keeps c s
  exact ⟨t, runs, kept.pending, kept.out, kept.free⟩

/-- Settles O52: with tickets by the running sums, without by the next active slot. -/
theorem lotteryDrawsByTickets : Obligations.LotteryDrawsByTickets := by
  intro tk lfsr last act active range
  rcases Nat.eq_zero_or_pos (act.map tk).sum with none_held | tickets
  · obtain ⟨w, mem, drawn, rule⟩ := next_or_first last active
    exact ⟨w, mem, (drawWinner_no_tickets none_held).trans drawn, fun some_held => absurd none_held some_held.ne',
      fun _ => rule⟩
  · obtain ⟨p, w, q, split, drawn, low, high⟩ := lottery_eq_some (act := act) (Nat.zero_le _)
      ((lot_lt_tickets range tickets).trans_eq (Nat.zero_add _).symm)
    rw [Nat.zero_add] at low high
    have holds : 0 < tk w := Nat.pos_of_lt_add_right (low.trans_lt high)
    exact ⟨w, split ▸ List.mem_append_right p List.mem_cons_self, (drawWinner_tickets tickets).trans drawn,
      fun _ => ⟨holds, p, q, split, low, high⟩, fun none_held => absurd none_held tickets.ne'⟩

/-- Settles O1: by the two cases of the queue. -/
theorem stepRunsFront : Obligations.StepRunsFront :=
  ⟨fun _ _ _ => step_of_pending_cons, fun _ => step_of_pending_nil⟩

end Sys2Proof.Machine
end

section
/-! # Proofs: accesses to cores, berths, bollards, arbiters, Logbook, performance units and the reset (R286, R397,
R399, R404-R409, R412, R414, R421, R426, R430, R432, R467)

First what each register does with an access, then the obligations. -/

namespace Sys2Proof.Machine

/-! ### Cores (R397, R399) -/

section
variable {s : State} {t : Nat} {r : Fin 4}

theorem runWritten_start (run : s.bit (Reg.BERTH_ACCTL_RUN r) = true) : s.runWritten t r false =
    s.updCore r fun c =>
      { since := some t, boot := (s.reg (Reg.BERTH_ACBOOT r)).toNat * 256, mtip := c.mtip } :=
  if_pos (by rw [run]; rfl)

theorem runWritten_stop (run : s.bit (Reg.BERTH_ACCTL_RUN r) = false) : s.runWritten t r true =
    (s.updCore r fun c => { since := none, boot := c.boot, mtip := c.mtip }).freeBollards t
      fun o => o == r.val + 1 :=
  (if_neg (by rw [run]; decide)).trans (if_pos (by rw [run]; rfl))

end

section
variable {t req : Nat} {w : Word} {s v : State}

/-- An accepted write of `BERTH_ACCTLr`. -/
theorem acctl_row {r : Fin 4} (h : (s.busAt t req true).accepted req (Reg.BERTH_ACCTL r) w = some v) :
    regWriteAt t req (Reg.BERTH_ACCTL r) w s = v.runWritten v.tide r ((s.reg (Reg.BERTH_ACCTL r)).getLsbD 0) := by
  rw [write_BERTH_ACCTL t req r w h, State.wroteBerth, if_neg (by decide), if_neg (by decide), if_neg (by decide),
    if_neg (by decide), if_pos rfl, List.headD_cons, Fin.ofNat_val_eq_self]

theorem exec_coreStart {r : Fin 4} (h : (s.busAt t req true).accepted req (Reg.BERTH_ACCTL r) w = some v) :
    exec (.coreStart t req r w) s = .next (v.runWritten v.tide r ((s.reg (Reg.BERTH_ACCTL r)).getLsbD 0)) :=
  congrArg Host.Outcome.next (acctl_row h)

theorem exec_coreReset {r : Fin 4} (h : (s.busAt t req true).accepted req (Reg.BERTH_ACCTL r) w = some v) :
    exec (.coreReset t req r w) s = .next (v.runWritten v.tide r ((s.reg (Reg.BERTH_ACCTL r)).getLsbD 0)) :=
  congrArg Host.Outcome.next (acctl_row h)

theorem exec_berthAcfltWrite (h : (s.busAt t req true).accepted req Reg.BERTH_ACFLT w = some v) :
    exec (.berthAcfltWrite t req w) s = .next (v.acFault v.tide w req) := by
  have row : regWriteAt t req Reg.BERTH_ACFLT w s = v.acFault v.tide w req := by
    rw [write_BERTH_ACFLT t req w h, State.wroteBerth, if_neg (by decide), if_neg (by decide), if_pos rfl]
  exact congrArg Host.Outcome.next row

/-! ### Configurations, bollards, arbiters, Logbook, sampling buffers and the reset -/

theorem exec_berthCfgWrite {b : Fin 32} (h : (s.busAt t req true).accepted req (Reg.BERTH_CFG b) w = some v) :
    exec (.berthCfgWrite t req b w) s = .next (v.berthConfigured b (s.reg (Reg.BERTH_CFG b))) := by
  have row : regWriteAt t req (Reg.BERTH_CFG b) w s = v.berthConfigured b (s.reg (Reg.BERTH_CFG b)) := by
    rw [write_BERTH_CFG t req b w h, State.wroteBerth, if_pos rfl, List.headD_cons]
  exact congrArg Host.Outcome.next row

theorem exec_bollardFreeWrite (h : (s.busAt t req true).accepted req Reg.BERTH_KFREE w = some v) :
    exec (.bollardFreeWrite t req w) s = .next (v.kfreeWritten v.tide w) := by
  have row : regWriteAt t req Reg.BERTH_KFREE w s = v.kfreeWritten v.tide w := by
    rw [write_BERTH_KFREE t req w h, State.wroteBerth, if_neg (by decide), if_pos rfl]
  exact congrArg Host.Outcome.next row

theorem exec_arbSeedWrite (h : (s.busAt t req true).accepted req Reg.ARB_SEED w = some v) :
    exec (.arbSeedWrite t req w) s = .next v.seedArbiters :=
  congrArg Host.Outcome.next (write_ARB_SEED t req w h)

theorem exec_logbTrigWrite (h : (s.busAt t req true).accepted req Reg.LOGB_CTL w = some v)
    (en : v.bit Reg.LOGB_CTL_EN = true) (trig : w.getLsbD 1 = true) :
    exec (.logbTrigWrite t req w) s = .next (v.logTrigger v.tide) := by
  have row : regWriteAt t req Reg.LOGB_CTL w s = v.logTriggerNow v.tide := by
    rw [write_LOGB_CTL t req w h, State.wroteLogb, if_pos rfl, if_pos en, if_pos trig]
  exact congrArg Host.Outcome.next row

theorem exec_logbDisable (h : (s.busAt t req true).accepted req Reg.LOGB_CTL w = some v)
    (was : (s.reg Reg.LOGB_CTL).getLsbD 0 = true) (off : v.bit Reg.LOGB_CTL_EN = false) :
    exec (.logbDisable t req w) s = .next v.logIdle := by
  have row : regWriteAt t req Reg.LOGB_CTL w s = v.logIdle := by
    rw [write_LOGB_CTL t req w h, State.wroteLogb, if_pos rfl, if_neg (Bool.eq_false_iff.mp off), if_pos was]
  exact congrArg Host.Outcome.next row

theorem exec_perfSampleClear {k : Fin 8} (h : (s.busAt t req true).accepted req (Reg.PERF_SCTL k) w = some v)
    (clr : w.getLsbD 18 = true) : exec (.perfSampleClear t req k w) s = .next (v.perfClear k) := by
  have row : regWriteAt t req (Reg.PERF_SCTL k) w s = v.perfClear k := by
    rw [write_PERF_SCTL t req k w h, if_pos clr, Fin.ofNat_val_eq_self]
  exact congrArg Host.Outcome.next row

theorem exec_pwrResetWrite {r : StartIn} (h : (s.busAt t req true).accepted req Reg.PWR_RESET w = some v)
    (key : wordGet w 0 16 = 0xB007) : exec (.pwrResetWrite t req w r) s = .next
      ((v.updPwr fun p => { p with restart := true }).restart v.tide .cmd r) := by
  have row : regWriteAt t req Reg.PWR_RESET w s = v.updPwr fun p => { p with restart := true } :=
    (write_PWR_RESET t req w h).trans (if_pos key)
  refine congrArg Host.Outcome.next (?_ : pwrResetWrite t req w r s = _)
  unfold pwrResetWrite
  rw [row]
  exact if_pos rfl

end

theorem berthConfigured_changed {v : State} {b : Nat} {old : Word}
    (changed : (old &&& 0x17F7F) ≠ (v.reg (Reg.BERTH_CFG b) &&& 0x17F7F))
    (full : v.bit (Reg.BERTH_STAT_FULL b) = true) :
    v.berthConfigured b old = v.set (Reg.BERTH_STAT_FULL b) 0 := if_pos ⟨changed, full⟩

theorem berthConfigured_kept {v : State} {b : Nat} {old : Word}
    (kept : (old &&& 0x17F7F) = (v.reg (Reg.BERTH_CFG b) &&& 0x17F7F) ∨ v.bit (Reg.BERTH_STAT_FULL b) = false) :
    v.berthConfigured b old = v :=
  if_neg fun ⟨changed, full⟩ => kept.elim changed (Bool.eq_false_iff.mp · full)

/-! ### Messages of berths (R404-R406, R449) -/

/-- The configuration of a berth is as before an access. -/
theorem busAt_BERTH_CFG (s : State) (t req : Nat) (st : Bool) (b : Fin 32) :
    (s.busAt t req st).reg (Reg.BERTH_CFG b) = s.reg (Reg.BERTH_CFG b) :=
  busAt_reg _ _ _ _ (by simp only [Reg.BERTH_CFG, Reg.PERF_IRQ]; omega)

theorem busAt_BERTH_STAT (s : State) (t req : Nat) (st : Bool) (b : Fin 32) :
    (s.busAt t req st).reg (Reg.BERTH_STAT b) = s.reg (Reg.BERTH_STAT b) :=
  busAt_reg _ _ _ _ (by simp only [Reg.BERTH_STAT, Reg.PERF_IRQ]; omega)

theorem get_congr {s u : State} {f : Fld} (h : u.reg f.addr = s.reg f.addr) : u.get f = s.get f := by
  rw [State.get, h, State.get]

theorem bit_congr {s u : State} {f : Fld} (h : u.reg f.addr = s.reg f.addr) : u.bit f = s.bit f := by
  rw [State.bit, get_congr h, State.bit]

/-- The right to a message word: the sender of the enabled berth (R405). -/
theorem mayWriteReg_BERTH_MSG {u : State} {req : Nat} {b : Fin 32} {i : Fin 16} {d : RDesc}
    (base : d.base = Reg.BERTH_MSG 0 0) (other : role req ≠ 6) (new : Word) :
    u.mayWriteReg req (Reg.BERTH_MSG b i) d [b.val, i.val] new =
      (u.bit (Reg.BERTH_CFG_EN b) && u.get (Reg.BERTH_CFG_SENDER b) == req) := by
  have plain : (d.base == Reg.BW_AXCFG 0) = false := by rw [base]; decide
  unfold State.mayWriteReg
  dsimp only
  rw [if_neg other, plain, base, if_neg (by decide), if_neg Bool.false_ne_true, if_neg (by decide), if_neg (by decide),
    if_neg (by decide), if_pos rfl, List.headD_cons]

/-- A word of a message from any other than the sender of the enabled berth. -/
theorem exec_berthMessageWrite_denied {t req : Nat} {b : Fin 32} {i : Fin 16} {w : Word} {s u : State}
    (now : u = s.busAt t req true) (may : u.mayWrite req 9 = true)
    (foreign : u.bit (Reg.BERTH_CFG_EN b) = false ∨ u.get (Reg.BERTH_CFG_SENDER b) ≠ req) :
    exec (.berthMessageWrite t req b i w) s = .next (u.accessError req (regAddr (Reg.BERTH_MSG b i)) 2 true) := by
  obtain ⟨d, found, base⟩ := find_of (find_BERTH_MSG b i)
  have block : Reg.BERTH_MSG b i / 0x10000 = 9 := by simp only [Reg.BERTH_MSG]; omega
  have no (new : Word) : u.mayWriteReg req (Reg.BERTH_MSG b i) d [b.val, i.val] new = false := by
    rw [mayWriteReg_BERTH_MSG base (role_of_mayWrite may), Bool.and_eq_false_iff, beq_eq_false_iff_ne]
    exact foreign
  have row : u.writeReg req (Reg.BERTH_MSG b i) w =
      (u.accessError req (regAddr (Reg.BERTH_MSG b i)) 2 true, .err 2) := by
    unfold State.writeReg State.writeListed
    simp only [block, may, found, no, Bool.not_true, Bool.not_false, Bool.false_eq_true, if_false, if_true]
  refine congrArg Host.Outcome.next
    ((regWriteAt_eq t req w s (by simp only [Reg.BERTH_MSG]; omega) (by simp only [Reg.BERTH_MSG]; omega)).trans ?_)
  rw [← now, row]

theorem exec_berthMessageWrite {t req : Nat} {b : Fin 32} {i : Fin 16} {w : Word} {s u : State}
    (now : u = s.busAt t req true) (may : u.mayWrite req 9 = true) (en : s.bit (Reg.BERTH_CFG_EN b) = true)
    (sender : s.get (Reg.BERTH_CFG_SENDER b) = req) :
    exec (.berthMessageWrite t req b i w) s = .next (u.wroteMessage b i w) := by
  subst now
  exact congrArg Host.Outcome.next (write_BERTH_MSG t req b i w may en sender)

section
variable {s : State} {b : Fin 32} {w : Word}

theorem wroteMessage_full (i : Fin 16) (full : s.bit (Reg.BERTH_STAT_FULL b) = true) : s.wroteMessage b i w =
    (s.set (Reg.BERTH_STAT_DROP b) 1).incHold (Reg.BERTH_STAT_DROPS b) := by
  have sent : s.berthSend b i w = (s.set (Reg.BERTH_STAT_DROP b) 1).incHold (Reg.BERTH_STAT_DROPS b) := if_pos full
  unfold State.wroteMessage
  simp only [sent, full, Bool.not_true, Bool.false_eq_true, and_false, if_false]
  split <;> rfl

variable (empty : s.bit (Reg.BERTH_STAT_FULL b) = false)
include empty

theorem wroteMessage_word {i : Fin 16} (early : i ≠ 15) : s.wroteMessage b i w = s.setReg (Reg.BERTH_MSG b i) w := by
  have sent : s.berthSend b i w = s.setReg (Reg.BERTH_MSG b i) w :=
    (if_neg (Bool.eq_false_iff.mp empty)).trans (if_neg early)
  unfold State.wroteMessage
  simp only [sent, early, false_and, if_false]
  split <;> rfl

end

/-- A message whose last word is stored leaves the receiver of its berth, and is shown. -/
theorem stored_message {s v : State} {b : Fin 32} {w : Word}
    (stored : v = (s.setReg (Reg.BERTH_MSG b 15) w).set (Reg.BERTH_STAT_FULL b) 1) :
    v.get (Reg.BERTH_CFG_RECEIVER b) = s.get (Reg.BERTH_CFG_RECEIVER b) ∧
      v.bit (Reg.BERTH_STAT_FULL b) = true := by
  have cfg_stat : (Reg.BERTH_STAT_FULL b).addr ≠ (Reg.BERTH_CFG_RECEIVER b).addr := by
    simp only [Reg.BERTH_STAT_FULL, Reg.BERTH_STAT, Reg.BERTH_CFG_RECEIVER, Reg.BERTH_CFG]; omega
  have cfg_msg : (Reg.BERTH_CFG_RECEIVER b).addr ≠ Reg.BERTH_MSG b 15 := by
    simp only [Reg.BERTH_CFG_RECEIVER, Reg.BERTH_CFG, Reg.BERTH_MSG]; omega
  subst stored
  constructor
  · rw [get_set_other _ _ _ _ (.inl cfg_stat)]
    exact get_congr (reg_setReg_other _ cfg_msg w)
  · rw [State.bit, get_set_same _ _ _ (show 0 + 1 ≤ 32 by decide)]
    rfl

/-- The last word of a message is stored and fills its berth; the doorbell of a receiver on another module leaves. -/
theorem wroteMessage_last {s v : State} {b : Fin 32} {w : Word} (empty : s.bit (Reg.BERTH_STAT_FULL b) = false)
    (stored : v = (s.setReg (Reg.BERTH_MSG b 15) w).set (Reg.BERTH_STAT_FULL b) 1) :
    (reqModule (s.get (Reg.BERTH_CFG_RECEIVER b)) = none → s.wroteMessage b 15 w = v) ∧
      ∀ m, reqModule (s.get (Reg.BERTH_CFG_RECEIVER b)) = some m →
        s.wroteMessage b 15 w = v.sendTo (Fin.ofNat 8 m) 4 [b.val, s.get (Reg.BERTH_CFG_RECEIVER b)] := by
  have sent : s.berthSend b 15 w = v := ((if_neg (Bool.eq_false_iff.mp empty)).trans (if_pos rfl)).trans stored.symm
  have receiver := (stored_message stored).1
  unfold State.wroteMessage
  constructor
  · intro own
    simp only [sent, receiver, own]
  · intro m remote
    simp only [sent, receiver, remote, empty, Bool.not_false, and_self, if_true]

/-- A message to another module changes no register. -/
theorem sendTo_reg (s : State) (m : Fin 8) (what : Nat) (args : List Nat) (a : Nat) :
    (s.sendTo m what args).reg a = s.reg a := by
  unfold State.sendTo
  dsimp only
  split <;> rfl

/-- The line of a berth at its receiver (R398). -/
theorem line_berth {s : State} {b : Fin 32} (full : s.bit (Reg.BERTH_STAT_FULL b) = true) :
    s.line (s.get (Reg.BERTH_CFG_RECEIVER b)) b = true := by
  rw [State.line, if_pos b.isLt, beq_self_eq_true, full]
  rfl

/-! ### Bollards (R408, R409) -/

section
variable {u : State} {req : Nat} {k : Fin 16} {w : Word}

theorem claimBollard_free (free : u.get (Reg.BERTH_KOWN_OWNER k) = 0) :
    u.claimBollard req k = (u.set (Reg.BERTH_KOWN_OWNER k) req, 0) := by
  simp only [State.claimBollard, free, if_true]
  rfl

theorem claimBollard_owned (owned : u.get (Reg.BERTH_KOWN_OWNER k) ≠ 0) :
    u.claimBollard req k = (u, BitVec.ofNat 32 (u.get (Reg.BERTH_KOWN_OWNER k))) := by
  simp only [State.claimBollard, owned, if_false]

theorem putBollard_free (zero : w = 0) (owner : u.get (Reg.BERTH_KOWN_OWNER k) = req) (some_owner : req ≠ 0) :
    u.putBollard req k w = u.set (Reg.BERTH_KOWN_OWNER k) 0 := if_pos ⟨zero, owner, some_owner⟩

theorem putBollard_bad (bad : w ≠ 0 ∨ u.get (Reg.BERTH_KOWN_OWNER k) ≠ req) :
    u.putBollard req k w = u.incHold (Reg.BERTH_KOWN_BADWR k) :=
  if_neg fun ⟨zero, owner, _⟩ => bad.elim (· zero) (· owner)

/-- A read of a bollard is its claim. -/
theorem busRead_BERTH_K (u : State) (req : Nat) (k : Fin 16) : u.busRead req (regAddr (Reg.BERTH_K k)) 4 =
    ((u.claimBollard req k).1, .ok (u.claimBollard req k).2) := by
  obtain ⟨d, found, base⟩ := find_of (find_BERTH_K k)
  have plain := norc_of found (norc_BERTH_K k)
  have block : Reg.BERTH_K k / 0x10000 = 9 := by simp only [Reg.BERTH_K]; omega
  have shown : u.viewReg req (Reg.BERTH_K k) d.base [k.val] = (u.claimBollard req k).2 := by
    unfold State.viewReg
    rw [block, base]
    rfl
  have effect : u.readEffect req (Reg.BERTH_K k) d [k.val] = (u.claimBollard req k).1 := by
    unfold State.readEffect
    simp only [plain, base, Bool.false_eq_true, if_false, List.headD_cons, Fin.ofNat_val_eq_self]
    rw [if_neg (by decide), if_neg (by decide), if_pos trivial]
  rw [busRead_reg u req found (by simp only [Reg.BERTH_K]; omega) (by simp only [Reg.BERTH_K]; omega), shown, effect]

end

theorem exec_bollardClaimRead (t req : Nat) (k : Fin 16) (s : State) :
    exec (.bollardClaimRead t req k) s = .next ((s.busAt t req false).claimBollard req k).1 :=
  congrArg Host.Outcome.next (read_BERTH_K t req k s)

theorem exec_bollardWrite {t req : Nat} {k : Fin 16} {w : Word} {s u : State} (now : u = s.busAt t req true)
    (may : u.mayWrite req 9 = true) : exec (.bollardWrite t req k w) s = .next (u.putBollard req k w) := by
  subst now
  exact congrArg Host.Outcome.next (write_BERTH_K t req k w may)

/-- The owner of a bollard is as before an access. -/
theorem busAt_owner (s : State) (t req : Nat) (st : Bool) (k : Fin 16) :
    (s.busAt t req st).get (Reg.BERTH_KOWN_OWNER k) = s.get (Reg.BERTH_KOWN_OWNER k) :=
  busAt_get _ _ _ _ (by simp only [Reg.BERTH_KOWN_OWNER, Reg.BERTH_KOWN, Reg.PERF_IRQ]; omega)

theorem get_set_owner (u : State) (k : Fin 16) (v : Nat) :
    (u.set (Reg.BERTH_KOWN_OWNER k) v).get (Reg.BERTH_KOWN_OWNER k) = v % 128 :=
  get_set_same u (Reg.BERTH_KOWN_OWNER k) v (show 0 + 7 ≤ 32 by decide)

/-! ### The obligations -/

/-- Settles O23: the row of each write, and what its register does with the word. -/
theorem berthAndBollardAccesses : Obligations.BerthAndBollardAccesses := by
  rintro t req w s u v rfl
  refine ⟨fun r h was run => ?_, fun r h was run => ?_, fun h stop => ?_, fun h warn => ?_,
    fun b h changed full => ?_, fun b h kept => ?_, exec_bollardFreeWrite, exec_arbSeedWrite, exec_logbTrigWrite,
    exec_logbDisable, fun k => exec_perfSampleClear, fun r => exec_pwrResetWrite⟩
  · rw [exec_coreStart h, was, runWritten_start run]
  · rw [exec_coreReset h, was, runWritten_stop run]
  · rw [exec_berthAcfltWrite h, State.acFault, if_pos stop]
  · rw [exec_berthAcfltWrite h, State.acFault, if_neg (Bool.eq_false_iff.mp warn)]
  · rw [exec_berthCfgWrite h, berthConfigured_changed changed full]
  · rw [exec_berthCfgWrite h, berthConfigured_kept kept]

/-- Settles O55: by the right of the writer and by FULL. -/
theorem messageWrites : Obligations.MessageWrites := by
  rintro t req b w s u now may
  have cfg : u.reg (Reg.BERTH_CFG b) = s.reg (Reg.BERTH_CFG b) := now ▸ busAt_BERTH_CFG s t req true b
  have stat : u.reg (Reg.BERTH_STAT b) = s.reg (Reg.BERTH_STAT b) := now ▸ busAt_BERTH_STAT s t req true b
  have receiver : u.get (Reg.BERTH_CFG_RECEIVER b) = s.get (Reg.BERTH_CFG_RECEIVER b) := get_congr cfg
  have filled : u.bit (Reg.BERTH_STAT_FULL b) = s.bit (Reg.BERTH_STAT_FULL b) := bit_congr stat
  refine ⟨fun k foreign => exec_berthMessageWrite_denied now may ?_, fun en sender =>
    ⟨fun k full => ?_, fun k early empty => ?_, fun empty => ?_⟩⟩
  · rw [bit_congr (f := Reg.BERTH_CFG_EN b) cfg, get_congr (f := Reg.BERTH_CFG_SENDER b) cfg]
    exact foreign
  · rw [exec_berthMessageWrite now may en sender, wroteMessage_full k (filled.trans full)]
  · rw [exec_berthMessageWrite now may en sender, wroteMessage_word (filled.trans empty) early]
  · obtain ⟨v, stored⟩ : ∃ v, v = (u.setReg (Reg.BERTH_MSG b 15) w).set (Reg.BERTH_STAT_FULL b) 1 := ⟨_, rfl⟩
    obtain ⟨own, remote⟩ := wroteMessage_last (filled.trans empty) stored
    obtain ⟨same, full⟩ := stored_message stored
    rw [receiver] at own remote same
    have kept (a : Nat) : (u.wroteMessage b 15 w).reg a = v.reg a := by
      cases place : reqModule (s.get (Reg.BERTH_CFG_RECEIVER b)) with
      | none => rw [own place]
      | some m => rw [remote m place, sendTo_reg]
    have shown : (u.wroteMessage b 15 w).get (Reg.BERTH_CFG_RECEIVER b) = s.get (Reg.BERTH_CFG_RECEIVER b) :=
      (get_congr (kept (Reg.BERTH_CFG b))).trans same
    exact ⟨v, _, stored, exec_berthMessageWrite now may en sender, own, remote,
      shown ▸ line_berth ((bit_congr (kept (Reg.BERTH_STAT b))).trans full)⟩

/-- Settles O56: a read of a bollard is its claim. -/
theorem bollardReads : Obligations.BollardReads := by
  rintro t req k s u now
  have owner : u.get (Reg.BERTH_KOWN_OWNER k) = s.get (Reg.BERTH_KOWN_OWNER k) := now ▸ busAt_owner s t req false k
  refine ⟨fun free => ?_, fun owned => ?_⟩
  · rw [exec_bollardClaimRead, ← now, busRead_BERTH_K, claimBollard_free (owner.trans free)]
    exact ⟨rfl, rfl, fun small => (get_set_owner u k req).trans (Nat.mod_eq_of_lt small)⟩
  · rw [exec_bollardClaimRead, ← now, busRead_BERTH_K, claimBollard_owned (owner ▸ owned), owner]
    exact ⟨rfl, rfl⟩

/-- Settles O57: by the word and the owner. -/
theorem bollardWrites : Obligations.BollardWrites := by
  rintro t req k w s u now may
  have owner : u.get (Reg.BERTH_KOWN_OWNER k) = s.get (Reg.BERTH_KOWN_OWNER k) := now ▸ busAt_owner s t req true k
  rw [exec_bollardWrite now may, ← owner]
  exact ⟨fun ⟨zero, own⟩ some_owner => ⟨by rw [putBollard_free zero own some_owner], get_set_owner u k 0⟩,
    fun bad => by rw [putBollard_bad bad]⟩

/-- Settles O59: by the receiver of the message, and as the capture is defined. -/
theorem messageReads : Obligations.MessageReads := by
  rintro t req s u rfl
  refine ⟨fun b receiver some_req => ?_, fun b other => ?_, fun n => rfl⟩
  · exact congrArg Host.Outcome.next ((read_BERTH_MSG t req b s).trans (if_pos ⟨receiver, some_req⟩))
  · exact congrArg Host.Outcome.next ((read_BERTH_MSG t req b s).trans
      (if_neg fun ⟨receiver, some_req⟩ => other.elim (· receiver) some_req))

end Sys2Proof.Machine
end

section
/-! # Proofs: the events of the CAN controllers (R384-R391)

First the rows by their branches, then the obligation. -/

namespace Sys2Proof.Machine

section
variable {t : Nat} {c : Fin 4} {s u : State} (now : u = s.upto t)
include now

/-! ### Reception (R384, R387) -/

section
variable {f : CanFrame} (en : s.bit (Reg.CAN_CTL_EN c) = true) (onBus : s.get (Reg.CAN_STATUS_STATE c) ≠ 2)
  (outside : s.get (Reg.CAN_CTL_MODE c) ≠ 2)
include en onBus outside

/-- An enabled controller that is on the bus and not in loopback takes the frame by its format. -/
theorem exec_canFrameReceived : exec (.canFrameReceived t c f) s = .next
    (if (f.fdf && !s.bit (Reg.CAN_CTL_FDEN c)) = true then u.canForm t c
    else ((u.updCan c fun x => { x with rec_ := recAfter x.rec_ }).canErrState t c).canRoute t c f) := by
  have listens : ¬ (!s.bit (Reg.CAN_CTL_EN c) || s.get (Reg.CAN_STATUS_STATE c) == 2 ||
      s.get (Reg.CAN_CTL_MODE c) == 2) = true := by
    rw [en, beq_eq_false_iff_ne.mpr onBus, beq_eq_false_iff_ne.mpr outside]; decide
  subst now
  exact congrArg Host.Outcome.next (if_neg listens)

theorem exec_canFrameReceived_taken (format : f.fdf = false ∨ s.bit (Reg.CAN_CTL_FDEN c) = true) :
    exec (.canFrameReceived t c f) s = .next
      (((u.updCan c fun x => { x with rec_ := recAfter x.rec_ }).canErrState t c).canRoute t c f) := by
  have known : (f.fdf && !s.bit (Reg.CAN_CTL_FDEN c)) = false := by
    rw [Bool.and_eq_false_iff, Bool.not_eq_false']; exact format
  rw [exec_canFrameReceived now en onBus outside, if_neg (Bool.eq_false_iff.mp known)]

theorem exec_canFrameReceived_form (fd : f.fdf = true) (fden : s.bit (Reg.CAN_CTL_FDEN c) = false) :
    exec (.canFrameReceived t c f) s = .next (u.canForm t c) := by
  rw [exec_canFrameReceived now en onBus outside, fd, fden]
  rfl

end

/-! ### Transmission (R389, R390) -/

theorem exec_canTxStart {b : Fin 16} (en : s.bit (Reg.CAN_CTL_EN c) = true)
    (onBus : s.get (Reg.CAN_STATUS_STATE c) ≠ 2) (sends : s.get (Reg.CAN_CTL_MODE c) ≠ 1)
    (free : (s.canCtl c).cur = none) (wins : s.txPick c = some b) :
    exec (.canTxStart t c) s = .next
      (u.updCan c fun x => { x with cur := some b, sof := u.tide, abort := false }) := by
  have starts : (s.bit (Reg.CAN_CTL_EN c) && s.get (Reg.CAN_STATUS_STATE c) != 2 &&
      s.get (Reg.CAN_CTL_MODE c) != 1 && (s.canCtl c).cur.isNone) = true := by
    rw [en, bne_iff_ne.mpr onBus, bne_iff_ne.mpr sends, free]; rfl
  have picked : (s.upto t).txPick c = some b := wins
  subst now
  refine congrArg Host.Outcome.next ((if_pos starts).trans ?_)
  simp only [picked]

section
variable {b : Fin 16} {v : State} (sent : (s.canCtl c).cur = some b)
  (ended : v = u.updCan c (fun x => { x with cur := none, abort := false }))
include sent ended

theorem exec_canTxComplete_sent {f : CanFrame} {w x : State}
    (frame : f = { v.txFrame c b with sof := (s.canCtl c).sof })
    (shown : w = ((((v.sets [(Reg.CAN_TXCTL_STATE c b, 2), (Reg.CAN_TXSTL_STAMP c b, (s.canCtl c).sof),
      (Reg.CAN_TXSTH_STAMP c b, (s.canCtl c).sof / 2 ^ 32), (Reg.CAN_IRQ_TXDONE c, 1)]).updCan c fun x =>
        { x with tec := x.tec - 1 }).canErrState t c).measureDelay c f))
    (left : x = if w.get (Reg.CAN_CTL_MODE c) = 2 then w.canRoute t c f else w.emit (.can c b)) :
    exec (.canTxComplete t c true) s = .next (x.canFeed c) := by
  have attempt : ((s.upto t).canCtl c).cur = some b := sent
  subst now ended frame shown left
  refine congrArg Host.Outcome.next (?_ : canComplete t c true s = _)
  unfold canComplete
  simp only [attempt]
  rfl

theorem exec_canTxComplete_failed : exec (.canTxComplete t c false) s = .next
    (if (s.canCtl c).abort = true then (v.txAborted c b).canFeed c else v) := by
  have attempt : ((s.upto t).canCtl c).cur = some b := sent
  subst now ended
  refine congrArg Host.Outcome.next (?_ : canComplete t c false s = _)
  unfold canComplete
  simp only [attempt]
  rfl

end

/-! ### Errors (R391) -/

theorem exec_canBusError (k : Fin 7) (tecUp recUp : Nat) (en : s.bit (Reg.CAN_CTL_EN c) = true)
    (onBus : s.get (Reg.CAN_STATUS_STATE c) ≠ 2) : exec (.canBusError t c k tecUp recUp) s = .next
      (((u.set (Reg.CAN_STATUS_LASTERR c) k).updCan c fun x =>
        { x with tec := x.tec + tecUp, rec_ := min 255 (x.rec_ + recUp) }).canErrState t c) := by
  have counts : (s.bit (Reg.CAN_CTL_EN c) && s.get (Reg.CAN_STATUS_STATE c) != 2) = true := by
    rw [en, bne_iff_ne.mpr onBus]; rfl
  subst now
  exact congrArg Host.Outcome.next (if_pos counts)

theorem exec_canBusOffRecovery (off : s.get (Reg.CAN_STATUS_STATE c) = 2) :
    exec (.canBusOffRecovery t c) s = .next
      (((u.updCan c fun x => { x with tec := 0, rec_ := 0 }).set (Reg.CAN_STATUS_STATE c) 0).canCounters c) := by
  subst now
  exact congrArg Host.Outcome.next (if_pos off)

end

/-! ### The obligation -/

/-- Settles O40: each row by its branches. -/
theorem canRows : Obligations.CanRows := by
  intro t c s u now
  refine ⟨fun f en onBus outside => ⟨exec_canFrameReceived_taken now en onBus outside,
      exec_canFrameReceived_form now en onBus outside⟩, fun b => exec_canTxStart now,
    fun b f v w x sent ended => exec_canTxComplete_sent now sent ended, fun b v sent ended => ⟨?_, ?_⟩,
    exec_canBusError now, exec_canBusOffRecovery now⟩
  · intro aborts
    rw [exec_canTxComplete_failed now sent ended, if_pos aborts]
  · intro pends
    rw [exec_canTxComplete_failed now sent ended, if_neg (Bool.eq_false_iff.mp pends)]

end Sys2Proof.Machine
end

section
/-! # Proofs: timers, memory, the flash berth, arbiters, the Logbook's ring and bandwidth windows (R396, R401, R403,
R413-R416, R420, R421, R427)

First the rows by their branches, then the obligation. -/

namespace Sys2Proof.Machine

section
variable {t : Nat} {s u : State} (now : u = s.upto t)
include now

/-! ### Timers and the scrubber (R396, R401) -/

theorem exec_machineTimerInterrupt (r : Fin 4) : exec (.machineTimerInterrupt t r) s = .next
    (u.updCore r fun c => { c with mtip := decide (u.mtimecmp r ≤ u.mtime) }) := by
  subst now; rfl

theorem exec_patrolScrubRead_sound (a : Nat) : exec (.patrolScrubRead t a 0) s = .next
    { u with ecc := u.ecc.filter (· != eccUnit a) } := by
  subst now; rfl

theorem exec_patrolScrubRead_corrected (a : Nat) : exec (.patrolScrubRead t a 1) s = .next
    (({ u with ecc := u.ecc.filter (· != eccUnit a) } : State).eccCorr t a) := by
  subst now; rfl

theorem exec_patrolScrubRead_fatal (a : Nat) : exec (.patrolScrubRead t a 2) s = .next
    (({ u with ecc := eccUnit a :: u.ecc.filter (· != eccUnit a) } : State).eccFatal t a) := by
  subst now; rfl

/-! ### The flash berth (R403) -/

section
variable {d : List Byte} (full : s.bit (Reg.BERTH_STAT_FULL 8) = true) (idle : s.flash = none)
  (descriptor : d = u.berthBytes 8)
include full idle descriptor

theorem exec_flashBerthDescriptor_bad {o : Nat} (bad : u.badFlash d = some o) :
    exec (.flashBerthDescriptor t) s = .next (u.flashDone (leAt d 24 8) (some o) (leAt d 4 4)) := by
  subst now descriptor
  refine congrArg Host.Outcome.next ((if_pos ⟨full, idle⟩).trans ?_)
  simp only [bad]

theorem exec_flashBerthDescriptor_good (good : u.badFlash d = none) :
    exec (.flashBerthDescriptor t) s = .next
      { u with
        flash := some { program := leAt d 0 1 == 2, off := leAt d 4 4, src := leAt d 8 8
                        len := leAt d 16 4, done := leAt d 24 8 } } := by
  subst now descriptor
  refine congrArg Host.Outcome.next ((if_pos ⟨full, idle⟩).trans ?_)
  simp only [good]

end

section
variable {j : FlashJob} (job : s.flash = some j)
include job

theorem exec_flashOperationComplete_program (program : j.program = true) :
    exec (.flashOperationComplete t) s = .next
      { (({ u with free := u.free + 1 } : State).setBytes (storeBase + j.off)
          ((u.bytes j.src j.len).zipIdx.map fun p =>
            programByte u.free p.2 (u.byte (storeBase + j.off + p.2)) p.1)).flashDone j.done none j.off with
        flash := none } := by
  subst now
  refine congrArg Host.Outcome.next (?_ : flashComplete t s = _)
  unfold flashComplete
  simp only [upto_flash, job, program, if_true]

theorem exec_flashOperationComplete_erase (erase : j.program = false) :
    exec (.flashOperationComplete t) s = .next
      { (u.setBytes (storeBase + j.off) (List.replicate 65536 0xFF)).flashDone j.done none j.off with
        flash := none } := by
  subst now
  refine congrArg Host.Outcome.next (?_ : flashComplete t s = _)
  unfold flashComplete
  simp only [upto_flash, job, erase, Bool.false_eq_true, if_false]

end

/-! ### The arbiters (R413-R416) -/

theorem exec_arbiterDraw_held {a : Fin 3} {req : Nat}
    (held : (u.holds a && (u.arb[a]).owner.any req.testBit) = true) :
    exec (.arbiterDraw t a req) s = .next u := by
  subst now
  exact congrArg Host.Outcome.next (if_pos held)

section
variable {a : Fin 3} {req : Nat} {act : List (Fin 8)} (active : act = u.activeSlots a req)
  (free : (u.holds a && (u.arb[a]).owner.any req.testBit) = false)
include active free

theorem exec_arbiterDraw_single (single : act.length < 2) :
    exec (.arbiterDraw t a req) s = .next (act.foldl (fun s w => s.own a w) u) := by
  subst now active
  exact congrArg Host.Outcome.next ((if_neg (Bool.eq_false_iff.mp free)).trans (if_pos single))

theorem exec_arbiterDraw_drawn {losers : List (Fin 8)} {w : Fin 8} {x y : Arb} {v : State} (several : 2 ≤ act.length)
    (before : x = u.arb[a]) (drawn : drawWinner (u.tickets a) (lfsrStep x.lfsr) x.last act = some w)
    (others : losers = act.filter (fun i => i != w)) (granted : v = u.own a w)
    (after : y = losers.foldl (fun x i => x.lose v.tide (slotTicks a) i)
      { v.arb[a] with lfsr := lfsrStep x.lfsr, last := w.val, len := x.len.set w 0 }) :
    exec (.arbiterDraw t a req) s = .next
      (losers.foldl (fun s i => s.incHold (arbLoss a i))
        (({ v with arb := v.arb.set a y } : State).incHold (arbWin a w))) := by
  subst now active before others granted after
  refine congrArg Host.Outcome.next
    ((if_neg (Bool.eq_false_iff.mp free)).trans ((if_neg (Nat.not_lt.mpr several)).trans ?_))
  simp only [drawn]

end

theorem exec_backoffExpiry {a : Fin 3} {i : Fin 8} {b : Nat} (backs : (s.arb[a]).off[i] = some b)
    (due : b ≤ u.tide) : exec (.backoffExpiry t a i) s = .next
      { u with arb := u.arb.set a { u.arb[a] with off := (u.arb[a]).off.set i none } } := by
  subst now
  exact congrArg Host.Outcome.next (if_pos (any_of backs (decide_eq_true due)))

/-! ### The ring of the Logbook (R420, R421) -/

theorem exec_logbookBlockWrite {b : LogBlock} {r : List LogBlock} (waits : s.logb.queue = b :: r)
    (records : s.recording = true) : exec (.logbookBlockWrite t) s = .next
      ((u.updLogb fun k => { k with queue := r }).writeBlock b).queueFull := by
  subst now
  refine congrArg Host.Outcome.next (?_ : logbookBlockWrite t s = _)
  unfold logbookBlockWrite
  simp only [upto_logb, waits]
  exact if_pos records

theorem exec_logbookFreeze (triggered : s.get Reg.LOGB_STAT_STATE = 2)
    (due : u.trigT + s.logb.post * 400000 ≤ u.tide) :
    exec (.logbookFreeze t) s = .next (u.logFreeze u.tide) := by
  subst now
  exact congrArg Host.Outcome.next (if_pos ⟨triggered, due⟩)

/-! ### Bandwidth windows (R427) -/

theorem exec_bandwidthWindowEnd {l : List Nat} {v w : State}
    (multiple : u.tide % (u.get Reg.PERF_BWWIN_US * 400) = 0)
    (given : v = (l.take 22).zipIdx.foldl (fun s p => s.set (Reg.PERF_BW_UNITS p.2) p.1) u)
    (latched : w = ([0, 1, 2, 3, 4] : List (Fin 5)).foldl (fun s p => s.sets
      [(Reg.PERF_BW_UNITS (8 + 2 * p.val), s.eth.rx[p] / 64),
        (Reg.PERF_BW_UNITS (9 + 2 * p.val), s.eth.tx[p] / 64)]) v) :
    exec (.bandwidthWindowEnd t l) s = .next
      (State.incWrap
        { w with eth := { w.eth with rx := Vector.replicate 5 0, tx := Vector.replicate 5 0 } }
        Reg.PERF_BWSTAT_WINDOWS) := by
  subst now given latched
  exact congrArg Host.Outcome.next (if_pos multiple)

end

/-! ### The obligation -/

/-- Settles O41: each row by its branches. -/
theorem coreMemoryAndRecordRows : Obligations.CoreMemoryAndRecordRows := by
  intro t s u now
  exact ⟨exec_machineTimerInterrupt now,
    fun a => ⟨exec_patrolScrubRead_sound now a, exec_patrolScrubRead_corrected now a,
      exec_patrolScrubRead_fatal now a⟩,
    fun d full idle descriptor => ⟨fun o => exec_flashBerthDescriptor_bad now full idle descriptor,
      exec_flashBerthDescriptor_good now full idle descriptor⟩,
    fun j => exec_flashOperationComplete_program now, fun j => exec_flashOperationComplete_erase now,
    fun a req act active => ⟨exec_arbiterDraw_held now, exec_arbiterDraw_single now active⟩,
    fun a req act losers w x y v active several free => exec_arbiterDraw_drawn now active free several,
    fun a i b => exec_backoffExpiry now, fun b r => exec_logbookBlockWrite now, exec_logbookFreeze now,
    fun l v w => exec_bandwidthWindowEnd now⟩

end Sys2Proof.Machine
end

section
/-! # Proofs: power entry, the budget, loss of power, and starts (R423, R458-R462, R466, R467, R469-R473)

First the rows by their branches, then the obligation. -/

namespace Sys2Proof.Machine

section
variable {t : Nat} {s u : State} (now : u = s.upto t)
include now

/-! ### Inputs and the budget (R458-R462) -/

theorem exec_inputValidityChange {ka valid : Bool} {v w : State}
    (shown : v = u.setB (if ka then Reg.PWR_STATUS_KAVALID else Reg.PWR_STATUS_ACVALID) valid)
    (formed : w = (if ka || valid then v else v.set Reg.PWR_STATUS_ACHIGH 0).reCond) :
    exec (.inputValidityChange t ka valid) s = .next
      (if s.bit (if ka then Reg.PWR_STATUS_KAVALID else Reg.PWR_STATUS_ACVALID) && !valid &&
          w.bit (if ka then Reg.PWR_STATUS_ACVALID else Reg.PWR_STATUS_KAVALID) then
        w.raise .pwrSrcLost 7 (if ka then 1 else 0) w.tide else w) := by
  rw [formed, shown, now]
  rfl

theorem exec_inputConditionChange {high : Bool} {v : State} (valid : s.bit Reg.PWR_STATUS_ACVALID = true)
    (formed : v = (u.setB Reg.PWR_STATUS_ACHIGH high).reCond) :
    exec (.inputConditionChange t high) s = .next
      (if v.get Reg.PWR_BUDGET_BUDGET < u.get Reg.PWR_BUDGET_BUDGET then v.raise .pwrLowLine 7 0 v.tide else v) := by
  rw [formed, now]
  exact congrArg Host.Outcome.next (if_pos valid)

theorem exec_budgetGraceExpiry : exec (.budgetGraceExpiry t) s = .next
    (([0, 1, 2, 3] : List (Fin 4)).foldl (fun (s : State) _ => s.shedOver)
      (u.pwr.accepted.reverse.foldl State.unqueueOver u)).finishStart := by
  subst now; rfl

theorem exec_railEnableSlot {v w : State} (queued : s.pwr.queue ≠ [])
    (due : (s.pwr.slotAt.all fun a => decide (a + 5 * Config.ms ≤ u.tide)) = true)
    (enabled : v = (u.pwr.queue.take 4).foldl (fun (s : State) g => s.railOn s.tide g) u)
    (shown : w = v.set Reg.PWR_SLOT_SLOT
      (if (u.pwr.queue.drop 4).isEmpty then 7 else min 6 (v.get Reg.PWR_SLOT_SLOT + 1))) :
    exec (.railEnableSlot t) s = .next
      (w.updPwr fun p => { p with queue := u.pwr.queue.drop 4, slotAt := some w.tide }).reBudget := by
  have starts : ¬ (s.pwr.queue.isEmpty ||
      !s.pwr.slotAt.all fun a => decide (a + 5 * Config.ms ≤ u.tide)) = true := by
    rw [due, List.isEmpty_eq_false_iff.mpr queued]; decide
  subst now enabled shown
  exact congrArg Host.Outcome.next (if_neg starts)

/-! ### Loss of power and its return (R423, R469-R472) -/

theorem exec_powerLossSignal {v w : State} (supplied : s.pwr.off = false) (first : s.bit Reg.PWR_STATUS_LOSS = false)
    (noInput : s.get Reg.PWR_STATUS_COND = 0)
    (shown : v = (u.sets [(Reg.PWR_STATUS_LOSS, 1), (Reg.PWR_IRQ_LOSS, 1)]).updPwr fun p =>
      { p with lwDue := if p.up then some t else p.lwDue })
    (triggered : w = if v.bit Reg.BW_DSCCFG_ONLOSS then
      v.updBw fun b => b.trigger t b.trgLoss fun b => { b with trgLoss := true } else v) :
    exec (.powerLossSignal t) s = .next (w.raise .pwrLoss 7 0 t) := by
  have comes : ¬ (s.pwr.off || s.bit Reg.PWR_STATUS_LOSS || s.get Reg.PWR_STATUS_COND != 0) = true := by
    rw [supplied, first, noInput]; decide
  subst now shown triggered
  exact congrArg Host.Outcome.next (if_neg comes)

section
variable {st : Nat} {v : State} (due : s.pwr.lwDue = some st)
  (drawn : v = { u with free := u.free + 2, pwr := { u.pwr with lwDue := none } })
include due drawn

theorem exec_lastWordsWrite_written {a : Nat} {b : List Byte} (summary : b = u.lwSummary u.tide st)
    (slot : a = lwBase + 4096 * u.lwNext) : exec (.lastWordsWrite t true) s = .next
      (v.setBytes a (b ++ leBytes 4 (crc32c b).toNat)) := by
  rw [drawn, slot, summary, now]
  refine congrArg Host.Outcome.next (?_ : lastWords t true s = _)
  unfold lastWords
  simp only [upto_pwr, due, if_true]

theorem exec_lastWordsWrite_failed {a : Nat} (slot : a = lwBase + 4096 * u.lwNext) :
    exec (.lastWordsWrite t false) s = .next
      (((v.freeBytes 4096).2.setBytes a (v.freeBytes 4096).1).raise .logbLastwordsFail 55 0 t) := by
  rw [drawn, slot, now]
  refine congrArg Host.Outcome.next (?_ : lastWords t false s = _)
  unfold lastWords
  simp only [upto_pwr, due, Bool.false_eq_true, if_false]

end

theorem exec_xDomainDscEnd (xDsc : s.pwr.xDsc = true) (ends : s.dscOn = false ∨ u.xDscOver t = true) :
    exec (.xDomainDscEnd t) s = .next
      (((u.updPwr fun p => { p with xDsc := false }).set Reg.BW_STATUS_DSCON 0).updBw fun b =>
        { b with dscDone := true }) := by
  have stops : (s.pwr.xDsc && (!s.dscOn || u.xDscOver t)) = true := by
    rw [xDsc, Bool.true_and, Bool.or_eq_true, Bool.not_eq_true']; exact ends
  subst now
  exact congrArg Host.Outcome.next (if_pos stops)

theorem exec_powerLossClear (loss : s.bit Reg.PWR_STATUS_LOSS = true) (supplied : s.pwr.off = false)
    (input : s.get Reg.PWR_STATUS_COND ≠ 0) : exec (.powerLossClear t) s = .next
      ((((u.set Reg.PWR_STATUS_LOSS 0).causeGone .pwrLoss 7 0).updBw fun b => { b with trgLoss := false }).updPwr
        fun p => { p with resume := p.resume || p.starting }) := by
  have clears : (s.bit Reg.PWR_STATUS_LOSS && !s.pwr.off && s.get Reg.PWR_STATUS_COND != 0) = true := by
    rw [loss, supplied, bne_iff_ne.mpr input]; rfl
  subst now
  exact congrArg Host.Outcome.next (if_pos clears)

/-- The gate channels of the legs as the storage bus collapses: each that is on is turned off by its die, and every
converter stops (R470). -/
theorem exec_storageBusCollapse {v w : State} (loss : s.bit Reg.PWR_STATUS_LOSS = true)
    (dark : v = (List.finRange 24).foldl (fun (s : State) (g : Fin 24) =>
      ((if s.chOn s.tide ⟨g.val, by omega⟩ then s.softOff s.tide ⟨g.val, by omega⟩ else s).updGate ⟨g.val, by omega⟩
        fun x => { x with holds := { x.holds with die := true } }).railOff ⟨g.val, by omega⟩) u)
    (opened : w = ((v.eachAxis fun (s : State) (n : Fin 4) => s.setMode s.tide n .off).setB Reg.BW_STATUS_BRKON
      false).updBw (fun b =>
        { b with so0Open := true, so1Open := true, so0rb := false, so1rb := false, brkConf := none })) :
    exec (.storageBusCollapse t) s = .next
      (w.updPwr fun p =>
        { p with
          queue := [], accepted := [], up := false, off := true, xDsc := w.dscOn, offAt := some t
          lwDue := none }) := by
  subst now dark opened
  exact congrArg Host.Outcome.next (if_pos loss)

/-! ### Rails, starts and restarts (R466, R467, R472, R473) -/

theorem exec_railFailure {ch : Nat} (lo : 47 ≤ ch) (hi : ch ≤ 53) :
    exec (.railFailure t ch) s = .next (u.raise .pwrRail 7 ch t) := by
  subst now
  exact congrArg Host.Outcome.next (if_pos ⟨lo, hi⟩)

theorem exec_supervisorWatchdogExpiry (r : StartIn) (up : s.pwr.up = true) :
    exec (.supervisorWatchdogExpiry t r) s = .next (u.restart u.tide .wdog r) := by
  subst now
  exact congrArg Host.Outcome.next (if_pos up)

theorem exec_resumedStart (r : StartIn) (resume : s.pwr.resume = true) (clear : s.bit Reg.PWR_STATUS_LOSS = false) :
    exec (.resumedStart t r) s = .next (u.restart u.tide .lossret r) := by
  have resumes : (s.pwr.resume && !s.bit Reg.PWR_STATUS_LOSS) = true := by rw [resume, clear]; rfl
  subst now
  exact congrArg Host.Outcome.next (if_pos resumes)

end

theorem exec_powerOnReset (t : Nat) (s : State) (r : StartIn) :
    exec (.powerOnReset t r) s = .next ((s.powerUp t r).bootSteps t r true false) := rfl

/-! ### The obligation -/

/-- Settles O42: each row by its branches. -/
theorem powerRows : Obligations.PowerRows := by
  intro t s u now
  exact ⟨fun ka valid v w => exec_inputValidityChange now, fun high v => exec_inputConditionChange now,
    exec_budgetGraceExpiry now, fun v w => exec_railEnableSlot now, fun v w => exec_powerLossSignal now,
    fun st a b v due summary slot drawn => ⟨exec_lastWordsWrite_written now due drawn summary slot,
      exec_lastWordsWrite_failed now due drawn slot⟩,
    exec_xDomainDscEnd now, exec_powerLossClear now, fun ch => exec_railFailure now, exec_powerOnReset t s,
    exec_supervisorWatchdogExpiry now, exec_resumedStart now, fun v w => exec_storageBusCollapse now⟩

end Sys2Proof.Machine
end

section
/-! # Proofs: the ports of the Mooring link, beacons and retransmissions (R435-R441, R444, R447, R454)

First the rows by their branches and what a joined member does with a beacon, then the obligation. -/

namespace Sys2Proof.Machine

section
variable {t : Nat} {p : Fin 2} {s u : State} (now : u = s.upto t)
include now

/-! ### Ports (R435, R437, R438, R454) -/

theorem exec_portUp {peer : Fin 8} {pp : Fin 2} {serial pol trips : Nat} {v : State} (on : s.moorOn = true)
    (other : serial ≠ s.serialNat)
    (shown : v = State.updMoor ((u.sets [(Reg.MOOR_PSTAT_UP p, 1), (Reg.MOOR_PSTAT_TRAIN p, 0),
      (Reg.MOOR_PSTAT_PEER p, peer), (Reg.MOOR_PSTAT_PEERPORT p, pp), (Reg.MOOR_PSTAT_PEERVALID p, 1),
      (Reg.MOOR_PSTAT_POLINV p, pol), (Reg.MOOR_HOPDLY_DELAY p, hopDelay trips)]).incWrap (Reg.MOOR_HOPDLY_CALS p))
      (fun m => { m with heard := m.heard.set p false })) :
    exec (.portUp t p peer pp serial pol trips) s = .next
      (if peer = v.mid then v.raise .moorIdDup 54 peer t (inst := peer) else v) := by
  have joins : ¬ (!s.moorOn || serial == s.serialNat) = true := by
    rw [on, beq_eq_false_iff_ne.mpr other]; decide
  rw [shown, now]
  exact congrArg Host.Outcome.next (if_neg joins)

theorem exec_portDown {lost : Nat} {v w x y : State} {cut : List (Fin 8)} (on : s.moorOn = true)
    (up : s.bit (Reg.MOOR_PSTAT_UP p) = true)
    (shown : v = ((u.sets [(Reg.MOOR_PSTAT_UP p, 0), (Reg.MOOR_PSTAT_TRAIN p, 1),
      (Reg.MOOR_PSTAT_PEERVALID p, 0)]).incHold (Reg.MOOR_ERR_DOWN p)).updMoor
        (fun m => { m with heard := m.heard.set p false }))
    (cutOff : cut = (mids8.filter fun (m : Fin 8) => lost.testBit m && m != v.mid && v.bit (Reg.MOOR_MEMBER_PRESENT m)))
    (left : w = cut.foldl (fun (s : State) (m : Fin 8) => s.loseModule t m) v)
    (rerouted : x = if cut.isEmpty && v.bit Reg.MOOR_GSTAT_TOPO then (w.reroute p).ringBroken t else w)
    (pathed : y = if x.following && !x.leadPath then x.losePath t else x) :
    exec (.portDown t p lost) s = .next (y.set Reg.MOOR_GSTAT_TOPO 0).reForm.announce := by
  have goesDown : (s.moorOn && s.bit (Reg.MOOR_PSTAT_UP p)) = true := by rw [on, up]; rfl
  rw [pathed, rerouted, left, cutOff, shown, now]
  exact congrArg Host.Outcome.next (if_pos goesDown)

theorem exec_hopDelayCalibration (trips : Nat) (up : s.bit (Reg.MOOR_PSTAT_UP p) = true) :
    exec (.hopDelayCalibration t p trips) s = .next
      ((u.set (Reg.MOOR_HOPDLY_DELAY p) (hopDelay trips)).incWrap (Reg.MOOR_HOPDLY_CALS p)) := by
  subst now
  exact congrArg Host.Outcome.next (if_pos up)

/-- A retransmission is counted, and the 17th within 1 ms is a fault (R447). -/
theorem exec_flitRetransmission {l : List Nat} (up : s.bit (Reg.MOOR_PSTAT_UP p) = true)
    (recent : l = u.tide :: s.moor.retx[p].filter (fun a => decide (u.tide < a + Config.ms))) :
    exec (.flitRetransmission t p) s = .next
      (if l.length = 17 then
        ((u.incHold (Reg.MOOR_ERR_RETX p)).updMoor fun m => { m with retx := m.retx.set p l }).raise
          .moorLinkErr 54 p t (inst := p)
      else (u.incHold (Reg.MOOR_ERR_RETX p)).updMoor fun m => { m with retx := m.retx.set p l }) := by
  subst now recent
  exact congrArg Host.Outcome.next (if_pos up)

/-! ### Beacons (R438-R440) -/

theorem exec_beaconSend (lead : s.isLead = true) (up : s.bit (Reg.MOOR_PSTAT_UP p) = true) :
    exec (.beaconSend t p) s = .next (u.emit (.moor p 0 [u.tide, 0])) := by
  have sends : (s.isLead && s.bit (Reg.MOOR_PSTAT_UP p)) = true := by rw [lead, up]; rfl
  subst now
  exact congrArg Host.Outcome.next (if_pos sends)

section
variable {beacon path : Nat} {fine : Fin 32} {sum own : Nat} {err : Int} {v w : State} (member : s.isMember = true)
  (up : s.bit (Reg.MOOR_PSTAT_UP p) = true) (delay : sum = path + s.get (Reg.MOOR_HOPDLY_DELAY p))
  (passed : w = (u.updMoor fun m => { m with heard := m.heard.set p true }).passBeacon p beacon sum)
  (count : own = 32 * w.tide + fine.val) (error : err = ((32 * beacon + sum : Nat) : Int) - own)
  (noted : v = w.noteTideErr err)
include member up delay passed count error noted

/-- A member passes a beacon on and notes its error; then a duplicate does nothing, a joined member follows it, and one
that may join loads the count. -/
theorem exec_beaconArrival : exec (.beaconArrival t p beacon path fine) s = .next
    (if v.ownDup = true then v
    else if v.moor.joined = true then v.followBeacon t own err
    else if (v.joinOk && v.bit Reg.TIDE_STATUS_LOCK) = true then v.loadTide own (32 * beacon + sum)
    else v) := by
  have heard : ¬ (!(s.isMember && s.bit (Reg.MOOR_PSTAT_UP p))) = true := by rw [member, up]; decide
  rw [noted, error, count, passed, delay, now]
  exact congrArg Host.Outcome.next (if_neg heard)

theorem exec_beaconArrival_duplicate (dup : v.ownDup = true) :
    exec (.beaconArrival t p beacon path fine) s = .next v := by
  rw [exec_beaconArrival now member up delay passed count error noted, if_pos dup]

theorem exec_beaconArrival_joined (single : v.ownDup = false) (joined : v.moor.joined = true) :
    exec (.beaconArrival t p beacon path fine) s = .next (v.followBeacon t own err) := by
  rw [exec_beaconArrival now member up delay passed count error noted, if_neg (Bool.eq_false_iff.mp single),
    if_pos joined]

theorem exec_beaconArrival_joins (single : v.ownDup = false) (apart : v.moor.joined = false) (may : v.joinOk = true)
    (lock : v.bit Reg.TIDE_STATUS_LOCK = true) :
    exec (.beaconArrival t p beacon path fine) s = .next (v.loadTide own (32 * beacon + sum)) := by
  have loads : (v.joinOk && v.bit Reg.TIDE_STATUS_LOCK) = true := by rw [may, lock]; rfl
  rw [exec_beaconArrival now member up delay passed count error noted, if_neg (Bool.eq_false_iff.mp single),
    if_neg (Bool.eq_false_iff.mp apart), if_pos loads]

theorem exec_beaconArrival_waits (apart : v.moor.joined = false)
    (bar : v.joinOk = false ∨ v.bit Reg.TIDE_STATUS_LOCK = false) :
    exec (.beaconArrival t p beacon path fine) s = .next v := by
  have waits : (v.joinOk && v.bit Reg.TIDE_STATUS_LOCK) = false := Bool.and_eq_false_iff.mpr bar
  rw [exec_beaconArrival now member up delay passed count error noted, if_neg (Bool.eq_false_iff.mp apart),
    if_neg (Bool.eq_false_iff.mp waits), ite_self]

end

end

/-! ### A joined member and a beacon (R439, R440) -/

section
variable {s v x : State} {t own good bad : Nat} {err : Int}
  (moved : v = s.moveCount (if err < 0 then own - 1 else if 0 < err then own + 1 else own))
  (goods : good = if err.natAbs ≤ 12 then v.moor.good + 1 else 0)
  (bads : bad = if 256 < 5 * err.natAbs then v.moor.bad + 1 else 0)
  (counted : x = v.updMoor (fun m => { m with good := good, bad := bad }))
include moved goods bads counted

/-- The count moves by one fine step; the third bad beacon in a row ends the alignment, and the third good one brings it
where the module may join. -/
theorem followBeacon_eq : s.followBeacon t own err =
    if bad = 3 then
      if x.bit Reg.TIDE_STATUS_ALIGNED = true then
        ((x.unalign t).set Reg.MOOR_IRQ_SYNC 1).raise .moorTideErr 54 0 t
      else x.unalign t
    else if 3 ≤ good ∧ x.joinOk = true then x.align t
    else x := by
  rw [counted, bads, goods, moved]
  rfl

theorem followBeacon_aligns (other : bad ≠ 3) (third : 3 ≤ good) (may : x.joinOk = true) :
    s.followBeacon t own err = x.align t := by
  rw [followBeacon_eq moved goods bads counted, if_neg other, if_pos ⟨third, may⟩]

theorem followBeacon_goes_on (other : bad ≠ 3) (bar : good < 3 ∨ x.joinOk = false) :
    s.followBeacon t own err = x := by
  have waits : ¬ (3 ≤ good ∧ x.joinOk = true) :=
    fun ⟨third, may⟩ => bar.elim (Nat.not_lt.mpr third) (Bool.eq_false_iff.mp · may)
  rw [followBeacon_eq moved goods bads counted, if_neg other, if_neg waits]

theorem followBeacon_loses (third : bad = 3) : s.followBeacon t own err =
    if x.bit Reg.TIDE_STATUS_ALIGNED = true then
      ((x.unalign t).set Reg.MOOR_IRQ_SYNC 1).raise .moorTideErr 54 0 t
    else x.unalign t := by
  rw [followBeacon_eq moved goods bads counted, if_pos third]

end

/-! ### The obligation -/

/-- Settles O43: each row by its branches. -/
theorem mooringRows : Obligations.MooringRows := by
  intro t p s u now
  refine ⟨fun peer pp serial pol trips v on other shown => ⟨fun foreign => ?_, fun dup => ?_⟩,
    fun lost v w x y cut on up shown cutOff => exec_portDown now on up shown cutOff,
    exec_hopDelayCalibration now, exec_beaconSend now,
    fun beacon path fine sum own err v w member up delay passed count error noted =>
      ⟨exec_beaconArrival_duplicate now member up delay passed count error noted,
        exec_beaconArrival_joined now member up delay passed count error noted,
        exec_beaconArrival_joins now member up delay passed count error noted,
        exec_beaconArrival_waits now member up delay passed count error noted⟩,
    fun own err good bad v x moved goods bads counted => ⟨followBeacon_aligns moved goods bads counted,
      followBeacon_goes_on moved goods bads counted, fun third was => ?_, fun third was => ?_⟩,
    fun up l recent => ⟨fun other => ?_, fun many => ?_⟩⟩
  · rw [exec_portUp now on other shown, if_neg foreign]
  · rw [exec_portUp now on other shown, if_pos dup]
  · rw [followBeacon_loses moved goods bads counted third, if_pos was]
  · rw [followBeacon_loses moved goods bads counted third, if_neg (Bool.eq_false_iff.mp was)]
  · rw [exec_flitRetransmission now up recent, if_neg other]
  · rw [exec_flitRetransmission now up recent, if_pos many]

end Sys2Proof.Machine
end

section
/-! # Proofs: group carriers, GSYNC, the membership and what is forwarded (R435, R441, R442, R445, R446, R449-R454)

First the rows by their branches, then the obligation. -/

namespace Sys2Proof.Machine

/-- The lead does not turn away what members forward. -/
theorem lead_takes {s : State} (lead : s.isLead = true) (t : Nat) : ¬ (!(s.upto t).isLead) = true := by
  rw [upto_isLead, lead]; decide

section
variable {t : Nat} {s u : State} (now : u = s.upto t)
include now

/-! ### Group carriers (R445) -/

section
variable {g : Fin 4} {d : CarrierDesc} (member : s.isMember = true)
include member

theorem exec_carrierDescriptorArrival_first (first : s.moor.desc[g] = none) :
    exec (.carrierDescriptorArrival t g d) s = .next
      ((u.updMoor fun m => { m with desc := m.desc.set g (some d) }).groupRuns t g) := by
  subst now
  refine congrArg Host.Outcome.next ((if_pos member).trans ?_)
  simp only [upto_moor, first]

theorem exec_carrierDescriptorArrival_next {o : CarrierDesc} {v : State} (held : s.moor.desc[g] = some o)
    (lost : v = if o.running && !(d.running && o.running && o.period == d.period && o.mode == d.mode &&
      o.phase == d.phase && o.zero % max 1 d.period == d.zero % max 1 d.period) then u.groupLost t g else u) :
    exec (.carrierDescriptorArrival t g d) s = .next
      ((v.updMoor fun m => { m with desc := m.desc.set g (some d) }).groupRuns t g) := by
  subst now lost
  refine congrArg Host.Outcome.next ((if_pos member).trans ?_)
  simp only [upto_moor, held]

/-- A marker is counted, bad or good; the third bad one loses the source, and a good one after it brings it back. -/
theorem exec_zeroPointMarkerArrival {stamp : Int} {n : Nat} {v : State}
    (aligned : s.bit Reg.TIDE_STATUS_ALIGNED = true) (held : s.moor.desc[g] = some d)
    (bads : n = if 256 < 5 * (zeroDiff stamp (descZero d) d.period).natAbs then s.moor.badMark[g] + 1 else 0)
    (counted : v = u.updMoor fun m => { m with badMark := m.badMark.set g n }) :
    exec (.zeroPointMarkerArrival t g stamp) s = .next
      (if n = 3 then ((v.set Reg.MOOR_IRQ_SYNC 1).raise .moorSyncErr 54 g t (inst := g)).groupLost t g
      else if n = 0 ∧ 3 ≤ s.moor.badMark[g] then v.groupRuns t g
      else v) := by
  have judged : ((s.upto t).isMember && (s.upto t).bit Reg.TIDE_STATUS_ALIGNED) = true := by
    rw [upto_bit, aligned, show (s.upto t).isMember = true from member]; rfl
  rw [counted, bads, now]
  refine congrArg Host.Outcome.next (?_ : markerArrival t g stamp s = _)
  unfold markerArrival
  simp only [upto_moor, held, judged]
  rfl

end

theorem exec_carrierDescriptorSend {g : Fin 4} (lead : s.isLead = true) (own : s.get (Reg.PWM_CTL_SRC g) = 0)
    (runs : s.running g = true) : exec (.carrierDescriptorSend t g) s = .next
      (u.sendPorts 2 [g, u.period g, u.get (Reg.PWM_CTL_MODE g), (u.reg (Reg.PWM_PHASE g)).toNat,
        (u.carrier g).zero / 32]) := by
  have sends : (s.isLead && s.get (Reg.PWM_CTL_SRC g) == 0 && s.running g) = true := by
    rw [lead, own, runs]; rfl
  subst now
  exact congrArg Host.Outcome.next (if_pos sends)

/-! ### GSYNC (R446) -/

section
variable {e ofs : Int} {v : State} (member : s.isMember = true) (use : s.bit Reg.MOOR_GSYNC_USE = true)
include member use

/-- A member that uses GSYNC takes its edges. -/
theorem gsync_taken : (u.isMember && u.bit Reg.MOOR_GSYNC_USE) = true := by
  rw [now, upto_bit, use, show (s.upto t).isMember = true from member]; rfl

theorem exec_gsyncEdge_idle (apart : s.bit Reg.TIDE_STATUS_ALIGNED = false) (free : s.moor.gsFollow = false) :
    exec (.gsyncEdge t e) s = .next u := by
  subst now
  exact congrArg Host.Outcome.next ((if_pos (gsync_taken rfl member use)).trans
    ((if_neg (Bool.eq_false_iff.mp apart)).trans (if_neg (Bool.eq_false_iff.mp free))))

variable (offset : ofs = ((32 * u.tide : Nat) : Int) - e)
include offset

theorem exec_gsyncEdge_aligned (aligned : s.bit Reg.TIDE_STATUS_ALIGNED = true)
    (counted : v = u.updMoor fun m => { m with gsN := m.gsN + 1, gsSum := m.gsSum + ofs }) :
    exec (.gsyncEdge t e) s = .next (v.setI Reg.MOOR_GSOFS_OFS (qRound ⟨v.moor.gsSum, v.moor.gsN⟩)) := by
  rw [counted, offset, now]
  exact congrArg Host.Outcome.next ((if_pos (gsync_taken rfl member use)).trans (if_pos aligned))

theorem exec_gsyncEdge_follows (apart : s.bit Reg.TIDE_STATUS_ALIGNED = false) (follows : s.moor.gsFollow = true)
    (trimmed : v = u.gsTrim) : exec (.gsyncEdge t e) s = .next
      (if (ofs - v.getI Reg.MOOR_GSOFS_OFS).natAbs ≤ 256 then v.set Reg.MOOR_GSYNC_GSLOCK 1 else v) := by
  rw [trimmed, offset, now]
  exact congrArg Host.Outcome.next ((if_pos (gsync_taken rfl member use)).trans
    ((if_neg (Bool.eq_false_iff.mp apart)).trans (if_pos follows)))

end

theorem exec_gsyncLoss : exec (.gsyncLoss t) s = .next
    ((u.set Reg.MOOR_GSYNC_GSLOCK 0).updMoor fun m => { m with gsRate := 0 }) := by
  subst now; rfl

/-! ### The membership (R435, R441, R442, R454) -/

theorem exec_membershipUpdate {ms ok : List MemberIn} {ring forming own : Bool} {told lost : List (Fin 8)}
    {v w x y z : State} (on : s.moorOn = true)
    (carried : own = (ms.any fun m => m.mid == s.mid && m.serial != s.serialNat))
    (named : told = if s.isLead then dupMids ms ++ (if own then [s.mid] else [])
      else if own || (dupMids ms).contains s.mid then [s.mid] else [])
    (raised : v = told.eraseDups.foldl (fun s d => s.raise .moorIdDup 54 d t (inst := d.val))
      (u.updMoor fun m => { m with dup := own }))
    (good : ok = if v.ownDup then [] else ms.filter fun m => !(dupMids ms).contains m.mid && m.mid != v.mid)
    (gone : lost = (v.others.filter fun (m : Fin 8) => !(ok.any fun x => x.mid == m)))
    (taken : w = ok.foldl State.gainModule (lost.foldl (fun (s : State) (m : Fin 8) => s.loseModule t m) v))
    (shown : x = w.setB Reg.MOOR_GSTAT_TOPO (w.ringFound ring))
    (broken : y = if v.bit Reg.MOOR_GSTAT_TOPO && lost.isEmpty && !x.bit Reg.MOOR_GSTAT_TOPO then x.ringBroken t else x)
    (formed : z = if y.isLead then y else y.setB Reg.MOOR_GSTAT_FORMING forming) :
    exec (.membershipUpdate t ms ring forming) s = .next z.remask.reForm.announce := by
  have takes : ¬ (!s.moorOn) = true := by rw [on]; decide
  rw [formed, broken, shown, taken, gone, good, raised, named, carried, now]
  exact congrArg Host.Outcome.next (if_neg takes)

theorem exec_formwaitExpiry {f : Nat} (lead : s.isLead = true) (since : s.moor.formFrom = some f)
    (due : f + s.get Reg.MOOR_GCFG_FORMWAIT * Config.sec ≤ u.tide) (unformed : s.bit Reg.MOOR_GSTAT_FORMED = false) :
    exec (.formwaitExpiry t) s = .next
      ((u.sets [(Reg.MOOR_GSTAT_FORMED, 1), (Reg.MOOR_IRQ_FORMED, 1)]).raise .moorIncomplete 54 0 t) := by
  subst now
  have waited : ((s.upto t).moor.formFrom.any fun f =>
      decide (f + (s.upto t).get Reg.MOOR_GCFG_FORMWAIT * Config.sec ≤ (s.upto t).tide)) = true :=
    any_of since (decide_eq_true due)
  have ends : ((s.upto t).isLead && ((s.upto t).moor.formFrom.any fun f =>
      decide (f + (s.upto t).get Reg.MOOR_GCFG_FORMWAIT * Config.sec ≤ (s.upto t).tide)) &&
        !(s.upto t).bit Reg.MOOR_GSTAT_FORMED) = true := by
    rw [waited, upto_bit, unformed, upto_isLead, lead]; rfl
  exact congrArg Host.Outcome.next (if_pos ends)

/-! ### Traffic across the group (R449-R451) -/

theorem exec_remoteDoorbell {m : Fin 8} {b : Fin 32} (on : s.moorOn = true) :
    exec (.remoteDoorbell t m b) s = .next
      (u.sets [(Reg.MOOR_RDB_BERTH m, s.get (Reg.MOOR_RDB_BERTH m) ||| 2 ^ b.val), (Reg.MOOR_IRQ_DOORBELL, 1)]) := by
  subst now
  exact congrArg Host.Outcome.next (if_pos on)

section
variable {k ip port : Nat} {b : List Byte}

theorem exec_relayedCommand_reply (lead : s.isLead = true) (reply : 8 ≤ k) :
    exec (.relayedCommand t k ip port b) s = .next
      (if (s.get Reg.MOOR_GSTAT_MASK).testBit (k - 8) then
        u.emit (.udpFrom (s.get Reg.ETH_UDPPORT_PORT + (k - 8)) ip port b) else u) := by
  have returns : (s.isLead && decide (8 ≤ k)) = true := by rw [lead, decide_eq_true reply]; rfl
  subst now
  exact congrArg Host.Outcome.next (if_pos returns)

theorem exec_relayedCommand_relay (lead : s.isLead = true) (command : k < 8)
    (relay : s.bit Reg.MOOR_CTL_RELAY = true) :
    exec (.relayedCommand t k ip port b) s = .next (u.relay k ip port b) := by
  have noReply : ¬ (s.isLead && decide (8 ≤ k)) = true := by
    rw [decide_eq_false (Nat.not_le.mpr command), Bool.and_false]; decide
  have relays : (s.isLead && s.bit Reg.MOOR_CTL_RELAY) = true := by rw [lead, relay]; rfl
  subst now
  exact congrArg Host.Outcome.next ((if_neg noReply).trans (if_pos relays))

theorem exec_relayedCommand_arrives (follower : s.isLead = false) (member : s.isMember = true) :
    exec (.relayedCommand t s.mid.val ip port b) s = .next (u.arrive (.udpRelay ip port) b none) := by
  have noReply : ¬ (s.isLead && decide (8 ≤ s.mid.val)) = true := by rw [follower, Bool.false_and]; decide
  have noRelay : ¬ (s.isLead && s.bit Reg.MOOR_CTL_RELAY) = true := by rw [follower, Bool.false_and]; decide
  have arrives : (s.isMember && s.mid.val == s.mid.val) = true := by rw [member, beq_self_eq_true]; rfl
  subst now
  exact congrArg Host.Outcome.next ((if_neg noReply).trans ((if_neg noRelay).trans (if_pos arrives)))

end

theorem exec_groupLogbookTrigger (k : Nat) (on : s.moorOn = true)
    (reached : s.isLead = true ∨ s.bit (Reg.MOOR_MEMBER_PRESENT 0) = true) :
    exec (.groupLogbookTrigger t k) s = .next (u.logTriggerAt k) := by
  have takes : (s.moorOn && (s.isLead || s.bit (Reg.MOOR_MEMBER_PRESENT 0))) = true := by
    rw [on, Bool.true_and, Bool.or_eq_true]; exact reached
  subst now
  exact congrArg Host.Outcome.next (if_pos takes)

/-! ### Forwarded faults (R452, R453) -/

section
variable {f : ForwardIn} {v : State} (lead : s.isLead = true)
  (shown : v = (u.sets [(Reg.MOOR_MEMBER_EPOCH f.mid, f.epoch), (Reg.MOOR_MEMBER_MSTATE f.mid, f.mstate)]).updFm
    fun m =>
      { m with
        groupLost := m.groupLost.filter (fun p => p.1 != f.mid.val) ++
          (if f.ovfl then [(f.mid.val, f.lost)] else []) })
include lead shown

/-- A new entry of a member enters the group view; ORDER_LATE where the view has released its slot. -/
theorem exec_faultForward_entered {w : State} (entered : f.what = 0)
    (merged : w = v.updFm fun m => { m with group := insertEntry (forwardEntry f) m.group }) :
    exec (.faultForward t f) s = .next
      (if (f.fault.epoch == f.epoch && slotReleased Config.releaseGroup v.tide f.fault.stamp) = true then
        w.enterQueue
          { name := .orderLate, src := 0, detail := f.fault.src, stamp := v.tide, sev := 0, inst := 0
            axes := 0, epoch := v.epoch } 0 0 false false
      else w) := by
  have epoch : w.epoch = v.epoch := by rw [merged]; rfl
  have tide : w.tide = v.tide := by rw [merged, updFm_tide]
  rw [← epoch, ← tide, merged, shown, now]
  refine congrArg Host.Outcome.next ((if_neg (lead_takes lead t)).trans ?_)
  simp only [entered]

theorem exec_faultForward_changed (changed : f.what = 1) : exec (.faultForward t f) s = .next
    (v.updFm fun m =>
      { m with
        group := m.group.map fun e =>
          if sameForward f e then
            { e with
              sev := faultSev f.fault, cause := f.cause, latched := f.latched, retry := f.retry
              detail := f.fault.detail % 2 ^ 32 }
          else e }) := by
  rw [shown, now]
  refine congrArg Host.Outcome.next ((if_neg (lead_takes lead t)).trans ?_)
  simp only [changed]

theorem exec_faultForward_left (left : f.what = 2) : exec (.faultForward t f) s = .next
    (v.updFm fun m => { m with group := m.group.filter fun e => !sameForward f e }) := by
  rw [shown, now]
  refine congrArg Host.Outcome.next ((if_neg (lead_takes lead t)).trans ?_)
  simp only [left]

theorem exec_faultForward_state (state : f.what = 3) : exec (.faultForward t f) s = .next v := by
  rw [shown, now]
  refine congrArg Host.Outcome.next ((if_neg (lead_takes lead t)).trans ?_)
  simp only [state]

end

end

/-! ### The obligation -/

/-- Settles O44: each row by its branches. -/
theorem groupRows : Obligations.GroupRows := by
  intro t s u now
  refine ⟨fun g d v member held => ?_,
    fun g d stamp n member aligned held bads => ⟨fun other quiet => ?_, fun good lost => ?_, fun third => ?_⟩,
    fun g => exec_carrierDescriptorSend now,
    fun e ofs v member use offset => ⟨exec_gsyncEdge_aligned now member use offset,
      fun apart follows trimmed => ⟨fun near => ?_, fun far => ?_⟩, exec_gsyncEdge_idle now member use⟩,
    exec_gsyncLoss now,
    fun ms ok ring forming own told lost v w x y z => exec_membershipUpdate now,
    fun f => exec_formwaitExpiry now, fun m b => exec_remoteDoorbell now,
    fun k ip port b => exec_relayedCommand_reply now, fun k ip port b => exec_relayedCommand_relay now,
    fun ip port b => exec_relayedCommand_arrives now, exec_groupLogbookTrigger now,
    fun f v lead shown => ⟨fun entered early => ?_, fun entered late => ?_, exec_faultForward_changed now lead shown,
      exec_faultForward_left now lead shown, exec_faultForward_state now lead shown⟩⟩
  · obtain ⟨first, rfl⟩ | ⟨o, old, lost⟩ := held
    · exact exec_carrierDescriptorArrival_first now member first
    · exact exec_carrierDescriptorArrival_next now member old lost
  · have stays : ¬ (n = 0 ∧ 3 ≤ s.moor.badMark[g]) :=
      fun ⟨good, lost⟩ => quiet.elim (· good) (Nat.not_lt.mpr lost)
    rw [exec_zeroPointMarkerArrival now member aligned held bads rfl, if_neg other, if_neg stays]
  · rw [exec_zeroPointMarkerArrival now member aligned held bads rfl, if_neg (by omega), if_pos ⟨good, lost⟩]
  · rw [exec_zeroPointMarkerArrival now member aligned held bads rfl, if_pos third]
  · rw [exec_gsyncEdge_follows now member use offset apart follows trimmed, if_pos near]
  · rw [exec_gsyncEdge_follows now member use offset apart follows trimmed, if_neg (Nat.not_le.mpr far)]
  · rw [exec_faultForward_entered now lead shown entered rfl, if_neg (Bool.eq_false_iff.mp early)]
  · rw [exec_faultForward_entered now lead shown entered rfl, if_pos late]

end Sys2Proof.Machine
end
